-- ==== Sys2Proof/Word.lean ====
section
/-! DEFINITION. The byte, and the numbers of fixed width that the manual lays out in bytes: little-endian
on every wire and in every DOM object (R7), bit 0 the least significant (R6). -/

namespace Sys2Proof

/-- One octet of a frame, a packet or an object. -/
abbrev Byte := BitVec 8

/-- The byte with the low eight bits of n. -/
def toByte (n : Nat) : Byte := BitVec.ofNat 8 n

/-- The number that a little-endian byte string spells (R7). -/
def leNat : List Byte → Nat
  | [] => 0
  | b :: bs => b.toNat + 256 * leNat bs

/-- n as w little-endian bytes (R7). -/
def natLE (w n : Nat) : List Byte :=
  match w with
  | 0 => []
  | w + 1 => toByte n :: natLE w (n / 256)

/-- The number that a big-endian byte string spells. -/
def beNat (bs : List Byte) : Nat := leNat bs.reverse

/-- n as w big-endian bytes. -/
def natBE (w n : Nat) : List Byte := (natLE w n).reverse

/-- Bit i of n (R6). -/
def bit (n i : Nat) : Bool := n.testBit i

/-- Bits hi..lo of n. -/
def bits (n hi lo : Nat) : Nat := n / 2 ^ lo % 2 ^ (hi + 1 - lo)

/-- n with bit i set or cleared. -/
def setBit (n i : Nat) (b : Bool) : Nat :=
  n / 2 ^ (i + 1) * 2 ^ (i + 1) + (if b then 2 ^ i else 0) + n % 2 ^ i

/-- 1 for true. -/
def b2n (b : Bool) : Nat := if b then 1 else 0

/-- The signed reading of a w-bit two's complement number. -/
def toInt (w n : Nat) : Int :=
  if n % 2 ^ w < 2 ^ (w - 1) then (n % 2 ^ w : Nat) else (n % 2 ^ w : Nat) - (2 ^ w : Nat)

/-- i as a w-bit two's complement number. -/
def ofInt (w : Nat) (i : Int) : Nat := (i % (2 ^ w : Nat)).toNat

/-- R10: the signed difference a − b of two fields of width w. -/
def seqDiff (w a b : Nat) : Int := toInt w ((a + 2 ^ w - b % 2 ^ w) % 2 ^ w)

/-- R10, R11: field a of width w is later than field b; at exactly half the circle neither is later. -/
def seqLater (w a b : Nat) : Bool := 0 < seqDiff w a b

/-- n div d, rounded up. -/
def ceilDiv (n d : Nat) : Nat := (n + d - 1) / d

/-- The quotient rounded to the nearest integer, halves away from zero. -/
def roundDivAway (a : Int) (b : Nat) : Int :=
  if 0 ≤ a then (2 * a + b) / (2 * b) else -((2 * (-a) + b) / (2 * b))

/-- i held between lo and hi. -/
def clampI (lo hi i : Int) : Int := max lo (min hi i)

/-- n held between lo and hi. -/
def clampN (lo hi n : Nat) : Nat := max lo (min hi n)

/-- The elements of xs with their positions. -/
def indexed {α : Type} (xs : List α) : List (Nat × α) := (List.range xs.length).zip xs

/-- The U16 at byte offset o of a byte string. -/
def u16At (bs : List Byte) (o : Nat) : Nat := leNat ((bs.drop o).take 2)

/-- The U32 at byte offset o of a byte string. -/
def u32At (bs : List Byte) (o : Nat) : Nat := leNat ((bs.drop o).take 4)

/-- The U64 at byte offset o of a byte string. -/
def u64At (bs : List Byte) (o : Nat) : Nat := leNat ((bs.drop o).take 8)

/-- The U8 at byte offset o of a byte string. -/
def u8At (bs : List Byte) (o : Nat) : Nat := leNat ((bs.drop o).take 1)

/-- Item i of an OCT object whose value is held as a little-endian number, w bytes an item. -/
def octAt (w v i : Nat) : Nat := v / 256 ^ (w * i) % 256 ^ w

/-- The OCT value v with item i (w bytes) replaced by x. -/
def octSet (w v i x : Nat) : Nat :=
  v / 256 ^ (w * (i + 1)) * 256 ^ (w * (i + 1)) + (x % 256 ^ w) * 256 ^ (w * i) + v % 256 ^ (w * i)

/-- The OCT value whose items, w bytes each, are xs. -/
def octOf (w : Nat) : List Nat → Nat
  | [] => 0
  | x :: xs => x % 256 ^ w + 256 ^ w * octOf w xs

/-- The ASCII bytes of a string. -/
def ascii (s : String) : List Byte := s.toList.map fun c => toByte c.toNat

end Sys2Proof
end

