-- ==== Sys2Proof/Operand.lean ====
section
/-! DEFINITION. What the commands carry: a TDP frame as it arrives, the head of a host write, and the reports
that reach the part on its pins, links and buses. -/

namespace Sys2Proof

/-- A TDP datagram from the network (*TDP frame*, R46): its source, its header fields but the opcode, and the
bytes after the header, in which BODY and TAG lie. -/
structure Frame where
  addr : Nat
  port : Nat
  magic : Nat
  version : Nat
  seq : Nat
  status : Nat
  sid : Nat
  length : Nat
  flags : Nat
  rest : List Byte
deriving DecidableEq, Repr

/-- The head of a WRITE that the host sends to one certain object: where it comes from, its SEQ and SESSION_ID,
and its TAG. The index, the subindex and the data are the command's own. -/
structure Hdr where
  addr : Nat
  port : Nat
  seq : Nat
  sid : Nat
  tag : List Byte
deriving DecidableEq, Repr

/-- What a reset finds outside the part: the strap pins laid out as STRAPS (R105), the GRAFT_ROLE pins, whether
the core PLL or a later PLL (MEM, FIRE, MOT) fails to lock, whether the fuses fail their parity check, and whether the ROM finds the loader CRC of
slot A and of slot B right (the manual gives that CRC no place in the image). -/
structure BootEnv where
  straps : Nat
  role : Nat
  pllFail : Bool
  latePllFail : Bool
  parityBad : Bool
  loaderA : Bool
  loaderB : Bool
deriving DecidableEq, Repr

/-- What reaches the wake filter in SLEEP (R183): an ARP request for an IPv4 address, or a datagram to port 29170 with its
MAGIC. -/
inductive WakeFrame where
  | arp (target : Nat)
  | udp (magic : Nat)
deriving DecidableEq, Repr

/-- A PTP message (R718 to R723): the port it comes from and its grandmaster as the numbers their bytes spell,
its domain, sequenceId and twoStepFlag, whether it is a Follow_Up, its timestamp (originTimestamp,
preciseOriginTimestamp, receiveTimestamp, requestReceiptTimestamp or responseOriginTimestamp) in ns and its
correctionField in 1/65 536 ns; for an Announce the data set comparison order of its master, least first, and the
Announce interval in ms. -/
structure PtpMsg where
  port : Nat
  domain : Nat
  seq : Nat
  twoStep : Bool
  followUp : Bool
  stamp : Nat
  corr : Int
  gm : Nat
  rank : List Nat
  interval : Nat
deriving DecidableEq, Repr

/-- A TPL packet as it arrives (*TPL header*, R246): its header fields and its payload without padding. -/
structure TplPacket where
  magic : Nat
  version : Nat
  ty : Nat
  linkSeq : Nat
  job : Nat
  page : Nat
  offset : Nat
  object : Nat
  flags : Nat
  length : Nat
  reserved : Nat
  inflated : Nat
  payloadCrc : Nat
  headerCrc : Nat
  payload : List Byte
deriving DecidableEq, Repr

/-- What the cameras measured on a test page (*Test pattern results*): whether every selected row of every segment lay in
some camera's field; for pattern 1 the dashes by nozzle (segment, row and nozzle order): present, cross-web offset in 1/16
dot, density in per cent of the median dash; for patterns 3 and 4 the X_SHIFT and ROW_POS that put the marks right, by
6 × s + p. -/
structure TestMeasurement where
  covered : Bool
  dashes : List (Nat × Bool × Nat × Nat)
  shifts : List (Nat × Int)
  positions : List (Nat × Int)
deriving DecidableEq, Repr

/-- A STATUS payload (*STATUS*): OWNER_STATE, FLAGS, VOLTAGE, the temperatures of the six dies, NEXT_POS of the six rows,
LINES_NOT_DRIVEN and RX_ERRORS. -/
structure HeadReport where
  ownerState : Nat
  flags : Nat
  voltage : Nat
  temps : List Int
  nextPos : List Nat
  notDriven : Nat
  rxErrors : Nat
deriving DecidableEq, Repr

/-- A CSI-2 packet other than a frame start or frame end (R556 to R559): its virtual channel and data type, whether its
header has an uncorrectable ECC error, whether its payload CRC fails, whether its pixels overflow the pipeline, and the
pixels of its payload as the data type packs them. -/
structure CsiPacket where
  vc : Nat
  dataType : Nat
  eccBad : Bool
  crcBad : Bool
  overflow : Bool
  pixels : List Nat
deriving DecidableEq, Repr

/-- What a memory controller captures at a freeze (*Freeze record*): the part byte address of the word, its place in the
devices, the syndrome, the command and the port. -/
structure FreezeReport where
  address : Nat
  bankGroup : Nat
  bank : Nat
  row : Nat
  column : Nat
  syndrome : Nat
  command : Nat
  port : Nat
deriving DecidableEq, Repr

/-- What a stretch of the patrol scrub found (R657 to R659): the channel byte address that it reached, the addresses of
the words that it corrected, an uncorrectable word, and whether it ended a pass. -/
structure ScrubResult where
  position : Nat
  corrected : List Nat
  uncorrectable : Option FreezeReport
  passDone : Bool
deriving DecidableEq, Repr

/-- A bus error of a descriptor (R689, R690): the bytes whose writes had not been issued, and the failing burst's
address. -/
structure BusError where
  remaining : Nat
  address : Nat
deriving DecidableEq, Repr

/-- A HELLO of the partner (*Graft packets*). -/
structure HelloMsg where
  nonce : List Byte
  serial : Nat
  capacity : Nat
  role : Nat
  state : Nat
deriving DecidableEq, Repr

/-- A QUOTE of the partner, read as the checks of R778 read it: whether its signature verifies to the Mirvas root key, its
FLAGS, LIFECYCLE and NONCE, SHA-384 of its seven measurements; and whether the partner has accepted this part, for which
the manual names no packet. -/
structure QuoteMsg where
  signed : Bool
  flags : Nat
  lifecycle : Nat
  nonce : List Byte
  digest : List Byte
  partnerAccepts : Bool
deriving DecidableEq, Repr

/-- What a calibration pass measured (R838 to R842): the code of CAL_REF on channel 8 with which it began; the mean of the divided
CAL_REF on channel 8 in 1/16 code; Z16 and R16 of each ADC channel; the means in 1/16 code of each DAC's levels at its codes 64
and 960, on the channel of its phase; the SLOPE of each temperature sensor; the bins of the time-to-digital converter in one 2.5 ns FIRE cycle, at the start of the pass; for each strobe output the
bins from the fire instant to the rising edge, summed over 64 fire pulses. None where an item was not measured. -/
structure CalPass where
  refCode : Nat
  divided : Nat
  adc : List (Option (Nat × Nat))
  dac : List (Option (Nat × Nat))
  slopes : List (Option Nat)
  bins : Nat
  strobes : List (Option Nat)
deriving DecidableEq, Repr

/-- The bytes that the TAP writes to an area of the flash from its start on; the rest of the area is erased (R112). -/
structure FlashWrite where
  image : List Byte
deriving DecidableEq, Repr

/-- What a TAP access brings (R899, R900): the instruction, the boundary cells whose balls stand high at the capture, and
those into which a 1 is shifted; the cells by their numbers, ascending. -/
structure TapScan where
  ir : Nat
  high : List Nat
  shifted : List Nat
deriving DecidableEq, Repr

end Sys2Proof
end

