-- ==== Sys2Proof/Syntax.lean ====
section
/-! DEFINITION. The commands: one constructor for each row of spec/opcode_table.json, in its order. Every command
carries the time t, in ps, at which it comes about (DESIGN CHOICE, log 1). -/

namespace Sys2Proof

/-- The commands that the block takes: host requests, packets, pins and buses, and the moments that its own timers
and engines reach. -/
inductive Instr where
  /-- OPEN_REQ (R64): Host asks for a challenge; the part issues, replaces or refuses a challenge according to the session state. -/
  | openReq (t : Nat) (f : Frame)
  /-- OPEN (R55): Host answers the live challenge with an owner proof, and with an arbiter proof when it pre-empts; the part opens the session or answers AUTH_FAILED. -/
  | openSession (t : Nat) (f : Frame)
  /-- CLOSE (R66): Host ends its session; staged values, transfers and the notice queue are discarded. -/
  | close (t : Nat) (f : Frame)
  /-- KEEPALIVE (R61): Host renews the session lease and receives the remaining lease. -/
  | keepalive (t : Nat) (f : Frame)
  /-- READ (R76): Host reads one object or subindex, taken at a single instant. -/
  | read (t : Nat) (f : Frame)
  /-- WRITE (R71): Host writes one object or subindex that has no row of its own, with the checks of R49 and the effect of its access kind and Applies moment. -/
  | write (t : Nat) (f : Frame)
  /-- READ_SEG (R910): Host reads part of a DOM, checked for length, generation and offset. -/
  | readSeg (t : Nat) (f : Frame)
  /-- WRITE_SEG (R86): Host sends one segment of a DOM transfer; FIRST opens a buffer and later segments must continue it. -/
  | writeSeg (t : Nat) (f : Frame)
  /-- INFO (R101): Host asks for an object's description: type, access, range, size, generation and value in effect. -/
  | info (t : Nat) (f : Frame)
  /-- NOTICE_ACK (R94): Host acknowledges a notice by its SEQ. -/
  | noticeAck (t : Nat) (f : Frame)
  /-- QUOTE (R152): Host obtains a signed attestation quote over its nonce. -/
  | quote (t : Nat) (f : Frame)
  /-- CERT (R154): Host reads part of the certificate chain. -/
  | cert (t : Nat) (f : Frame)
  /-- IDENTIFY (R52): Host identifies the part by unicast or subnet broadcast. -/
  | identify (t : Nat) (f : Frame)
  /-- BAD_VERSION (R48): A frame with a correct MAGIC and an unknown VERSION is answered BAD_VERSION without a tag. -/
  | badVersion (t : Nat) (opcode : Nat) (f : Frame)
  /-- CHALLENGE_EXPIRY (R57): A challenge not answered within 1 s is dropped. -/
  | challengeExpiry (t : Nat)
  /-- LEASE_EXPIRY (R63): The session lease runs out; the part ends the session and applies LEASE_LOSS_ACTION. -/
  | leaseExpiry (t : Nat)
  /-- AUTH_LOCK_EXPIRY (R60): The 10 s lockout after three AUTH_FAILED answers ends. -/
  | authLockExpiry (t : Nat)
  /-- NOTICE_RESEND (R94): An unacknowledged notice is resent after 100 ms, or dropped and counted lost after 10 sendings. -/
  | noticeResend (t : Nat) (seq : Nat)
  /-- RECORD_APPLY (R77): Writing 1 to FFh of a record applies all of its staged fields together after the range and cross-field checks; 0 discards them. -/
  | recordApply (t : Nat) (h : Hdr) (index : Nat) (v : Nat)
  /-- STAGE_DISCARDED (R81): Record staging older than REC_STAGE_TIMEOUT is discarded and a notice is sent. -/
  | stageDiscarded (t : Nat) (index : Nat)
  /-- DHCP_LEASE_OBTAINED (R45): A DHCPv4 lease is obtained; the part moves to the leased address and ends any open session. -/
  | dhcpLeaseObtained (t : Nat) (addr : Nat) (mask : Nat) (gateway : Nat) (seconds : Nat)
  /-- DHCP_TIMEOUT (R43): In mode 2, no lease within DHCP_TIMEOUT starts link-local probing of the derived address. -/
  | dhcpTimeout (t : Nat)
  /-- LINK_LOCAL_CONFLICT (R44): A probed link-local address conflicts; S is incremented and probing retried, up to 16 attempts. -/
  | linkLocalConflict (t : Nat)
  /-- LINK_LOCAL_RETRY (R44): 60 s after 16 conflicting attempts, address acquisition starts again. -/
  | linkLocalRetry (t : Nat)
  /-- DHCP_REDISCOVERY (R45): While on a link-local address, DHCPv4 discovery is repeated every 60 s. -/
  | dhcpRediscovery (t : Nat)
  /-- POWER_ON_RESET (R882): The monitored rails have risen or one has fallen; the part resets with cause 0 and boots. -/
  | powerOnReset (t : Nat) (env : BootEnv)
  /-- RESET_PIN (R102): RESET_N low for at least 1 µs and then high resets the part with cause 1. -/
  | resetPin (t : Nat) (env : BootEnv)
  /-- WATCHDOG_RESET (R103): A Trunk core fails to service the watchdog for 1 s; safe state for 10 ms, then reset with cause 2. -/
  | watchdogReset (t : Nat) (core : Nat)
  /-- RESET (R139): Host writes 1 to RESET (1204h); the part enters safe state and resets with cause 3 after 10 ms. -/
  | reset (t : Nat) (h : Hdr) (v : Nat)
  /-- RESET_TAKE_EFFECT (R103): The 10 ms of safe state before a watchdog, software or lifecycle reset ends and the reset takes place. -/
  | resetTakeEffect (t : Nat) (env : BootEnv)
  /-- BOOT_READY (R109): Boot step 11 is reached: dictionary ready, power state PAUSE, OPEN_REQ accepted. -/
  | bootReady (t : Nat)
  /-- STORE (R131): Host writes 1 to STORE; a bank-store image is written at once. -/
  | store (t : Nat) (h : Hdr) (v : Nat)
  /-- RESTORE_DEFAULTS (R137): Host writes 1 to RESTORE_DEFAULTS; P objects return to default and a store with CAUSE 2 is written. -/
  | restoreDefaults (t : Nat) (h : Hdr) (v : Nat)
  /-- AUTO_STORE (R130): A pending automatic store is written once the minimum interval and the 24 h limit allow. -/
  | autoStore (t : Nat)
  /-- STORE_COMPLETE (R136): A store completes or fails read-back, is retried or retires a position, and a STORE notice reports LAST_RESULT. -/
  | storeComplete (t : Nat) (readBackOk : Bool)
  /-- STORE_TIMEOUT (R135): A store not completed within 60 s ends with TIMEOUT. -/
  | storeTimeout (t : Nat)
  /-- IO_RAIL_FALL (R123): The I/O rail falls below its monitor threshold; the bank-store guard lets the issued flash command finish and starts no other. -/
  | ioRailFall (t : Nat)
  /-- FW_SLOT_PROGRAMMED (R144): Background programming of a firmware slot reads back correctly and the slot's generation advances. -/
  | fwSlotProgrammed (t : Nat) (slot : Nat) (readBackOk : Bool)
  /-- SLOT_SELECT (R145): Host selects the boot slot; a store with CAUSE 4 records it. -/
  | slotSelect (t : Nat) (h : Hdr) (v : Nat)
  /-- PRESEAL_APPLY (R158): Writing 1 to PRESEAL.FF seals the owner key to the staged measurements as the alternate copy. -/
  | presealApply (t : Nat) (h : Hdr) (v : Nat)
  /-- OWNER_KEY (R160): Host writes a new owner key, sealed as the current copy with a store of CAUSE 5. -/
  | ownerKey (t : Nat) (h : Hdr) (key : List Byte)
  /-- LIFECYCLE_TO_OWNED (R167): LIFECYCLE_REQUEST 1 seals the installed key, stores, blows a fuse bit and resets with cause 4. -/
  | lifecycleToOwned (t : Nat) (h : Hdr)
  /-- LIFECYCLE_TO_RETURN (R168): LIFECYCLE_REQUEST 2 stores without secrets, blows a fuse bit, erases the other slots and resets. -/
  | lifecycleToReturn (t : Nat) (h : Hdr)
  /-- REQUEST_RUN (R177): POWER_STATE.REQUEST 0: firing is enabled within 10 µs when an active set exists and no refusal applies; page starts are shifted under R217. -/
  | requestRun (t : Nat) (h : Hdr)
  /-- REQUEST_PAUSE (R177): POWER_STATE.REQUEST 1: an orderly pause from RUN, or an exit from STANDBY. -/
  | requestPause (t : Nat) (h : Hdr)
  /-- REQUEST_STANDBY (R177): POWER_STATE.REQUEST 2: gate clocks, lanes to L1, withdraw credits, after an orderly pause if running. -/
  | requestStandby (t : Nat) (h : Hdr)
  /-- REQUEST_SLEEP (R178): POWER_STATE.REQUEST 3: checks, then DRAM self-refresh, lanes to L2 and PLLs off. -/
  | requestSleep (t : Nat) (h : Hdr)
  /-- REQUEST_OFF (R186): POWER_STATE.REQUEST 4: checks, then SUPPLY_EN is driven low. -/
  | requestOff (t : Nat) (h : Hdr)
  /-- ORDERLY_PAUSE_END (R174): The last line of the last completed page has passed every row; the power state becomes PAUSE. -/
  | orderlyPauseEnd (t : Nat)
  /-- WAKE_PIN (R177): WAKE_N wakes the part from SLEEP or OFF when enabled. -/
  | wakePin (t : Nat) (env : BootEnv)
  /-- NETWORK_WAKE (R183): In SLEEP, a datagram to port 29170 with OPEN_REQ or IDENTIFY wakes the part. -/
  | networkWake (t : Nat) (frame : WakeFrame) (opcode : Nat)
  /-- WAKE_TIMER (R188): The wake timer expires and wakes the part from SLEEP or OFF. -/
  | wakeTimer (t : Nat) (env : BootEnv)
  /-- DEBUG_AUTH (R191): A proof written to the DEBUG_AUTH TAP register raises the debug level. -/
  | debugAuth (t : Nat) (level : Nat) (proof : List Byte)
  /-- DEBUG_CLOSE (R195): A write of 0 to DEBUG_AUTH or of 1 to DEBUG_STATE.CLOSE returns the level to CLOSED. -/
  | debugClose (t : Nat) (viaHost : Option Hdr) (v : Nat)
  /-- TRST_LOW (R195): TRST_N low returns the debug level to CLOSED. -/
  | trstLow (t : Nat)
  /-- DEBUG_NONCE_EXPIRY (R191): A debug nonce not used within 10 s expires. -/
  | debugNonceExpiry (t : Nat)
  /-- DEBUG_LOCK_EXPIRY (R194): The 60 s DEBUG_AUTH lock after three wrong proofs ends. -/
  | debugLockExpiry (t : Nat)
  /-- COMMIT (R209): JOB_CONTROL 1 runs the commit checks and starts the memory plan. -/
  | commit (t : Nat) (h : Hdr)
  /-- PLAN_DONE (R218): The memory plan completes; the set becomes COMMITTED or returns to BUILDING with the shortfall. -/
  | planDone (t : Nat)
  /-- CANCEL (R237): JOB_CONTROL 2 clears an armed boundary and reopens the active page queue. -/
  | cancel (t : Nat) (h : Hdr)
  /-- REOPEN (R209): JOB_CONTROL 3 returns a committed set to BUILDING, keeping held pages and the reservation. -/
  | reopen (t : Nat) (h : Hdr)
  /-- DISCARD (R209): JOB_CONTROL 4 drops the shadow set's content and refills it from the active set. -/
  | discard (t : Nat) (h : Hdr)
  /-- ARM_APPLY (R221): Applying the ARM record fixes B in mode 1 or 2, or swaps every stage at once in mode 0. -/
  | armApply (t : Nat) (h : Hdr) (v : Nat)
  /-- INGEST_BOND_FORM (R242): At link-up the widest allowed ingest bond is formed from the trained lanes. -/
  | ingestBondForm (t : Nat)
  /-- INGEST_LINK_DOWN (R260): The ingest link goes down; incomplete objects, planes and descriptors are discarded. -/
  | ingestLinkDown (t : Nat)
  /-- BACKGROUND_PACKET (R262): A BACKGROUND packet is received, checked and its plane bytes stored. -/
  | backgroundPacket (t : Nat) (p : TplPacket)
  /-- DESCRIPTOR_PACKET (R267): A DESCRIPTOR packet is received; a complete descriptor is checked and the page taken, held or refused. -/
  | descriptorPacket (t : Nat) (p : TplPacket)
  /-- OBJECT_PACKET (R270): An OBJECT packet is received, inflated and stored in its object. -/
  | objectPacket (t : Nat) (p : TplPacket)
  /-- PAGE_QUERY (R281): The page server asks for a page's state and receives an ACK. -/
  | pageQuery (t : Nat) (p : TplPacket)
  /-- CREDIT (R252): CREDIT is sent after 64 credits are freed, and at least every 100 µs while the link is up. -/
  | credit (t : Nat)
  /-- MIRROR_ACK (R285): The partner's MIRROR_ACK arrives and releases the STORED ACK to the page server. -/
  | mirrorAck (t : Nat) (job : Nat) (page : Nat)
  /-- MIRROR_TIMEOUT (R285): No MIRROR_ACK within MIRROR_TIMEOUT; the ACK is sent with NOT_MIRRORED. -/
  | mirrorTimeout (t : Nat) (job : Nat) (page : Nat)
  /-- MIRROR_RECEIVE (R284): On a standby part, a mirrored packet is stored and a MIRROR_ACK is sent when a page or background is STORED. -/
  | mirrorReceive (t : Nat) (p : TplPacket)
  /-- COVERAGE_RECOMPUTE (R340): Within 10 ms of a map, X_SHIFT or STITCH_POS change, coverage is recomputed and uncoverable columns are reported. -/
  | coverageRecompute (t : Nat)
  /-- NOZZLE_EDIT (R335): Applying NOZZLE_EDIT sets a run of nozzle entries in one row. -/
  | nozzleEdit (t : Nat) (h : Hdr) (v : Nat)
  /-- FIRE_COUNT_UPDATE (R344): The Understorey adds the fired drops into FIRE_COUNTS at least once a second. -/
  | fireCountUpdate (t : Nat)
  /-- TEST_PAGE_APPLY (R363): Applying the TEST record places a test page as the next page of the active set. -/
  | testPageApply (t : Nat) (h : Hdr) (v : Nat)
  /-- TEST_RESULT_READY (R367): The camera measurement of a test page is ready; with AUTO_ACCEPT set it is accepted. -/
  | testResultReady (t : Nat) (m : TestMeasurement)
  /-- ACCEPT (R369): Host writes 1 to ACCEPT; the measured values are written into their objects. -/
  | accept (t : Nat) (h : Hdr) (v : Nat)
  /-- ENC_EDGE (R376): An accepted edge of ENC_A or ENC_B counts and moves the web position, direction, speed and high-water mark. -/
  | encEdge (t : Nat) (a : Bool) (b : Bool)
  /-- STEP_EDGE (R378): An accepted rising edge of STEP_IN counts one step in the direction of STEP_DIR. -/
  | stepEdge (t : Nat) (dir : Bool)
  /-- INDEX_CHECK (R401): An accepted ENC_IDX edge at the high-water mark is checked against INDEX_PERIOD and may start a correction. -/
  | indexCheck (t : Nat)
  /-- STANDSTILL (R397): No edge for STANDSTILL_TIMEOUT; the speed becomes 0 and the run ends. -/
  | standstill (t : Nat)
  /-- VIRTUAL_WEB_ADVANCE (R408): Each POS cycle the virtual web ramps its speed and advances the web position. -/
  | virtualWebAdvance (t : Nat)
  /-- WEB_SCALE_APPLY (R382): Applying WEB_SCALE changes ratios and LINE_PITCH, scaling the position and high-water mark. -/
  | webScaleApply (t : Nat) (h : Hdr) (v : Nat)
  /-- SOURCE_APPLY (R387): Applying 2602h changes the position source, sense or check source at standstill. -/
  | sourceApply (t : Nat) (h : Hdr) (v : Nat)
  /-- INDEX_APPLY (R400): Applying INDEX restarts index checking from the next index. -/
  | indexApply (t : Nat) (h : Hdr) (v : Nat)
  /-- CHECK_APPLY (R407): Applying CHECK starts a new cross-check window. -/
  | checkApply (t : Nat) (h : Hdr) (v : Nat)
  /-- VALIDATE (R386): Host writes 1 to VALIDATE; the web position becomes valid and counting resumes. -/
  | validate (t : Nat) (h : Hdr) (v : Nat)
  /-- POSITION_FLAGS_WRITE (R420): A write to FLAGS (2600h.06) clears each flag written 0. -/
  | positionFlagsWrite (t : Nat) (h : Hdr) (v : Nat)
  /-- COMPARE_APPLY (R415): Applying COMPARE_k, or completing COMPARE_LIST_k, restarts the unit and skips passed matches. -/
  | compareApply (t : Nat) (h : Hdr) (k : Nat) (v : Nat)
  /-- COMPARE_PULSE_END (R413): A compare pulse ends after WIDTH ns. -/
  | comparePulseEnd (t : Nat) (k : Nat)
  /-- REPEATER_COUNT (R419): In mode 3 the repeater sends an owed quadrature count once the edge spacing permits. -/
  | repeaterCount (t : Nat)
  /-- FIRE_CROSSING (R432): The fire comparator sees a new position w and places each row's fire instant from the reported speed. -/
  | fireCrossing (t : Nat) (w : Nat)
  /-- FIRE_PULSE (R435): At a fire instant the strobe sends a fire or void pulse for the row, pushed to keep order and gaps. -/
  | firePulse (t : Nat) (seg : Nat) (row : Nat)
  /-- PW_UPDATE (R441): Every 1 ms the target and effective pulse widths of each row are recomputed and slewed. -/
  | pwUpdate (t : Nat)
  /-- HEAD_DATA_STALE (R446): No temperature or voltage report for STALE_TIME; the row's widths are held. -/
  | headDataStale (t : Nat) (seg : Nat) (row : Nat)
  /-- INTERLOCK_TRIP (R455): An enabled interlock input accepts its active level and inhibits firing. -/
  | interlockTrip (t : Nat) (input : Nat)
  /-- INTERLOCK_RELEASE (R456): An unlatched interlock input leaves its active level and the inhibit ends. -/
  | interlockRelease (t : Nat) (input : Nat)
  /-- INTERLOCK_CLEAR (R457): Host clears latched interlocks whose inputs are no longer active. -/
  | interlockClear (t : Nat) (h : Hdr) (v : Nat)
  /-- PAGE_OUTCOME_FINAL (R36): The last line of a page has passed every row and camera; its outcome becomes final and is reported. -/
  | pageOutcomeFinal (t : Nat) (job : Nat) (page : Nat)
  /-- HEAD_LINK_UP (R512): A head lane comes up at G0 and the part reads the identity, steps up, sends tables and FLUSH to reach READY. -/
  | headLinkUp (t : Nat) (seg : Nat) (ident : List Byte)
  /-- HEAD_STATUS (R499): A STATUS packet arrives from a head port with temperatures, voltage, NEXT_POS and counters. -/
  | headStatus (t : Nat) (seg : Nat) (st : HeadReport)
  /-- HEAD_NAK (R507): A NAK arrives and the named packets are retransmitted ahead of new ones. -/
  | headNak (t : Nat) (seg : Nat) (first : Nat) (count : Nat)
  /-- HEAD_RESPONSE (R487): A RESPONSE to a head command arrives. -/
  | headResponse (t : Nat) (seg : Nat) (cmd : Nat) (tag : Nat) (status : Nat) (data : List Byte)
  /-- HEAD_EVENT (R503): A head EVENT arrives and is counted; PULSE_UNKNOWN causes a FLUSH. -/
  | headEvent (t : Nat) (seg : Nat) (seq : Nat) (code : Nat) (row : Nat) (pos : Nat) (data : Nat)
  /-- COMMAND_RESEND (R488): No RESPONSE within 1 ms; the command is resent, and after the third sending the link is treated as down. -/
  | commandResend (t : Nat) (seg : Nat)
  /-- HEAD_RESET (R517): Host resets named head modules, which go through link-up again. -/
  | headReset (t : Nat) (h : Hdr) (v : Nat)
  /-- LANE_ENABLE (R542): A lane is enabled or disabled by its ENABLE. -/
  | laneEnable (t : Nat) (h : Hdr) (n : Nat) (v : Nat)
  /-- SIGNAL_PRESENT (R542): Signal appears on a lane in DETECT and CDR starts at G0. -/
  | signalPresent (t : Nat) (n : Nat)
  /-- BLOCK_LOCK (R530): 64 valid sync headers give block lock and the link comes up at G0. -/
  | blockLock (t : Nat) (n : Nat) (inverted : Bool)
  /-- STEP_UP_REQUEST (R532): A lane at G0 requests a step-up and starts negotiation. -/
  | stepUpRequest (t : Nat) (n : Nat)
  /-- LANE_CONTROL_WORD (R533): A lane control word arrives, carrying grade proposals, switch count, tap requests and handshakes. -/
  | laneControlWord (t : Nat) (n : Nat) (w : Nat)
  /-- VERIFICATION_PASSED (R537): Both ends pass verification; equaliser state is stored and the lane is UP. -/
  | verificationPassed (t : Nat) (n : Nat)
  /-- TRAIN_FALLBACK (R539): Training fails or overruns TRAIN_TIME; the grade limit is lowered and the lane returns to G0. -/
  | trainFallback (t : Nat) (n : Nat)
  /-- NEGOTIATION_TIMEOUT (R542): No agreement or lock within 1 ms in G0_LOCK or NEGOTIATE. -/
  | negotiationTimeout (t : Nat) (n : Nat)
  /-- LOCK_LOST (R530): A lane loses lock or passes its error limit and restarts from DETECT. -/
  | lockLost (t : Nat) (n : Nat)
  /-- RETRAIN (R555): Host retrains named lanes, restoring their grade limits. -/
  | retrain (t : Nat) (h : Hdr) (v : Nat)
  /-- LP_ENTRY (R543): The part requests L1 or L2 on a lane with LP_REQUEST. -/
  | lpEntry (t : Nat) (n : Nat) (level : Nat)
  /-- LP_NO_ACK (R543): No LP_ACK within 10 µs; the part enters the low-power state anyway. -/
  | lpNoAck (t : Nat) (n : Nat)
  /-- LP_EXIT (R548): The part leaves L1 or L2, restoring equaliser state or retraining from G0. -/
  | lpExit (t : Nat) (n : Nat)
  /-- EYE_MEASURE (R550): The Understorey measures the eye of a lane and warns when it is below EYE_WARN. -/
  | eyeMeasure (t : Nat) (n : Nat) (height : Nat) (width : Nat)
  /-- CAM_PORT_APPLY (R561): Applying CAM_PORT_k reconfigures the pipeline and runs the INIT and START or STOP scripts. -/
  | camPortApply (t : Nat) (h : Hdr) (k : Nat) (v : Nat)
  /-- CAM_TRIGGER_APPLY (R563): Applying 3008h sets the trigger mode, compare units, timeout and camera distance. -/
  | camTriggerApply (t : Nat) (h : Hdr) (k : Nat) (v : Nat)
  /-- CAM_LIVE_APPLY (R573): Applying CAM_LIVE_k admits a settings change as the next generation. -/
  | camLiveApply (t : Nat) (h : Hdr) (k : Nat) (v : Nat)
  /-- SETTINGS_SCRIPT_DONE (R571): A SETTINGS script completes; the change takes effect at its effect frame, or is withdrawn on failure. -/
  | settingsScriptDone (t : Nat) (k : Nat) (ok : Bool)
  /-- FRAME_START (R564): A CSI-2 frame start is paired with the oldest pending trigger, or discarded as unexpected. -/
  | frameStart (t : Nat) (k : Nat)
  /-- FRAME_END (R578): A frame ends; short or long handling, statistics and stream delivery follow. -/
  | frameEnd (t : Nat) (k : Nat)
  /-- CSI_PACKET (R558): A CSI-2 packet arrives; header ECC and payload CRC errors are handled. -/
  | csiPacket (t : Nat) (k : Nat) (p : CsiPacket)
  /-- TRIGGER_TIMEOUT (R564): A pending trigger has no frame start within TRIGGER_TIMEOUT and is dropped as a missed frame. -/
  | triggerTimeout (t : Nat) (k : Nat)
  /-- SNAPSHOT (R590): Host requests snapshots of named streams, copied into CAM_FRAME objects. -/
  | snapshot (t : Nat) (h : Hdr) (v : Nat)
  /-- FRAME_COMPARE (R595): The comparator compares a frame against the prediction and finds streaks, spots, density and register. -/
  | frameCompare (t : Nat) (k : Nat)
  /-- REFERENCE_LATE (R599): A frame's reference is not read in full 10 ms after its last line and the frame is excluded. -/
  | referenceLate (t : Nat) (k : Nat)
  /-- FINDINGS_COMMIT (R627): Within 5 ms of a page's final outcome its defect records are made and findings committed to the loops. -/
  | findingsCommit (t : Nat) (job : Nat) (page : Nat)
  /-- CAM_MAP_APPLY (R601): Applying CAM_MAP_k sets the stream-to-web mapping from the next frame start. -/
  | camMapApply (t : Nat) (h : Hdr) (k : Nat) (v : Nat)
  /-- DRAM_FREEZE (R661): An uncorrectable read error freezes a channel, captures the record and enters safe state. -/
  | dramFreeze (t : Nat) (c : Nat) (r : FreezeReport)
  /-- ALERT_LOW (R661): ALERT_N low freezes the channel on a write CRC failure. -/
  | alertLow (t : Nat) (c : Nat) (r : FreezeReport)
  /-- REFRESH_DUE (R652): A same-bank refresh falls due each tREFI and is issued or postponed. -/
  | refreshDue (t : Nat) (c : Nat) (bank : Nat) (needed : Bool)
  /-- MR4_READ (R651): Every 16 ms mode register 4 is read and tREFI adjusted. -/
  | mr4Read (t : Nat) (c : Nat) (doubled : Bool)
  /-- PATROL_SCRUB (R658): The patrol scrub reads words through the SCRUB port. -/
  | patrolScrub (t : Nat) (c : Nat) (found : ScrubResult)
  /-- DRAM_TRAINING_DONE (R668): A channel completes or fails training and starts its fill. -/
  | dramTrainingDone (t : Nat) (c : Nat) (ok : Bool)
  /-- DRAM_FILL_DONE (R671): A channel completes its zero fill; FILL_DONE rises when all have. -/
  | dramFillDone (t : Nat) (c : Nat)
  /-- DRAM_RETRAIN_DONE (R665): Retraining of a frozen channel after SAFE_CLEAR completes; the part leaves safe state if nothing else holds it. -/
  | dramRetrainDone (t : Nat) (c : Nat) (ok : Bool)
  /-- MOVE_START (R692): Host starts or resumes named host moves after checking their chains. -/
  | moveStart (t : Nat) (h : Hdr) (v : Nat)
  /-- MOVE_ABORT (R697): Host aborts named running or suspended moves. -/
  | moveAbort (t : Nat) (h : Hdr) (v : Nat)
  /-- DESCRIPTOR_END (R687): A DMA descriptor ends with its status and the channel fetches the next, halts or suspends. -/
  | descriptorEnd (t : Nat) (n : Nat) (busError : Option BusError)
  /-- SYNC_RX (R724): An accepted Sync yields an offset that drives the servo or is refused as too large. -/
  | syncRx (t : Nat) (m : PtpMsg)
  /-- FOLLOW_UP_RX (R720): A Follow_Up supplies t1 for a held two-step Sync. -/
  | followUpRx (t : Nat) (m : PtpMsg)
  /-- DELAY_RESP_RX (R724): A Delay_Resp completes an E2E delay exchange. -/
  | delayRespRx (t : Nat) (m : PtpMsg)
  /-- PDELAY_REQ_RX (R719): A Pdelay_Req from the link peer is answered two-step. -/
  | pdelayReqRx (t : Nat) (m : PtpMsg)
  /-- PDELAY_RESP_RX (R724): A Pdelay_Resp or its Follow_Up completes a P2P delay exchange. -/
  | pdelayRespRx (t : Nat) (m : PtpMsg)
  /-- DELAY_REQ_SEND (R719): The part sends its own Delay_Req or Pdelay_Req two-step. -/
  | delayReqSend (t : Nat)
  /-- ANNOUNCE_RX (R732): An Announce feeds BMCA and may reveal a grandmaster change. -/
  | announceRx (t : Nat) (m : PtpMsg)
  /-- FOLLOW_UP_TIMEOUT (R721): A held Sync with no Follow_Up within 1 s is discarded. -/
  | followUpTimeout (t : Nat) (seq : Nat)
  /-- ANNOUNCE_TIMEOUT (R733): No accepted Sync for ANNOUNCE_TIMEOUT intervals; the servo enters HOLDOVER. -/
  | announceTimeout (t : Nat)
  /-- PTP_STEP (R729): Applying PTP_STEP steps TB_PTP by the measured offset or to VALUE. -/
  | ptpStep (t : Nat) (h : Hdr) (v : Nat)
  /-- PTP_CONFIG_APPLY (R737): Applying 3501h or 3502h changes PTP or servo settings. -/
  | ptpConfigApply (t : Nat) (h : Hdr) (index : Nat) (v : Nat)
  /-- FIRE_RATE_SLEW (R734): Every 1 ms a_fire moves toward the servo rate by at most FIRE_RATE_SLEW. -/
  | fireRateSlew (t : Nat)
  /-- BLOCK_EVENT (R738): A block counts, logs and raises an event and Trunk classifies it, possibly making a class SEVERE. -/
  | blockEvent (t : Nat) (block : Nat) (code : Nat) (data : Nat)
  /-- SEVERE_TEST (R746): Every 1 ms SEVERE classes whose windows have aged leave SEVERE. -/
  | severeTest (t : Nat)
  /-- FAULT_CLEAR (R740): Host writes 1 to CLEAR of a block's fault record, clearing counters, log, windows and REG_FAULT. -/
  | faultClear (t : Nat) (h : Hdr) (block : Nat) (v : Nat)
  /-- REG_FAULT (R750): A parity or uncorrectable ECC error in a block's own registers enters safe state at once. -/
  | regFault (t : Nat) (block : Nat)
  /-- ENTER (R766): Host writes 1 to ENTER and the part enters safe state with a kind 5 cause. -/
  | enter (t : Nat) (h : Hdr) (v : Nat)
  /-- SAFE_CLEAR (R755): Host writes 1 to SAFE_CLEAR; the part leaves safe state when every cause has cleared. -/
  | safeClear (t : Nat) (h : Hdr) (v : Nat)
  /-- THERMAL_READ (R886): Every 1 ms the on-die sensors are read and ten readings above 130 °C enter safe state. -/
  | thermalRead (t : Nat) (codes : List Nat)
  /-- SRAM_SCRUB (R759): The SRAM scrub corrects words and counts uncorrectable ones. -/
  | sramScrub (t : Nat) (corrected : Nat) (uncorrectable : Nat)
  /-- TELEMETRY_SAMPLE (R760): Every TELEMETRY_INTERVAL a telemetry record is sampled. -/
  | telemetrySample (t : Nat) (sense : List Nat)
  /-- LOG_CHUNK (R761): Every LOG_INTERVAL a chunk of telemetry and SEVERE entries is written to the flash log ring. -/
  | logChunk (t : Nat)
  /-- TASK_LATE (R758): An Understorey task that misses its schedule counts TASK_LATE. -/
  | taskLate (t : Nat) (task : Nat)
  /-- YIELD_IN_CHANGE (R768): A new GRAFT_YIELD_IN level is accepted; a READY part takes over when it becomes yielding. -/
  | yieldInChange (t : Nat) (yielding : Bool)
  /-- GRAFT_ROLE_CHANGE (R770): A stable new GRAFT_ROLE value changes the Graft state, forces a yield or waits for PAUSE. -/
  | graftRoleChange (t : Nat) (role : Nat)
  /-- GRAFT_HB_TOGGLE (R769): GRAFT_HB toggles every 50 µs while classification runs. -/
  | graftHbToggle (t : Nat)
  /-- HELLO (R778): The partner's HELLO arrives and is answered with a QUOTE. -/
  | hello (t : Nat) (m : HelloMsg)
  /-- GRAFT_QUOTE (R778): The partner's QUOTE is checked and, when both accept, the pair forms. -/
  | graftQuote (t : Nat) (q : QuoteMsg)
  /-- FORM_REFUSED (R779): The pair has not formed within 50 ms, or 10 s later the attempt is repeated. -/
  | formRefused (t : Nat)
  /-- STATE_PACKET (R781): A forwarded change of a mirrored object is applied on the partner and acknowledged. -/
  | statePacket (t : Nat) (index : Nat) (sub : Nat) (ty : Nat) (data : List Byte)
  /-- POSITION_SEND (R783): Every 1 ms a POSITION record is sent to the partner. -/
  | positionSend (t : Nat)
  /-- POSITION_RECORD (R783): A partner POSITION record is compared with the part's history, or re-seeds after a snapshot. -/
  | positionRecord (t : Nat) (count : Int) (pos : Nat) (highWater : Nat) (seq : Nat)
  /-- SYNC_MARK (R784): SYNC_MARK ends the snapshot and sets the position from which the partner composes. -/
  | syncMark (t : Nat) (pos : Nat)
  /-- GRAFT_REPORT (R796): A takeover record from the partner is stored in TAKEOVER_LOG. -/
  | graftReport (t : Nat) (r : List Byte)
  /-- MIRROR_HOLD (R786): No POSITION record for MIRROR_HOLD; the part leaves READY. -/
  | mirrorHold (t : Nat)
  /-- RAMP_TICK (R805): Every 1 µs the ramp generator of a moving axis updates its speed and issues microsteps. -/
  | rampTick (t : Nat) (a : Nat)
  /-- AXIS_CONFIG_APPLY (R829): Applying AXIS_CONFIG sets currents, modes and timing and enables or disables the axis. -/
  | axisConfigApply (t : Nat) (h : Hdr) (a : Nat) (v : Nat)
  /-- RAMP_APPLY (R807): Applying RAMP_a makes its values the pending ramp. -/
  | rampApply (t : Nat) (h : Hdr) (a : Nat) (v : Nat)
  /-- MOVE_APPLY (R809): Applying MOVE_a starts a move, replaces the target or starts a reversal. -/
  | moveApply (t : Nat) (h : Hdr) (a : Nat) (v : Nat)
  /-- MOVE_REPLAN (R808): Host makes moving axes continue on their newly staged ramps. -/
  | moveReplan (t : Nat) (h : Hdr) (v : Nat)
  /-- MOVE_STOP (R825): Host stops named axes on their ramps. -/
  | moveStop (t : Nat) (h : Hdr) (v : Nat)
  /-- HOME (R820): Host starts homing of named axes toward their home switches. -/
  | home (t : Nat) (h : Hdr) (v : Nat)
  /-- HOME_CONFIG_APPLY (R830): Applying HOME_CONFIG sets the homing direction, speeds, position and limits. -/
  | homeConfigApply (t : Nat) (h : Hdr) (a : Nat) (v : Nat)
  /-- LEVEL_APPLY (R830): Applying LEVEL sets LIFT_LINK, LEVEL_OFFSET and LEVEL_TOL. -/
  | levelApply (t : Nat) (h : Hdr) (v : Nat)
  /-- HOME_EDGE (R820): MOT_HOME leaves HOME_ACTIVE during the slow return and the position is set to HOME_POS. -/
  | homeEdge (t : Nat) (a : Nat)
  /-- OVERCURRENT (R818): A sense current above OC_LIMIT turns off the axis's gates and puts it in FAULT. -/
  | overcurrent (t : Nat) (a : Nat)
  /-- DRIVE_SATURATED (R817): A chopper drive lasts 100 µs without reaching its threshold. -/
  | driveSaturated (t : Nat) (a : Nat)
  /-- HOLD_DELAY (R819): HOLD_DELAY after a move the axis takes its standstill mode. -/
  | holdDelay (t : Nat) (a : Nat)
  /-- REVERSE_DWELL (R810): After a reversal stop the dwell ends and the second leg starts. -/
  | reverseDwell (t : Nat) (a : Nat)
  /-- CAL_START (R852): Host starts a calibration run, or it is kept pending. -/
  | calStart (t : Nat) (h : Hdr) (v : Nat)
  /-- CAL_TEMP_TRIGGER (R850): The 100 ms sensor reading shows a temperature change above CAL_DELTA_T and triggers a run. -/
  | calTempTrigger (t : Nat) (codes : List Nat)
  /-- CAL_PASS_DONE (R844): A calibration pass completes; after pass 2 each item is accepted or rejected. -/
  | calPassDone (t : Nat) (r : CalPass)
  /-- HOLDOFF_END (R851): 60 s after entering HOLDOFF the unit returns to IDLE or starts a pending run. -/
  | holdoffEnd (t : Nat)
  /-- CAL_SLEW (R847): Every 1 ms each coefficient moves toward its accepted value. -/
  | calSlew (t : Nat)
  /-- STROBE_TRIM_WRITE (R835): A write of STROBE_TRIM takes effect from the next position's fire instants. -/
  | strobeTrimWrite (t : Nat) (h : Hdr) (data : List Byte)
  /-- DISP_TIMING_APPLY (R859): Applying DISP_TIMING_x takes effect at the end of the present frame. -/
  | dispTimingApply (t : Nat) (h : Hdr) (x : Nat) (v : Nat)
  /-- DISP_FRAME_START (R864): An output starts a frame, taking the latest preview frame and graphics, and may enter reduced refresh. -/
  | dispFrameStart (t : Nat) (x : Nat)
  /-- DISP_LINE_FETCH (R867): A display line's pixels are fetched; missing data gives an underrun in BG_COLOUR. -/
  | dispLineFetch (t : Nat) (x : Nat) (line : Nat) (lateFrom : Option Nat)
  /-- PORCH_END (R869): A change to a reduced output ends the stretched front porch at the next line boundary. -/
  | porchEnd (t : Nat) (x : Nat)
  /-- BAD_OPCODE (R51): A host frame with an undefined opcode, a notice from the host, or RESPONSE set on another opcode is answered BAD_OPCODE. -/
  | badOpcode (t : Nat) (opcode : Nat) (f : Frame)
  /-- NET_LINK_UP (R43): The Ethernet link comes up and address acquisition under NET_MODE, with its DHCP_TIMEOUT, starts from that moment. -/
  | netLinkUp (t : Nat) (speed : Nat)
  /-- LINK_LOCAL_TAKEN (R44): RFC 3927 probing of a link-local address ends without conflict and the part takes the address as source 2. -/
  | linkLocalTaken (t : Nat)
  /-- TPL_UNKNOWN_TYPE (R259): A TPL packet with correct CRCs and an unrecognised MAGIC, VERSION or TYPE is consumed and answered REFUSE TYPE. -/
  | tplUnknownType (t : Nat) (p : TplPacket)
  /-- MIRROR_BOND_FORM (R779): The mirror bond on MIR0–MIR3 comes up while GRAFT_ROLE is not 00b; the part sends HELLO and pair forming starts, with its 50 ms limit. -/
  | mirrorBondForm (t : Nat)
  /-- MIRROR_CREDIT (R250): A CREDIT from the partner on the mirror bond raises the limit up to which the part may forward packets, releasing held ingest credits. -/
  | mirrorCredit (t : Nat) (limit : Nat)
  /-- MIRROR_RESYNC (R256): A RESYNC from the partner makes the part resend in order every mirror packet from the expected LINK_SEQ. -/
  | mirrorResync (t : Nat) (seq : Nat)
  /-- CCI_SCRIPT_DONE (R562): An INIT, START or STOP CCI script completes or fails, and the pipeline STATE becomes running, stopped or error. -/
  | cciScriptDone (t : Nat) (k : Nat) (script : Nat) (ok : Bool)
  /-- HOME_SWITCH_FOUND (R820): During the homing search MOT_HOME reaches HOME_ACTIVE, and the axis stops on the ramp to begin the slow return. -/
  | homeSwitchFound (t : Nat) (a : Nat)
  /-- TAP_INSTRUCTION (R901): An IEEE 1149.1 instruction such as EXTEST, CLAMP or HIGHZ is loaded through the TAP and takes effect only in ROM hold or safe state. -/
  | tapInstruction (t : Nat) (scan : TapScan)
  /-- TAP_FLASH_ACCESS (R112): While the part holds in ROM, a TAP access writes or reads the xSPI flash. -/
  | tapFlashAccess (t : Nat) (area : Nat) (image : Option FlashWrite)
deriving DecidableEq, Repr

end Sys2Proof
end

