-- ==== Sys2Proof/Decode.lean ====
section
/-! DEFINITION. The commands that words spell. The rows of the opcode table give no bits: the commands of this part come as
frames, packets, edges and ticks, which their operands hold, so no word spells one (log 4). -/

namespace Sys2Proof

/-- No row of the table gives bits. -/
def decodeTableWord (_nbits _w : Nat) : Option Instr := none

end Sys2Proof
end

