-- ==== Sys2Proof/Machine/Aes.lean ====
section
/-! DEFINITION. AES-256-GCM, under which the owner key is sealed (R156). PRESUMED from the standards that the name stands for
(FIPS 197, SP 800-38D), log 142. -/

namespace Sys2Proof.Machine

/-! ### The field of 2⁸ elements and the substitution -/

/-- A byte times x. -/
def Aes.twice (a : Nat) : Nat := if a < 128 then 2 * a else (2 * a).xor 0x11b

/-- The product of two bytes, from so many low bits of b. -/
def Aes.mul : Nat → Nat → Nat → Nat
  | 0, _, _ => 0
  | n + 1, a, b => (if b % 2 = 1 then a else 0).xor (Aes.mul n (Aes.twice a) (b / 2))

/-- The reciprocal of a byte: its 254th power, as the product of its powers 2, 4, 8, …, 128. -/
def Aes.inverse (a : Nat) : Nat :=
  ((List.range 7).foldl (fun p _ => let q := Aes.mul 8 p.1 p.1; (q, Aes.mul 8 p.2 q)) (a, 1)).2

/-- SubBytes of one byte. -/
def Aes.sub (a : Nat) : Nat :=
  let b := Aes.inverse a
  (List.range 5).foldl (fun x i => x.xor ((b * 2 ^ i) % 256 + b * 2 ^ i / 256)) 0x63

/-! ### Keys and rounds: words and states are lists of bytes -/

def Aes.xorBytes (a b : List Nat) : List Nat := (a.zip b).map fun p => p.1.xor p.2

/-- The next of the 60 words of the key schedule, from the words so far, newest first. -/
def Aes.nextWord (ws : List (List Nat)) : List Nat :=
  let t := ws.getD 0 []
  let i := ws.length
  let t' := if i % 8 = 0 then
      Aes.xorBytes ((t.drop 1 ++ t.take 1).map Aes.sub) [2 ^ (i / 8 - 1), 0, 0, 0]
    else if i % 8 = 4 then t.map Aes.sub else t
  Aes.xorBytes (ws.getD 7 []) t'

/-- The bytes in pieces of n. -/
def Aes.pieces (n : Nat) : Nat → List Nat → List (List Nat)
  | 0, _ => []
  | k + 1, xs => xs.take n :: Aes.pieces n k (xs.drop n)

/-- The fifteen round keys of a 32-byte key. -/
def Aes.roundKeys (key : List Nat) : List (List Nat) :=
  Aes.pieces 16 15 ((List.range 52).foldl (fun ws _ => Aes.nextWord ws :: ws) (Aes.pieces 4 8 key).reverse).reverse.flatten

/-- ShiftRows: row r of the columns moves r places to the left. -/
def Aes.shift (st : List Nat) : List Nat := (List.range 16).map fun i => st.getD ((i + 4 * (i % 4)) % 16) 0

/-- MixColumns of one column. -/
def Aes.mix (c : List Nat) : List Nat :=
  (List.range 4).map fun i =>
    let g (k : Nat) := c.getD ((i + k) % 4) 0
    ((Aes.twice (g 0)).xor ((Aes.twice (g 1)).xor (g 1))).xor ((g 2).xor (g 3))

/-- The rounds that remain for these keys; the last one mixes no columns. -/
def Aes.rounds : List (List Nat) → List Nat → List Nat
  | [], st => st
  | k :: ks, st =>
    let s1 := Aes.shift (st.map Aes.sub)
    Aes.rounds ks (Aes.xorBytes k (if ks.isEmpty then s1 else (Aes.pieces 4 4 s1).flatMap Aes.mix))

/-- One block under the round keys. -/
def Aes.block (keys : List (List Nat)) (b : List Nat) : List Nat :=
  Aes.rounds (keys.drop 1) (Aes.xorBytes (keys.getD 0 []) b)

/-! ### Galois/counter mode, with an IV of 12 bytes and no additional data -/

/-- The product of two blocks of GHASH, the bits of x from the highest on. -/
def Gcm.mul (x : Nat) : Nat → Nat → Nat
  | 0, _ => 0
  | n + 1, v =>
    (if x.testBit n then v else 0).xor (Gcm.mul x n (if v % 2 = 1 then (v / 2).xor (0xe1 * 2 ^ 120) else v / 2))

/-- GHASH of a text: its blocks, filled with zeros, then its length in bits. -/
def Gcm.hash (h : Nat) (text : List Nat) : Nat :=
  let n := ceilDiv text.length 16
  let blocks := (Aes.pieces 16 n (text ++ List.replicate (16 * n - text.length) 0)).map fun b => b.foldl (256 * · + ·) 0
  (blocks ++ [8 * text.length]).foldl (fun y b => Gcm.mul (y.xor b) 128 h) 0

/-- The bytes of a number, highest first. -/
def Gcm.bytes (n v : Nat) : List Nat := (natBE n v).map (·.toNat)

/-- Key stream block i under the round keys. -/
def Gcm.stream (keys : List (List Nat)) (iv : List Nat) (i : Nat) : List Nat := Aes.block keys (iv ++ Gcm.bytes 4 i)

/-- The text enciphered, or deciphered. -/
def Gcm.cipher (keys : List (List Nat)) (iv text : List Nat) : List Nat :=
  Aes.xorBytes text ((List.range (ceilDiv text.length 16)).flatMap fun i => Gcm.stream keys iv (i + 2))

/-- The tag of a cipher text. -/
def Gcm.tag (keys : List (List Nat)) (iv text : List Nat) : List Nat :=
  let h := (Aes.block keys (List.replicate 16 0)).foldl (256 * · + ·) 0
  Aes.xorBytes (Gcm.bytes 16 (Gcm.hash h text)) (Gcm.stream keys iv 1)

/-- IV, cipher text and tag of a plain text. -/
def gcmSeal (key iv plain : List Byte) : List Byte :=
  let ks := Aes.roundKeys (key.map (·.toNat))
  let v := iv.map (·.toNat)
  let c := Gcm.cipher ks v (plain.map (·.toNat))
  iv ++ (c ++ Gcm.tag ks v c).map toByte

/-- The plain text of what gcmSeal makes; none where the tag is wrong. -/
def gcmOpen (key box : List Byte) : Option (List Byte) :=
  let ks := Aes.roundKeys (key.map (·.toNat))
  let x := box.map (·.toNat)
  let v := x.take 12
  let c := (x.drop 12).take (x.length - 28)
  if x.length < 28 || x.drop (x.length - 16) != Gcm.tag ks v c then none else some ((Gcm.cipher ks v c).map toByte)

end Sys2Proof.Machine
end

