-- ==== Sys2Proof/Config.lean ====
section
/-! DEFINITION. The free values: what the manual leaves open and the part nevertheless produces. Each is an opaque
constant, so that no statement can lean on a value of it (logs 10 to 19). -/

namespace Sys2Proof.Config

/-- The nonces that Heartwood draws, by draw (R55, R191). -/
opaque nonce : Nat → BitVec 128

/-- The debug nonces, by draw (R191). -/
opaque debugNonce : Nat → BitVec 128

/-- The random number of each draw (R58: session IDs). -/
opaque random : Nat → BitVec 32

/-- The ECDSA P-384 signature of the device key over a quote's bytes (R152). -/
opaque signature : List Byte → BitVec 768

/-- What the three certificates of R154 hold, by their place: device key, debug key, device CA. -/
opaque certContent : Nat → List Byte

/-- The DEFLATE stream that an engine writes for these bytes (R700, R762): RFC 1951 lets an encoder choose. -/
opaque deflated : List Byte → List Byte

/-- What an engine has written of a stream once it has taken these inputs, the newest first, each with its
descriptor's FLAGS (R700 to R702). -/
opaque deflateStream : List (Nat × List Byte) → List Byte

/-- The colour slots of a pixel outside the active area (R858 gives those of none). -/
opaque blankColour : BitVec 24

/-- The nominal SLOPE of each on-die temperature sensor (R833: from the fuse-held current ratio). -/
opaque nominalSlope : Nat → BitVec 32

/-- The 8-byte range limits that INFO reports for an object whose type has no raw limits (STR, OCT and DOM; *INFO
response*), by key. -/
opaque infoMinimum : Nat → BitVec 64
opaque infoMaximum : Nat → BitVec 64

/-- The fuse sealing secret S (R156), and the IV of each sealing, by draw. -/
opaque sealSecret : List Byte
opaque sealIv : Nat → BitVec 96

/-- What a bank image holds of a sealed copy beside the M0–M5 to which it was sealed, its IV, cipher text and tag. -/
opaque sealedLength : BitVec 8

/-- The type byte of the body entries at index 0000h, by subindex (*Bank store*). -/
opaque entryType : Nat → BitVec 8

/-- A bank slot whose image is not complete, by draw; the BOOT_COUNT records that hold a count, and the count that records
hold (R761); the identity area as written at manufacture, and the certificate chain in other bytes of it (*Flash map*). -/
opaque slotBytes : Nat → List Byte
opaque bootRecords : Nat → List Byte
opaque bootCountIn : List Byte → BitVec 32
opaque identityArea : List Byte
opaque certsIn : List Byte → Nat → List Byte

/-- The transport key and the Mirvas debug key, which Mirvas derives from the fuse secrets of each part (R161, R192). -/
opaque transportKey : BitVec 256
opaque mirvasDebugKey : BitVec 256

/-- Where in its tolerance the latency of the ball CMPk lies (R20, R410). -/
opaque cmpSkew : Nat → BitVec 16

/-- Of the fitted DRAM devices: bank groups less 1, and banks in each less 1 (R643; BANK_GROUP 0–7, BANK 0–3). -/
opaque bankGroups : BitVec 3
opaque banks : BitVec 2

/-- Of the two neighbours in 1/32768 of a sine, the one that the table of *Current regulation* holds (log 162). -/
opaque sineRound : Nat → BitVec 1

/-- Where the capture ring lies in DRAM (3410h.02). -/
opaque captureBase : BitVec 64

/-- Any other value that the manual does not state, by draw. -/
opaque free : Nat → BitVec 64

end Sys2Proof.Config
end

