-- ==== Sys2Proof/Machine/BootTypes.lean ====
section
/-! DEFINITION. The state of start-up, persistent store, sealing, power and debug (spec/03 and spec/04), and of
fault records and safe state (spec/18). -/

namespace Sys2Proof.Machine

/-- The content of a DOM object: its size, its generation, and the bytes that differ from its fill. -/
structure Dom where
  size : Nat
  gen : Nat
  cells : List (Nat × Byte)
deriving DecidableEq, Repr

/-- A sealed owner key copy (R156): the measurements M0 to M5 to which it was sealed, and its AES-256-GCM encryption (IV,
cipher text, tag). -/
structure Sealed where
  m05 : List (List Byte)
  box : List Byte
deriving DecidableEq, Repr

/-- What a bank-store image holds besides its header (*Bank store*): the P objects that differ from their
defaults, the P DOM objects that differ from theirs, the sealed copies, and the fire counts when present. -/
structure Body where
  objs : List (Nat × Nat)
  doms : List (Nat × Dom)
  current : Option Sealed
  alternate : Option Sealed
  /-- the DOM objects FIRE_COUNTS_s that differ from 0 -/
  fireCounts : Option (List (Nat × Dom))
  /-- entries whose object does not exist, or whose type or length is not the object's (R128) -/
  misfits : Nat
deriving DecidableEq, Repr

/-- One bank slot (*Bank slot header*, R116), read as its checks read it. -/
structure BankSlot where
  /-- MAGIC is 4B4E_4254h, FORMAT is 0001h -/
  magic : Bool
  headerCrc : Bool
  bodyCrc : Bool
  sequence : Nat
  length : Nat
  retired : Nat
  cause : Nat
  bootSlot : Nat
  fwVersion : Nat
  cycles : Nat
  timeNs : Nat
  body : Body
  /-- it was erased for a store that has not completed: what its sectors hold is open -/
  partly : Bool
deriving DecidableEq, Repr

/-- A store that is being written (R117): its target position, its image, how many read-backs have failed, its start. -/
structure StoreJob where
  pos : Nat
  image : BankSlot
  fails : Nat
  since : Nat
deriving DecidableEq, Repr

/-- The image that a firmware slot is being programmed with (R144). -/
structure Programming where
  slot : Nat
  image : List Byte
deriving DecidableEq, Repr

/-- The xSPI flash (*Flash map*, R114): firmware slots A and B, the eight bank slots in rotation order, the erase
counts, the BOOT_COUNT record and the chunk ring of the log region. -/
structure Flash where
  slotA : List Byte
  slotB : List Byte
  genA : Nat
  genB : Nat
  bank : List BankSlot
  /-- consecutive failed read-backs of each rotation position (R120) -/
  badReads : List Nat
  bootCount : Nat
  /-- the chunk ring as bytes that differ from FFh, the next offset, the latest SEQ, the erases of each sector -/
  ring : List (Nat × Byte)
  ringNext : Nat
  chunkSeq : Nat
  erases : List Nat
  /-- areas of *Flash map* as the TAP wrote them, until the part itself erases or programs there (R112), by the numbers of
  TAP_FLASH_ACCESS -/
  tapped : List (Nat × List Byte)
deriving DecidableEq, Repr

/-- The fuses (R16, R163, 1018h.05, 1018h.06, R833). -/
structure Fuses where
  serial : Nat
  mac : Nat
  lifecycleBits : Nat
  tempSlope : List Nat
  tempOffset : List Nat
deriving DecidableEq, Repr

/-- The levels that a reset sets and boot releases (R113, R874, R875): DCH_x_RESET_N is low until step 8, the RGMII transmit
balls and PHY_RESET_N are low and the CCI balls released until step 10, XSPI_RESET_N is low until a moment, and the flash is
in 8D-8D-8D. -/
structure BootPins where
  dramReset : Bool
  macReset : Bool
  cciReleased : Bool
  xspiLowUntil : Nat
  octal : Bool
deriving DecidableEq, Repr

/-- Where the boot sequence stands (*Boot steps*). -/
inductive Phase where
  /-- no supply, or reset held: nothing runs -/
  | dark
  /-- the part holds in ROM (*Boot failure codes*) -/
  | hold
  /-- step 8: DDR5 training runs -/
  | training
  /-- steps 9 and 10 are done; step 11 is awaited -/
  | applied
  /-- step 11 is reached -/
  | ready
deriving DecidableEq, Repr

/-- The state of boot and of the AON domain that outlasts a reset (R104, R111). -/
structure Boot where
  phase : Phase
  code : Nat
  cause : Nat
  slot : Nat
  fallback : Nat
  straps : Nat
  /-- time of reset release, and BOOT_TIME once step 11 is reached -/
  released : Nat
  bootTime : Nat
  watchdogCount : Nat
  /-- the reset that R103 holds back: its cause, and when it takes effect -/
  pendingReset : Option (Nat × Nat)
  /-- channels whose training has ended -/
  trained : List Nat
  /-- no further erase or program until the next reset (R123) -/
  railFallen : Bool
  /-- what the boot objects held at boot step 10: the values in effect since the reset (R73), by key -/
  effect : List (Nat × Nat)
  pins : BootPins
deriving DecidableEq, Repr

/-- The bank store as it runs (R117 to R136). -/
structure Bank where
  job : Option StoreJob
  /-- a store with CAUSE 1 is pending (R130) -/
  pendingAuto : Bool
  lastStore : Option Nat
  /-- times of the stores of the preceding 24 h (R130) -/
  recent : List Nat
  /-- what follows when the running store completes: a lifecycle transition to this state (R167, R168) -/
  transition : Option Nat
  /-- the copies were exchanged at boot, or changed (R157) -/
  current : Option Sealed
  alternate : Option Sealed
  unsealResult : Nat
  programming : Option Programming
  /-- the owner key that a copy opened to, or that was sealed since (R55, R159) -/
  key : Option (List Byte)
  /-- the stored configuration as loaded at boot or written since (R159) -/
  config : List (Nat × Nat)
deriving DecidableEq, Repr

/-- The power state machine (*Power state transitions*). -/
structure Power where
  /-- 0 RUN, 1 PAUSE, 2 STANDBY, 3 SLEEP, 4 OFF -/
  state : Nat
  /-- the state being entered; FFh none -/
  target : Nat
  /-- an orderly pause runs (R173) -/
  pausing : Bool
  since : Nat
  wakeHeld : Option Nat
  entered : Nat
  timerAtEntry : Nat
  /-- when the entry to RUN under way enables firing (R177, R913) -/
  enableAt : Nat
deriving DecidableEq, Repr

/-- Debug authorisation (R189 to R200). -/
structure Debug where
  level : Nat
  nonce : Option (List Byte × Nat)
  wrong : List Nat
  lockUntil : Nat
  failures : Nat
  fullEntries : Nat
deriving DecidableEq, Repr

/-- One entry of a block's event log (*Event log entry*, R742). -/
structure LogEntry where
  code : Nat
  cls : Nat
  flags : Nat
  data : Nat
  time : Nat
deriving DecidableEq, Repr

/-- The fault record of one block (R738 to R743): its flags, the counter of each class that is not 0, its log,
the times of each class's last counted events, newest first, and the classes that are SEVERE. -/
structure FaultRec where
  flags : Nat
  counts : List (Nat × Nat)
  log : List LogEntry
  lost : Nat
  lastCode : Nat
  windows : List (Nat × List Nat)
  severe : List Nat
deriving DecidableEq, Repr

/-- A cause of safe state (*Safe causes*, R753). -/
structure Cause where
  block : Nat
  kind : Nat
  code : Nat
deriving DecidableEq, Repr

/-- An action that Trunk core 1 takes once the present step's own effect is complete (R739, R748). -/
inductive Act where
  /-- safe state is entered; with yield, head ownership is yielded when the Graft role is ACTIVE (R747, R750) -/
  | safe (c : Cause) (yield : Bool)
  /-- orderly pause (R175) -/
  | pausePrint
  /-- SPOIL_PAGE (R747) -/
  | spoilPage
deriving DecidableEq, Repr

/-- Safe state (R31 to R35, R752 to R756). -/
structure Safe where
  active : Bool
  /-- when the safe-request line rose; strobes later than 200 ns after it are held inactive (R32) -/
  rose : Nat
  causes : List Cause
  first : Option Cause
  entryTime : Nat
  entries : Nat
  /-- a SAFE_CLEAR was accepted and the DRAM retrains (R665, R756) -/
  clearing : Bool
  /-- OVERTEMP persists (R886), and each sensor's readings above 130 °C in a row -/
  hot : Bool
  hotReads : List Nat
deriving DecidableEq, Repr

/-- What the Understorey keeps (R760 to R764): the counters at the previous telemetry record (fire pulses, pages PRINTED
and SPOILED, DRAM words corrected), the pages PRINTED and SPOILED since reset, the ring of the last 3 600 records,
newest first, how many of them are not logged yet, the log entries of classes that became SEVERE since the last chunk,
the highest reading of a die sensor since reset with its sensor (3A10h.01, .03), the IEEE 1149.1 instruction in the TAP (R899): 0 BYPASS, 1 SAMPLE/PRELOAD, 2 EXTEST, 3 IDCODE, 4 CLAMP, 5 HIGHZ,
6 BOOT_CODE, 7 DEBUG_AUTH, 8 a debug read, 9 a debug write (log 147), and the boundary cells that hold a 1, ascending (R900). -/
structure Understorey where
  last : List Nat
  printed : Nat
  spoiled : Nat
  records : List (List Byte)
  unlogged : Nat
  severe : List LogEntry
  hottest : Option (Int × Nat)
  tap : Nat
  cells : List Nat
deriving DecidableEq, Repr

end Sys2Proof.Machine
end

