-- ==== Sys2Proof/Machine/JobTypes.lean ====
section
/-! DEFINITION. The state of the job sets, the pages and the page link (spec/05, spec/06), and of the composed
lines (spec/07). Whole web lines are natural numbers; positions in 48.16 are named so. -/

namespace Sys2Proof.Machine

/-- A placement of a page object (*Placement*, R299). -/
structure Placement where
  x : Nat
  y : Nat
  width : Nat
  height : Nat
  stride : Nat
  format : Nat
  planes : Nat
  blend : Nat
  opacity : Nat
  sampling : Nat
  tint : List Nat
  /-- every reserved byte of the entry is 0 -/
  clean : Bool
deriving DecidableEq, Repr

/-- An object of a page: its number, its size, its placement, and the bytes received so far, by offset. -/
structure PageObj where
  num : Nat
  size : Nat
  place : Placement
  data : List (Nat × Byte)
deriving DecidableEq, Repr

/-- The causes of a SPOILED page, in the order of R39. -/
inductive SpoilCause where
  | fault | takeover | interlock | overspeed | reverseGap | ingestLate
deriving DecidableEq, Repr

/-- What spoiled a page: the first page line that each cause affected, and the lines affected on each row
(R37 to R39). -/
structure Spoil where
  marks : List (SpoilCause × Nat)
  /-- lines counted on each row, by 6 × s + p (R37) -/
  rows : List (Nat × Nat)
deriving DecidableEq, Repr

/-- A page that was taken (R264 to R281). -/
structure Page where
  seq : Nat
  length : Nat
  useBg : Bool
  bgLine : Nat
  tag : Nat
  /-- the bytes of its descriptor, kept for R261 -/
  desc : List Byte
  objs : List PageObj
  /-- the start position in whole lines, once accepted -/
  start : Option Nat
  stored : Bool
  /-- it is a test page: PATTERN, ROWS, LEVEL and FLAGS (R360) -/
  test : Option (Nat × Nat × Nat × Nat)
  spoil : Spoil
  /-- lines composed so far, lines fired on some row -/
  composed : Nat
  fired : Bool
  /-- its reservation has been freed (R275) -/
  freed : Bool
  /-- its outcome is final: 2 PRINTED, 3 SPOILED -/
  outcome : Option Nat
  /-- MIRROR_TIMEOUT passed before the partner had it (R285) -/
  unmirrored : Bool
deriving DecidableEq, Repr

/-- A job set (R203): its RWS objects that differ from their defaults, its DOM objects, the planes of its
background as received, its pages in order, and where it stands. -/
structure JobSet where
  vals : List (Nat × Nat)
  doms : List (Nat × Dom)
  planes : List (Nat × List (Nat × Byte))
  pages : List Page
  lastSeq : Nat
  /-- the page queue was closed by arming (R223) -/
  closed : Bool
  start : Nat
  /-- the first accepted page has its start from S (R215) -/
  begun : Bool
  /-- MIRROR_TIMEOUT passed before the partner had its background (R285) -/
  bgUnmirrored : Bool
deriving DecidableEq, Repr

/-- The shadow set states (*Set states*, R209). -/
inductive SetState where
  | empty | building | planning | committed | armed | latched | retiring
deriving DecidableEq, Repr

/-- The reservations of the plan in effect (R219, R220): delay-line lines of each row, reference lines. -/
structure Reserved where
  rows : List Nat
  refLines : Nat
deriving DecidableEq, Repr

/-- The job sequencer. -/
structure Jobs where
  active : Option JobSet
  shadow : JobSet
  state : SetState
  /-- B in whole lines, while one is armed, latched or passing -/
  boundary : Option Nat
  armStart : Nat
  swap : Nat
  /-- the (segment, row) pairs that have switched, and the cameras -/
  rowsDone : List (Nat × Nat)
  camsDone : List Nat
  reserved : Option Reserved
deriving DecidableEq, Repr

/-- A page descriptor that is not complete (R264, R260). -/
structure DescRx where
  job : Nat
  page : Nat
  data : List (Nat × Byte)
deriving DecidableEq, Repr

/-- A STORED ACK that waits for the partner's MIRROR_ACK (R285). -/
structure AckWait where
  job : Nat
  page : Nat
  since : Nat
deriving DecidableEq, Repr

/-- A data packet that waits to be sent on the mirror bond (R251, R283): type, JOB_ID, PAGE_SEQ, OFFSET, OBJECT,
FLAGS, INFLATED, payload. -/
structure MirrorPacket where
  ty : Nat
  job : Nat
  page : Nat
  offset : Nat
  object : Nat
  flags : Nat
  inflated : Nat
  payload : List Byte
  /-- ingest credits that its sending frees -/
  cost : Nat
deriving DecidableEq, Repr

/-- The ingest link and its credits (R240 to R260). -/
structure Ingest where
  /-- 2 up, else down -/
  link : Nat
  width : Nat
  grade : Nat
  lanes : Nat
  /-- the next LINK_SEQ that the part sends -/
  txSeq : Nat
  expect : Nat
  limit : Nat
  spent : Nat
  consumed : Nat
  /-- credits freed since the last CREDIT, and when that was sent -/
  freed : Nat
  /-- credits freed that no CREDIT has granted, since credits are withdrawn -/
  held : Nat
  lastCredit : Nat
  /-- a gap: since its RESYNC, the latest LINK_SEQ discarded (R255) -/
  gap : Option Nat
  resyncs : List Nat
  /-- WITHDRAW was sent and not lifted -/
  withdrawn : Bool
  descs : List DescRx
  acks : List AckWait
deriving DecidableEq, Repr

/-- The mirror bond (R283 to R286, R256). -/
structure Mirror where
  link : Nat
  width : Nat
  /-- the grade of its lanes, and the lanes as a mask (R240, R245) -/
  grade : Nat
  lanes : Nat
  /-- the next LINK_SEQ, the partner's CREDIT_LIMIT, the credits spent -/
  txSeq : Nat
  limit : Nat
  spent : Nat
  backlog : List MirrorPacket
  /-- packets sent and not known to be consumed, with their LINK_SEQ, oldest first -/
  sent : List (Nat × MirrorPacket)
  /-- packets that a RESYNC asked for and that wait for credits, with their LINK_SEQ, oldest first -/
  again : List (Nat × MirrorPacket)
  /-- receiving side of a standby part: expected LINK_SEQ, a gap as on the ingest bond, credits granted, spent and freed
  since the last CREDIT -/
  expect : Nat
  gap : Option Nat
  /-- the moments of its RESYNCs within the last 10 ms (R258) -/
  resyncs : List Nat
  granted : Nat
  used : Nat
  freed : Nat
  lastCredit : Nat
deriving DecidableEq, Repr

/-- What a row of a composed line holds (R313, R323): the level of each segment's nozzle that is not 0, keyed by
segment × 3 456 + nozzle, or the SKIP marker. -/
inductive RowLine where
  | skip
  | levels (xs : List (Nat × Nat))
deriving DecidableEq, Repr

/-- A composed web line that belongs to a page: its web line, the job and page that own it, its page line and its
six rows. A web line that is not kept is blank (R294). -/
structure Composed where
  line : Nat
  job : Nat
  page : Nat
  pageLine : Nat
  rows : List RowLine
  /-- its composition began at a speed above COMPOSE_RATE_MAX, so that it may come late (R291, R431) -/
  hurried : Bool
deriving DecidableEq, Repr

/-- A line of the reference store (R598): 13 344 pixels of each plane at web line 4 × index, those that are not 0
keyed by plane × 13 344 + pixel. -/
structure RefLine where
  index : Nat
  job : Nat
  page : Nat
  pixels : List (Nat × Nat)
deriving DecidableEq, Repr

/-- The composition stage: the next web line to compose, the lines that wait in the delay lines, and the reference
store. -/
structure Compose where
  /-- pages from this web line on are held: set outside RUN, none in RUN (R173, R176) -/
  hold : Option Nat
  next : Nat
  lines : List Composed
  refs : List RefLine
  /-- the sums of stage 1 over the up to four lines of the reference line under way -/
  partialRef : List (Nat × Nat)
  /-- the reference line that partialRef belongs to -/
  partialOf : Nat
deriving DecidableEq, Repr

end Sys2Proof.Machine
end

