-- ==== Sys2Proof/Machine/CanopyTypes.lean ====
section
/-! DEFINITION. The state of the camera pipelines (spec/13), of the comparator and its loops (spec/14) and of the display
outputs (spec/22). -/

namespace Sys2Proof.Machine

/-- A settings change in flight (R570 to R576): its generation, its values, whether it is the swap's, the frame F of the
trigger at which its script started, whether a trigger or frame start came before the script completed, and its effect
frame once it is written. -/
structure Gen where
  no : Nat
  exposure : Nat
  gain : Nat
  strobe : Nat
  swap : Bool
  started : Option Nat
  late : Bool
  effect : Option Nat
deriving DecidableEq, Repr

/-- A pending trigger (R563): its position in 48.16 lines, its TB_CAM time, its moment, and the set whose parameters its frame
carries (R229). -/
structure Trigger where
  pos : Nat
  tb : Nat
  since : Nat
  set : JobSet
deriving DecidableEq, Repr

/-- What *Frame record* says of a frame, but what the stream adds. -/
structure FrameInfo where
  no : Nat
  tag : Nat
  flags : Nat
  pos : Nat
  tb : Nat
  lines : Nat
  job : Nat
  exposure : Nat
  gain : Nat
  strobe : Nat
deriving DecidableEq, Repr

/-- The mapping that a frame was taken under (R600, R601): MAP_X0, MAP_DX, MAP_Y0, MAP_DY. -/
structure CamMap where
  x0 : Int
  dx : Nat
  y0 : Int
  dy : Int
deriving DecidableEq, Repr

/-- The frame that a pipeline is receiving: its record, the set whose parameters it carries, its mapping, the lines so
far, the lines with a failed CRC, and its start. -/
structure CamFrame where
  info : FrameInfo
  set : JobSet
  map : CamMap
  lines : List (List Nat)
  errors : List Nat
  since : Nat
deriving DecidableEq, Repr

/-- A frame of an output stream (R587 to R590): the stream, its SINK, whether a snapshot was asked of it, when its writing
is complete, and its pixels, the channels of its mask interleaved. -/
structure StreamFrame where
  stream : Nat
  sink : Nat
  snap : Bool
  finish : Nat
  info : FrameInfo
  set : JobSet
  map : CamMap
  width : Nat
  height : Nat
  mask : Nat
  depth : Nat
  pixels : List Nat
  /-- when the frame's last line arrived (R599) -/
  arrived : Nat
deriving DecidableEq, Repr

/-- One camera pipeline. -/
structure Cam where
  pending : List Trigger
  /-- number of the frame of the latest pending or paired trigger (R567) -/
  lastFrame : Nat
  frame : Option CamFrame
  /-- changes in flight, in order of admission -/
  gens : List Gen
  /-- the generation in effect, and the latest applied; none: the values of the active set -/
  cur : Option Gen
  applied : Option Gen
  /-- frames still to be EXCLUDED (R565) -/
  exclude : Nat
  /-- streams of which a snapshot is asked -/
  snaps : List Nat
  /-- B + d_cam of the latest boundary that latched, and the generation of its swap change -/
  swapAt : Option Nat
  swapGen : Option Nat
  /-- stream frames that are being written; the end of the pipeline's last write -/
  outs : List StreamFrame
  busy : Nat
  /-- comparator frames that wait, oldest first -/
  compare : List StreamFrame
  /-- the latest complete frame of the stream with SINK 2 (R862) -/
  preview : Option StreamFrame
  /-- when the strobe pulse that runs, or the last, ends (R31, R567) -/
  strobeEnd : Nat
deriving DecidableEq, Repr

/-! ### The comparator -/

/-- The page lines of a page whose composition has begun, as the comparator needs them (R596, R606, R608): the page, the
set that composed it without its content, and its final outcome. -/
structure Span where
  job : Nat
  page : Nat
  start : Nat
  length : Nat
  test : Bool
  set : JobSet
  outcome : Option Nat
deriving DecidableEq, Repr

/-- A change of the alignment objects, with the value before it: an item (of so many bytes) of X_SHIFT, STITCH_POS or
ROW_POS, or a nozzle entry. The lines from `line` on are composed after it. -/
inductive AlignChange where
  | item (line key width i old : Nat)
  | entry (line seg row nozzle old : Nat)
  /-- the row of this key adopted its ROW_POS with this line (R356 to R358) -/
  | adopted (line key : Nat)
deriving DecidableEq, Repr

/-- A streak in one frame (R610 to R612): row and nozzle when attributed, centre column, S, and the lines it spans. -/
structure Streak where
  camera : Nat
  row : Option Nat
  nozzle : Option (Nat × Nat)
  column : Nat
  value : Int
  dead : Bool
  frame : Nat
  tb : Nat
  first : Nat
  last : Nat
deriving DecidableEq, Repr

/-- A spot (R613): its peak residual, its columns and web lines. -/
structure Spot where
  camera : Nat
  value : Int
  column : Nat
  columns : Nat
  tb : Nat
  first : Nat
  last : Nat
deriving DecidableEq, Repr

/-- The lines of one row that a frame compared, per stream column: web lines of the frame lines whose predicted darkness
lies in DENS_LO to DENS_HI (R614), with the mapping that tells a column's stream column. -/
structure Coverage where
  row : Nat
  x0 : Int
  dx : Nat
  columns : List (Nat × List Nat)
deriving DecidableEq, Repr

/-- What one frame found on one page. -/
structure FrameFindings where
  job : Nat
  page : Nat
  camera : Nat
  coverage : List Coverage
  streaks : List Streak
  spots : List Spot
  /-- density sums per row key: observed, predicted, pixels (R620) -/
  density : List (Nat × Int × Int × Nat)
  /-- register errors per row key: along-web in 1/2²⁰ line, cross-web in 1/2²⁰ column (R625) -/
  register : List (Nat × Int × Int)
  tb : Nat
  first : Nat
  last : Nat
deriving DecidableEq, Repr

/-- An entry of the suspicion table (R615 to R618): the nozzle, its last observations (0 miss, 1 WEAK hit, 2 DEAD hit),
newest first, whether the latest hit was LIGHT, and the recovery count of a WEAK nozzle. -/
structure Suspect where
  seg : Nat
  row : Nat
  nozzle : Nat
  history : List Nat
  light : Bool
  recover : Option Nat
deriving DecidableEq, Repr

/-- A queued update (R628). -/
inductive LoopUpdate where
  /-- order 1: the nozzle goes to a state -/
  | state (seg row nozzle st : Nat)
  /-- order 2: the gain steps up (LIGHT) or down -/
  | gain (seg row nozzle : Nat) (up : Bool)
  /-- order 3: the density ratio of a row -/
  | density (seg row : Nat) (rho : Int)
  /-- order 4: mean along-web error in PU, mean cross-web error in whole dots -/
  | register (seg row : Nat) (along dots : Int)
deriving DecidableEq, Repr

/-- The counts of the loops for one row: the web line from which a page counts for the density loop again, and the
register errors of the consecutive committed pages outside a deadband. -/
structure LoopRow where
  densityFrom : Nat
  errors : List (Int × Int)
deriving DecidableEq, Repr

/-- The comparator and its loops. -/
structure Inspect where
  spans : List Span
  /-- alignment changes, newest first -/
  changes : List AlignChange
  found : List FrameFindings
  suspects : List Suspect
  queue : List LoopUpdate
  rows : List LoopRow
deriving DecidableEq, Repr

/-! ### The displays -/

/-- The timing of an output, subindices 01h to 0Bh of DISP_TIMING_x. -/
structure DispTiming where
  enable : Bool
  clock : Nat
  hactive : Nat
  hblank : List Nat
  vactive : Nat
  vfp : Nat
  vsync : Nat
  vbp : Nat
  flags : Nat
deriving DecidableEq, Repr

/-- A display output (R857 to R870): the timing in effect and the one that waits for the frame's end, the frame shown,
the graphics shown, frames that started without a change, whether the present porch is lengthened, and when the present frame
started. -/
structure Disp where
  running : Bool
  timing : DispTiming
  next : Option DispTiming
  preview : Option StreamFrame
  graphics : List Byte
  /-- a graphics write that waits for the frame start -/
  waiting : Option (List Byte)
  still : Nat
  reduced : Bool
  frameStart : Option Nat
deriving DecidableEq, Repr

end Sys2Proof.Machine
end

