-- ==== Sys2Proof/Machine/HostTypes.lean ====
section
/-! DEFINITION. The state of the TDP server and of the network address (spec/02): the live challenge, the open
session with its sequence window, its staged values, its transfer and its notices. -/

namespace Sys2Proof.Machine

/-- The live challenge (R54 to R58, R64, R65). Times are in ps. -/
structure Challenge where
  hostNonce : List Byte
  partNonce : List Byte
  sid : Nat
  issued : Nat
  addr : Nat
  /-- it was issued while a session was open (R64) -/
  preempts : Bool
  /-- the source address equalled that of the open session (R65) -/
  sameAddr : Bool
deriving DecidableEq, Repr

/-- A request held ahead of a SEQ gap (R68): its opcode and its frame. -/
structure Held where
  opcode : Nat
  frame : Frame
deriving DecidableEq, Repr

/-- A response kept for repetition (R68): opcode, SEQ, STATUS and BODY. -/
structure Answer where
  opcode : Nat
  seq : Nat
  status : Nat
  body : List Byte
deriving DecidableEq, Repr

/-- The values staged in one record (R77 to R82): the time of the first staged write and the staged values. -/
structure Stage where
  index : Nat
  since : Nat
  vals : List (Nat × Nat)
deriving DecidableEq, Repr

/-- The unfinished WRITE_SEG of the session (R85 to R88). -/
structure Transfer where
  index : Nat
  total : Nat
  data : List Byte
deriving DecidableEq, Repr

/-- A notice (*Notice body*, R92) but its LOST field. -/
structure Notice where
  kind : Nat
  block : Nat
  code : Nat
  timeNs : Nat
  timeFrac : Nat
  index : Nat
  sub : Nat
  data : List Byte
deriving DecidableEq, Repr

/-- A notice that was sent and is not yet acknowledged (R93 to R95). -/
structure SentNotice where
  seq : Nat
  notice : Notice
  lost : Nat
  sendings : Nat
  last : Nat
deriving DecidableEq, Repr

/-- The open session. -/
structure Session where
  sid : Nat
  addr : Nat
  port : Nat
  key : List Byte
  leaseEnd : Nat
  expected : Nat
  held : List Held
  cache : List Answer
  stages : List Stage
  transfer : Option Transfer
  notices : List Notice
  sent : List SentNotice
  noticeSeq : Nat
  charged : Nat
  /-- the OWNER_KEY written in this session (R165) -/
  newKey : Option (List Byte)
deriving DecidableEq, Repr

/-- The state of the TDP server. -/
structure Tdp where
  challenge : Option Challenge
  session : Option Session
  /-- times of the AUTH_FAILED answers of the last 10 s (R60) -/
  authFails : List Nat
  authLockUntil : Nat
  /-- times of the sessionless requests and of the QUOTE requests answered in the last second (R53) -/
  sessionless : List Nat
  quotes : List Nat
deriving DecidableEq, Repr

/-- The search for an IPv4 address (R42 to R45). -/
structure Net where
  linkUp : Bool
  speed : Nat
  addr : Nat
  mask : Nat
  gateway : Nat
  /-- 0 static, 1 DHCPv4, 2 link-local, 3 none (1111h.04) -/
  source : Nat
  leaseEnd : Nat
  /-- the S that the next probe uses, and the probes made (R43, R44) -/
  linkLocalS : Nat
  probing : Bool
  conflicts : Nat
  /-- when address acquisition began, all 16 attempts had conflicted, or DHCPv4 discovery was last repeated -/
  since : Nat
deriving DecidableEq, Repr

end Sys2Proof.Machine
end

