-- ==== Sys2Proof/Machine/Out.lean ====
section
/-! DEFINITION. What the part sends and drives: the record of the latest command's outputs. -/

namespace Sys2Proof.Machine

/-- What ENCO_A and ENCO_B carry: high impedance with their pull-down, two levels, or the balls ENC_A and ENC_B (1) or STEP_IN
and STEP_DIR (2), ahead of the filter and 15 ns ± 5 ns later (R418). -/
inductive Enco where
  | off
  | levels (a b : Bool)
  | follows (source : Nat)
deriving DecidableEq, Repr

/-- One thing that the part sends or drives. -/
inductive Out where
  /-- a UDP datagram from port 29170 to an IPv4 address and port (R41, R46) -/
  | datagram (addr port : Nat) (bytes : List Byte)
  /-- ARP packets for an IPv4 address: 0 the three probes of RFC 3927, 1 its two announcements, 2 a reply (R44, R183) -/
  | arp (kind addr : Nat)
  /-- a DHCPv4 discovery under a MAC address (R42, R45) -/
  | dhcpDiscover (mac : Nat)
  /-- a TPL packet on the ingest bond (bond 0) or the mirror bond (bond 1), with every field of its header (R246); its bytes
  are those of packetBytes -/
  | tpl (bond : Nat) (p : TplPacket)
  /-- the bytes of a THL packet on head lane seg, from TYPE to CRC (R476) -/
  | thl (seg : Nat) (bytes : List Byte)
  /-- idle words on head lane seg, and the payload of the last of them (R468) -/
  | idle (seg word : Nat)
  /-- a pulse on FIRE_P/FIRE_N[seg] for a row: fire or void, its rising edge at the ball in TB_FIRE 2⁻⁴⁰ ns, its
  width in ns (R435) -/
  | strobe (seg row : Nat) (fire : Bool) (edge width : Nat)
  /-- CMPk goes to a level at an instant in ps (R413, R20) -/
  | cmp (k : Nat) (level : Bool) (edge : Nat)
  /-- what ENCO_A and ENCO_B carry from now on (R418) -/
  | repeater (e : Enco)
  /-- a lane control word on lane n (R528) -/
  | laneWord (n word : Nat)
  /-- lane n sends G0 idle blocks (1), training frames (2), idle blocks under FEC (3), or goes to electrical idle (0), with its
  transmitter inverted or not (R551) -/
  | laneSends (n what : Nat) (inverted : Bool)
  /-- the camera strobe of pipeline k pulses for so many ns (R567); 0 switches it off (R31) -/
  | camStrobe (k width : Nat)
  /-- a section of a CCI script starts: pipeline, section, and its entries: OP, DEV, REG and the value written, waited for or
  checked (R560, R561) -/
  | cciScript (k sect : Nat) (entries : List (Nat × Nat × Nat × Nat))
  /-- a PTP message: 1 Delay_Req, 2 Pdelay_Req, 3 Pdelay_Resp, 4 Pdelay_Resp_Follow_Up; its sequenceId and timestamp
  in 1/65 536 ns (R719) -/
  | ptp (ty seq : Nat) (stamp : Int)
  /-- axis a steps one microstep (R805) -/
  | microstep (a : Nat) (up : Bool)
  /-- the gates of a phase (0 A, 1 B) of axis a that are on from an instant in ps: high side 1, low side 1, high side 2, low side
  2 (R802, R803) -/
  | gates (a p : Nat) (on : List Bool) (instant : Nat)
  /-- an active line of display output x from its first active pixel on: the 28 slots of each pixel clock, pair p slot k at bit
  7 p + k (R858, R861, R867) -/
  | display (x line : Nat) (words : List Nat)
  /-- lines of display output x outside the active area: their number, and the slots of one (R858, R868) -/
  | displayBlank (x lines : Nat) (words : List Nat)
  /-- the pairs of display output x are driven, or at high impedance (R859) -/
  | displayPairs (x : Nat) (driven : Bool)
  /-- SUPPLY_EN, GRAFT_YIELD_OUT or GRAFT_HB_OUT goes to a level -/
  | pin (name : String) (level : Bool)
  /-- every ball of a signal goes to high impedance, or is released (R874) -/
  | released (name : String)
  /-- a ball goes to a level at an instant in ps (R875) -/
  | level (name : String) (high : Bool) (instant : Nat)
  /-- the TAP shifts out a data register -/
  | tap (bits : Nat) (value : Nat)
  /-- the TAP shifts out the boundary register, whose cells of these numbers captured a 1 (R900) -/
  | scan (high : List Nat)
  /-- the balls with driving cells leave their function: the cells of these numbers drive high and the others low, or all
  stand at high impedance (R901) -/
  | balls (high : Option (List Nat))
deriving DecidableEq, Repr

end Sys2Proof.Machine
end

