-- ==== Sys2Proof/Machine/PressTypes.lean ====
section
/-! DEFINITION. The state of the web position, the compare units, the firing stage, the head modules and the
serial lanes (spec/09 to spec/12), and of the nozzle upkeep (spec/08). Moments are in ps; TB_FIRE values in
2⁻⁴⁰ ns; exact web positions in 2⁻³² lines. -/

namespace Sys2Proof.Machine

/-- A compare unit (R410 to R417): the number of matches taken so far, and when its pulse ends. -/
structure CompareUnit where
  taken : Nat
  pulseEnd : Option Nat
  /-- the level of the ball that the unit drives; none at high impedance (R791) -/
  level : Option Bool
deriving DecidableEq, Repr

/-- The web position (R379 to R409). -/
structure Web where
  /-- position and high-water mark in 2⁻³² lines -/
  pos : Nat
  hwm : Nat
  reverse : Bool
  valid : Bool
  /-- accepted levels of ENC_A and ENC_B (R374) -/
  a : Bool
  b : Bool
  encCount : Int
  stepCount : Int
  /-- one count against the direction was absorbed (R388) -/
  slack : Bool
  /-- the hold count, while the position is held at 0 (R385) -/
  hold : Option Int
  /-- moments of the edges of the present run, newest first, at most 65 (R392) -/
  run : List Nat
  /-- the virtual web's actual speed in 1/(256 × 10⁹) line/s, and the part of its advance below 2⁻³² lines -/
  virtual : Nat
  rest : Nat
  /-- C_ref; none until the first index (R400) -/
  cRef : Option Int
  /-- a correction under way: counts left, and what is left of it in 2⁻³² lines (R402) -/
  fixLeft : Nat
  fixRest : Int
  fixStep : Int
  /-- start of the cross-check window: position, encoder count, step count (R405) -/
  winPos : Nat
  winEnc : Int
  winStep : Int
  /-- the repeater's output count and its last edge (R419) -/
  repCount : Int
  repEdge : Nat
  /-- what ENCO_A and ENCO_B carry -/
  enco : Enco
  units : List CompareUnit
  /-- an OVERSPEED_WARN notice was sent and the speed has not fallen again (R451) -/
  warned : Bool
  /-- the present reversal has already spoiled (R453) -/
  spoiled : Bool
deriving DecidableEq, Repr

/-- Why a fire line gets a void pulse from its assembly on (R436). -/
inductive VoidReason where
  /-- R430 (0102h), R431 (0101h), R480 (0310h) or a stop of DRAM or SPOIL_PAGE (0): the event code that goes with it -/
  | fault (code : Nat)
  /-- the data carries a SKIP marker -/
  | skip
deriving DecidableEq, Repr

/-- A page line that a fire line carries: the job and page, and the least page line. -/
structure Owner where
  job : Nat
  page : Nat
  line : Nat
deriving DecidableEq, Repr

/-- An assembled fire line (R424): its position, the levels that are not 0 by nozzle, whether it is void, the pages
that own its composed lines, the slot and table it names, and whether it was sent to the head module. -/
structure FireLine where
  w : Nat
  levels : List (Nat × Nat)
  void : Option VoidReason
  owners : List Owner
  slot : Nat
  pwId : Nat
  sent : Bool
deriving DecidableEq, Repr

/-- A placed fire instant (R432). -/
structure Placed where
  w : Nat
  target : Nat
  /-- v was 0 at the crossing -/
  still : Bool
  /-- the strobe trim in effect for it, ps (R835) -/
  trim : Nat
deriving DecidableEq, Repr

/-- A line that was fired and whose passing STATUS has not confirmed yet (R498). -/
structure Unconfirmed where
  row : Nat
  w : Nat
  time : Nat
  owners : List Owner
deriving DecidableEq, Repr

/-- One row of one segment. -/
structure RowState where
  /-- position D in effect, PU (R351) -/
  eff : Nat
  /-- the pending position and the line that composition had reached when it was written -/
  pending : Option (Nat × Nat)
  /-- an adoption fixed at assembly: the fire position from which the new D holds -/
  adopt : Option (Nat × Nat)
  /-- the lines that have moved from its coarse delay line into its line FIFO, and those in its fine delay store, each from a
  first line up to one that is not in it (R428, R429) -/
  fifo : Nat × Nat
  fineStore : Nat × Nat
  lines : List FireLine
  placed : List Placed
  /-- position of the row's last pulse (R495), target of its last fire pulse (R448) -/
  lastW : Option Nat
  lastTarget : Option Nat
  /-- effective widths of levels 1 to 3 (R442), and the table ID that holds them (R482) -/
  pw : List Nat
  pwId : Nat
  pwSent : Bool
  /-- slot that the row's lines name (R486) -/
  slot : Nat
  /-- its lines are assembled under the incoming set of the boundary that passes (R444) -/
  swapped : Bool
deriving DecidableEq, Repr

/-- An interlock input (R454 to R457): the accepted level, none before the first acceptance, and whether a trip is
latched. -/
structure Interlock where
  level : Option Bool
  latched : Bool
  /-- the moment of boot step 10, or of the latest level accepted: a level is accepted after FILTER samples (R454) -/
  since : Nat
deriving DecidableEq, Repr

/-- The firing stage. -/
structure Fire where
  rows : List RowState
  /-- earliest next rising edge of each segment, as TB_FIRE instant (R437) -/
  free : List Nat
  /-- crossings that the fire comparator has not seen: position, SPEED, moment -/
  crossings : List (Nat × Int × Nat)
  /-- next fire position to assemble -/
  nextAsm : Nat
  /-- last position that the comparator saw -/
  seen : Option Nat
  /-- first position that the rows fire again (R382, R788) -/
  resume : Nat
  interlocks : List Interlock
  /-- the strobe trims in effect, ps (R835) -/
  trims : List Nat
  /-- the fire lines of the first position that the comparator sees next are void (R747, R664) -/
  voidNext : Bool
  /-- pulses placed before the web turned back wait for the next position that the comparator sees (R452) -/
  held : Bool
deriving DecidableEq, Repr

/-- A command sent to a head module (R487, R488): its CMD, TAG, arguments, sendings, last sending; a USER_AREA
request that awaits it. -/
structure HeadCommand where
  cmd : Nat
  tag : Nat
  args : List Byte
  sendings : Nat
  last : Nat
deriving DecidableEq, Repr

/-- A packet kept for retransmission (R507). -/
structure SentPacket where
  seq : Nat
  ty : Nat
  row : Nat
  flags : Nat
  pwId : Nat
  firePos : Nat
  payload : List Byte
  /-- further sendings made; moment of the first -/
  again : Nat
  since : Nat
deriving DecidableEq, Repr

/-- A request of the host on USER_AREA_s that awaits the head module's RESPONSE (R515): the session, the command's TAG,
the opcode, the SEQ, the bytes written, and for a READ_SEG its offset and length. -/
structure UserRequest where
  sid : Nat
  tag : Nat
  opcode : Nat
  seq : Nat
  data : List Byte
  offset : Nat
  length : Nat
deriving DecidableEq, Repr

/-- One head module and its link (R476 to R518). -/
structure Head where
  /-- 0 down, 1 training, 2 identity, 3 READY, 4 rejected -/
  link : Nat
  ownerState : Nat
  flags : Nat
  voltage : Nat
  temps : List Int
  /-- moment of the latest STATUS; none since reset -/
  reported : Option Nat
  stale : List Bool
  /-- ROWS_FITTED and ROW_DIE and MIN_PERIOD of the accepted identity (R513) -/
  rowsFitted : Nat
  rowDie : List Nat
  minPeriod : List Nat
  maxGrade : Nat
  serial : Nat
  txSeq : Nat
  nextTag : Nat
  /-- the part asserts OWNER -/
  claimed : Bool
  /-- a FLUSH was sent since READY, ownership and the last break in the positions (R495) -/
  flushed : Bool
  commands : List HeadCommand
  sent : List SentPacket
  /-- SEQ of the events counted, each with its moment, until their second copy (R502) -/
  events : List (Nat × Nat)
  /-- LINES_NOT_DRIVEN of the last STATUS, LINE_NOT_DRIVEN events since it -/
  notDriven : Nat
  ndEvents : Nat
  unconfirmed : List Unconfirmed
  user : List UserRequest
  /-- IDLE_SEQ of the next idle word (*Idle word*) -/
  idleSeq : Nat
  /-- the module reports a contention (R472, R793) -/
  contention : Bool
deriving DecidableEq, Repr

/-- The equaliser state that a lane keeps (R546). -/
structure EqState where
  grade : Nat
  peer : Nat
  temp : Int
  since : Nat
  /-- transmitter taps: pre, main, post -/
  taps : Int × Int × Int
deriving DecidableEq, Repr

/-- A serial lane (R528 to R548). -/
structure Lane where
  /-- 0 DISABLED, 1 DETECT, 2 G0_LOCK, 3 UP, 4 NEGOTIATE, 5 TRAIN, 6 L1, 7 L2 -/
  state : Nat
  grade : Nat
  limit : Nat
  inverted : Bool
  entered : Nat
  /-- a step-up is held until UP (R542); an L1 or L2 entry is held, 0 none -/
  stepHeld : Bool
  lpHeld : Nat
  /-- the grade under negotiation or training -/
  proposed : Nat
  /-- words in a row whose PROPOSED_GRADE equals this end's, the last SWITCH_COUNT received (R533), the next WORD_SEQ -/
  matched : Nat
  count : Nat
  wordSeq : Nat
  /-- a low-power handshake: the level asked for and when it began (R543) -/
  lp : Option (Nat × Nat)
  peer : Nat
  eq : Option EqState
  /-- EQ_VALID of the peer and of this end at entry to L2 (R548) -/
  eqPeer : Bool
  eqOwn : Bool
  /-- transmitter taps in 1/64: pre, main, post (R536) -/
  pre : Int
  main : Int
  post : Int
  eyeLow : Bool
  /-- MAX_GRADE, RX_INVERT and TX_INVERT as the last entry to DETECT took them (R553) -/
  maxTaken : Nat
  rxMode : Nat
  txInvert : Bool
deriving DecidableEq, Repr

/-- Nozzle upkeep: fired drops below one unit of FIRE_COUNTS (R343) by segment × 20 736 + 3 456 p + n; the columns
found uncoverable by the last recompute, by row × 65 536 + column (R340); and what the test page concerns. -/
structure Nozzle where
  remainders : List (Nat × Nat)
  uncoverable : List Nat
  /-- the nozzle maps, X_SHIFT or STITCH_POS changed since the last recompute -/
  changed : Bool
  /-- the unfinished or last test page: PATTERN, ROWS, FLAGS -/
  test : Option (Nat × Nat × Nat)
  /-- composition of the test page has begun; an object that it concerns has been written since (R370) -/
  begun : Bool
  written : Bool
deriving DecidableEq, Repr

end Sys2Proof.Machine
end

