-- ==== Sys2Proof/Machine/TimeTypes.lean ====
section
/-! DEFINITION. The state of the time bases and of network time (spec/17). -/

namespace Sys2Proof.Machine

/-- A time base (R715): its value at a clock edge in units of 2⁻⁴⁰ ns, and that edge in ps. -/
structure TimeBase where
  val : Nat
  edge : Nat
deriving DecidableEq, Repr

/-- A two-step Sync that awaits its Follow_Up (R720, R721): t2 and correctionField in 1/65 536 ns. -/
structure HeldSync where
  seq : Nat
  t2 : Int
  corr : Int
  since : Nat
deriving DecidableEq, Repr

/-- A delay exchange that is not complete (R719, R724): its sequenceId, t3 (E2E) or t1 (P2P), and for P2P what the
Pdelay_Resp brought. -/
structure DelayExchange where
  seq : Nat
  sent : Int
  resp : Option (Int × Int × Int)
deriving DecidableEq, Repr

/-- A master that Announce messages show (R732), best rank least. -/
structure Master where
  port : Nat
  gm : Nat
  rank : List Nat
  interval : Nat
  heard : Nat
deriving DecidableEq, Repr

/-- The state of network time: the servo (R724 to R734) and the exchanges under way. Rates are in 1/65 536 ppb. -/
structure TimeState where
  ptp : TimeBase
  mono : TimeBase
  fire : TimeBase
  rate : Int
  fireRate : Int
  /-- 0 UNSYNCED, 1 ACQUIRING, 2 LOCKED, 3 HOLDOVER -/
  servo : Nat
  sum : Int
  inLock : Nat
  inLimit : Nat
  /-- the rates of the last 64 accepted Syncs, newest first -/
  rates : List Int
  offset : Option Int
  refused : Option Int
  stepNeeded : Bool
  pathDelay : Int
  /-- sequenceId of the last Sync accepted from each master (R721) -/
  lastSeqs : List (Nat × Nat)
  lastSync : Nat
  /-- t1 and t2 of the latest complete Sync -/
  sync : Option (Int × Int)
  held : List HeldSync
  exchange : Option DelayExchange
  nextSeq : Nat
  masters : List Master
  master : Option Nat
  /-- the fractions of TB_PTP, TB_MONO and TB_FIRE at the PTP cycle of the last READ of one of them (R737) -/
  fracs : List Nat
deriving DecidableEq, Repr

end Sys2Proof.Machine
end

