-- ==== Sys2Proof/Machine/UnitTypes.lean ====
section
/-! DEFINITION. The state of the memory controllers (spec/15), the data movers and compression engines (spec/16), the Graft
pair (spec/19), the bar axes (spec/20) and the calibration unit (spec/21), as far as it is not an object of the
dictionary. -/

namespace Sys2Proof.Machine

/-- One memory channel: the refresh debt of each bank index (R652), and the addresses corrected in the scrub pass under
way and in the one before it (R659). -/
structure DramChannel where
  debt : List Nat
  thisPass : List Nat
  lastPass : List Nat
deriving DecidableEq, Repr

/-- A host move (R692 to R708): the stream that its DEFLATE or INFLATE descriptors continue, what is written and consumed
of the descriptor under way, and the output of a suspended descriptor that is still to be written. -/
structure HostMove where
  /-- a descriptor was suspended OUT_OF_SPACE: where its output goes on, and the space there -/
  resume : Option (Nat × Nat)
  /-- inputs of the DEFLATE stream so far, each with its descriptor's FLAGS, the newest first -/
  deflating : List (Nat × List Byte)
  /-- input of the INFLATE stream so far, and the output bytes of earlier descriptors -/
  inflating : List Byte
  inflated : Nat
  /-- the channels that were frozen when the descriptor was fetched, a bit each (R663) -/
  barred : Nat
deriving DecidableEq, Repr

/-- The data movers and engines: the eight host moves, and the capture ring (R711), its bytes that are not 0. -/
structure Movers where
  moves : List HostMove
  ring : List (Nat × Byte)
deriving DecidableEq, Repr

/-- A ramp (R805): VSTART, A1, V1, AMAX, VMAX, DMAX, D1, VSTOP and REVERSE_DWELL. -/
structure Ramp where
  vstart : Nat
  a1 : Nat
  v1 : Nat
  amax : Nat
  vmax : Nat
  dmax : Nat
  d1 : Nat
  vstop : Nat
  dwell : Nat
deriving DecidableEq, Repr

/-- The legs of a homing (R820, R823): the search, the stop at the switch, the slow return, the stop behind the edge, and
the wait for the linked axis. -/
inductive HomePhase where
  | search | found | slow | edge | waiting
deriving DecidableEq, Repr

/-- What the coils of an axis do (R815, R819). -/
inductive Coil where
  | hold | off | short | run
deriving DecidableEq, Repr

/-- One phase of an axis at its bridge (R803, R815): the gates that are on (high side 1, low side 1, high side 2, low side 2), when
each was last turned off in ps, the gates that come on at the end of a dead time and that moment, and the drive (true) or decay
(false) that the chopper has begun, and when. -/
structure CoilPhase where
  on : List Bool
  offAt : List Nat
  next : Option (List Bool × Nat)
  stage : Option Bool
  since : Nat
deriving DecidableEq, Repr

/-- A bar axis. -/
structure Axis where
  /-- 0 DISABLED, 1 IDLE, 2 MOVING, 3 REVERSING, 4 STOPPING, 5 HOMING, 6 FAULT -/
  state : Nat
  /-- 1/256 step -/
  pos : Int
  /-- speed in 10⁻⁶ of 1/256 step/s, and the part of the next unit that is covered, in 10⁻¹² unit -/
  speed : Nat
  part : Nat
  up : Bool
  /-- target of the ramp, and the target in effect (*Motion objects*) -/
  goal : Int
  target : Int
  ramp : Ramp
  resolution : Nat
  phase : Option HomePhase
  /-- units travelled since homing began -/
  travelled : Nat
  /-- what LAST_RESULT reads once the ramp stop is complete -/
  ending : Nat
  /-- the stop of a reversal is complete: the dwell runs since this moment -/
  dwellSince : Option Nat
  /-- when the last move ended, until STANDSTILL_MODE is taken -/
  endedAt : Option Nat
  coil : Coil
  /-- bits of FLAGS -/
  flags : Nat
  lastResult : Nat
  /-- FLAGS bit 0, and what SAFE_MODE or STANDSTILL_MODE the coil takes at the end of a ramp stop -/
  safeStop : Bool
  currentA : Int
  currentB : Int
  offsetA : Int
  offsetB : Int
  /-- electrical angle in 1/1024 of its cycle: at the position, and at the last microstep -/
  angle : Nat
  coilAngle : Nat
  /-- phases A and B -/
  coils : List CoilPhase
  /-- codes of the threshold DACs: upper and lower of phase A, then of phase B (R832) -/
  dacs : List Nat
deriving DecidableEq, Repr

/-- A coefficient that slews (R847): item, the pair in effect at acceptance, the accepted pair, ms passed, and
CAL_SLEW_TIME at acceptance. -/
structure Slew where
  item : Nat
  from0 : Int
  from1 : Int
  to0 : Int
  to1 : Int
  ms : Nat
  span : Nat
deriving DecidableEq, Repr

/-- The calibration unit: results of the first pass, the pending trigger, the start of the present pass or the entry to HOLDOFF,
the slews, the start of the last accepted run (R850). -/
structure Cal where
  first : List (Option (Int × Int))
  pending : Bool
  since : Nat
  slews : List Slew
  /-- a run has been accepted since reset, so that REF_TEMPS holds its readings -/
  referenced : Bool
  /-- readings at the start of the present run -/
  startTemps : List Int
  /-- bins of the time-to-digital converter in one FIRE cycle, as the last pass measured them; 0 before any (R839) -/
  bins : Nat
  /-- fire pulses of each strobe output within 400 ms of the pass start (R842) -/
  edges : List Nat
  /-- the coefficients of channel 8, and CAL_REF_VALUE, at the start of the pass (R838) -/
  refCoeff : Int × Int
  refValue : Nat
deriving DecidableEq, Repr

/-- What a part knows of its partner (R778). -/
structure Partner where
  nonce : List Byte
  serial : Nat
  capacity : Nat
  role : Nat
deriving DecidableEq, Repr

/-- The Graft pair (R767 to R799). -/
structure Graft where
  /-- 0 SOLO, 1 ACTIVE, 2 SYNC, 3 READY, 4 YIELDED -/
  state : Nat
  /-- GRAFT_ROLE as accepted, and a change to or from 00b that waits for PAUSE (R774) -/
  pins : Nat
  waiting : Option Nat
  /-- the part asserts OWNER in its idle words -/
  owner : Bool
  /-- GRAFT_YIELD_OUT is driven to its holding level -/
  holding : Bool
  /-- GRAFT_YIELD_IN reads yielding -/
  yieldIn : Bool
  heartbeat : Bool
  /-- the last toggle of GRAFT_HB -/
  beat : Nat
  /-- the mirror bond is up and forming runs since this moment; the next attempt after a refusal -/
  forming : Option Nat
  retryAt : Option Nat
  nonce : List Byte
  partner : Option Partner
  accepted : Bool
  failed : Nat
  paired : Bool
  /-- SYNC_POS of the snapshot sent or received, in whole lines; a mismatch since SYNC_MARK; the first POSITION record
  after the snapshot has re-seeded the position -/
  syncPos : Option Nat
  mismatch : Bool
  seeded : Bool
  /-- differing POSITION records in a row, the last record's moment, the next SEQ and the last sending -/
  differing : Nat
  heard : Nat
  seq : Nat
  sentAt : Nat
  /-- the last 1 024 source counts, newest first: count, position, high-water mark in 48.16 lines -/
  history : List (Int × Nat × Nat)
  /-- an armed boundary is a planned swap (R225) -/
  planned : Bool
  /-- after a takeover: the position from which lines go to the head modules, and the segments that still await
  OWNER_STATE 1 (R788) -/
  taking : Option Nat
  awaiting : List Nat
  /-- number of the last takeover record -/
  number : Nat
deriving DecidableEq, Repr

end Sys2Proof.Machine
end

