-- ==== Sys2Proof/Machine/Inits.lean ====
section
/-! DEFINITION. What each unit of the part holds right after reset (logs 2 and 3). -/

namespace Sys2Proof.Machine

/-- A row that has just been reset. -/
def RowState.init : RowState := ⟨0, none, none, (0, 0), (0, 0), [], [], none, none, [32000, 48000, 64000], 0, false, 0, false⟩

/-- A head module that has not come up since reset. -/
def Head.init : Head :=
  { link := 0, ownerState := 0, flags := 0, voltage := 0, temps := List.replicate 6 0, reported := none,
    stale := List.replicate 6 false, rowsFitted := 0, rowDie := List.replicate 6 0,
    minPeriod := List.replicate 6 0, maxGrade := 3, serial := 0, txSeq := 0, nextTag := 0, claimed := false,
    flushed := false, commands := [], sent := [], events := [], notDriven := 0, ndEvents := 0,
    unconfirmed := [], user := [], idleSeq := 0, contention := false }

/-- A lane after reset: DISABLED (R540). -/
def Lane.init : Lane :=
  { state := 0, grade := 0, limit := 0, inverted := false, entered := 0, stepHeld := false, lpHeld := 0,
    proposed := 0, matched := 0, count := 0, wordSeq := 0, lp := none, peer := 0,
    eq := none, eqPeer := false, eqOwn := false, pre := 0, main := 64, post := 0, eyeLow := false, maxTaken := 0,
    rxMode := 0, txInvert := false }

/-- A camera pipeline after reset. -/
def Cam.init : Cam :=
  { pending := [], lastFrame := 0, frame := none, gens := [], cur := none, applied := none, exclude := 0, snaps := [],
    swapAt := none, swapGen := none, outs := [], busy := 0, compare := [], preview := none, strobeEnd := 0 }

/-- The timing of a display output by its defaults (R857). -/
def DispTiming.init : DispTiming := ⟨false, 148500, 1920, [88, 44, 148], 1080, 4, 5, 36, 3⟩

/-- A display output after reset. -/
def Disp.init : Disp := ⟨false, .init, none, none, [], none, 0, false, none⟩

/-- A ramp of zeros. -/
def Ramp.init : Ramp := ⟨0, 0, 0, 0, 0, 0, 0, 0, 0⟩

/-- A phase with every gate off. -/
def CoilPhase.init : CoilPhase := ⟨List.replicate 4 false, List.replicate 4 0, none, none, 0⟩

/-- An axis after reset. -/
def Axis.init : Axis :=
  { state := 0, pos := 0, speed := 0, part := 0, up := true, goal := 0, target := 0, ramp := .init, resolution := 256
    phase := none, travelled := 0, ending := 0, dwellSince := none, endedAt := none, coil := .off, flags := 0
    lastResult := 0, safeStop := false, currentA := 0, currentB := 0, offsetA := 0, offsetB := 0
    angle := 0, coilAngle := 0, coils := List.replicate 2 .init, dacs := List.replicate 4 0 }

/-- A set whose objects all have their defaults and which holds nothing. -/
def JobSet.empty : JobSet :=
  { vals := [], doms := [], planes := [], pages := [], lastSeq := 0, closed := false, start := 0, begun := false
    bgUnmirrored := false }

/-- The loop counts of a row after reset. -/
def LoopRow.init : LoopRow := ⟨0, []⟩

/-- A host move after reset. -/
def HostMove.init : HostMove := ⟨none, [], [], 0, 0⟩

/-- A body without entries. -/
def Body.empty : Body := ⟨[], [], none, none, none, 0⟩

/-- A bank slot that was never programmed. -/
def BankSlot.erased : BankSlot :=
  { magic := false, headerCrc := false, bodyCrc := false, sequence := 0, length := 0, retired := 0, cause := 0, bootSlot := 0
    fwVersion := 0, cycles := 0, timeNs := 0, body := .empty, partly := false }

/-- The flash of a part to which nothing was written (log 3). -/
def Flash.blank : Flash :=
  { slotA := [], slotB := [], genA := 0, genB := 0, bank := List.replicate 8 .erased, badReads := List.replicate 8 0
    bootCount := 0, ring := [], ringNext := 0, chunkSeq := 0, erases := List.replicate 256 0, tapped := [] }

/-- No session and no challenge (R57). -/
def Tdp.init : Tdp :=
  { challenge := none, session := none, authFails := [], authLockUntil := 0, sessionless := [], quotes := [] }

/-- No link and no address (R914). -/
def Net.init : Net :=
  { linkUp := false, speed := 0, addr := 0, mask := 0, gateway := 0, source := 3, leaseEnd := 0, linkLocalS := 0
    probing := false, conflicts := 0, since := 0 }

/-- Nothing runs yet. -/
def Boot.init : Boot :=
  { phase := .dark, code := 0, cause := 0, slot := 0, fallback := 0, straps := 0, released := 0, bootTime := 0
    watchdogCount := 0, pendingReset := none, trained := [], railFallen := false, effect := [],
    pins := ⟨true, true, true, 0, false⟩ }

/-- No store runs, and no key is unsealed. -/
def Bank.init : Bank :=
  { job := none, pendingAuto := false, lastStore := none, recent := [], transition := none, current := none
    alternate := none, unsealResult := 0, programming := none, key := none, config := [] }

/-- PAUSE, in which boot ends (R109). -/
def Power.init : Power :=
  { state := 1, target := 0xff, pausing := false, since := 0, wakeHeld := none, entered := 0, timerAtEntry := 0, enableAt := 0 }

/-- Debug is CLOSED (R189). -/
def Debug.init : Debug := { level := 0, nonce := none, wrong := [], lockUntil := 0, failures := 0, fullEntries := 0 }

/-- No cause of safe state. -/
def Safe.init : Safe :=
  { active := false, rose := 0, causes := [], first := none, entryTime := 0, entries := 0, clearing := false, hot := false
    hotReads := List.replicate 8 0 }

/-- The time bases start at 0, and the servo is UNSYNCED. -/
def TimeState.init : TimeState :=
  { ptp := ⟨0, 0⟩, mono := ⟨0, 0⟩, fire := ⟨0, 0⟩, rate := 0, fireRate := 0, servo := 0, sum := 0, inLock := 0, inLimit := 0
    rates := [], offset := none, refused := none, stepNeeded := false, pathDelay := 0, lastSeqs := [], lastSync := 0
    sync := none, held := [], exchange := none, nextSeq := 0, masters := [], master := none
    fracs := [] }

/-- No active set, and an EMPTY shadow set (R109, R209). -/
def Jobs.init : Jobs :=
  { active := none, shadow := .empty, state := .empty, boundary := none, armStart := 0, swap := 0, rowsDone := []
    camsDone := [], reserved := none }

/-- The ingest link is down. -/
def Ingest.init : Ingest :=
  { link := 0, width := 0, grade := 0, lanes := 0, txSeq := 0, expect := 0, limit := 0, spent := 0, consumed := 0, freed := 0
    held := 0, lastCredit := 0, gap := none, resyncs := [], withdrawn := false, descs := [], acks := [] }

/-- The mirror bond is down. -/
def Mirror.init : Mirror :=
  { link := 0, width := 0, grade := 0, lanes := 0, txSeq := 0, limit := 0, spent := 0, backlog := [], sent := [], again := []
    expect := 0, gap := none, resyncs := [], granted := 0, used := 0, freed := 0, lastCredit := 0 }

/-- The web stands at 0 with its position not valid (R386). -/
def Web.init : Web :=
  { pos := 0, hwm := 0, reverse := false, valid := false, a := false, b := false, encCount := 0, stepCount := 0
    slack := false, hold := none, run := [], virtual := 0, rest := 0, cRef := none, fixLeft := 0, fixRest := 0, fixStep := 0
    winPos := 0, winEnc := 0, winStep := 0, repCount := 0, repEdge := 0, enco := .off, units := List.replicate 16 ⟨0, none, none⟩
    warned := false, spoiled := false }

/-- No line is assembled, and no interlock input has been accepted. -/
def Fire.init : Fire :=
  { rows := List.replicate 96 .init, free := List.replicate 16 0, crossings := [], nextAsm := 1, seen := none, resume := 1
    interlocks := List.replicate 4 ⟨none, false, 0⟩, trims := List.replicate 16 0, voidNext := false, held := false }

/-- SYNC without a partner, until boot reads GRAFT_ROLE; an unpowered partner reads as yielding (R767). -/
def Graft.init : Graft :=
  { state := 2, pins := 0, waiting := none, owner := false, holding := false, yieldIn := true, heartbeat := false, beat := 0
    forming := none, retryAt := none, nonce := [], partner := none, accepted := false, failed := 0, paired := false
    syncPos := none, mismatch := false, seeded := false, differing := 0, heard := 0, seq := 0, sentAt := 0, history := []
    planned := false, taking := none, awaiting := [], number := 0 }

end Sys2Proof.Machine
end

