-- ==== Sys2Proof/Machine/Objects.lean ====
section
/-! DEFINITION. The names of the objects (the object tables of spec/02 to spec/23): each is the key
index × 256 + subindex; k is the instance (k added to the index), j the place within a run of subindices. -/

namespace Sys2Proof.Machine.O

abbrev DEVICE_TYPE : Nat := 0x100000
abbrev DEVICE_NAME : Nat := 0x100800
abbrev VENDOR_ID : Nat := 0x101801
abbrev PRODUCT_CODE : Nat := 0x101802
abbrev STEPPING : Nat := 0x101803
abbrev FW_VERSION : Nat := 0x101804
abbrev SERIAL : Nat := 0x101805
abbrev MAC_ADDRESS : Nat := 0x101806
abbrev SESSION_STATE : Nat := 0x110001
abbrev SESSION_ID : Nat := 0x110002
abbrev HOST_ADDRESS : Nat := 0x110003
abbrev HOST_PORT : Nat := 0x110004
abbrev LEASE_LEFT : Nat := 0x110005
abbrev OPEN_COUNT : Nat := 0x110006
abbrev AUTH_FAIL_COUNT : Nat := 0x110007
abbrev LEASE_TIME : Nat := 0x110100
abbrev LEASE_LOSS_ACTION : Nat := 0x110200
abbrev ARBITER_KEY : Nat := 0x110300
abbrev REC_STAGE_TIMEOUT : Nat := 0x110400
abbrev NET_MODE : Nat := 0x111001
abbrev STATIC_ADDRESS : Nat := 0x111002
abbrev STATIC_MASK : Nat := 0x111003
abbrev STATIC_GATEWAY : Nat := 0x111004
abbrev DHCP_TIMEOUT : Nat := 0x111005
abbrev NET_STATUS_ADDRESS : Nat := 0x111101
abbrev NET_STATUS_MASK : Nat := 0x111102
abbrev NET_STATUS_GATEWAY : Nat := 0x111103
abbrev ADDRESS_SOURCE : Nat := 0x111104
abbrev LINK_SPEED : Nat := 0x111105
abbrev DHCP_LEASE_LEFT : Nat := 0x111106
abbrev NOTICE_MASK : Nat := 0x112000
abbrev NOTICES_LOST : Nat := 0x112200
abbrev FRAMES_RX : Nat := 0x113001
abbrev FRAMES_DISCARDED : Nat := 0x113002
abbrev TAG_FAILURES : Nat := 0x113003
abbrev OUT_OF_SEQUENCE : Nat := 0x113004
abbrev CACHED_ANSWERS : Nat := 0x113005
abbrev STORE : Nat := 0x120000
abbrev RESTORE_DEFAULTS : Nat := 0x120100
abbrev STORE_STATUS_STATE : Nat := 0x120201
abbrev STORE_STATUS_LAST_RESULT : Nat := 0x120202
abbrev STORE_SEQUENCE : Nat := 0x120203
abbrev LOADED_SLOT : Nat := 0x120204
abbrev STORE_RETIRED : Nat := 0x120205
abbrev STORES_SINCE_RESET : Nat := 0x120206
abbrev LAST_STORE_TIME : Nat := 0x120207
abbrev BODY_SIZE : Nat := 0x120208
abbrev SKIPPED_ENTRIES : Nat := 0x120209
abbrev SLOT_CYCLES : Nat := 0x12020a
abbrev RESET_CAUSE : Nat := 0x120301
abbrev BOOT_CODE : Nat := 0x120302
abbrev BOOT_SLOT : Nat := 0x120303
abbrev FALLBACK : Nat := 0x120304
abbrev STRAPS : Nat := 0x120305
abbrev BOOT_TIME : Nat := 0x120306
abbrev RESET : Nat := 0x120400
abbrev STORE_MIN_INTERVAL : Nat := 0x120500
abbrev STORE_FIRE_COUNTS : Nat := 0x120600
abbrev FW_SLOT_A : Nat := 0x121000
abbrev FW_SLOT_B : Nat := 0x121100
abbrev SLOT_SELECT : Nat := 0x121200
abbrev A_VALID : Nat := 0x121301
abbrev B_VALID : Nat := 0x121302
abbrev A_VERSION : Nat := 0x121303
abbrev B_VERSION : Nat := 0x121304
abbrev SLOT_PROGRAMMING : Nat := 0x121305
abbrev SLOT_PROGRESS : Nat := 0x121306
abbrev MEAS (j : Nat) : Nat := 0x130001 + j
abbrev BOOT_COUNT : Nat := 0x130100
abbrev LIFECYCLE : Nat := 0x131000
abbrev LIFECYCLE_REQUEST : Nat := 0x131100
abbrev TRANSITIONS_LEFT : Nat := 0x131200
abbrev OWNER_KEY : Nat := 0x132000
abbrev PRESEAL_MEAS (j : Nat) : Nat := 0x132101 + j
abbrev PRESEAL_APPLY : Nat := 0x1321ff
abbrev CURRENT_VALID : Nat := 0x132201
abbrev ALTERNATE_VALID : Nat := 0x132202
abbrev UNSEAL_RESULT : Nat := 0x132203
abbrev NEXT_MEAS6 : Nat := 0x132204
abbrev POWER_STATE_STATE : Nat := 0x140001
abbrev POWER_REQUEST : Nat := 0x140002
abbrev POWER_STATE_TARGET : Nat := 0x140003
abbrev WAKE_SOURCES : Nat := 0x140004
abbrev WAKE_CAUSE : Nat := 0x140005
abbrev WAKE_TIMER : Nat := 0x140006
abbrev LAST_TRANSITION : Nat := 0x140007
abbrev DEBUG_LEVEL : Nat := 0x141001
abbrev AUTH_FAILURES : Nat := 0x141002
abbrev DEBUG_CLOSE : Nat := 0x141003
abbrev FULL_ENTRIES : Nat := 0x141004
abbrev DEBUG_KEY : Nat := 0x141100
abbrev DEBUG_ALLOW : Nat := 0x141200
abbrev FAULT_STATUS_FLAGS (k : Nat) : Nat := 0x150001 + 256 * k
abbrev FAULT_CLASSES (k : Nat) : Nat := 0x150002 + 256 * k
abbrev FAULT_COUNTS (k : Nat) : Nat := 0x150003 + 256 * k
abbrev FAULT_LOG (k : Nat) : Nat := 0x150004 + 256 * k
abbrev FAULT_LOG_COUNT (k : Nat) : Nat := 0x150005 + 256 * k
abbrev FAULT_LOST (k : Nat) : Nat := 0x150006 + 256 * k
abbrev SEVERE_CLASSES (k : Nat) : Nat := 0x150007 + 256 * k
abbrev FAULT_LAST_CODE (k : Nat) : Nat := 0x150008 + 256 * k
abbrev FAULT_CLEAR (k : Nat) : Nat := 0x150009 + 256 * k
abbrev SAFE_STATE_ACTIVE : Nat := 0x160001
abbrev SAFE_ENTER : Nat := 0x160002
abbrev SAFE_FIRST_BLOCK : Nat := 0x160003
abbrev SAFE_FIRST_CODE : Nat := 0x160004
abbrev SAFE_ENTRY_TIME : Nat := 0x160005
abbrev SAFE_ENTRIES : Nat := 0x160006
abbrev SAFE_PENDING : Nat := 0x160007
abbrev SAFE_CLEAR : Nat := 0x160100
abbrev SAFE_CAUSES : Nat := 0x160200
abbrev SEVERE_BLOCKS : Nat := 0x160300
abbrev CLASS_TABLE (k : Nat) : Nat := 0x161000 + 256 * k
abbrev TASK_STATE (k : Nat) : Nat := 0x170001 + 256 * k
abbrev TASK_RUNS (k : Nat) : Nat := 0x170002 + 256 * k
abbrev TASK_LAST_DONE (k : Nat) : Nat := 0x170003 + 256 * k
abbrev TASK_LATE (k : Nat) : Nat := 0x170004 + 256 * k
abbrev UNDERSTOREY_SHARE : Nat := 0x171001
abbrev SRAM_SCRUB_PERIOD : Nat := 0x171002
abbrev TELEMETRY_INTERVAL : Nat := 0x171003
abbrev LOG_INTERVAL : Nat := 0x171004
abbrev TELEMETRY_ENABLE : Nat := 0x171005
abbrev TELEMETRY : Nat := 0x171100
abbrev FLASH_LOG : Nat := 0x171200
abbrev NEXT_OFFSET : Nat := 0x171301
abbrev CHUNK_SEQ : Nat := 0x171302
abbrev MAX_ERASES : Nat := 0x171303
abbrev DROPPED_ENTRIES : Nat := 0x171304
abbrev JOB_CONTROL : Nat := 0x200000
abbrev SHADOW_STATE : Nat := 0x200101
abbrev ACTIVE_JOB_ID : Nat := 0x200102
abbrev SHADOW_JOB_ID : Nat := 0x200103
abbrev SET_STATUS_BOUNDARY : Nat := 0x200104
abbrev SET_STATUS_START : Nat := 0x200105
abbrev SWAP_STATUS : Nat := 0x200106
abbrev SET_STATUS_LAST_RESULT : Nat := 0x200107
abbrev ACTIVE_PAGES : Nat := 0x200108
abbrev HELD_PAGES : Nat := 0x200109
abbrev SWAP_COUNT : Nat := 0x20010a
abbrev MEMORY_PLAN_CAPACITY : Nat := 0x200201
abbrev MEMORY_PLAN_FIXED : Nat := 0x200202
abbrev ACTIVE_NEED : Nat := 0x200203
abbrev SHADOW_NEED : Nat := 0x200204
abbrev MEMORY_PLAN_FREE : Nat := 0x200205
abbrev PLAN_DELAY_LINES : Nat := 0x200206
abbrev PLAN_REFERENCE : Nat := 0x200207
abbrev MEMORY_PLAN_SHADOW_BACKGROUND : Nat := 0x200208
abbrev SHADOW_QUEUE : Nat := 0x200209
abbrev ARM_MODE : Nat := 0x200301
abbrev ARM_BOUNDARY : Nat := 0x200302
abbrev ARM_FLAGS : Nat := 0x200303
abbrev ARM_APPLY : Nat := 0x2003ff
abbrev JOB_ID : Nat := 0x200400
abbrev PAGE_GAP : Nat := 0x200500
abbrev JOB_GAP : Nat := 0x200600
abbrev PAGE_QUEUE_SIZE : Nat := 0x200700
abbrev DELAY_MARGIN : Nat := 0x201000
abbrev INGEST_STATUS_LINK_STATE : Nat := 0x210001
abbrev INGEST_STATUS_BOND_WIDTH : Nat := 0x210002
abbrev INGEST_STATUS_GRADE : Nat := 0x210003
abbrev BOND_LANES : Nat := 0x210004
abbrev CREDIT_LIMIT : Nat := 0x210005
abbrev CREDITS_FREE : Nat := 0x210006
abbrev PACKETS_RX : Nat := 0x210007
abbrev BYTES_STORED : Nat := 0x210008
abbrev RESYNCS : Nat := 0x210009
abbrev REFUSALS : Nat := 0x21000a
abbrev EMPTY_PACKETS : Nat := 0x21000b
abbrev LATE_PAGES : Nat := 0x21000c
abbrev INGEST_ENABLE : Nat := 0x210100
abbrev MIN_BOND_WIDTH : Nat := 0x210200
abbrev INGEST_WARN_LINES : Nat := 0x210300
abbrev ACTIVE_QUEUE_FREE : Nat := 0x210401
abbrev SHADOW_QUEUE_FREE : Nat := 0x210402
abbrev ACTIVE_NEXT_SEQ : Nat := 0x210403
abbrev SHADOW_NEXT_SEQ : Nat := 0x210404
abbrev QUEUE_STATUS_SHADOW_BACKGROUND : Nat := 0x210405
abbrev LAST_REFUSAL : Nat := 0x210406
abbrev MIRROR_STATUS_LINK_STATE : Nat := 0x211001
abbrev MIRROR_STATUS_BOND_WIDTH : Nat := 0x211002
abbrev MIRROR_STATUS_PACKETS_TX : Nat := 0x211003
abbrev UNMIRRORED_PAGES : Nat := 0x211004
abbrev RECOMPRESSED_BYTES : Nat := 0x211005
abbrev MIRROR_BACKLOG : Nat := 0x211006
abbrev MIRROR_TIMEOUT : Nat := 0x211100
abbrev MIRROR_RECOMPRESS : Nat := 0x211200
abbrev BG_PLANES : Nat := 0x220001
abbrev BG_WIDTH : Nat := 0x220002
abbrev BG_HEIGHT : Nat := 0x220003
abbrev BG_X : Nat := 0x220004
abbrev BG_SAMPLING : Nat := 0x220005
abbrev COMPOSE_RATE_MAX : Nat := 0x220101
abbrev LINES_COMPOSED : Nat := 0x220102
abbrev LOST_TONE_DOTS : Nat := 0x220103
abbrev SATURATED_DOTS : Nat := 0x220104
abbrev LAST_LIMIT_REASON : Nat := 0x220105
abbrev LAST_LIMIT_OBJECT : Nat := 0x220106
abbrev MAX_OBJECTS : Nat := 0x220201
abbrev LINE_READ_BUDGET : Nat := 0x220202
abbrev BASE_PLANE (j : Nat) : Nat := 0x220301 + j
abbrev TONE_CURVE (k : Nat) : Nat := 0x230000 + 256 * k
abbrev ROW_PLANE (j : Nat) : Nat := 0x240001 + j
abbrev PAIRS : Nat := 0x240101
abbrev SPLIT_PHASE : Nat := 0x240102
abbrev THRESHOLD (k : Nat) : Nat := 0x241000 + 256 * k
abbrev STITCH_MASKS : Nat := 0x242000
abbrev STITCH_WIDTH : Nat := 0x242100
abbrev NOZZLE_EDIT_SEGMENT : Nat := 0x250001
abbrev NOZZLE_EDIT_ROW : Nat := 0x250002
abbrev NOZZLE_EDIT_FIRST : Nat := 0x250003
abbrev NOZZLE_EDIT_COUNT : Nat := 0x250004
abbrev NOZZLE_EDIT_ENTRY : Nat := 0x250005
abbrev NOZZLE_EDIT_APPLY : Nat := 0x2500ff
abbrev DEFAULT_WEIGHT : Nat := 0x250100
abbrev UNCOVERABLE : Nat := 0x250201
abbrev FIRST_SEGMENT : Nat := 0x250202
abbrev FIRST_ROW : Nat := 0x250203
abbrev FIRST_COLUMN : Nat := 0x250204
abbrev COVERAGE_DEAD : Nat := 0x250205
abbrev COVERAGE_WEAK : Nat := 0x250206
abbrev COVERAGE_MASKED : Nat := 0x250207
abbrev WEAK_OFFSET : Nat := 0x250301
abbrev WEAK_DENSITY : Nat := 0x250302
abbrev NOZZLE_MAP (k : Nat) : Nat := 0x251000 + 256 * k
abbrev FIRE_COUNTS (k : Nat) : Nat := 0x252000 + 256 * k
abbrev X_SHIFT : Nat := 0x253000
abbrev STITCH_POS : Nat := 0x253100
abbrev ROW_POS : Nat := 0x253200
abbrev ROW_DELAY : Nat := 0x253300
abbrev ROW_POS_PENDING : Nat := 0x253400
abbrev TEST_PATTERN : Nat := 0x254001
abbrev TEST_ROWS : Nat := 0x254002
abbrev TEST_LEVEL : Nat := 0x254003
abbrev TEST_FLAGS : Nat := 0x254004
abbrev TEST_REPEAT : Nat := 0x254005
abbrev TEST_APPLY : Nat := 0x2540ff
abbrev TEST_STATUS_STATE : Nat := 0x254101
abbrev TEST_STATUS_START : Nat := 0x254102
abbrev TEST_LENGTH : Nat := 0x254103
abbrev TEST_OUTCOME : Nat := 0x254104
abbrev TEST_RESULT : Nat := 0x254105
abbrev CHANGED_NOZZLES : Nat := 0x254106
abbrev MEASURED_X_SHIFT : Nat := 0x254200
abbrev MEASURED_ROW_POS : Nat := 0x254300
abbrev MEASURED_STATES : Nat := 0x254400
abbrev ACCEPT : Nat := 0x254500
abbrev POSITION_STATUS_POSITION : Nat := 0x260001
abbrev WEB_HIGH_WATER : Nat := 0x260002
abbrev WEB_SPEED : Nat := 0x260003
abbrev WEB_DIRECTION : Nat := 0x260004
abbrev POSITION_STATUS_VALID : Nat := 0x260005
abbrev POSITION_STATUS_FLAGS : Nat := 0x260006
abbrev ENC_COUNT : Nat := 0x260007
abbrev REVERSAL_DEPTH : Nat := 0x260008
abbrev POSITION_STATUS_STEP_COUNT : Nat := 0x260009
abbrev ILLEGAL_COUNT : Nat := 0x26000a
abbrev INDEX_CHECKS : Nat := 0x26000b
abbrev INDEX_ERRORS : Nat := 0x26000c
abbrev LAST_INDEX_ERROR : Nat := 0x26000d
abbrev REVERSALS : Nat := 0x26000e
abbrev CROSSCHECK_ERRORS : Nat := 0x26000f
abbrev LINE_PITCH : Nat := 0x260101
abbrev ENC_RATIO : Nat := 0x260102
abbrev STEP_RATIO : Nat := 0x260103
abbrev WEB_SCALE_APPLY : Nat := 0x2601ff
abbrev WEB_SOURCE : Nat := 0x260201
abbrev CHECK_SOURCE : Nat := 0x260202
abbrev ENC_SENSE : Nat := 0x260203
abbrev STEP_SENSE : Nat := 0x260204
abbrev WEB_SOURCE_APPLY : Nat := 0x2602ff
abbrev ENC_FILTER : Nat := 0x260301
abbrev IDX_FILTER : Nat := 0x260302
abbrev STEP_FILTER : Nat := 0x260303
abbrev SPEED_AVG : Nat := 0x260401
abbrev STANDSTILL_TIMEOUT : Nat := 0x260402
abbrev INDEX_PERIOD : Nat := 0x260501
abbrev INDEX_TOL : Nat := 0x260502
abbrev INDEX_CORRECT : Nat := 0x260503
abbrev INDEX_APPLY : Nat := 0x2605ff
abbrev CHECK_WINDOW : Nat := 0x260601
abbrev CHECK_TOL : Nat := 0x260602
abbrev CHECK_APPLY : Nat := 0x2606ff
abbrev VIRTUAL_SPEED : Nat := 0x260701
abbrev VIRTUAL_ACCEL : Nat := 0x260702
abbrev VIRTUAL_ACTUAL : Nat := 0x260703
abbrev POS_INIT : Nat := 0x260800
abbrev VALIDATE : Nat := 0x260900
abbrev REPEAT_MODE : Nat := 0x261001
abbrev SYNTH_LINES : Nat := 0x261002
abbrev CMP_MODE (k : Nat) : Nat := 0x262001 + 256 * k
abbrev IDLE_LEVEL (k : Nat) : Nat := 0x262002 + 256 * k
abbrev CMP_WIDTH (k : Nat) : Nat := 0x262003 + 256 * k
abbrev CMP_START (k : Nat) : Nat := 0x262004 + 256 * k
abbrev CMP_PERIOD (k : Nat) : Nat := 0x262005 + 256 * k
abbrev CMP_COUNT (k : Nat) : Nat := 0x262006 + 256 * k
abbrev OUTPUT_ENABLE (k : Nat) : Nat := 0x262007 + 256 * k
abbrev CMP_APPLY (k : Nat) : Nat := 0x2620ff + 256 * k
abbrev COMPARE_LIST (k : Nat) : Nat := 0x263000 + 256 * k
abbrev CMP_NEXT (k : Nat) : Nat := 0x264001 + 256 * k
abbrev CMP_PULSES (k : Nat) : Nat := 0x264002 + 256 * k
abbrev CMP_MISSED (k : Nat) : Nat := 0x264003 + 256 * k
abbrev FIRE_STATUS : Nat := 0x270001
abbrev FIRED_LINES : Nat := 0x270002
abbrev OVERSPEED_LINES : Nat := 0x270003
abbrev INTERLOCK_LINES : Nat := 0x270004
abbrev FAULT_LINES : Nat := 0x270005
abbrev LATE_FIRES : Nat := 0x270006
abbrev ZERO_SPEED_FIRES : Nat := 0x270007
abbrev MAX_PUSH : Nat := 0x270008
abbrev RATE_LIMIT : Nat := 0x270009
abbrev REVERSE_HOLDS : Nat := 0x27000a
abbrev REVERSE_SPOILS : Nat := 0x27000b
abbrev FIRE_PERIOD_MIN (j : Nat) : Nat := 0x270101 + j
abbrev DROP_LEVELS (j : Nat) : Nat := 0x270201 + j
abbrev INK_CODE (j : Nat) : Nat := 0x270301 + j
abbrev PW_BASE (k : Nat) (j : Nat) : Nat := 0x271001 + 256 * k + j
abbrev PW_MIN (k : Nat) : Nat := 0x271004 + 256 * k
abbrev PW_MAX (k : Nat) : Nat := 0x271005 + 256 * k
abbrev T_REF (k : Nat) : Nat := 0x271006 + 256 * k
abbrev KT (k : Nat) : Nat := 0x271007 + 256 * k
abbrev V_REF (k : Nat) : Nat := 0x271008 + 256 * k
abbrev KV (k : Nat) : Nat := 0x271009 + 256 * k
abbrev FINE_DELAY (k : Nat) : Nat := 0x272000 + 256 * k
abbrev PW_SLEW : Nat := 0x273001
abbrev STALE_TIME : Nat := 0x273002
abbrev OVERSPEED_WARN : Nat := 0x273100
abbrev REVERSE_SPOIL : Nat := 0x273200
abbrev PW_EFFECTIVE : Nat := 0x273300
abbrev LIMIT_PERIOD : Nat := 0x273400
abbrev INTERLOCK_ENABLE (k : Nat) : Nat := 0x274001 + 256 * k
abbrev INTERLOCK_ACTIVE_LEVEL (k : Nat) : Nat := 0x274002 + 256 * k
abbrev INTERLOCK_FILTER (k : Nat) : Nat := 0x274003 + 256 * k
abbrev INTERLOCK_LATCH (k : Nat) : Nat := 0x274004 + 256 * k
abbrev INTERLOCK_STATE (k : Nat) : Nat := 0x274005 + 256 * k
abbrev INTERLOCK_TRIPS (k : Nat) : Nat := 0x274006 + 256 * k
abbrev INTERLOCK_CLEAR : Nat := 0x274400
abbrev HEAD_LINK (k : Nat) : Nat := 0x280001 + 256 * k
abbrev HEAD_STATUS_GRADE (k : Nat) : Nat := 0x280002 + 256 * k
abbrev OWNER_STATE (k : Nat) : Nat := 0x280003 + 256 * k
abbrev HEAD_FLAGS (k : Nat) : Nat := 0x280004 + 256 * k
abbrev HEAD_VOLTAGE (k : Nat) : Nat := 0x280005 + 256 * k
abbrev HEAD_TEMPS (k : Nat) : Nat := 0x280006 + 256 * k
abbrev ROWS_FITTED (k : Nat) : Nat := 0x280007 + 256 * k
abbrev HEAD_STATUS_PACKETS_TX (k : Nat) : Nat := 0x280008 + 256 * k
abbrev RETRANSMISSIONS (k : Nat) : Nat := 0x280009 + 256 * k
abbrev LINES_NOT_DRIVEN (k : Nat) : Nat := 0x28000a + 256 * k
abbrev HEAD_CONTENTIONS (k : Nat) : Nat := 0x28000b + 256 * k
abbrev LAST_EVENT (k : Nat) : Nat := 0x28000c + 256 * k
abbrev STALE_NAKS (k : Nat) : Nat := 0x28000d + 256 * k
abbrev IDENTITY (k : Nat) : Nat := 0x281000 + 256 * k
abbrev USER_AREA (k : Nat) : Nat := 0x282000 + 256 * k
abbrev RETX_LIMIT : Nat := 0x283001
abbrev REPORT_INTERVAL : Nat := 0x283002
abbrev SEGMENT_ENABLE : Nat := 0x283003
abbrev HEAD_RESET : Nat := 0x283100
abbrev LANE_STATUS_STATE (k : Nat) : Nat := 0x290001 + 256 * k
abbrev LANE_STATUS_GRADE (k : Nat) : Nat := 0x290002 + 256 * k
abbrev GRADE_LIMIT (k : Nat) : Nat := 0x290003 + 256 * k
abbrev RX_INVERTED (k : Nat) : Nat := 0x290004 + 256 * k
abbrev CORRECTED_SYMBOLS (k : Nat) : Nat := 0x290005 + 256 * k
abbrev CORRECTED_CODEWORDS (k : Nat) : Nat := 0x290006 + 256 * k
abbrev LANE_STATUS_UNCORRECTABLE (k : Nat) : Nat := 0x290007 + 256 * k
abbrev BAD_SYNC (k : Nat) : Nat := 0x290008 + 256 * k
abbrev LOCK_LOSSES (k : Nat) : Nat := 0x290009 + 256 * k
abbrev TRAININGS (k : Nat) : Nat := 0x29000a + 256 * k
abbrev FALLBACKS (k : Nat) : Nat := 0x29000b + 256 * k
abbrev EYE_HEIGHT (k : Nat) : Nat := 0x29000c + 256 * k
abbrev EYE_WIDTH (k : Nat) : Nat := 0x29000d + 256 * k
abbrev EQ_STATE_VALID (k : Nat) : Nat := 0x29000e + 256 * k
abbrev MAX_GRADE (k : Nat) : Nat := 0x292001 + 256 * k
abbrev TX_INVERT (k : Nat) : Nat := 0x292002 + 256 * k
abbrev RX_INVERT (k : Nat) : Nat := 0x292003 + 256 * k
abbrev LANE_CONFIG_ENABLE (k : Nat) : Nat := 0x292004 + 256 * k
abbrev VERIFY_CODEWORDS : Nat := 0x294001
abbrev ERR_LIMIT : Nat := 0x294002
abbrev EQ_STATE_MAX_AGE : Nat := 0x294003
abbrev EYE_WARN : Nat := 0x294004
abbrev RETRAIN : Nat := 0x294100
abbrev CAM_STATUS_STATE (k : Nat) : Nat := 0x300001 + 256 * k
abbrev CAM_STATUS_FRAMES (k : Nat) : Nat := 0x300002 + 256 * k
abbrev CAM_GENERATION (k : Nat) : Nat := 0x300003 + 256 * k
abbrev CAM_APPLIED (k : Nat) : Nat := 0x300004 + 256 * k
abbrev CAM_IN_FLIGHT (k : Nat) : Nat := 0x300005 + 256 * k
abbrev LIVE_RESULT (k : Nat) : Nat := 0x300006 + 256 * k
abbrev FLAT_VALID (k : Nat) : Nat := 0x300007 + 256 * k
abbrev SHORT_FRAMES (k : Nat) : Nat := 0x300008 + 256 * k
abbrev LONG_FRAMES (k : Nat) : Nat := 0x300009 + 256 * k
abbrev MISSED_FRAMES (k : Nat) : Nat := 0x30000a + 256 * k
abbrev CAM_PORT_ENABLE (k : Nat) : Nat := 0x300401 + 256 * k
abbrev CAM_LANES (k : Nat) : Nat := 0x300402 + 256 * k
abbrev DATA_TYPE (k : Nat) : Nat := 0x300403 + 256 * k
abbrev CAM_VC (k : Nat) : Nat := 0x300404 + 256 * k
abbrev CAM_PORT_WIDTH (k : Nat) : Nat := 0x300405 + 256 * k
abbrev CAM_PORT_HEIGHT (k : Nat) : Nat := 0x300406 + 256 * k
abbrev MOSAIC (k : Nat) : Nat := 0x300407 + 256 * k
abbrev CFA_X (k : Nat) : Nat := 0x300408 + 256 * k
abbrev CFA_Y (k : Nat) : Nat := 0x300409 + 256 * k
abbrev SETTING_LATENCY (k : Nat) : Nat := 0x30040a + 256 * k
abbrev CCI_SPEED (k : Nat) : Nat := 0x30040b + 256 * k
abbrev BLACK_LEVEL (k : Nat) : Nat := 0x30040c + 256 * k
abbrev CAM_PORT_APPLY (k : Nat) : Nat := 0x3004ff + 256 * k
abbrev CAM_TRIGGER_MODE (k : Nat) : Nat := 0x300801 + 256 * k
abbrev TRIGGER_CMP (k : Nat) : Nat := 0x300802 + 256 * k
abbrev STROBE_CMP (k : Nat) : Nat := 0x300803 + 256 * k
abbrev TRIGGER_TIMEOUT (k : Nat) : Nat := 0x300804 + 256 * k
abbrev CAM_DIST (k : Nat) : Nat := 0x300805 + 256 * k
abbrev CAM_TRIGGER_APPLY (k : Nat) : Nat := 0x3008ff + 256 * k
abbrev CCI_SCRIPT (k : Nat) : Nat := 0x300c00 + 256 * k
abbrev CAM_EXPOSURE (k : Nat) : Nat := 0x301001 + 256 * k
abbrev CAM_GAIN (k : Nat) : Nat := 0x301002 + 256 * k
abbrev CAM_STROBE_WIDTH (k : Nat) : Nat := 0x301003 + 256 * k
abbrev AE_ENABLE (k : Nat) : Nat := 0x301004 + 256 * k
abbrev AE_TARGET (k : Nat) : Nat := 0x301005 + 256 * k
abbrev EXP_MIN (k : Nat) : Nat := 0x301006 + 256 * k
abbrev EXP_MAX (k : Nat) : Nat := 0x301007 + 256 * k
abbrev LIVE_EXPOSURE (k : Nat) : Nat := 0x301401 + 256 * k
abbrev LIVE_GAIN (k : Nat) : Nat := 0x301402 + 256 * k
abbrev LIVE_STROBE_WIDTH (k : Nat) : Nat := 0x301403 + 256 * k
abbrev CAM_LIVE_APPLY (k : Nat) : Nat := 0x3014ff + 256 * k
abbrev AE_DEADBAND (k : Nat) : Nat := 0x301801 + 256 * k
abbrev AE_MAX_STEP (k : Nat) : Nat := 0x301802 + 256 * k
abbrev STREAM_SINK (k : Nat) : Nat := 0x302001 + 256 * k
abbrev STREAM_X (k : Nat) : Nat := 0x302002 + 256 * k
abbrev STREAM_Y (k : Nat) : Nat := 0x302003 + 256 * k
abbrev STREAM_WIDTH (k : Nat) : Nat := 0x302004 + 256 * k
abbrev STREAM_HEIGHT (k : Nat) : Nat := 0x302005 + 256 * k
abbrev STREAM_SCALE (k : Nat) (j : Nat) : Nat := 0x302006 + 256 * k + j
abbrev STREAM_CHANNELS (k : Nat) : Nat := 0x302008 + 256 * k
abbrev STREAM_DEPTH (k : Nat) : Nat := 0x302009 + 256 * k
abbrev FLAT_FIELD (k : Nat) : Nat := 0x303000 + 256 * k
abbrev WIN_X (k : Nat) : Nat := 0x303401 + 256 * k
abbrev WIN_Y (k : Nat) : Nat := 0x303402 + 256 * k
abbrev WIN_W (k : Nat) : Nat := 0x303403 + 256 * k
abbrev WIN_H (k : Nat) : Nat := 0x303404 + 256 * k
abbrev HIST_CHANNEL (k : Nat) : Nat := 0x303405 + 256 * k
abbrev SAT_LEVEL (k : Nat) : Nat := 0x303406 + 256 * k
abbrev IR_SUB (k : Nat) (j : Nat) : Nat := 0x303407 + 256 * k + j
abbrev CAM_FRAME_NO (k : Nat) : Nat := 0x304001 + 256 * k
abbrev CAM_TAG (k : Nat) : Nat := 0x304002 + 256 * k
abbrev CAM_STATS_VALID (k : Nat) : Nat := 0x304003 + 256 * k
abbrev CAM_MEANS (k : Nat) : Nat := 0x304004 + 256 * k
abbrev CAM_SATURATED (k : Nat) : Nat := 0x304005 + 256 * k
abbrev CAM_HISTOGRAM (k : Nat) : Nat := 0x304006 + 256 * k
abbrev SNAPSHOT : Nat := 0x305000
abbrev CAM_FRAME (k : Nat) : Nat := 0x305100 + 256 * k
abbrev FRAMES_COMPARED : Nat := 0x310001
abbrev PAGES_COMMITTED : Nat := 0x310002
abbrev FRAMES_EXCLUDED : Nat := 0x310003
abbrev DEFECT_COUNT : Nat := 0x310004
abbrev SUSPECTS : Nat := 0x310005
abbrev SUSPECT_DROPS : Nat := 0x310006
abbrev UPDATES_APPLIED : Nat := 0x310007
abbrev UPDATES_DISCARDED : Nat := 0x310008
abbrev MAP_X0 (k : Nat) : Nat := 0x310101 + 256 * k
abbrev MAP_DX (k : Nat) : Nat := 0x310102 + 256 * k
abbrev MAP_Y0 (k : Nat) : Nat := 0x310103 + 256 * k
abbrev MAP_DY (k : Nat) : Nat := 0x310104 + 256 * k
abbrev CAM_MAP_APPLY (k : Nat) : Nat := 0x3101ff + 256 * k
abbrev WHITE (k : Nat) (j : Nat) : Nat := 0x310801 + 256 * k + j
abbrev ATTRIB (k : Nat) : Nat := 0x310805 + 256 * k
abbrev RESP (k : Nat) : Nat := 0x311000 + 256 * k
abbrev STREAK_TOL (k : Nat) : Nat := 0x311801 + 256 * k
abbrev DEAD_DEPTH (k : Nat) : Nat := 0x311802 + 256 * k
abbrev SPOT_TOL (k : Nat) : Nat := 0x311803 + 256 * k
abbrev SPOT_AREA (k : Nat) : Nat := 0x311804 + 256 * k
abbrev DENS_LO (k : Nat) : Nat := 0x311805 + 256 * k
abbrev DENS_HI (k : Nat) : Nat := 0x311806 + 256 * k
abbrev REG_SEARCH (k : Nat) : Nat := 0x311807 + 256 * k
abbrev FINDINGS (k : Nat) : Nat := 0x311808 + 256 * k
abbrev REGIONS (k : Nat) : Nat := 0x311c00 + 256 * k
abbrev LOOP_ENABLE : Nat := 0x312001
abbrev SUSPECT_M : Nat := 0x312002
abbrev SUSPECT_N : Nat := 0x312003
abbrev RECOVER_N : Nat := 0x312004
abbrev NOZZLE_GAIN_STEP : Nat := 0x312005
abbrev GAIN_STEP : Nat := 0x312006
abbrev DENS_DEADBAND : Nat := 0x312007
abbrev DENS_LOOP_GAIN : Nat := 0x312008
abbrev REG_DEADBAND : Nat := 0x312009
abbrev REG_X_DEADBAND : Nat := 0x31200a
abbrev REG_PAGES : Nat := 0x31200b
abbrev SUSPECT_TABLE : Nat := 0x312100
abbrev DEFECT_LOG : Nat := 0x312200
abbrev DENSITY_ERROR : Nat := 0x312400
abbrev REGISTER_ERROR : Nat := 0x312500
abbrev DRAM_STATUS_CAPACITY : Nat := 0x320001
abbrev DATA_RATE_IN_EFFECT : Nat := 0x320002
abbrev DRAM_FILL_DONE : Nat := 0x320003
abbrev DRAM_FROZEN : Nat := 0x320004
abbrev DRAM_MAX_STALL : Nat := 0x320005
abbrev CHANNEL_STATUS_STATE (k : Nat) : Nat := 0x320101 + 256 * k
abbrev DRAM_CORRECTED (k : Nat) : Nat := 0x320102 + 256 * k
abbrev CHANNEL_STATUS_UNCORRECTABLE (k : Nat) : Nat := 0x320103 + 256 * k
abbrev FORCED_REFRESHES (k : Nat) : Nat := 0x320104 + 256 * k
abbrev REFRESH_RATE (k : Nat) : Nat := 0x320105 + 256 * k
abbrev LAST_CORRECTED (k : Nat) : Nat := 0x320106 + 256 * k
abbrev SCRUB_PASSES (k : Nat) : Nat := 0x320107 + 256 * k
abbrev SCRUB_POSITION (k : Nat) : Nat := 0x320108 + 256 * k
abbrev DRAM_STICKY (k : Nat) : Nat := 0x320109 + 256 * k
abbrev FREEZE_KIND (k : Nat) : Nat := 0x320801 + 256 * k
abbrev FREEZE_ADDRESS (k : Nat) : Nat := 0x320802 + 256 * k
abbrev FREEZE_BANK_GROUP (k : Nat) : Nat := 0x320803 + 256 * k
abbrev FREEZE_BANK (k : Nat) : Nat := 0x320804 + 256 * k
abbrev FREEZE_ROW (k : Nat) : Nat := 0x320805 + 256 * k
abbrev FREEZE_COLUMN (k : Nat) : Nat := 0x320806 + 256 * k
abbrev FREEZE_SYNDROME (k : Nat) : Nat := 0x320807 + 256 * k
abbrev FREEZE_COMMAND (k : Nat) : Nat := 0x320808 + 256 * k
abbrev FREEZE_PORT (k : Nat) : Nat := 0x320809 + 256 * k
abbrev FREEZE_TIME (k : Nat) : Nat := 0x32080a + 256 * k
abbrev DRAM_DATA_RATE : Nat := 0x321001
abbrev WRITE_CRC : Nat := 0x321002
abbrev PATROL_PERIOD : Nat := 0x321003
abbrev DMA_STATUS_ACTIVE : Nat := 0x330001
abbrev DMA_SUSPENDED : Nat := 0x330002
abbrev DMA_BURSTS : Nat := 0x330003
abbrev DMA_BUS_ERRORS : Nat := 0x330004
abbrev OVERLAP_REJECTS : Nat := 0x330005
abbrev CHANNEL_SHARE : Nat := 0x330100
abbrev CHANNEL_PRIORITY : Nat := 0x330200
abbrev DMA_STATE (k : Nat) : Nat := 0x331001 + 256 * k
abbrev DMA_LAST_STATUS (k : Nat) : Nat := 0x331002 + 256 * k
abbrev DMA_DESCRIPTOR (k : Nat) : Nat := 0x331003 + 256 * k
abbrev DMA_REMAINING (k : Nat) : Nat := 0x331004 + 256 * k
abbrev DMA_FAULT_ADDR (k : Nat) : Nat := 0x331005 + 256 * k
abbrev INPUT_CONSUMED (k : Nat) : Nat := 0x331006 + 256 * k
abbrev OUTPUT_PRODUCED (k : Nat) : Nat := 0x331007 + 256 * k
abbrev MOVE_PRIORITY (k : Nat) : Nat := 0x333001 + 256 * k
abbrev MOVE_SHARE (k : Nat) : Nat := 0x333002 + 256 * k
abbrev RESUME_ADDR (k : Nat) : Nat := 0x333003 + 256 * k
abbrev RESUME_LENGTH (k : Nat) : Nat := 0x333004 + 256 * k
abbrev MOVE_CONFIG_APPLY (k : Nat) : Nat := 0x3330ff + 256 * k
abbrev MOVE_CHAIN (k : Nat) : Nat := 0x333800 + 256 * k
abbrev MOVE_START : Nat := 0x334000
abbrev MOVE_ABORT : Nat := 0x334100
abbrev HOST_BUFFER (k : Nat) : Nat := 0x334800 + 256 * k
abbrev COMPRESS_JOBS : Nat := 0x340001
abbrev BYTES_IN : Nat := 0x340002
abbrev BYTES_OUT : Nat := 0x340003
abbrev COMPRESS_NO_SHRINK : Nat := 0x340004
abbrev COMPRESS_OUT_OF_SPACE : Nat := 0x340005
abbrev COMPRESS_INVALID : Nat := 0x340006
abbrev ENGINES_BUSY : Nat := 0x340007
abbrev CAPTURE_ENABLE : Nat := 0x341001
abbrev CAPTURE_BASE : Nat := 0x341002
abbrev CAPTURE_SIZE : Nat := 0x341003
abbrev CAPTURE_WRITE_OFFSET : Nat := 0x341004
abbrev CAPTURE_DROPPED : Nat := 0x341005
abbrev SERVO_STATE : Nat := 0x350001
abbrev PTP_OFFSET : Nat := 0x350002
abbrev MEAN_PATH_DELAY : Nat := 0x350003
abbrev PTP_RATE_ADJ : Nat := 0x350004
abbrev REFUSED_OFFSET : Nat := 0x350005
abbrev STEP_NEEDED : Nat := 0x350006
abbrev FIRE_OFFSET : Nat := 0x350007
abbrev FIRE_RATE_ADJ : Nat := 0x350008
abbrev GM_IDENTITY : Nat := 0x350009
abbrev MASTER_PORT : Nat := 0x35000a
abbrev TIME_STATUS_STEP_COUNT : Nat := 0x35000b
abbrev PTP_DISCARDED : Nat := 0x35000c
abbrev PTP_ENABLE : Nat := 0x350101
abbrev PTP_TRANSPORT : Nat := 0x350102
abbrev DELAY_MECHANISM : Nat := 0x350103
abbrev PTP_DOMAIN : Nat := 0x350104
abbrev PTP_ANNOUNCE_TIMEOUT : Nat := 0x350105
abbrev PTP_CONFIG_APPLY : Nat := 0x3501ff
abbrev KP : Nat := 0x350201
abbrev KI : Nat := 0x350202
abbrev MAX_RATE_ADJ : Nat := 0x350203
abbrev LOCK_THRESHOLD : Nat := 0x350204
abbrev PTP_STEP_LIMIT : Nat := 0x350205
abbrev FIRE_RATE_SLEW : Nat := 0x350206
abbrev PTP_SERVO_APPLY : Nat := 0x3502ff
abbrev PTP_STEP_MODE : Nat := 0x350301
abbrev PTP_STEP_VALUE : Nat := 0x350302
abbrev PTP_STEP_APPLY : Nat := 0x3503ff
abbrev PHY_RX_LATENCY (j : Nat) : Nat := 0x350401 + j
abbrev PHY_TX_LATENCY (j : Nat) : Nat := 0x350404 + j
abbrev DELAY_ASYMMETRY : Nat := 0x350407
abbrev TB_PTP : Nat := 0x350501
abbrev TB_MONO : Nat := 0x350502
abbrev TB_FIRE : Nat := 0x350503
abbrev TB_FRAC (j : Nat) : Nat := 0x350504 + j
abbrev GRAFT_ROLE : Nat := 0x360001
abbrev GRAFT_STATUS_STATE : Nat := 0x360002
abbrev GRAFT_PAIRED : Nat := 0x360003
abbrev GRAFT_CONTROL : Nat := 0x360004
abbrev ROLE_PINS : Nat := 0x360005
abbrev PARTNER_SERIAL : Nat := 0x360006
abbrev SYNC_POS : Nat := 0x360007
abbrev TAKEOVERS : Nat := 0x360008
abbrev XCHECK_ERRORS : Nat := 0x360009
abbrev PLANNED_SWAPS : Nat := 0x36000a
abbrev MIRROR_HOLD : Nat := 0x360101
abbrev CMP_FOLLOW : Nat := 0x360102
abbrev ENCO_FOLLOW : Nat := 0x360103
abbrev GRAFT_ALLOWLIST : Nat := 0x361000
abbrev TAKEOVER_LOG : Nat := 0x362000
abbrev AXIS_ENABLE (k : Nat) : Nat := 0x370001 + 256 * k
abbrev SENSE_R (k : Nat) : Nat := 0x370002 + 256 * k
abbrev IRUN (k : Nat) : Nat := 0x370003 + 256 * k
abbrev IHOLD (k : Nat) : Nat := 0x370004 + 256 * k
abbrev HOLD_DELAY (k : Nat) : Nat := 0x370005 + 256 * k
abbrev STANDSTILL_MODE (k : Nat) : Nat := 0x370006 + 256 * k
abbrev SAFE_MODE (k : Nat) : Nat := 0x370007 + 256 * k
abbrev DEAD_TIME (k : Nat) : Nat := 0x370008 + 256 * k
abbrev HYST (k : Nat) : Nat := 0x370009 + 256 * k
abbrev BLANK (k : Nat) : Nat := 0x37000a + 256 * k
abbrev OFFSET_MAX (k : Nat) : Nat := 0x37000b + 256 * k
abbrev OC_LIMIT (k : Nat) : Nat := 0x37000c + 256 * k
abbrev MSTEP_RATE_MAX (k : Nat) : Nat := 0x37000d + 256 * k
abbrev DIR_INVERT (k : Nat) : Nat := 0x37000e + 256 * k
abbrev RUN_MOVES (k : Nat) : Nat := 0x37000f + 256 * k
abbrev AXIS_APPLY (k : Nat) : Nat := 0x3700ff + 256 * k
abbrev VSTART (k : Nat) : Nat := 0x371001 + 256 * k
abbrev A1 (k : Nat) : Nat := 0x371002 + 256 * k
abbrev V1 (k : Nat) : Nat := 0x371003 + 256 * k
abbrev AMAX (k : Nat) : Nat := 0x371004 + 256 * k
abbrev VMAX (k : Nat) : Nat := 0x371005 + 256 * k
abbrev DMAX (k : Nat) : Nat := 0x371006 + 256 * k
abbrev D1 (k : Nat) : Nat := 0x371007 + 256 * k
abbrev VSTOP (k : Nat) : Nat := 0x371008 + 256 * k
abbrev REVERSE_DWELL (k : Nat) : Nat := 0x371009 + 256 * k
abbrev RAMP_APPLY (k : Nat) : Nat := 0x3710ff + 256 * k
abbrev MOVE_TARGET (k : Nat) : Nat := 0x372001 + 256 * k
abbrev MOVE_RELATIVE (k : Nat) : Nat := 0x372002 + 256 * k
abbrev MOVE_APPLY (k : Nat) : Nat := 0x3720ff + 256 * k
abbrev MOVE_STOP : Nat := 0x372400
abbrev MOVE_REPLAN : Nat := 0x372500
abbrev HOME : Nat := 0x372600
abbrev HOME_DIR (k : Nat) : Nat := 0x373001 + 256 * k
abbrev HOME_SPEED (k : Nat) : Nat := 0x373002 + 256 * k
abbrev HOME_SLOW (k : Nat) : Nat := 0x373003 + 256 * k
abbrev HOME_POS (k : Nat) : Nat := 0x373004 + 256 * k
abbrev HOME_MAX_DIST (k : Nat) : Nat := 0x373005 + 256 * k
abbrev HOME_ACTIVE (k : Nat) : Nat := 0x373006 + 256 * k
abbrev HOMING_APPLY (k : Nat) : Nat := 0x3730ff + 256 * k
abbrev AXIS_STATUS_STATE (k : Nat) : Nat := 0x374001 + 256 * k
abbrev AXIS_STATUS_POSITION (k : Nat) : Nat := 0x374002 + 256 * k
abbrev AXIS_VELOCITY (k : Nat) : Nat := 0x374003 + 256 * k
abbrev TARGET_IN_EFFECT (k : Nat) : Nat := 0x374004 + 256 * k
abbrev AXIS_RESOLUTION (k : Nat) : Nat := 0x374005 + 256 * k
abbrev AXIS_STATUS_FLAGS (k : Nat) : Nat := 0x374006 + 256 * k
abbrev AXIS_STATUS_LAST_RESULT (k : Nat) : Nat := 0x374007 + 256 * k
abbrev AXIS_CURRENT (k : Nat) (j : Nat) : Nat := 0x374008 + 256 * k + j
abbrev AXIS_OFFSET (k : Nat) (j : Nat) : Nat := 0x37400a + 256 * k + j
abbrev AXIS_MOVES (k : Nat) : Nat := 0x37400c + 256 * k
abbrev RAMP_PENDING (k : Nat) : Nat := 0x37400d + 256 * k
abbrev LIFT_LINK : Nat := 0x375001
abbrev LEVEL_OFFSET : Nat := 0x375002
abbrev LEVEL_TOL : Nat := 0x375003
abbrev LEVEL_APPLY : Nat := 0x3750ff
abbrev CAL_STATUS_STATE : Nat := 0x380001
abbrev CAL_STATUS_RUNS : Nat := 0x380002
abbrev REJECTED_ITEMS : Nat := 0x380003
abbrev LAST_RUN : Nat := 0x380004
abbrev REF_TEMPS : Nat := 0x380005
abbrev SLEWING : Nat := 0x380006
abbrev CAL_REF_VALUE : Nat := 0x380101
abbrev CAL_DELTA_T : Nat := 0x380102
abbrev CAL_SLEW_TIME : Nat := 0x380103
abbrev TOL_GAIN : Nat := 0x380104
abbrev TOL_OFFSET : Nat := 0x380105
abbrev TOL_TEMP : Nat := 0x380106
abbrev TOL_TRIM : Nat := 0x380107
abbrev CAL_AUTO : Nat := 0x380108
abbrev CAL_START : Nat := 0x380200
abbrev ADC_COEFF : Nat := 0x381000
abbrev ADC_ACCEPTED : Nat := 0x381100
abbrev DAC_COEFF : Nat := 0x382000
abbrev DAC_ACCEPTED : Nat := 0x382100
abbrev TEMP_COEFF : Nat := 0x383000
abbrev TEMP_READINGS : Nat := 0x383100
abbrev STROBE_TRIM : Nat := 0x384000
abbrev TRIM_CODES : Nat := 0x384100
abbrev ITEM_RESULTS : Nat := 0x385000
abbrev DISP_ENABLE (k : Nat) : Nat := 0x390001 + 256 * k
abbrev PIXEL_CLOCK (k : Nat) : Nat := 0x390002 + 256 * k
abbrev HACTIVE (k : Nat) : Nat := 0x390003 + 256 * k
abbrev HFP (k : Nat) : Nat := 0x390004 + 256 * k
abbrev HSYNC (k : Nat) : Nat := 0x390005 + 256 * k
abbrev HBP (k : Nat) : Nat := 0x390006 + 256 * k
abbrev VACTIVE (k : Nat) : Nat := 0x390007 + 256 * k
abbrev VFP (k : Nat) : Nat := 0x390008 + 256 * k
abbrev VSYNC (k : Nat) : Nat := 0x390009 + 256 * k
abbrev VBP (k : Nat) : Nat := 0x39000a + 256 * k
abbrev DISP_FLAGS (k : Nat) : Nat := 0x39000b + 256 * k
abbrev DISP_APPLY (k : Nat) : Nat := 0x3900ff + 256 * k
abbrev PREVIEW_SOURCE (k : Nat) : Nat := 0x390201 + 256 * k
abbrev PREVIEW_X (k : Nat) : Nat := 0x390202 + 256 * k
abbrev PREVIEW_Y (k : Nat) : Nat := 0x390203 + 256 * k
abbrev PREVIEW_ZOOM (k : Nat) : Nat := 0x390204 + 256 * k
abbrev BG_COLOUR (k : Nat) : Nat := 0x390205 + 256 * k
abbrev STATIC_FRAMES (k : Nat) : Nat := 0x390206 + 256 * k
abbrev STATIC_DIV (k : Nat) : Nat := 0x390207 + 256 * k
abbrev DISP_STATUS_STATE (k : Nat) : Nat := 0x390801 + 256 * k
abbrev DISP_STATUS_FRAMES (k : Nat) : Nat := 0x390802 + 256 * k
abbrev UNDERRUNS (k : Nat) : Nat := 0x390803 + 256 * k
abbrev PREVIEW_FRAME (k : Nat) : Nat := 0x390804 + 256 * k
abbrev GRAPHICS (k : Nat) : Nat := 0x391000 + 256 * k
abbrev RGMII_VOLTAGE : Nat := 0x3a0001
abbrev RGMII_TX_DELAY : Nat := 0x3a0002
abbrev RGMII_RX_DELAY : Nat := 0x3a0003
abbrev CMOS33_DRIVE : Nat := 0x3a0101
abbrev ENC_PULLUP : Nat := 0x3a0102
abbrev FIRE_VOD : Nat := 0x3a0201
abbrev DISP_VOD : Nat := 0x3a0202
abbrev DIE_TEMP_MAX : Nat := 0x3a1001
abbrev THERMAL_TRIPS : Nat := 0x3a1002
abbrev HOTTEST_SENSOR : Nat := 0x3a1003

end Sys2Proof.Machine.O
end

