-- ==== Sys2Proof/Machine/State.lean ====
section
/-! DEFINITION. The state of the part, the reasons a step may stop, and the state right after reset. -/

namespace Sys2Proof.Machine

/-- Why a step faults. No command of this part does: the manual stops the block nowhere. -/
inductive Fault where
  /-- raised by no command; safe -/
  | none
deriving DecidableEq, Repr

/-- Why a step is refused. -/
inductive Refusal where
  /-- raised by exec for a command without a meaning; safe -/
  | notModelled (mnemonic : String)
deriving DecidableEq, Repr

/-- The state of the part. -/
structure State where
  /-- the present time, ps -/
  now : Nat
  /-- the commands that wait, first in first out -/
  pending : List Instr
  /-- what the latest command made the part send and drive -/
  out : List Out
  /-- draws made so far of the free values of Config -/
  draws : Nat
  /-- the objects that differ from their defaults, by key -/
  objs : List (Nat × Nat)
  /-- the DOM objects that differ from their defaults, by index -/
  doms : List (Nat × Dom)
  tdp : Tdp
  net : Net
  fuses : Fuses
  flash : Flash
  boot : Boot
  bank : Bank
  power : Power
  /-- debug authorisation (R189 to R200) -/
  access : Debug
  faults : List (Nat × FaultRec)
  safe : Safe
  /-- actions that the present step called for and that its end takes; empty between steps -/
  acts : List Act
  time : TimeState
  jobs : Jobs
  ingest : Ingest
  mirror : Mirror
  compose : Compose
  nozzle : Nozzle
  web : Web
  fire : Fire
  heads : List Head
  lanes : List Lane
  cams : List Cam
  inspect : Inspect
  disps : List Disp
  dram : List DramChannel
  movers : Movers
  graft : Graft
  axes : List Axis
  cal : Cal
  under : Understorey
deriving DecidableEq, Repr

/-- The part right after reset: the boot ROM has not begun, and every object holds its default (R74). -/
def State.reset : State :=
  { now := 0, pending := [], out := [], draws := 0, objs := [], doms := [], tdp := .init, net := .init
    fuses := ⟨0, 0, 0, List.replicate 8 0, List.replicate 8 0⟩, flash := .blank, boot := .init, bank := .init, power := .init
    access := .init, faults := [], safe := .init, acts := [], time := .init, jobs := .init, ingest := .init, mirror := .init
    compose := ⟨some 0, 0, [], [], [], 0⟩, nozzle := ⟨[], [], false, none, false, false⟩, web := .init, fire := .init
    heads := List.replicate 16 .init, lanes := List.replicate 24 .init, cams := List.replicate 4 .init
    inspect := ⟨[], [], [], [], [], List.replicate 96 .init⟩, disps := List.replicate 2 .init
    dram := List.replicate 4 ⟨List.replicate 4 0, [], []⟩, movers := ⟨List.replicate 8 .init, []⟩, graft := .init
    axes := List.replicate 4 .init, cal := ⟨[], false, 0, [], false, [], 0, [], (0, 0), 0⟩
    under := ⟨[0, 0, 0, 0], 0, 0, [], 0, [], none, 3, []⟩ }

end Sys2Proof.Machine
end

