-- ==== Sys2Proof/Machine/Clock.lean ====
section
/-! DEFINITION. Time: the present moment, and the three time bases read at it (R715 to R717, R9). -/

namespace Sys2Proof.Machine

/-- The PTP cycle in ps: 250 MHz (*Clock domains*). -/
def ptpCycle : Nat := 4000

/-- The FIRE cycle in ps: 400 MHz. -/
def fireCycle : Nat := 2500

/-- The increment of a time base in one cycle of c ps, at rate a in 1/65 536 ppb, in 2⁻⁴⁰ ns (R715). -/
def cycleInc (c : Nat) (a : Int) : Nat :=
  let base : Int := (c * 2 ^ 40 / 1000 : Nat)
  (base + base * a / (65536 * 1000000000)).toNat

/-- The cycles of c ps that ended since the base's edge. -/
def TimeBase.cycles (b : TimeBase) (c now : Nat) : Nat := (now - b.edge) / c

/-- The base carried to its last clock edge at or before now. -/
def TimeBase.roll (b : TimeBase) (c : Nat) (a : Int) (now : Nat) : TimeBase :=
  let n := b.cycles c now
  { val := (b.val + n * cycleInc c a) % 2 ^ 104, edge := b.edge + n * c }

/-- TB_PTP, TB_MONO and TB_FIRE at a moment. -/
def TimeState.ptpAt (t : TimeState) (now : Nat) : Nat := (t.ptp.roll ptpCycle t.rate now).val
def TimeState.monoAt (t : TimeState) (now : Nat) : Nat := (t.mono.roll ptpCycle 0 now).val
def TimeState.fireAt (t : TimeState) (now : Nat) : Nat := (t.fire.roll fireCycle t.fireRate now).val

/-- Whole ns and the 16 reported fraction bits of a time base value (R9, R715). -/
def tbNs (v : Nat) : Nat := v / 2 ^ 40
def tbFrac (v : Nat) : Nat := v / 2 ^ 24 % 65536

/-- A new rate a, taking effect at the present PTP cycle. -/
def TimeState.setRate (t : TimeState) (now : Nat) (a : Int) : TimeState :=
  { t with ptp := t.ptp.roll ptpCycle t.rate now, rate := a }

/-- A new a_fire, taking effect at the next FIRE cycle without a step (R735). -/
def TimeState.setFireRate (t : TimeState) (now : Nat) (a : Int) : TimeState :=
  { t with fire := t.fire.roll fireCycle t.fireRate now, fireRate := a }

/-- TB_MONO in ns, now. -/
def State.mono (s : State) : Nat := tbNs (s.time.monoAt s.now)

/-- TB_PTP in ns, now. -/
def State.ptp (s : State) : Nat := tbNs (s.time.ptpAt s.now)

/-- The command comes about at time t: the present moves to t, never back, and the record of outputs is empty. -/
def State.at (s : State) (t : Nat) : State := { s with now := max s.now t, out := [] }

/-- 1 ms and 1 s in ps. -/
def ms : Nat := 1000000000
def sec : Nat := 1000000000000

/-- d ps have passed since the moment t0. -/
def State.due (s : State) (t0 d : Nat) : Bool := t0 + d ≤ s.now

end Sys2Proof.Machine
end

