-- ==== Sys2Proof/Machine/DictTypes.lean ====
section
/-! DEFINITION. What an object of the dictionary is (R71): its type, its access kind, its Applies moment,
and the ranges that the object tables give. A value is held as the number its little-endian bytes spell. -/

namespace Sys2Proof.Machine

/-- The object types (*Object types*, R71) but REC, whose subindices are rows of their own. -/
inductive Ty where
  | bool | u8 | u16 | u32 | u64 | i16 | i32 | i64 | str | dom
  | oct (n : Nat)
deriving DecidableEq, Repr

/-- The access kinds (*Access kinds*, R71). -/
inductive Acc where
  | ro | rw | wo | cmd | rws
deriving DecidableEq, Repr

/-- The Applies moments (*Applies moments*, R71). -/
inductive App where
  | now | apply | swap | boot
deriving DecidableEq, Repr

/-- The ranges of the object tables. -/
inductive Rng where
  /-- every value of the type -/
  | any
  /-- lo to hi -/
  | bt (lo hi : Int)
  /-- lo to hi, or x -/
  | btOr (lo hi x : Int)
  /-- lo to hi, a multiple of k -/
  | step (lo hi k : Nat)
  /-- lo to hi, a multiple of k, or x -/
  | stepOr (lo hi k x : Nat)
  /-- one of the listed values -/
  | oneOf (xs : List Nat)
  /-- −hi to −lo or lo to hi -/
  | absBt (lo hi : Nat)
  /-- a contiguous IPv4 mask, /8 to /30 -/
  | mask
  /-- a whole number of lines in 48.16 -/
  | lines
  /-- a valid nozzle entry (R336) -/
  | nozzle
  /-- every U8, I8, U16 or U32 of the OCT value is lo to hi -/
  | eachU8 (lo hi : Nat)
  | eachI8 (lo hi : Int)
  | eachU16 (lo hi : Nat)
  | eachU32 (lo hi : Nat)
deriving DecidableEq, Repr

/-- One row of an object table: n instances from index idx, m subindices from sub. -/
structure ObjRow where
  idx : Nat
  n : Nat
  sub : Nat
  m : Nat
  ty : Ty
  acc : Acc
  persist : Bool
  dflt : Nat
  rng : Rng
  app : App
deriving DecidableEq, Repr

/-- The row stands for some object at this index. -/
def ObjRow.hasIndex (r : ObjRow) (idx : Nat) : Bool := r.idx ≤ idx && idx < r.idx + r.n

/-- The row stands for the object idx.sub. -/
def ObjRow.covers (r : ObjRow) (idx sub : Nat) : Bool :=
  r.hasIndex idx && r.sub ≤ sub && sub < r.sub + r.m

/-- The type code of *Object types*. -/
def Ty.code : Ty → Nat
  | .bool => 1 | .u8 => 2 | .u16 => 3 | .u32 => 4 | .u64 => 5
  | .i16 => 6 | .i32 => 7 | .i64 => 8 | .str => 10 | .oct _ => 11 | .dom => 12

/-- The size in bytes of a value of the type; 0 for the types of varying length. -/
def Ty.size : Ty → Nat
  | .bool => 1 | .u8 => 1 | .u16 => 2 | .u32 => 4 | .u64 => 8
  | .i16 => 2 | .i32 => 4 | .i64 => 8 | .str => 0 | .oct n => n | .dom => 0

/-- The type is two's complement. -/
def Ty.signed : Ty → Bool
  | .i16 => true | .i32 => true | .i64 => true | _ => false

/-- The number that a raw value of the type stands for. -/
def Ty.value (ty : Ty) (v : Nat) : Int := if ty.signed then toInt (8 * ty.size) v else (v : Int)

/-- The access code of *INFO response*. -/
def Acc.code : Acc → Nat
  | .ro => 0 | .rw => 1 | .wo => 2 | .cmd => 3 | .rws => 4

/-- The Applies code of *INFO response*. -/
def App.code : App → Nat
  | .now => 0 | .apply => 1 | .swap => 2 | .boot => 3

/-- R331, R336: a GOOD or WEAK entry holds a density gain of 2 048 to 8 191; the two weights of a DEAD or
MASKED entry are any. -/
def nozzleEntryOk (e : Nat) : Bool := 2 ≤ bits e 15 14 || (2048 ≤ bits e 13 0 && bits e 13 0 ≤ 8191)

/-- A contiguous mask of /8 to /30. -/
def maskOk (m : Nat) : Bool := (List.range 23).any fun k => m == 2 ^ 32 - 2 ^ (k + 2)

/-- Check 8 of R49 for a value of the type: inside the range of the object's row. -/
def Rng.ok (g : Rng) (ty : Ty) (v : Nat) : Bool :=
  let i := ty.value v
  let items (w : Nat) := (List.range (ty.size / w)).map (octAt w v)
  match g with
  | .any => true
  | .bt lo hi => lo ≤ i && i ≤ hi
  | .btOr lo hi x => (lo ≤ i && i ≤ hi) || i == x
  | .step lo hi k => lo ≤ v && v ≤ hi && v % k == 0
  | .stepOr lo hi k x => (lo ≤ v && v ≤ hi && v % k == 0) || v == x
  | .oneOf xs => xs.contains v
  | .absBt lo hi => lo ≤ i.natAbs && i.natAbs ≤ hi
  | .mask => maskOk v
  | .lines => v % 65536 == 0
  | .nozzle => nozzleEntryOk v
  | .eachU8 lo hi => (items 1).all fun x => lo ≤ x && x ≤ hi
  | .eachI8 lo hi => (items 1).all fun x => lo ≤ toInt 8 x && toInt 8 x ≤ hi
  | .eachU16 lo hi => (items 2).all fun x => lo ≤ x && x ≤ hi
  | .eachU32 lo hi => (items 4).all fun x => lo ≤ x && x ≤ hi

/-- The default tone curve: entry i is (i × 4 095 + 127) div 255 (R310). -/
def O.toneLinear : Nat := octOf 2 ((List.range 256).map fun i => (i * 4095 + 127) / 255)

/-- An OCT value of n items of w bytes, all x. -/
def O.allOf (w n x : Nat) : Nat := octOf w (List.replicate n x)

/-- The nominal ADC coefficients, (GAIN U32, OFFSET I32) for 32 channels (spec/21, after R854). -/
def O.adcNominal : Nat :=
  octOf 4 ((List.range 32).flatMap fun c => [if c < 8 then 10240000 else 40960000, 0])

/-- The nominal comparator DAC coefficients, (GAIN U32, OFFSET I32) for 16 DACs. -/
def O.dacNominal : Nat := octOf 4 ((List.range 16).flatMap fun _ => [32768000, 0])

end Sys2Proof.Machine
end

