-- ==== Sys2Proof/Machine/Dict10.lean ====
section
/-! DEFINITION. The object dictionary, indices 1000h on: one row for each object of the object tables of
spec/02 to spec/23 (R97 and the owning chapters), in index order: first index, number of instances,
first subindex, number of subindices, type, access, P, default, range, Applies moment.
A record whose table lists no subindex 00h gets its count there (the REC row of R71; DEDUCED, log 5). -/

namespace Sys2Proof.Machine

/-- The objects of 1000h to 10FFh. -/
def Dict.rows10 : List ObjRow := [
  ⟨0x1000, 1, 0x00, 1, .u32, .ro, false, 95254, .any, .now⟩,  -- DEVICE_TYPE
  ⟨0x1008, 1, 0x00, 1, .str, .ro, false, 0, .any, .now⟩,  -- DEVICE_NAME
  ⟨0x1018, 1, 0x00, 1, .u8, .ro, false, 6, .any, .now⟩,  -- IDENTITY count
  ⟨0x1018, 1, 0x01, 1, .u32, .ro, false, 19798, .any, .now⟩,  -- VENDOR_ID
  ⟨0x1018, 1, 0x02, 1, .u32, .ro, false, 29718, .any, .now⟩,  -- PRODUCT_CODE
  ⟨0x1018, 1, 0x03, 1, .u16, .ro, false, 176, .any, .now⟩,  -- STEPPING
  ⟨0x1018, 1, 0x04, 1, .u32, .ro, false, 197120, .any, .now⟩,  -- FW_VERSION
  ⟨0x1018, 1, 0x05, 1, .u64, .ro, false, 0, .any, .now⟩,  -- SERIAL
  ⟨0x1018, 1, 0x06, 1, (.oct 6), .ro, false, 0, .any, .now⟩  -- MAC_ADDRESS
  ]

/-- The objects of 1100h to 11FFh. -/
def Dict.rows11 : List ObjRow := [
  ⟨0x1100, 1, 0x00, 1, .u8, .ro, false, 7, .any, .now⟩,  -- SESSION count
  ⟨0x1100, 1, 0x01, 1, .u8, .ro, false, 0, .bt 0 3, .now⟩,  -- SESSION_STATE
  ⟨0x1100, 1, 0x02, 1, .u32, .ro, false, 0, .any, .now⟩,  -- SESSION_ID
  ⟨0x1100, 1, 0x03, 1, .u32, .ro, false, 0, .any, .now⟩,  -- HOST_ADDRESS
  ⟨0x1100, 1, 0x04, 1, .u16, .ro, false, 0, .any, .now⟩,  -- HOST_PORT
  ⟨0x1100, 1, 0x05, 1, .u32, .ro, false, 0, .any, .now⟩,  -- LEASE_LEFT
  ⟨0x1100, 1, 0x06, 1, .u32, .ro, false, 0, .any, .now⟩,  -- OPEN_COUNT
  ⟨0x1100, 1, 0x07, 1, .u32, .ro, false, 0, .any, .now⟩,  -- AUTH_FAIL_COUNT
  ⟨0x1101, 1, 0x00, 1, .u32, .rw, true, 2000, .bt 100 60000, .now⟩,  -- LEASE_TIME
  ⟨0x1102, 1, 0x00, 1, .u8, .rw, true, 0, .oneOf [0, 2, 3], .now⟩,  -- LEASE_LOSS_ACTION
  ⟨0x1103, 1, 0x00, 1, (.oct 32), .wo, true, 115792089237316195423570985008687907853269984665640564039457584007913129639936, .any, .now⟩,  -- ARBITER_KEY
  ⟨0x1104, 1, 0x00, 1, .u32, .rw, true, 1000, .bt 100 10000, .now⟩,  -- REC_STAGE_TIMEOUT
  ⟨0x1110, 1, 0x00, 1, .u8, .ro, false, 5, .any, .now⟩,  -- NET_CONFIG count
  ⟨0x1110, 1, 0x01, 1, .u8, .rw, true, 2, .bt 0 2, .boot⟩,  -- NET_MODE
  ⟨0x1110, 1, 0x02, 1, .u32, .rw, true, 0, .any, .boot⟩,  -- STATIC_ADDRESS
  ⟨0x1110, 1, 0x03, 1, .u32, .rw, true, 4294967040, .mask, .boot⟩,  -- STATIC_MASK
  ⟨0x1110, 1, 0x04, 1, .u32, .rw, true, 0, .any, .boot⟩,  -- STATIC_GATEWAY
  ⟨0x1110, 1, 0x05, 1, .u16, .rw, true, 10, .bt 2 300, .boot⟩,  -- DHCP_TIMEOUT
  ⟨0x1111, 1, 0x00, 1, .u8, .ro, false, 6, .any, .now⟩,  -- NET_STATUS count
  ⟨0x1111, 1, 0x01, 1, .u32, .ro, false, 0, .any, .now⟩,  -- ADDRESS
  ⟨0x1111, 1, 0x02, 1, .u32, .ro, false, 0, .any, .now⟩,  -- MASK
  ⟨0x1111, 1, 0x03, 1, .u32, .ro, false, 0, .any, .now⟩,  -- GATEWAY
  ⟨0x1111, 1, 0x04, 1, .u8, .ro, false, 3, .bt 0 3, .now⟩,  -- ADDRESS_SOURCE
  ⟨0x1111, 1, 0x05, 1, .u16, .ro, false, 0, .oneOf [0, 10, 100, 1000], .now⟩,  -- LINK_SPEED
  ⟨0x1111, 1, 0x06, 1, .u32, .ro, false, 0, .any, .now⟩,  -- DHCP_LEASE_LEFT
  ⟨0x1120, 1, 0x00, 1, .u64, .rw, false, 18446744073709551615, .any, .now⟩,  -- NOTICE_MASK
  ⟨0x1122, 1, 0x00, 1, .u32, .ro, false, 0, .any, .now⟩,  -- NOTICES_LOST
  ⟨0x1130, 1, 0x00, 1, .u8, .ro, false, 5, .any, .now⟩,  -- TDP_COUNTERS count
  ⟨0x1130, 1, 0x01, 1, .u32, .ro, false, 0, .any, .now⟩,  -- FRAMES_RX
  ⟨0x1130, 1, 0x02, 1, .u32, .ro, false, 0, .any, .now⟩,  -- FRAMES_DISCARDED
  ⟨0x1130, 1, 0x03, 1, .u32, .ro, false, 0, .any, .now⟩,  -- TAG_FAILURES
  ⟨0x1130, 1, 0x04, 1, .u32, .ro, false, 0, .any, .now⟩,  -- OUT_OF_SEQUENCE
  ⟨0x1130, 1, 0x05, 1, .u32, .ro, false, 0, .any, .now⟩  -- CACHED_ANSWERS
  ]

/-- The objects of 1200h to 12FFh. -/
def Dict.rows12 : List ObjRow := [
  ⟨0x1200, 1, 0x00, 1, .u8, .cmd, false, 0, .bt 1 1, .now⟩,  -- STORE
  ⟨0x1201, 1, 0x00, 1, .u8, .cmd, false, 0, .bt 1 1, .now⟩,  -- RESTORE_DEFAULTS
  ⟨0x1202, 1, 0x00, 1, .u8, .ro, false, 10, .any, .now⟩,  -- STORE_STATUS count
  ⟨0x1202, 1, 0x01, 1, .u8, .ro, false, 0, .bt 0 3, .now⟩,  -- STATE
  ⟨0x1202, 1, 0x02, 1, .u8, .ro, false, 0, .bt 0 5, .now⟩,  -- LAST_RESULT
  ⟨0x1202, 1, 0x03, 1, .u32, .ro, false, 0, .any, .now⟩,  -- SEQUENCE
  ⟨0x1202, 1, 0x04, 1, .u8, .ro, false, 255, .any, .now⟩,  -- LOADED_SLOT
  ⟨0x1202, 1, 0x05, 1, .u8, .ro, false, 0, .any, .now⟩,  -- RETIRED
  ⟨0x1202, 1, 0x06, 1, .u32, .ro, false, 0, .any, .now⟩,  -- STORES_SINCE_RESET
  ⟨0x1202, 1, 0x07, 1, .u64, .ro, false, 0, .any, .now⟩,  -- LAST_STORE_TIME
  ⟨0x1202, 1, 0x08, 1, .u32, .ro, false, 0, .any, .now⟩,  -- BODY_SIZE
  ⟨0x1202, 1, 0x09, 1, .u16, .ro, false, 0, .any, .now⟩,  -- SKIPPED_ENTRIES
  ⟨0x1202, 1, 0x0a, 1, .u32, .ro, false, 0, .any, .now⟩,  -- SLOT_CYCLES
  ⟨0x1203, 1, 0x00, 1, .u8, .ro, false, 6, .any, .now⟩,  -- BOOT_INFO count
  ⟨0x1203, 1, 0x01, 1, .u8, .ro, false, 0, .any, .now⟩,  -- RESET_CAUSE
  ⟨0x1203, 1, 0x02, 1, .u8, .ro, false, 0, .any, .now⟩,  -- BOOT_CODE
  ⟨0x1203, 1, 0x03, 1, .u8, .ro, false, 0, .bt 0 1, .now⟩,  -- BOOT_SLOT
  ⟨0x1203, 1, 0x04, 1, .u8, .ro, false, 0, .bt 0 2, .now⟩,  -- FALLBACK
  ⟨0x1203, 1, 0x05, 1, .u8, .ro, false, 0, .any, .now⟩,  -- STRAPS
  ⟨0x1203, 1, 0x06, 1, .u32, .ro, false, 0, .any, .now⟩,  -- BOOT_TIME
  ⟨0x1204, 1, 0x00, 1, .u8, .cmd, false, 0, .bt 1 1, .now⟩,  -- RESET
  ⟨0x1205, 1, 0x00, 1, .u32, .rw, true, 600, .bt 60 86400, .now⟩,  -- STORE_MIN_INTERVAL
  ⟨0x1206, 1, 0x00, 1, .bool, .rw, true, 0, .bt 0 1, .now⟩,  -- STORE_FIRE_COUNTS
  ⟨0x1210, 1, 0x00, 1, .dom, .rw, false, 0, .any, .boot⟩,  -- FW_SLOT_A
  ⟨0x1211, 1, 0x00, 1, .dom, .rw, false, 0, .any, .boot⟩,  -- FW_SLOT_B
  ⟨0x1212, 1, 0x00, 1, .u8, .rw, false, 0, .bt 0 1, .boot⟩,  -- SLOT_SELECT
  ⟨0x1213, 1, 0x00, 1, .u8, .ro, false, 6, .any, .now⟩,  -- SLOT_STATUS count
  ⟨0x1213, 1, 0x01, 1, .bool, .ro, false, 0, .bt 0 1, .now⟩,  -- A_VALID
  ⟨0x1213, 1, 0x02, 1, .bool, .ro, false, 0, .bt 0 1, .now⟩,  -- B_VALID
  ⟨0x1213, 1, 0x03, 1, .u32, .ro, false, 0, .any, .now⟩,  -- A_VERSION
  ⟨0x1213, 1, 0x04, 1, .u32, .ro, false, 0, .any, .now⟩,  -- B_VERSION
  ⟨0x1213, 1, 0x05, 1, .u8, .ro, false, 0, .bt 0 2, .now⟩,  -- PROGRAMMING
  ⟨0x1213, 1, 0x06, 1, .u8, .ro, false, 0, .bt 0 100, .now⟩  -- PROGRESS
  ]

/-- The objects of 1300h to 13FFh. -/
def Dict.rows13 : List ObjRow := [
  ⟨0x1300, 1, 0x00, 1, .u8, .ro, false, 8, .any, .now⟩,  -- MEAS count
  ⟨0x1300, 1, 0x01, 8, (.oct 48), .ro, false, 0, .any, .now⟩,  -- MEAS0–MEAS7
  ⟨0x1301, 1, 0x00, 1, .u32, .ro, false, 0, .any, .now⟩,  -- BOOT_COUNT
  ⟨0x1310, 1, 0x00, 1, .u8, .ro, false, 0, .bt 0 2, .now⟩,  -- LIFECYCLE
  ⟨0x1311, 1, 0x00, 1, .u8, .cmd, false, 0, .bt 1 2, .now⟩,  -- LIFECYCLE_REQUEST
  ⟨0x1312, 1, 0x00, 1, .u8, .ro, false, 16, .bt 0 16, .now⟩,  -- TRANSITIONS_LEFT
  ⟨0x1320, 1, 0x00, 1, (.oct 32), .wo, false, 0, .any, .now⟩,  -- OWNER_KEY
  ⟨0x1321, 1, 0x00, 1, .u8, .ro, false, 6, .any, .now⟩,  -- PRESEAL count
  ⟨0x1321, 1, 0x01, 6, (.oct 48), .rw, false, 0, .any, .apply⟩,  -- PRESEAL_MEAS0–5
  ⟨0x1321, 1, 0xff, 1, .u8, .cmd, false, 0, .bt 0 1, .now⟩,  -- APPLY
  ⟨0x1322, 1, 0x00, 1, .u8, .ro, false, 4, .any, .now⟩,  -- SEAL_STATUS count
  ⟨0x1322, 1, 0x01, 1, .bool, .ro, false, 0, .bt 0 1, .now⟩,  -- CURRENT_VALID
  ⟨0x1322, 1, 0x02, 1, .bool, .ro, false, 0, .bt 0 1, .now⟩,  -- ALTERNATE_VALID
  ⟨0x1322, 1, 0x03, 1, .u8, .ro, false, 0, .bt 0 3, .now⟩,  -- UNSEAL_RESULT
  ⟨0x1322, 1, 0x04, 1, (.oct 48), .ro, false, 0, .any, .now⟩  -- NEXT_MEAS6
  ]

/-- The objects of 1400h to 14FFh. -/
def Dict.rows14 : List ObjRow := [
  ⟨0x1400, 1, 0x00, 1, .u8, .ro, false, 7, .any, .now⟩,  -- POWER_STATE count
  ⟨0x1400, 1, 0x01, 1, .u8, .ro, false, 1, .bt 0 4, .now⟩,  -- STATE
  ⟨0x1400, 1, 0x02, 1, .u8, .cmd, false, 0, .bt 0 4, .now⟩,  -- REQUEST
  ⟨0x1400, 1, 0x03, 1, .u8, .ro, false, 255, .any, .now⟩,  -- TARGET
  ⟨0x1400, 1, 0x04, 1, .u8, .rw, true, 3, .bt 0 7, .now⟩,  -- WAKE_SOURCES
  ⟨0x1400, 1, 0x05, 1, .u8, .ro, false, 0, .bt 0 3, .now⟩,  -- WAKE_CAUSE
  ⟨0x1400, 1, 0x06, 1, .u32, .rw, false, 0, .bt 0 604800, .now⟩,  -- WAKE_TIMER
  ⟨0x1400, 1, 0x07, 1, .u32, .ro, false, 0, .any, .now⟩,  -- LAST_TRANSITION
  ⟨0x1410, 1, 0x00, 1, .u8, .ro, false, 4, .any, .now⟩,  -- DEBUG_STATE count
  ⟨0x1410, 1, 0x01, 1, .u8, .ro, false, 0, .bt 0 2, .now⟩,  -- LEVEL
  ⟨0x1410, 1, 0x02, 1, .u16, .ro, false, 0, .any, .now⟩,  -- AUTH_FAILURES
  ⟨0x1410, 1, 0x03, 1, .u8, .cmd, false, 0, .bt 1 1, .now⟩,  -- CLOSE
  ⟨0x1410, 1, 0x04, 1, .u32, .ro, false, 0, .any, .now⟩,  -- FULL_ENTRIES
  ⟨0x1411, 1, 0x00, 1, (.oct 32), .wo, true, 115792089237316195423570985008687907853269984665640564039457584007913129639936, .any, .now⟩,  -- DEBUG_KEY
  ⟨0x1412, 1, 0x00, 1, .u8, .rw, true, 0, .bt 0 3, .now⟩  -- DEBUG_ALLOW
  ]

/-- The objects of 1500h to 15FFh. -/
def Dict.rows15 : List ObjRow := [
  ⟨0x1500, 66, 0x00, 1, .u8, .ro, false, 9, .any, .now⟩,  -- FAULT_STATUS count
  ⟨0x1500, 66, 0x01, 1, .u16, .ro, false, 0, .any, .now⟩,  -- FLAGS
  ⟨0x1500, 66, 0x02, 1, .u8, .ro, false, 0, .bt 1 64, .now⟩,  -- CLASSES
  ⟨0x1500, 66, 0x03, 1, (.oct 128), .ro, false, 0, .any, .now⟩,  -- COUNTS
  ⟨0x1500, 66, 0x04, 1, (.oct 256), .ro, false, 0, .any, .now⟩,  -- LOG
  ⟨0x1500, 66, 0x05, 1, .u8, .ro, false, 0, .bt 0 16, .now⟩,  -- LOG_COUNT
  ⟨0x1500, 66, 0x06, 1, .u16, .ro, false, 0, .any, .now⟩,  -- LOST
  ⟨0x1500, 66, 0x07, 1, .u64, .ro, false, 0, .any, .now⟩,  -- SEVERE_CLASSES
  ⟨0x1500, 66, 0x08, 1, .u16, .ro, false, 0, .any, .now⟩,  -- LAST_CODE
  ⟨0x1500, 66, 0x09, 1, .u8, .cmd, false, 0, .bt 1 1, .now⟩  -- CLEAR
  ]

/-- The objects of 1600h to 16FFh. -/
def Dict.rows16 : List ObjRow := [
  ⟨0x1600, 1, 0x00, 1, .u8, .ro, false, 7, .any, .now⟩,  -- SAFE_STATE count
  ⟨0x1600, 1, 0x01, 1, .bool, .ro, false, 0, .bt 0 1, .now⟩,  -- ACTIVE
  ⟨0x1600, 1, 0x02, 1, .u8, .cmd, false, 0, .bt 1 1, .now⟩,  -- ENTER
  ⟨0x1600, 1, 0x03, 1, .u8, .ro, false, 255, .any, .now⟩,  -- FIRST_BLOCK
  ⟨0x1600, 1, 0x04, 1, .u16, .ro, false, 0, .any, .now⟩,  -- FIRST_CODE
  ⟨0x1600, 1, 0x05, 1, .u64, .ro, false, 0, .any, .now⟩,  -- ENTRY_TIME
  ⟨0x1600, 1, 0x06, 1, .u32, .ro, false, 0, .any, .now⟩,  -- ENTRIES
  ⟨0x1600, 1, 0x07, 1, .u8, .ro, false, 0, .any, .now⟩,  -- PENDING
  ⟨0x1601, 1, 0x00, 1, .u8, .cmd, false, 0, .bt 1 1, .now⟩,  -- SAFE_CLEAR
  ⟨0x1602, 1, 0x00, 1, (.oct 64), .ro, false, 0, .any, .now⟩,  -- SAFE_CAUSES
  ⟨0x1603, 1, 0x00, 1, (.oct 9), .ro, false, 0, .any, .now⟩,  -- SEVERE_BLOCKS
  ⟨0x1610, 66, 0x00, 1, .dom, .rw, true, 0, .any, .now⟩  -- CLASS_TABLE_00–41
  ]

/-- The objects of 1700h to 17FFh. -/
def Dict.rows17 : List ObjRow := [
  ⟨0x1700, 7, 0x00, 1, .u8, .ro, false, 4, .any, .now⟩,  -- TASK count
  ⟨0x1700, 7, 0x01, 1, .u8, .ro, false, 1, .bt 0 2, .now⟩,  -- STATE
  ⟨0x1700, 7, 0x02, 1, .u32, .ro, false, 0, .any, .now⟩,  -- RUNS
  ⟨0x1700, 7, 0x03, 1, .u64, .ro, false, 0, .any, .now⟩,  -- LAST_DONE
  ⟨0x1700, 7, 0x04, 1, .u32, .ro, false, 0, .any, .now⟩,  -- LATE
  ⟨0x1710, 1, 0x00, 1, .u8, .ro, false, 5, .any, .now⟩,  -- BG_CONFIG count
  ⟨0x1710, 1, 0x01, 1, .u16, .rw, true, 5, .bt 1 64, .now⟩,  -- UNDERSTOREY_SHARE
  ⟨0x1710, 1, 0x02, 1, .u16, .rw, true, 10, .bt 1 3600, .now⟩,  -- SRAM_SCRUB_PERIOD
  ⟨0x1710, 1, 0x03, 1, .u16, .rw, true, 1, .bt 1 3600, .now⟩,  -- TELEMETRY_INTERVAL
  ⟨0x1710, 1, 0x04, 1, .u16, .rw, true, 60, .bt 60 3600, .now⟩,  -- LOG_INTERVAL
  ⟨0x1710, 1, 0x05, 1, .bool, .rw, true, 1, .bt 0 1, .now⟩,  -- TELEMETRY_ENABLE
  ⟨0x1711, 1, 0x00, 1, (.oct 256), .ro, false, 0, .any, .now⟩,  -- TELEMETRY
  ⟨0x1712, 1, 0x00, 1, .dom, .ro, false, 0, .any, .now⟩,  -- FLASH_LOG
  ⟨0x1713, 1, 0x00, 1, .u8, .ro, false, 4, .any, .now⟩,  -- FLASH_LOG_STATUS count
  ⟨0x1713, 1, 0x01, 1, .u32, .ro, false, 0, .any, .now⟩,  -- NEXT_OFFSET
  ⟨0x1713, 1, 0x02, 1, .u32, .ro, false, 0, .any, .now⟩,  -- CHUNK_SEQ
  ⟨0x1713, 1, 0x03, 1, .u32, .ro, false, 0, .any, .now⟩,  -- MAX_ERASES
  ⟨0x1713, 1, 0x04, 1, .u32, .ro, false, 0, .any, .now⟩  -- DROPPED_ENTRIES
  ]

end Sys2Proof.Machine
end

