-- ==== Sys2Proof/Machine/Dict20.lean ====
section
/-! DEFINITION. The object dictionary, indices 2000h on: one row for each object of the object tables of
spec/02 to spec/23 (R97 and the owning chapters), in index order: first index, number of instances,
first subindex, number of subindices, type, access, P, default, range, Applies moment.
A record whose table lists no subindex 00h gets its count there (the REC row of R71; DEDUCED, log 5). -/

namespace Sys2Proof.Machine

/-- The objects of 2000h to 20FFh. -/
def Dict.rows20 : List ObjRow := [
  ⟨0x2000, 1, 0x00, 1, .u8, .cmd, false, 0, .bt 1 4, .now⟩,  -- JOB_CONTROL
  ⟨0x2001, 1, 0x00, 1, .u8, .ro, false, 10, .any, .now⟩,  -- SET_STATUS count
  ⟨0x2001, 1, 0x01, 1, .u8, .ro, false, 0, .bt 0 6, .now⟩,  -- SHADOW_STATE
  ⟨0x2001, 1, 0x02, 1, .u32, .ro, false, 0, .any, .now⟩,  -- ACTIVE_JOB_ID
  ⟨0x2001, 1, 0x03, 1, .u32, .ro, false, 0, .any, .now⟩,  -- SHADOW_JOB_ID
  ⟨0x2001, 1, 0x04, 1, .u64, .ro, false, 0, .any, .now⟩,  -- BOUNDARY
  ⟨0x2001, 1, 0x05, 1, .u64, .ro, false, 0, .any, .now⟩,  -- START
  ⟨0x2001, 1, 0x06, 1, .u16, .ro, false, 0, .any, .now⟩,  -- SWAP_STATUS
  ⟨0x2001, 1, 0x07, 1, .u16, .ro, false, 0, .any, .now⟩,  -- LAST_RESULT
  ⟨0x2001, 1, 0x08, 1, .u32, .ro, false, 0, .any, .now⟩,  -- ACTIVE_PAGES
  ⟨0x2001, 1, 0x09, 1, .u32, .ro, false, 0, .any, .now⟩,  -- HELD_PAGES
  ⟨0x2001, 1, 0x0a, 1, .u32, .ro, false, 0, .any, .now⟩,  -- SWAP_COUNT
  ⟨0x2002, 1, 0x00, 1, .u8, .ro, false, 9, .any, .now⟩,  -- MEMORY_PLAN count
  ⟨0x2002, 1, 0x01, 1, .u64, .ro, false, 0, .any, .now⟩,  -- CAPACITY
  ⟨0x2002, 1, 0x02, 1, .u64, .ro, false, 0, .any, .now⟩,  -- FIXED
  ⟨0x2002, 1, 0x03, 1, .u64, .ro, false, 0, .any, .now⟩,  -- ACTIVE_NEED
  ⟨0x2002, 1, 0x04, 1, .u64, .ro, false, 0, .any, .now⟩,  -- SHADOW_NEED
  ⟨0x2002, 1, 0x05, 1, .i64, .ro, false, 0, .any, .now⟩,  -- FREE
  ⟨0x2002, 1, 0x06, 1, .u64, .ro, false, 0, .any, .now⟩,  -- DELAY_LINES
  ⟨0x2002, 1, 0x07, 1, .u64, .ro, false, 0, .any, .now⟩,  -- REFERENCE
  ⟨0x2002, 1, 0x08, 1, .u64, .ro, false, 0, .any, .now⟩,  -- SHADOW_BACKGROUND
  ⟨0x2002, 1, 0x09, 1, .u64, .ro, false, 0, .any, .now⟩,  -- SHADOW_QUEUE
  ⟨0x2003, 1, 0x00, 1, .u8, .ro, false, 3, .any, .now⟩,  -- ARM count
  ⟨0x2003, 1, 0x01, 1, .u8, .rw, false, 2, .bt 0 2, .apply⟩,  -- MODE
  ⟨0x2003, 1, 0x02, 1, .u64, .rw, false, 0, .lines, .apply⟩,  -- BOUNDARY
  ⟨0x2003, 1, 0x03, 1, .u8, .rw, false, 0, .bt 0 1, .apply⟩,  -- FLAGS
  ⟨0x2003, 1, 0xff, 1, .u8, .cmd, false, 0, .bt 0 1, .now⟩,  -- APPLY
  ⟨0x2004, 1, 0x00, 1, .u32, .rws, false, 0, .bt 1 4294967295, .swap⟩,  -- JOB_ID
  ⟨0x2005, 1, 0x00, 1, .u32, .rws, false, 0, .bt 0 1000000, .swap⟩,  -- PAGE_GAP
  ⟨0x2006, 1, 0x00, 1, .u32, .rws, false, 64, .bt 64 1000000, .swap⟩,  -- JOB_GAP
  ⟨0x2007, 1, 0x00, 1, .u64, .rws, false, 1073741824, .step 67108864 51539607552 1048576, .swap⟩,  -- PAGE_QUEUE_SIZE
  ⟨0x2010, 1, 0x00, 1, .u32, .rw, true, 1024, .bt 0 8192, .now⟩  -- DELAY_MARGIN
  ]

/-- The objects of 2100h to 21FFh. -/
def Dict.rows21 : List ObjRow := [
  ⟨0x2100, 1, 0x00, 1, .u8, .ro, false, 12, .any, .now⟩,  -- INGEST_STATUS count
  ⟨0x2100, 1, 0x01, 1, .u8, .ro, false, 0, .bt 0 2, .now⟩,  -- LINK_STATE
  ⟨0x2100, 1, 0x02, 1, .u8, .ro, false, 0, .oneOf [0, 1, 2, 4], .now⟩,  -- BOND_WIDTH
  ⟨0x2100, 1, 0x03, 1, .u8, .ro, false, 0, .bt 0 4, .now⟩,  -- GRADE
  ⟨0x2100, 1, 0x04, 1, .u8, .ro, false, 0, .any, .now⟩,  -- BOND_LANES
  ⟨0x2100, 1, 0x05, 1, .u32, .ro, false, 0, .any, .now⟩,  -- CREDIT_LIMIT
  ⟨0x2100, 1, 0x06, 1, .u16, .ro, false, 0, .bt 0 4096, .now⟩,  -- CREDITS_FREE
  ⟨0x2100, 1, 0x07, 1, .u64, .ro, false, 0, .any, .now⟩,  -- PACKETS_RX
  ⟨0x2100, 1, 0x08, 1, .u64, .ro, false, 0, .any, .now⟩,  -- BYTES_STORED
  ⟨0x2100, 1, 0x09, 1, .u32, .ro, false, 0, .any, .now⟩,  -- RESYNCS
  ⟨0x2100, 1, 0x0a, 1, .u32, .ro, false, 0, .any, .now⟩,  -- REFUSALS
  ⟨0x2100, 1, 0x0b, 1, .u32, .ro, false, 0, .any, .now⟩,  -- EMPTY_PACKETS
  ⟨0x2100, 1, 0x0c, 1, .u32, .ro, false, 0, .any, .now⟩,  -- LATE_PAGES
  ⟨0x2101, 1, 0x00, 1, .bool, .rw, true, 1, .bt 0 1, .now⟩,  -- INGEST_ENABLE
  ⟨0x2102, 1, 0x00, 1, .u8, .rw, true, 1, .oneOf [1, 2, 4], .now⟩,  -- MIN_BOND_WIDTH
  ⟨0x2103, 1, 0x00, 1, .u32, .rw, true, 4096, .bt 0 1000000, .now⟩,  -- INGEST_WARN_LINES
  ⟨0x2104, 1, 0x00, 1, .u8, .ro, false, 6, .any, .now⟩,  -- QUEUE_STATUS count
  ⟨0x2104, 1, 0x01, 1, .u64, .ro, false, 0, .any, .now⟩,  -- ACTIVE_QUEUE_FREE
  ⟨0x2104, 1, 0x02, 1, .u64, .ro, false, 0, .any, .now⟩,  -- SHADOW_QUEUE_FREE
  ⟨0x2104, 1, 0x03, 1, .u32, .ro, false, 1, .any, .now⟩,  -- ACTIVE_NEXT_SEQ
  ⟨0x2104, 1, 0x04, 1, .u32, .ro, false, 1, .any, .now⟩,  -- SHADOW_NEXT_SEQ
  ⟨0x2104, 1, 0x05, 1, .u8, .ro, false, 0, .bt 0 2, .now⟩,  -- SHADOW_BACKGROUND
  ⟨0x2104, 1, 0x06, 1, .u16, .ro, false, 0, .any, .now⟩,  -- LAST_REFUSAL
  ⟨0x2110, 1, 0x00, 1, .u8, .ro, false, 6, .any, .now⟩,  -- MIRROR_STATUS count
  ⟨0x2110, 1, 0x01, 1, .u8, .ro, false, 0, .bt 0 2, .now⟩,  -- LINK_STATE
  ⟨0x2110, 1, 0x02, 1, .u8, .ro, false, 0, .oneOf [0, 1, 2, 4], .now⟩,  -- BOND_WIDTH
  ⟨0x2110, 1, 0x03, 1, .u64, .ro, false, 0, .any, .now⟩,  -- PACKETS_TX
  ⟨0x2110, 1, 0x04, 1, .u32, .ro, false, 0, .any, .now⟩,  -- UNMIRRORED_PAGES
  ⟨0x2110, 1, 0x05, 1, .u64, .ro, false, 0, .any, .now⟩,  -- RECOMPRESSED_BYTES
  ⟨0x2110, 1, 0x06, 1, .u32, .ro, false, 0, .any, .now⟩,  -- BACKLOG
  ⟨0x2111, 1, 0x00, 1, .u32, .rw, true, 20, .bt 1 1000, .now⟩,  -- MIRROR_TIMEOUT
  ⟨0x2112, 1, 0x00, 1, .bool, .rw, true, 1, .bt 0 1, .now⟩  -- MIRROR_RECOMPRESS
  ]

/-- The objects of 2200h to 22FFh. -/
def Dict.rows22 : List ObjRow := [
  ⟨0x2200, 1, 0x00, 1, .u8, .ro, false, 5, .any, .now⟩,  -- BACKGROUND count
  ⟨0x2200, 1, 0x01, 1, .u8, .rws, false, 0, .bt 0 63, .swap⟩,  -- BG_PLANES
  ⟨0x2200, 1, 0x02, 1, .u32, .rws, false, 26688, .bt 1 26688, .swap⟩,  -- BG_WIDTH
  ⟨0x2200, 1, 0x03, 1, .u32, .rws, false, 1, .bt 1 4194304, .swap⟩,  -- BG_HEIGHT
  ⟨0x2200, 1, 0x04, 1, .u32, .rws, false, 0, .bt 0 53374, .swap⟩,  -- BG_X
  ⟨0x2200, 1, 0x05, 1, .u8, .rws, false, 0, .bt 0 3, .swap⟩,  -- BG_SAMPLING
  ⟨0x2201, 1, 0x00, 1, .u8, .ro, false, 6, .any, .now⟩,  -- COMPOSE_STATUS count
  ⟨0x2201, 1, 0x01, 1, .u32, .ro, false, 160000, .any, .now⟩,  -- COMPOSE_RATE_MAX
  ⟨0x2201, 1, 0x02, 1, .u64, .ro, false, 0, .any, .now⟩,  -- LINES_COMPOSED
  ⟨0x2201, 1, 0x03, 1, .u64, .ro, false, 0, .any, .now⟩,  -- LOST_TONE_DOTS
  ⟨0x2201, 1, 0x04, 1, .u64, .ro, false, 0, .any, .now⟩,  -- SATURATED_DOTS
  ⟨0x2201, 1, 0x05, 1, .u8, .ro, false, 0, .any, .now⟩,  -- LAST_LIMIT_REASON
  ⟨0x2201, 1, 0x06, 1, .u16, .ro, false, 0, .any, .now⟩,  -- LAST_LIMIT_OBJECT
  ⟨0x2202, 1, 0x00, 1, .u8, .ro, false, 2, .any, .now⟩,  -- LIMITS count
  ⟨0x2202, 1, 0x01, 1, .u16, .rws, false, 256, .bt 0 1024, .swap⟩,  -- MAX_OBJECTS
  ⟨0x2202, 1, 0x02, 1, .u32, .rws, false, 100000, .bt 50000 800000, .swap⟩,  -- LINE_READ_BUDGET
  ⟨0x2203, 1, 0x00, 1, .u8, .ro, false, 6, .any, .now⟩,  -- BASE count
  ⟨0x2203, 1, 0x01, 6, .u8, .rws, false, 0, .bt 0 255, .swap⟩  -- BASE_PLANE0–5
  ]

/-- The objects of 2300h to 23FFh. -/
def Dict.rows23 : List ObjRow := [
  ⟨0x2300, 6, 0x00, 1, (.oct 512), .rws, false, O.toneLinear, .eachU16 0 4095, .swap⟩  -- TONE_CURVE_0–5
  ]

/-- The objects of 2400h to 24FFh. -/
def Dict.rows24 : List ObjRow := [
  ⟨0x2400, 1, 0x00, 1, .u8, .ro, false, 6, .any, .now⟩,  -- ROW_PLANE count
  ⟨0x2400, 1, 0x01, 1, .u8, .rws, false, 0, .btOr 0 5 255, .swap⟩,  -- ROW_0
  ⟨0x2400, 1, 0x02, 1, .u8, .rws, false, 1, .btOr 0 5 255, .swap⟩,  -- ROW_1
  ⟨0x2400, 1, 0x03, 1, .u8, .rws, false, 2, .btOr 0 5 255, .swap⟩,  -- ROW_2
  ⟨0x2400, 1, 0x04, 1, .u8, .rws, false, 3, .btOr 0 5 255, .swap⟩,  -- ROW_3
  ⟨0x2400, 1, 0x05, 1, .u8, .rws, false, 4, .btOr 0 5 255, .swap⟩,  -- ROW_4
  ⟨0x2400, 1, 0x06, 1, .u8, .rws, false, 5, .btOr 0 5 255, .swap⟩,  -- ROW_5
  ⟨0x2401, 1, 0x00, 1, .u8, .ro, false, 2, .any, .now⟩,  -- PAIRING count
  ⟨0x2401, 1, 0x01, 1, .u8, .rws, false, 0, .bt 0 7, .swap⟩,  -- PAIRS
  ⟨0x2401, 1, 0x02, 1, .u8, .rws, false, 0, .bt 0 1, .swap⟩,  -- SPLIT_PHASE
  ⟨0x2410, 6, 0x00, 1, .dom, .rws, false, 0, .any, .swap⟩,  -- THRESHOLD_0–5
  ⟨0x2420, 1, 0x00, 1, .dom, .rws, false, 0, .any, .swap⟩,  -- STITCH_MASKS
  ⟨0x2421, 1, 0x00, 1, .u8, .rws, false, 32, .bt 0 128, .swap⟩  -- STITCH_WIDTH
  ]

/-- The objects of 2500h to 25FFh. -/
def Dict.rows25 : List ObjRow := [
  ⟨0x2500, 1, 0x00, 1, .u8, .ro, false, 5, .any, .now⟩,  -- NOZZLE_EDIT count
  ⟨0x2500, 1, 0x01, 1, .u8, .rw, false, 0, .bt 0 15, .apply⟩,  -- SEGMENT
  ⟨0x2500, 1, 0x02, 1, .u8, .rw, false, 0, .bt 0 5, .apply⟩,  -- ROW
  ⟨0x2500, 1, 0x03, 1, .u16, .rw, false, 0, .bt 0 3455, .apply⟩,  -- FIRST
  ⟨0x2500, 1, 0x04, 1, .u16, .rw, false, 1, .bt 0 3456, .apply⟩,  -- COUNT
  ⟨0x2500, 1, 0x05, 1, .u16, .rw, false, 4096, .nozzle, .apply⟩,  -- ENTRY
  ⟨0x2500, 1, 0xff, 1, .u8, .cmd, false, 0, .bt 0 1, .now⟩,  -- APPLY
  ⟨0x2501, 1, 0x00, 1, .u8, .rw, true, 136, .step 0 254 2, .now⟩,  -- DEFAULT_WEIGHT
  ⟨0x2502, 1, 0x00, 1, .u8, .ro, false, 7, .any, .now⟩,  -- COVERAGE count
  ⟨0x2502, 1, 0x01, 1, .u32, .ro, false, 0, .any, .now⟩,  -- UNCOVERABLE
  ⟨0x2502, 1, 0x02, 1, .u8, .ro, false, 255, .btOr 0 15 255, .now⟩,  -- FIRST_SEGMENT
  ⟨0x2502, 1, 0x03, 1, .u8, .ro, false, 255, .bt 0 5, .now⟩,  -- FIRST_ROW
  ⟨0x2502, 1, 0x04, 1, .u16, .ro, false, 0, .bt 0 53375, .now⟩,  -- FIRST_COLUMN
  ⟨0x2502, 1, 0x05, 1, .u32, .ro, false, 0, .any, .now⟩,  -- DEAD
  ⟨0x2502, 1, 0x06, 1, .u32, .ro, false, 0, .any, .now⟩,  -- WEAK
  ⟨0x2502, 1, 0x07, 1, .u32, .ro, false, 0, .any, .now⟩,  -- MASKED
  ⟨0x2503, 1, 0x00, 1, .u8, .ro, false, 2, .any, .now⟩,  -- NOZZLE_CHECK count
  ⟨0x2503, 1, 0x01, 1, .u8, .rw, true, 8, .bt 1 64, .now⟩,  -- WEAK_OFFSET
  ⟨0x2503, 1, 0x02, 1, .u8, .rw, true, 80, .bt 50 100, .now⟩,  -- WEAK_DENSITY
  ⟨0x2510, 16, 0x00, 1, .dom, .rw, true, 0, .any, .now⟩,  -- NOZZLE_MAP_0–15
  ⟨0x2520, 16, 0x00, 1, .dom, .rw, false, 0, .any, .now⟩,  -- FIRE_COUNTS_0–15
  ⟨0x2530, 1, 0x00, 1, (.oct 96), .rw, true, 0, .eachI8 (-32) 32, .now⟩,  -- X_SHIFT
  ⟨0x2531, 1, 0x00, 1, (.oct 15), .rw, true, O.allOf 1 15 64, .eachU8 0 127, .now⟩,  -- STITCH_POS
  ⟨0x2532, 1, 0x00, 1, (.oct 384), .rw, true, 0, .eachU32 0 16776960, .now⟩,  -- ROW_POS
  ⟨0x2533, 1, 0x00, 1, (.oct 768), .ro, false, 0, .any, .now⟩,  -- ROW_DELAY
  ⟨0x2534, 1, 0x00, 1, (.oct 12), .ro, false, 0, .any, .now⟩,  -- ROW_POS_PENDING
  ⟨0x2540, 1, 0x00, 1, .u8, .ro, false, 5, .any, .now⟩,  -- TEST count
  ⟨0x2540, 1, 0x01, 1, .u8, .rw, false, 1, .bt 1 6, .apply⟩,  -- PATTERN
  ⟨0x2540, 1, 0x02, 1, .u8, .rw, false, 63, .bt 0 63, .apply⟩,  -- ROWS
  ⟨0x2540, 1, 0x03, 1, .u8, .rw, false, 3, .bt 1 3, .apply⟩,  -- LEVEL
  ⟨0x2540, 1, 0x04, 1, .u8, .rw, false, 0, .bt 0 7, .apply⟩,  -- FLAGS
  ⟨0x2540, 1, 0x05, 1, .u8, .rw, false, 1, .bt 1 255, .apply⟩,  -- REPEAT
  ⟨0x2540, 1, 0xff, 1, .u8, .cmd, false, 0, .bt 0 1, .now⟩,  -- APPLY
  ⟨0x2541, 1, 0x00, 1, .u8, .ro, false, 6, .any, .now⟩,  -- TEST_STATUS count
  ⟨0x2541, 1, 0x01, 1, .u8, .ro, false, 0, .bt 0 4, .now⟩,  -- STATE
  ⟨0x2541, 1, 0x02, 1, .u64, .ro, false, 0, .any, .now⟩,  -- START
  ⟨0x2541, 1, 0x03, 1, .u32, .ro, false, 0, .any, .now⟩,  -- LENGTH
  ⟨0x2541, 1, 0x04, 1, .u8, .ro, false, 0, .bt 0 2, .now⟩,  -- OUTCOME
  ⟨0x2541, 1, 0x05, 1, .u8, .ro, false, 0, .bt 0 4, .now⟩,  -- RESULT
  ⟨0x2541, 1, 0x06, 1, .u32, .ro, false, 0, .any, .now⟩,  -- CHANGED_NOZZLES
  ⟨0x2542, 1, 0x00, 1, (.oct 96), .ro, false, 0, .any, .now⟩,  -- MEASURED_X_SHIFT
  ⟨0x2543, 1, 0x00, 1, (.oct 384), .ro, false, 0, .any, .now⟩,  -- MEASURED_ROW_POS
  ⟨0x2544, 1, 0x00, 1, .dom, .ro, false, 0, .any, .now⟩,  -- MEASURED_STATES
  ⟨0x2545, 1, 0x00, 1, .u8, .cmd, false, 0, .bt 1 1, .now⟩  -- ACCEPT
  ]

/-- The objects of 2600h to 26FFh, part 1. -/
def Dict.rows26a : List ObjRow := [
  ⟨0x2600, 1, 0x00, 1, .u8, .ro, false, 15, .any, .now⟩,  -- POSITION_STATUS count
  ⟨0x2600, 1, 0x01, 1, .u64, .ro, false, 0, .any, .now⟩,  -- POSITION
  ⟨0x2600, 1, 0x02, 1, .u64, .ro, false, 0, .any, .now⟩,  -- HIGH_WATER
  ⟨0x2600, 1, 0x03, 1, .i32, .ro, false, 0, .any, .now⟩,  -- SPEED
  ⟨0x2600, 1, 0x04, 1, .u8, .ro, false, 0, .bt 0 1, .now⟩,  -- DIRECTION
  ⟨0x2600, 1, 0x05, 1, .bool, .ro, false, 1, .bt 0 1, .now⟩,  -- VALID
  ⟨0x2600, 1, 0x06, 1, .u16, .rw, false, 0, .bt 0 31, .now⟩,  -- FLAGS
  ⟨0x2600, 1, 0x07, 1, .i64, .ro, false, 0, .any, .now⟩,  -- ENC_COUNT
  ⟨0x2600, 1, 0x08, 1, .u64, .ro, false, 0, .any, .now⟩,  -- REVERSAL_DEPTH
  ⟨0x2600, 1, 0x09, 1, .i64, .ro, false, 0, .any, .now⟩,  -- STEP_COUNT
  ⟨0x2600, 1, 0x0a, 1, .u32, .ro, false, 0, .any, .now⟩,  -- ILLEGAL_COUNT
  ⟨0x2600, 1, 0x0b, 1, .u32, .ro, false, 0, .any, .now⟩,  -- INDEX_CHECKS
  ⟨0x2600, 1, 0x0c, 1, .u32, .ro, false, 0, .any, .now⟩,  -- INDEX_ERRORS
  ⟨0x2600, 1, 0x0d, 1, .i32, .ro, false, 0, .any, .now⟩,  -- LAST_INDEX_ERROR
  ⟨0x2600, 1, 0x0e, 1, .u32, .ro, false, 0, .any, .now⟩,  -- REVERSALS
  ⟨0x2600, 1, 0x0f, 1, .u32, .ro, false, 0, .any, .now⟩,  -- CROSSCHECK_ERRORS
  ⟨0x2601, 1, 0x00, 1, .u8, .ro, false, 3, .any, .now⟩,  -- WEB_SCALE count
  ⟨0x2601, 1, 0x01, 1, .u16, .rw, true, 1200, .bt 300 2400, .apply⟩,  -- LINE_PITCH
  ⟨0x2601, 1, 0x02, 1, .u64, .rw, true, 1073741824, .bt 1 4294967296, .apply⟩,  -- ENC_RATIO
  ⟨0x2601, 1, 0x03, 1, .u64, .rw, true, 1073741824, .bt 1 4294967296, .apply⟩,  -- STEP_RATIO
  ⟨0x2601, 1, 0xff, 1, .u8, .cmd, false, 0, .bt 0 1, .now⟩,  -- APPLY
  ⟨0x2602, 1, 0x00, 1, .u8, .ro, false, 4, .any, .now⟩,  -- WEB_SOURCE count
  ⟨0x2602, 1, 0x01, 1, .u8, .rw, true, 0, .bt 0 2, .apply⟩,  -- SOURCE
  ⟨0x2602, 1, 0x02, 1, .u8, .rw, true, 0, .bt 0 2, .apply⟩,  -- CHECK_SOURCE
  ⟨0x2602, 1, 0x03, 1, .u8, .rw, true, 0, .bt 0 1, .apply⟩,  -- ENC_SENSE
  ⟨0x2602, 1, 0x04, 1, .u8, .rw, true, 1, .bt 0 1, .apply⟩,  -- STEP_SENSE
  ⟨0x2602, 1, 0xff, 1, .u8, .cmd, false, 0, .bt 0 1, .now⟩,  -- APPLY
  ⟨0x2603, 1, 0x00, 1, .u8, .ro, false, 3, .any, .now⟩,  -- WEB_FILTER count
  ⟨0x2603, 1, 0x01, 1, .u8, .rw, true, 8, .bt 1 200, .now⟩,  -- ENC_FILTER
  ⟨0x2603, 1, 0x02, 1, .u8, .rw, true, 8, .bt 1 200, .now⟩,  -- IDX_FILTER
  ⟨0x2603, 1, 0x03, 1, .u8, .rw, true, 4, .bt 1 200, .now⟩,  -- STEP_FILTER
  ⟨0x2604, 1, 0x00, 1, .u8, .ro, false, 2, .any, .now⟩,  -- WEB_SPEED count
  ⟨0x2604, 1, 0x01, 1, .u8, .rw, true, 8, .bt 1 64, .now⟩,  -- SPEED_AVG
  ⟨0x2604, 1, 0x02, 1, .u32, .rw, true, 10000000, .bt 1000 1000000000, .now⟩,  -- STANDSTILL_TIMEOUT
  ⟨0x2605, 1, 0x00, 1, .u8, .ro, false, 3, .any, .now⟩,  -- INDEX count
  ⟨0x2605, 1, 0x01, 1, .u32, .rw, true, 0, .btOr 512 4294967295 0, .apply⟩,  -- INDEX_PERIOD
  ⟨0x2605, 1, 0x02, 1, .u8, .rw, true, 8, .bt 0 64, .apply⟩,  -- INDEX_TOL
  ⟨0x2605, 1, 0x03, 1, .bool, .rw, true, 0, .bt 0 1, .apply⟩,  -- INDEX_CORRECT
  ⟨0x2605, 1, 0xff, 1, .u8, .cmd, false, 0, .bt 0 1, .now⟩,  -- APPLY
  ⟨0x2606, 1, 0x00, 1, .u8, .ro, false, 2, .any, .now⟩,  -- CHECK count
  ⟨0x2606, 1, 0x01, 1, .u32, .rw, true, 10000, .bt 16 1000000, .apply⟩,  -- CHECK_WINDOW
  ⟨0x2606, 1, 0x02, 1, .u32, .rw, true, 256, .bt 1 16777215, .apply⟩,  -- CHECK_TOL
  ⟨0x2606, 1, 0xff, 1, .u8, .cmd, false, 0, .bt 0 1, .now⟩,  -- APPLY
  ⟨0x2607, 1, 0x00, 1, .u8, .ro, false, 3, .any, .now⟩,  -- VIRTUAL count
  ⟨0x2607, 1, 0x01, 1, .u32, .rw, false, 0, .bt 0 102400000, .now⟩,  -- VIRTUAL_SPEED
  ⟨0x2607, 1, 0x02, 1, .u32, .rw, false, 1000000, .bt 1000 100000000, .now⟩,  -- VIRTUAL_ACCEL
  ⟨0x2607, 1, 0x03, 1, .u32, .ro, false, 0, .any, .now⟩,  -- VIRTUAL_ACTUAL
  ⟨0x2608, 1, 0x00, 1, .u64, .rw, true, 4294967296, .lines, .boot⟩,  -- POS_INIT
  ⟨0x2609, 1, 0x00, 1, .u8, .cmd, false, 0, .bt 1 1, .now⟩,  -- VALIDATE
  ⟨0x2610, 1, 0x00, 1, .u8, .ro, false, 2, .any, .now⟩,  -- REPEATER count
  ⟨0x2610, 1, 0x01, 1, .u8, .rw, true, 1, .bt 0 3, .now⟩,  -- REPEAT_MODE
  ⟨0x2610, 1, 0x02, 1, .u32, .rw, true, 16384, .bt 2048 16777216, .now⟩,  -- SYNTH_LINES
  ⟨0x2620, 16, 0x00, 1, .u8, .ro, false, 7, .any, .now⟩,  -- CMP count
  ⟨0x2620, 16, 0x01, 1, .u8, .rw, false, 0, .bt 0 2, .apply⟩,  -- MODE
  ⟨0x2620, 16, 0x02, 1, .u8, .rw, true, 0, .bt 0 1, .apply⟩,  -- IDLE_LEVEL
  ⟨0x2620, 16, 0x03, 1, .u32, .rw, false, 1000, .step 10 10000000 5, .apply⟩,  -- WIDTH
  ⟨0x2620, 16, 0x04, 1, .u64, .rw, false, 0, .any, .apply⟩,  -- START
  ⟨0x2620, 16, 0x05, 1, .u64, .rw, false, 65536, .any, .apply⟩,  -- PERIOD
  ⟨0x2620, 16, 0x06, 1, .u32, .rw, false, 0, .any, .apply⟩,  -- COUNT
  ⟨0x2620, 16, 0x07, 1, .bool, .rw, true, 0, .bt 0 1, .apply⟩  -- OUTPUT_ENABLE
  ]

/-- The objects of 2600h to 26FFh, part 2. -/
def Dict.rows26b : List ObjRow := [
  ⟨0x2620, 16, 0xff, 1, .u8, .cmd, false, 0, .bt 0 1, .now⟩,  -- APPLY
  ⟨0x2630, 16, 0x00, 1, .dom, .rw, false, 0, .any, .now⟩,  -- COMPARE_LIST_0–15
  ⟨0x2640, 16, 0x00, 1, .u8, .ro, false, 3, .any, .now⟩,  -- CMP_STATUS count
  ⟨0x2640, 16, 0x01, 1, .u64, .ro, false, 0, .any, .now⟩,  -- NEXT
  ⟨0x2640, 16, 0x02, 1, .u32, .ro, false, 0, .any, .now⟩,  -- PULSES
  ⟨0x2640, 16, 0x03, 1, .u32, .ro, false, 0, .any, .now⟩  -- MISSED
  ]

/-- The objects of 2600h to 26FFh. -/
def Dict.rows26 : List ObjRow := Dict.rows26a ++ Dict.rows26b

/-- The objects of 2700h to 27FFh. -/
def Dict.rows27 : List ObjRow := [
  ⟨0x2700, 1, 0x00, 1, .u8, .ro, false, 11, .any, .now⟩,  -- FIRE_STATUS count
  ⟨0x2700, 1, 0x01, 1, .u8, .ro, false, 0, .bt 0 3, .now⟩,  -- FIRING
  ⟨0x2700, 1, 0x02, 1, .u64, .ro, false, 0, .any, .now⟩,  -- FIRED_LINES
  ⟨0x2700, 1, 0x03, 1, .u64, .ro, false, 0, .any, .now⟩,  -- OVERSPEED_LINES
  ⟨0x2700, 1, 0x04, 1, .u64, .ro, false, 0, .any, .now⟩,  -- INTERLOCK_LINES
  ⟨0x2700, 1, 0x05, 1, .u64, .ro, false, 0, .any, .now⟩,  -- FAULT_LINES
  ⟨0x2700, 1, 0x06, 1, .u32, .ro, false, 0, .any, .now⟩,  -- LATE_FIRES
  ⟨0x2700, 1, 0x07, 1, .u32, .ro, false, 0, .any, .now⟩,  -- ZERO_SPEED_FIRES
  ⟨0x2700, 1, 0x08, 1, .u16, .ro, false, 0, .any, .now⟩,  -- MAX_PUSH
  ⟨0x2700, 1, 0x09, 1, .u32, .ro, false, 160000, .any, .now⟩,  -- RATE_LIMIT
  ⟨0x2700, 1, 0x0a, 1, .u32, .ro, false, 0, .any, .now⟩,  -- REVERSE_HOLDS
  ⟨0x2700, 1, 0x0b, 1, .u32, .ro, false, 0, .any, .now⟩,  -- REVERSE_SPOILS
  ⟨0x2701, 1, 0x00, 1, .u8, .ro, false, 6, .any, .now⟩,  -- FIRE_PERIOD_MIN count
  ⟨0x2701, 1, 0x01, 6, .u32, .rws, false, 6250, .bt 6250 1000000, .swap⟩,  -- FIRE_PERIOD_MIN_0–5
  ⟨0x2702, 1, 0x00, 1, .u8, .ro, false, 6, .any, .now⟩,  -- DROP_LEVELS count
  ⟨0x2702, 1, 0x01, 6, .u8, .rws, false, 7, .bt 0 7, .swap⟩,  -- DROP_LEVELS_0–5
  ⟨0x2703, 1, 0x00, 1, .u8, .ro, false, 6, .any, .now⟩,  -- INK_CODE count
  ⟨0x2703, 1, 0x01, 1, .u8, .rws, false, 0, .bt 0 255, .swap⟩,  -- INK_0
  ⟨0x2703, 1, 0x02, 1, .u8, .rws, false, 1, .bt 0 255, .swap⟩,  -- INK_1
  ⟨0x2703, 1, 0x03, 1, .u8, .rws, false, 2, .bt 0 255, .swap⟩,  -- INK_2
  ⟨0x2703, 1, 0x04, 1, .u8, .rws, false, 3, .bt 0 255, .swap⟩,  -- INK_3
  ⟨0x2703, 1, 0x05, 1, .u8, .rws, false, 4, .bt 0 255, .swap⟩,  -- INK_4
  ⟨0x2703, 1, 0x06, 1, .u8, .rws, false, 5, .bt 0 255, .swap⟩,  -- INK_5
  ⟨0x2710, 6, 0x00, 1, .u8, .ro, false, 9, .any, .now⟩,  -- PW_TABLE count
  ⟨0x2710, 6, 0x01, 1, .u16, .rws, false, 32000, .any, .swap⟩,  -- BASE_L1
  ⟨0x2710, 6, 0x02, 1, .u16, .rws, false, 48000, .any, .swap⟩,  -- BASE_L2
  ⟨0x2710, 6, 0x03, 1, .u16, .rws, false, 64000, .any, .swap⟩,  -- BASE_L3
  ⟨0x2710, 6, 0x04, 1, .u16, .rws, false, 16000, .any, .swap⟩,  -- PW_MIN
  ⟨0x2710, 6, 0x05, 1, .u16, .rws, false, 65535, .any, .swap⟩,  -- PW_MAX
  ⟨0x2710, 6, 0x06, 1, .i16, .rws, false, 640, .any, .swap⟩,  -- T_REF
  ⟨0x2710, 6, 0x07, 1, .i16, .rws, false, 0, .any, .swap⟩,  -- KT
  ⟨0x2710, 6, 0x08, 1, .u16, .rws, false, 24000, .any, .swap⟩,  -- V_REF
  ⟨0x2710, 6, 0x09, 1, .i16, .rws, false, 0, .any, .swap⟩,  -- KV
  ⟨0x2720, 16, 0x00, 1, .dom, .rw, true, 0, .any, .now⟩,  -- FINE_DELAY_0–15
  ⟨0x2730, 1, 0x00, 1, .u8, .ro, false, 2, .any, .now⟩,  -- PW_CONTROL count
  ⟨0x2730, 1, 0x01, 1, .u16, .rw, true, 64, .bt 1 16000, .now⟩,  -- PW_SLEW
  ⟨0x2730, 1, 0x02, 1, .u16, .rw, true, 50, .bt 5 1000, .now⟩,  -- STALE_TIME
  ⟨0x2731, 1, 0x00, 1, .u8, .rw, true, 95, .bt 50 100, .now⟩,  -- OVERSPEED_WARN
  ⟨0x2732, 1, 0x00, 1, .u32, .rw, true, 4, .bt 1 65535, .now⟩,  -- REVERSE_SPOIL
  ⟨0x2733, 1, 0x00, 1, (.oct 576), .ro, false, 0, .any, .now⟩,  -- PW_EFFECTIVE
  ⟨0x2734, 1, 0x00, 1, (.oct 384), .ro, false, 0, .any, .now⟩,  -- LIMIT_PERIOD
  ⟨0x2740, 4, 0x00, 1, .u8, .ro, false, 6, .any, .now⟩,  -- INTERLOCK count
  ⟨0x2740, 4, 0x01, 1, .bool, .rw, true, 1, .bt 0 1, .now⟩,  -- ENABLE
  ⟨0x2740, 4, 0x02, 1, .u8, .rw, true, 0, .bt 0 1, .now⟩,  -- ACTIVE_LEVEL
  ⟨0x2740, 4, 0x03, 1, .u16, .rw, true, 200, .bt 1 20000, .now⟩,  -- FILTER
  ⟨0x2740, 4, 0x04, 1, .bool, .rw, true, 1, .bt 0 1, .now⟩,  -- LATCH
  ⟨0x2740, 4, 0x05, 1, .u8, .ro, false, 0, .bt 0 2, .now⟩,  -- STATE
  ⟨0x2740, 4, 0x06, 1, .u32, .ro, false, 0, .any, .now⟩,  -- TRIPS
  ⟨0x2744, 1, 0x00, 1, .u8, .cmd, false, 0, .bt 0 15, .now⟩  -- INTERLOCK_CLEAR
  ]

end Sys2Proof.Machine
end

