-- ==== Sys2Proof/Machine/Dict28.lean ====
section
/-! DEFINITION. The object dictionary, indices 2800h on: one row for each object of the object tables of
spec/02 to spec/23 (R97 and the owning chapters), in index order: first index, number of instances,
first subindex, number of subindices, type, access, P, default, range, Applies moment.
A record whose table lists no subindex 00h gets its count there (the REC row of R71; DEDUCED, log 5). -/

namespace Sys2Proof.Machine

/-- The objects of 2800h to 28FFh. -/
def Dict.rows28 : List ObjRow := [
  ⟨0x2800, 16, 0x00, 1, .u8, .ro, false, 13, .any, .now⟩,  -- HEAD_STATUS count
  ⟨0x2800, 16, 0x01, 1, .u8, .ro, false, 0, .bt 0 4, .now⟩,  -- LINK
  ⟨0x2800, 16, 0x02, 1, .u8, .ro, false, 0, .bt 0 3, .now⟩,  -- GRADE
  ⟨0x2800, 16, 0x03, 1, .u8, .ro, false, 0, .any, .now⟩,  -- OWNER_STATE
  ⟨0x2800, 16, 0x04, 1, .u16, .ro, false, 0, .any, .now⟩,  -- HEAD_FLAGS
  ⟨0x2800, 16, 0x05, 1, .u16, .ro, false, 0, .any, .now⟩,  -- VOLTAGE
  ⟨0x2800, 16, 0x06, 1, (.oct 12), .ro, false, 0, .any, .now⟩,  -- TEMPS
  ⟨0x2800, 16, 0x07, 1, .u8, .ro, false, 0, .any, .now⟩,  -- ROWS_FITTED
  ⟨0x2800, 16, 0x08, 1, .u64, .ro, false, 0, .any, .now⟩,  -- PACKETS_TX
  ⟨0x2800, 16, 0x09, 1, .u32, .ro, false, 0, .any, .now⟩,  -- RETRANSMISSIONS
  ⟨0x2800, 16, 0x0a, 1, .u32, .ro, false, 0, .any, .now⟩,  -- LINES_NOT_DRIVEN
  ⟨0x2800, 16, 0x0b, 1, .u32, .ro, false, 0, .any, .now⟩,  -- CONTENTIONS
  ⟨0x2800, 16, 0x0c, 1, .u16, .ro, false, 0, .any, .now⟩,  -- LAST_EVENT
  ⟨0x2800, 16, 0x0d, 1, .u32, .ro, false, 0, .any, .now⟩,  -- STALE_NAKS
  ⟨0x2810, 16, 0x00, 1, .dom, .ro, false, 0, .any, .now⟩,  -- IDENTITY_0–15
  ⟨0x2820, 16, 0x00, 1, .dom, .rw, false, 0, .any, .now⟩,  -- USER_AREA_0–15
  ⟨0x2830, 1, 0x00, 1, .u8, .ro, false, 3, .any, .now⟩,  -- HEAD_CONFIG count
  ⟨0x2830, 1, 0x01, 1, .u8, .rw, true, 3, .bt 0 7, .now⟩,  -- RETX_LIMIT
  ⟨0x2830, 1, 0x02, 1, .u16, .rw, true, 100, .bt 50 5000, .now⟩,  -- REPORT_INTERVAL
  ⟨0x2830, 1, 0x03, 1, .u16, .rw, true, 65535, .any, .now⟩,  -- SEGMENT_ENABLE
  ⟨0x2831, 1, 0x00, 1, .u16, .cmd, false, 0, .any, .now⟩  -- HEAD_RESET
  ]

/-- The objects of 2900h to 29FFh. -/
def Dict.rows29 : List ObjRow := [
  ⟨0x2900, 24, 0x00, 1, .u8, .ro, false, 14, .any, .now⟩,  -- LANE_STATUS count
  ⟨0x2900, 24, 0x01, 1, .u8, .ro, false, 0, .bt 0 7, .now⟩,  -- STATE
  ⟨0x2900, 24, 0x02, 1, .u8, .ro, false, 0, .bt 0 4, .now⟩,  -- GRADE
  ⟨0x2900, 24, 0x03, 1, .u8, .ro, false, 0, .bt 0 4, .now⟩,  -- GRADE_LIMIT
  ⟨0x2900, 24, 0x04, 1, .bool, .ro, false, 0, .bt 0 1, .now⟩,  -- RX_INVERTED
  ⟨0x2900, 24, 0x05, 1, .u64, .ro, false, 0, .any, .now⟩,  -- CORRECTED_SYMBOLS
  ⟨0x2900, 24, 0x06, 1, .u64, .ro, false, 0, .any, .now⟩,  -- CORRECTED_CODEWORDS
  ⟨0x2900, 24, 0x07, 1, .u64, .ro, false, 0, .any, .now⟩,  -- UNCORRECTABLE
  ⟨0x2900, 24, 0x08, 1, .u32, .ro, false, 0, .any, .now⟩,  -- BAD_SYNC
  ⟨0x2900, 24, 0x09, 1, .u32, .ro, false, 0, .any, .now⟩,  -- LOCK_LOSSES
  ⟨0x2900, 24, 0x0a, 1, .u32, .ro, false, 0, .any, .now⟩,  -- TRAININGS
  ⟨0x2900, 24, 0x0b, 1, .u32, .ro, false, 0, .any, .now⟩,  -- FALLBACKS
  ⟨0x2900, 24, 0x0c, 1, .u16, .ro, false, 0, .any, .now⟩,  -- EYE_HEIGHT
  ⟨0x2900, 24, 0x0d, 1, .u16, .ro, false, 0, .any, .now⟩,  -- EYE_WIDTH
  ⟨0x2900, 24, 0x0e, 1, .bool, .ro, false, 0, .bt 0 1, .now⟩,  -- EQ_STATE_VALID
  ⟨0x2920, 24, 0x00, 1, .u8, .ro, false, 4, .any, .now⟩,  -- LANE_CONFIG count
  ⟨0x2920, 16, 0x01, 1, .u8, .rw, true, 3, .bt 0 3, .now⟩,  -- MAX_GRADE
  ⟨0x2920, 24, 0x02, 1, .bool, .rw, true, 0, .bt 0 1, .now⟩,  -- TX_INVERT
  ⟨0x2920, 24, 0x03, 1, .u8, .rw, true, 0, .bt 0 2, .now⟩,  -- RX_INVERT
  ⟨0x2920, 24, 0x04, 1, .bool, .rw, true, 1, .bt 0 1, .now⟩,  -- ENABLE
  ⟨0x2930, 8, 0x01, 1, .u8, .rw, true, 4, .bt 0 4, .now⟩,  -- 
  ⟨0x2940, 1, 0x00, 1, .u8, .ro, false, 4, .any, .now⟩,  -- LANE_GLOBAL count
  ⟨0x2940, 1, 0x01, 1, .u32, .rw, true, 1048576, .bt 65536 67108864, .now⟩,  -- VERIFY_CODEWORDS
  ⟨0x2940, 1, 0x02, 1, .u16, .rw, true, 16, .bt 1 65535, .now⟩,  -- ERR_LIMIT
  ⟨0x2940, 1, 0x03, 1, .u32, .rw, true, 3600, .bt 60 86400, .now⟩,  -- EQ_STATE_MAX_AGE
  ⟨0x2940, 1, 0x04, 1, .u16, .rw, true, 30, .bt 0 500, .now⟩,  -- EYE_WARN
  ⟨0x2941, 1, 0x00, 1, .u32, .cmd, false, 0, .bt 0 16777215, .now⟩  -- RETRAIN
  ]

/-- The objects of 3000h to 30FFh, part 1. -/
def Dict.rows30a : List ObjRow := [
  ⟨0x3000, 4, 0x00, 1, .u8, .ro, false, 10, .any, .now⟩,  -- CAM_STATUS count
  ⟨0x3000, 4, 0x01, 1, .u8, .ro, false, 0, .bt 0 4, .now⟩,  -- STATE
  ⟨0x3000, 4, 0x02, 1, .u32, .ro, false, 0, .any, .now⟩,  -- FRAMES
  ⟨0x3000, 4, 0x03, 1, .u16, .ro, false, 0, .any, .now⟩,  -- GENERATION
  ⟨0x3000, 4, 0x04, 1, .u16, .ro, false, 0, .any, .now⟩,  -- APPLIED
  ⟨0x3000, 4, 0x05, 1, .u8, .ro, false, 0, .bt 0 4, .now⟩,  -- IN_FLIGHT
  ⟨0x3000, 4, 0x06, 1, .u8, .ro, false, 0, .bt 0 2, .now⟩,  -- LIVE_RESULT
  ⟨0x3000, 4, 0x07, 1, .bool, .ro, false, 0, .bt 0 1, .now⟩,  -- FLAT_VALID
  ⟨0x3000, 4, 0x08, 1, .u32, .ro, false, 0, .any, .now⟩,  -- SHORT_FRAMES
  ⟨0x3000, 4, 0x09, 1, .u32, .ro, false, 0, .any, .now⟩,  -- LONG_FRAMES
  ⟨0x3000, 4, 0x0a, 1, .u32, .ro, false, 0, .any, .now⟩,  -- MISSED_FRAMES
  ⟨0x3004, 4, 0x00, 1, .u8, .ro, false, 12, .any, .now⟩,  -- CAM_PORT count
  ⟨0x3004, 4, 0x01, 1, .bool, .rw, true, 0, .bt 0 1, .apply⟩,  -- ENABLE
  ⟨0x3004, 4, 0x02, 1, .u8, .rw, true, 4, .oneOf [1, 2, 4], .apply⟩,  -- LANES
  ⟨0x3004, 4, 0x03, 1, .u8, .rw, true, 44, .bt 42 44, .apply⟩,  -- DATA_TYPE
  ⟨0x3004, 4, 0x04, 1, .u8, .rw, true, 0, .bt 0 3, .apply⟩,  -- VC
  ⟨0x3004, 4, 0x05, 1, .u16, .rw, true, 4096, .bt 64 8192, .apply⟩,  -- WIDTH
  ⟨0x3004, 4, 0x06, 1, .u16, .rw, true, 1024, .bt 1 8192, .apply⟩,  -- HEIGHT
  ⟨0x3004, 4, 0x07, 1, .u8, .rw, true, 0, .bt 0 3, .apply⟩,  -- MOSAIC
  ⟨0x3004, 4, 0x08, 1, .u8, .rw, true, 0, .any, .apply⟩,  -- CFA_X
  ⟨0x3004, 4, 0x09, 1, .u8, .rw, true, 0, .any, .apply⟩,  -- CFA_Y
  ⟨0x3004, 4, 0x0a, 1, .u8, .rw, true, 2, .bt 1 4, .apply⟩,  -- SETTING_LATENCY
  ⟨0x3004, 4, 0x0b, 1, .u8, .rw, true, 1, .bt 0 2, .apply⟩,  -- CCI_SPEED
  ⟨0x3004, 4, 0x0c, 1, .u16, .rw, true, 256, .bt 0 4095, .apply⟩,  -- BLACK_LEVEL
  ⟨0x3004, 4, 0xff, 1, .u8, .cmd, false, 0, .bt 0 1, .now⟩,  -- APPLY
  ⟨0x3008, 4, 0x00, 1, .u8, .ro, false, 5, .any, .now⟩,  -- CAM_TRIGGER count
  ⟨0x3008, 4, 0x01, 1, .u8, .rw, true, 0, .bt 0 1, .apply⟩,  -- MODE
  ⟨0x3008, 1, 0x02, 1, .u8, .rw, true, 0, .bt 0 15, .apply⟩,  -- TRIGGER_CMP
  ⟨0x3008, 4, 0x03, 1, .u8, .rw, true, 255, .btOr 0 15 255, .apply⟩,  -- STROBE_CMP
  ⟨0x3008, 4, 0x04, 1, .u16, .rw, true, 20, .bt 1 1000, .apply⟩,  -- TRIGGER_TIMEOUT
  ⟨0x3008, 4, 0x05, 1, .u32, .rw, true, 0, .bt 0 614400000, .apply⟩,  -- CAM_DIST
  ⟨0x3008, 4, 0xff, 1, .u8, .cmd, false, 0, .bt 0 1, .now⟩,  -- APPLY
  ⟨0x3009, 1, 0x02, 1, .u8, .rw, true, 1, .bt 0 15, .apply⟩,  -- 
  ⟨0x300a, 1, 0x02, 1, .u8, .rw, true, 2, .bt 0 15, .apply⟩,  -- 
  ⟨0x300b, 1, 0x02, 1, .u8, .rw, true, 3, .bt 0 15, .apply⟩,  -- 
  ⟨0x300c, 4, 0x00, 1, .dom, .rw, true, 0, .any, .now⟩,  -- CCI_SCRIPT_0–3
  ⟨0x3010, 4, 0x00, 1, .u8, .ro, false, 7, .any, .now⟩,  -- CAM_SET count
  ⟨0x3010, 4, 0x01, 1, .u32, .rws, false, 1000, .any, .swap⟩,  -- EXPOSURE
  ⟨0x3010, 4, 0x02, 1, .u16, .rws, false, 0, .any, .swap⟩,  -- GAIN
  ⟨0x3010, 4, 0x03, 1, .u32, .rws, false, 0, .stepOr 10 10000000 5 0, .swap⟩,  -- STROBE_WIDTH
  ⟨0x3010, 4, 0x04, 1, .bool, .rws, false, 0, .bt 0 1, .swap⟩,  -- AE_ENABLE
  ⟨0x3010, 4, 0x05, 1, .u16, .rws, false, 2048, .bt 1 4095, .swap⟩,  -- AE_TARGET
  ⟨0x3010, 4, 0x06, 1, .u32, .rws, false, 1, .any, .swap⟩,  -- EXP_MIN
  ⟨0x3010, 4, 0x07, 1, .u32, .rws, false, 100000, .any, .swap⟩,  -- EXP_MAX
  ⟨0x3014, 4, 0x00, 1, .u8, .ro, false, 3, .any, .now⟩,  -- CAM_LIVE count
  ⟨0x3014, 4, 0x01, 1, .u32, .rw, false, 1000, .any, .apply⟩,  -- LIVE_EXPOSURE
  ⟨0x3014, 4, 0x02, 1, .u16, .rw, false, 0, .any, .apply⟩,  -- LIVE_GAIN
  ⟨0x3014, 4, 0x03, 1, .u32, .rw, false, 0, .stepOr 10 10000000 5 0, .apply⟩,  -- LIVE_STROBE_WIDTH
  ⟨0x3014, 4, 0xff, 1, .u8, .cmd, false, 0, .bt 0 1, .now⟩,  -- APPLY
  ⟨0x3018, 4, 0x00, 1, .u8, .ro, false, 2, .any, .now⟩,  -- CAM_AE count
  ⟨0x3018, 4, 0x01, 1, .u8, .rw, true, 5, .bt 0 50, .now⟩,  -- AE_DEADBAND
  ⟨0x3018, 4, 0x02, 1, .u8, .rw, true, 25, .bt 1 100, .now⟩,  -- AE_MAX_STEP
  ⟨0x3020, 16, 0x00, 1, .u8, .ro, false, 9, .any, .now⟩,  -- STREAM count
  ⟨0x3020, 16, 0x01, 1, .u8, .rws, false, 0, .bt 0 3, .swap⟩,  -- SINK
  ⟨0x3020, 16, 0x02, 1, .u16, .rws, false, 0, .any, .swap⟩,  -- X
  ⟨0x3020, 16, 0x03, 1, .u16, .rws, false, 0, .any, .swap⟩,  -- Y
  ⟨0x3020, 16, 0x04, 1, .u16, .rws, false, 64, .any, .swap⟩,  -- WIDTH
  ⟨0x3020, 16, 0x05, 1, .u16, .rws, false, 1, .any, .swap⟩,  -- HEIGHT
  ⟨0x3020, 16, 0x06, 2, .u8, .rws, false, 1, .bt 1 16, .swap⟩,  -- SCALE_X, SCALE_Y
  ⟨0x3020, 16, 0x08, 1, .u8, .rws, false, 1, .bt 0 15, .swap⟩  -- CHANNELS
  ]

/-- The objects of 3000h to 30FFh, part 2. -/
def Dict.rows30b : List ObjRow := [
  ⟨0x3020, 16, 0x09, 1, .u8, .rws, false, 8, .oneOf [8, 12], .swap⟩,  -- DEPTH
  ⟨0x3030, 4, 0x00, 1, .dom, .rw, false, 0, .any, .now⟩,  -- FLAT_FIELD_0–3
  ⟨0x3034, 4, 0x00, 1, .u8, .ro, false, 9, .any, .now⟩,  -- CAM_STATS_CFG count
  ⟨0x3034, 4, 0x01, 1, .u16, .rw, true, 0, .any, .now⟩,  -- WIN_X
  ⟨0x3034, 4, 0x02, 1, .u16, .rw, true, 0, .any, .now⟩,  -- WIN_Y
  ⟨0x3034, 4, 0x03, 1, .u16, .rw, true, 4096, .any, .now⟩,  -- WIN_W
  ⟨0x3034, 4, 0x04, 1, .u16, .rw, true, 1024, .any, .now⟩,  -- WIN_H
  ⟨0x3034, 4, 0x05, 1, .u8, .rw, true, 0, .bt 0 3, .now⟩,  -- HIST_CHANNEL
  ⟨0x3034, 4, 0x06, 1, .u16, .rw, true, 4032, .bt 1 4095, .now⟩,  -- SAT_LEVEL
  ⟨0x3034, 4, 0x07, 3, .u8, .rw, true, 255, .bt 0 255, .now⟩,  -- IR_SUB_R, IR_SUB_G, IR_SUB_B
  ⟨0x3040, 4, 0x00, 1, .u8, .ro, false, 6, .any, .now⟩,  -- CAM_STATS count
  ⟨0x3040, 4, 0x01, 1, .u32, .ro, false, 0, .any, .now⟩,  -- FRAME_NO
  ⟨0x3040, 4, 0x02, 1, .u16, .ro, false, 0, .any, .now⟩,  -- TAG
  ⟨0x3040, 4, 0x03, 1, .bool, .ro, false, 0, .bt 0 1, .now⟩,  -- VALID
  ⟨0x3040, 4, 0x04, 1, (.oct 8), .ro, false, 0, .any, .now⟩,  -- MEANS
  ⟨0x3040, 4, 0x05, 1, .u32, .ro, false, 0, .any, .now⟩,  -- SATURATED
  ⟨0x3040, 4, 0x06, 1, (.oct 1024), .ro, false, 0, .any, .now⟩,  -- HISTOGRAM
  ⟨0x3050, 1, 0x00, 1, .u16, .cmd, false, 0, .any, .now⟩,  -- SNAPSHOT
  ⟨0x3051, 16, 0x00, 1, .dom, .ro, false, 0, .any, .now⟩  -- CAM_FRAME_0–15
  ]

/-- The objects of 3000h to 30FFh. -/
def Dict.rows30 : List ObjRow := Dict.rows30a ++ Dict.rows30b

/-- The objects of 3100h to 31FFh. -/
def Dict.rows31 : List ObjRow := [
  ⟨0x3100, 1, 0x00, 1, .u8, .ro, false, 8, .any, .now⟩,  -- COMPARE_STATUS count
  ⟨0x3100, 1, 0x01, 1, .u32, .ro, false, 0, .any, .now⟩,  -- FRAMES_COMPARED
  ⟨0x3100, 1, 0x02, 1, .u32, .ro, false, 0, .any, .now⟩,  -- PAGES_COMMITTED
  ⟨0x3100, 1, 0x03, 1, .u32, .ro, false, 0, .any, .now⟩,  -- FRAMES_EXCLUDED
  ⟨0x3100, 1, 0x04, 1, .u32, .ro, false, 0, .any, .now⟩,  -- DEFECTS
  ⟨0x3100, 1, 0x05, 1, .u16, .ro, false, 0, .any, .now⟩,  -- SUSPECTS
  ⟨0x3100, 1, 0x06, 1, .u32, .ro, false, 0, .any, .now⟩,  -- SUSPECT_DROPS
  ⟨0x3100, 1, 0x07, 1, .u32, .ro, false, 0, .any, .now⟩,  -- UPDATES_APPLIED
  ⟨0x3100, 1, 0x08, 1, .u32, .ro, false, 0, .any, .now⟩,  -- UPDATES_DISCARDED
  ⟨0x3101, 4, 0x00, 1, .u8, .ro, false, 4, .any, .now⟩,  -- CAM_MAP count
  ⟨0x3101, 4, 0x01, 1, .i32, .rw, true, 0, .any, .apply⟩,  -- MAP_X0
  ⟨0x3101, 4, 0x02, 1, .u32, .rw, true, 65536, .bt 4096 2097152, .apply⟩,  -- MAP_DX
  ⟨0x3101, 4, 0x03, 1, .i32, .rw, true, 0, .any, .apply⟩,  -- MAP_Y0
  ⟨0x3101, 4, 0x04, 1, .i32, .rw, true, 65536, .absBt 4096 8388608, .apply⟩,  -- MAP_DY
  ⟨0x3101, 4, 0xff, 1, .u8, .cmd, false, 0, .bt 0 1, .now⟩,  -- APPLY
  ⟨0x3108, 4, 0x00, 1, .u8, .ro, false, 5, .any, .now⟩,  -- CAM_WHITE count
  ⟨0x3108, 4, 0x01, 4, .u16, .rw, true, 3800, .bt 1 4095, .now⟩,  -- WHITE_0–3
  ⟨0x3108, 4, 0x05, 1, (.oct 4), .rw, true, 0, .eachU8 0 63, .now⟩,  -- ATTRIB
  ⟨0x3110, 4, 0x00, 1, .dom, .rw, true, 0, .any, .now⟩,  -- RESP_0–3
  ⟨0x3118, 4, 0x00, 1, .u8, .ro, false, 8, .any, .now⟩,  -- INSPECT count
  ⟨0x3118, 4, 0x01, 1, .u16, .rws, false, 48, .bt 1 4095, .swap⟩,  -- STREAK_TOL
  ⟨0x3118, 4, 0x02, 1, .u16, .rws, false, 160, .bt 1 4095, .swap⟩,  -- DEAD_DEPTH
  ⟨0x3118, 4, 0x03, 1, .u16, .rws, false, 400, .bt 1 4095, .swap⟩,  -- SPOT_TOL
  ⟨0x3118, 4, 0x04, 1, .u16, .rws, false, 16, .bt 1 65535, .swap⟩,  -- SPOT_AREA
  ⟨0x3118, 4, 0x05, 1, .u16, .rws, false, 819, .bt 0 4095, .swap⟩,  -- DENS_LO
  ⟨0x3118, 4, 0x06, 1, .u16, .rws, false, 3276, .bt 0 4096, .swap⟩,  -- DENS_HI
  ⟨0x3118, 4, 0x07, 1, .u8, .rws, false, 4, .bt 1 16, .swap⟩,  -- REG_SEARCH
  ⟨0x3118, 4, 0x08, 1, .u8, .rws, false, 15, .bt 0 15, .swap⟩,  -- FINDINGS
  ⟨0x311c, 4, 0x00, 1, .dom, .rws, false, 0, .any, .swap⟩,  -- REGIONS_0–3
  ⟨0x3120, 1, 0x00, 1, .u8, .ro, false, 11, .any, .now⟩,  -- LOOP count
  ⟨0x3120, 1, 0x01, 1, .u8, .rw, true, 0, .bt 0 15, .now⟩,  -- LOOP_ENABLE
  ⟨0x3120, 1, 0x02, 1, .u8, .rw, true, 4, .bt 1 32, .now⟩,  -- SUSPECT_M
  ⟨0x3120, 1, 0x03, 1, .u8, .rw, true, 8, .bt 1 32, .now⟩,  -- SUSPECT_N
  ⟨0x3120, 1, 0x04, 1, .u16, .rw, true, 64, .bt 8 65535, .now⟩,  -- RECOVER_N
  ⟨0x3120, 1, 0x05, 1, .u16, .rw, true, 164, .bt 1 1024, .now⟩,  -- NOZZLE_GAIN_STEP
  ⟨0x3120, 1, 0x06, 1, .u16, .rw, true, 41, .bt 1 410, .now⟩,  -- GAIN_STEP
  ⟨0x3120, 1, 0x07, 1, .u16, .rw, true, 82, .bt 0 2048, .now⟩,  -- DENS_DEADBAND
  ⟨0x3120, 1, 0x08, 1, .u8, .rw, true, 128, .bt 1 255, .now⟩,  -- DENS_LOOP_GAIN
  ⟨0x3120, 1, 0x09, 1, .u32, .rw, true, 128, .bt 1 65536, .now⟩,  -- REG_DEADBAND
  ⟨0x3120, 1, 0x0a, 1, .u16, .rw, true, 192, .bt 128 2560, .now⟩,  -- REG_X_DEADBAND
  ⟨0x3120, 1, 0x0b, 1, .u8, .rw, true, 3, .bt 1 64, .now⟩,  -- REG_PAGES
  ⟨0x3121, 1, 0x00, 1, .dom, .ro, false, 0, .any, .now⟩,  -- SUSPECT_TABLE
  ⟨0x3122, 1, 0x00, 1, .dom, .ro, false, 0, .any, .now⟩,  -- DEFECT_LOG
  ⟨0x3124, 1, 0x00, 1, (.oct 192), .ro, false, 0, .any, .now⟩,  -- DENSITY_ERROR
  ⟨0x3125, 1, 0x00, 1, (.oct 768), .ro, false, 0, .any, .now⟩  -- REGISTER_ERROR
  ]

/-- The objects of 3200h to 32FFh. -/
def Dict.rows32 : List ObjRow := [
  ⟨0x3200, 1, 0x00, 1, .u8, .ro, false, 5, .any, .now⟩,  -- DRAM_STATUS count
  ⟨0x3200, 1, 0x01, 1, .u64, .ro, false, 0, .any, .now⟩,  -- CAPACITY
  ⟨0x3200, 1, 0x02, 1, .u16, .ro, false, 0, .any, .now⟩,  -- DATA_RATE_IN_EFFECT
  ⟨0x3200, 1, 0x03, 1, .bool, .ro, false, 0, .bt 0 1, .now⟩,  -- FILL_DONE
  ⟨0x3200, 1, 0x04, 1, .u8, .ro, false, 0, .any, .now⟩,  -- FROZEN
  ⟨0x3200, 1, 0x05, 1, .u16, .ro, false, 0, .any, .now⟩,  -- MAX_STALL
  ⟨0x3201, 4, 0x00, 1, .u8, .ro, false, 9, .any, .now⟩,  -- CHANNEL_STATUS count
  ⟨0x3201, 4, 0x01, 1, .u8, .ro, false, 0, .bt 0 5, .now⟩,  -- STATE
  ⟨0x3201, 4, 0x02, 1, .u32, .ro, false, 0, .any, .now⟩,  -- CORRECTED
  ⟨0x3201, 4, 0x03, 1, .u32, .ro, false, 0, .any, .now⟩,  -- UNCORRECTABLE
  ⟨0x3201, 4, 0x04, 1, .u32, .ro, false, 0, .any, .now⟩,  -- FORCED_REFRESHES
  ⟨0x3201, 4, 0x05, 1, .u8, .ro, false, 1, .bt 1 2, .now⟩,  -- REFRESH_RATE
  ⟨0x3201, 4, 0x06, 1, .u64, .ro, false, 0, .any, .now⟩,  -- LAST_CORRECTED
  ⟨0x3201, 4, 0x07, 1, .u32, .ro, false, 0, .any, .now⟩,  -- SCRUB_PASSES
  ⟨0x3201, 4, 0x08, 1, .u64, .ro, false, 0, .any, .now⟩,  -- SCRUB_POSITION
  ⟨0x3201, 4, 0x09, 1, .u32, .ro, false, 0, .any, .now⟩,  -- STICKY
  ⟨0x3208, 4, 0x00, 1, .u8, .ro, false, 10, .any, .now⟩,  -- FREEZE count
  ⟨0x3208, 4, 0x01, 1, .u8, .ro, false, 0, .bt 0 2, .now⟩,  -- KIND
  ⟨0x3208, 4, 0x02, 1, .u64, .ro, false, 0, .any, .now⟩,  -- ADDRESS
  ⟨0x3208, 4, 0x03, 1, .u8, .ro, false, 0, .bt 0 7, .now⟩,  -- BANK_GROUP
  ⟨0x3208, 4, 0x04, 1, .u8, .ro, false, 0, .bt 0 3, .now⟩,  -- BANK
  ⟨0x3208, 4, 0x05, 1, .u32, .ro, false, 0, .any, .now⟩,  -- ROW
  ⟨0x3208, 4, 0x06, 1, .u16, .ro, false, 0, .any, .now⟩,  -- COLUMN
  ⟨0x3208, 4, 0x07, 1, .u8, .ro, false, 0, .any, .now⟩,  -- SYNDROME
  ⟨0x3208, 4, 0x08, 1, .u8, .ro, false, 0, .bt 1 4, .now⟩,  -- COMMAND
  ⟨0x3208, 4, 0x09, 1, .u8, .ro, false, 0, .any, .now⟩,  -- PORT
  ⟨0x3208, 4, 0x0a, 1, .u64, .ro, false, 0, .any, .now⟩,  -- TIME
  ⟨0x3210, 1, 0x00, 1, .u8, .ro, false, 3, .any, .now⟩,  -- DRAM_CONFIG count
  ⟨0x3210, 1, 0x01, 1, .u16, .rw, true, 6400, .oneOf [4800, 5600, 6400], .boot⟩,  -- DATA_RATE
  ⟨0x3210, 1, 0x02, 1, .bool, .rw, true, 1, .bt 0 1, .boot⟩,  -- WRITE_CRC
  ⟨0x3210, 1, 0x03, 1, .u16, .rw, true, 24, .bt 1 168, .now⟩  -- PATROL_PERIOD
  ]

end Sys2Proof.Machine
end

