-- ==== Sys2Proof/Machine/Dict33.lean ====
section
/-! DEFINITION. The object dictionary, indices 3300h on: one row for each object of the object tables of
spec/02 to spec/23 (R97 and the owning chapters), in index order: first index, number of instances,
first subindex, number of subindices, type, access, P, default, range, Applies moment.
A record whose table lists no subindex 00h gets its count there (the REC row of R71; DEDUCED, log 5). -/

namespace Sys2Proof.Machine

/-- The objects of 3300h to 33FFh. -/
def Dict.rows33 : List ObjRow := [
  ⟨0x3300, 1, 0x00, 1, .u8, .ro, false, 5, .any, .now⟩,  -- DMA_STATUS count
  ⟨0x3300, 1, 0x01, 1, .u32, .ro, false, 0, .any, .now⟩,  -- ACTIVE
  ⟨0x3300, 1, 0x02, 1, .u32, .ro, false, 0, .any, .now⟩,  -- SUSPENDED
  ⟨0x3300, 1, 0x03, 1, .u64, .ro, false, 0, .any, .now⟩,  -- BURSTS
  ⟨0x3300, 1, 0x04, 1, .u32, .ro, false, 0, .any, .now⟩,  -- BUS_ERRORS
  ⟨0x3300, 1, 0x05, 1, .u32, .ro, false, 0, .any, .now⟩,  -- OVERLAP_REJECTS
  ⟨0x3301, 1, 0x00, 1, (.oct 64), .ro, false, 0, .any, .now⟩,  -- CHANNEL_SHARE
  ⟨0x3302, 1, 0x00, 1, (.oct 32), .ro, false, 0, .any, .now⟩,  -- CHANNEL_PRIORITY
  ⟨0x3310, 32, 0x00, 1, .u8, .ro, false, 7, .any, .now⟩,  -- CHANNEL count
  ⟨0x3310, 32, 0x01, 1, .u8, .ro, false, 0, .bt 0 3, .now⟩,  -- STATE
  ⟨0x3310, 32, 0x02, 1, .u8, .ro, false, 0, .any, .now⟩,  -- LAST_STATUS
  ⟨0x3310, 32, 0x03, 1, .u16, .ro, false, 0, .any, .now⟩,  -- DESCRIPTOR
  ⟨0x3310, 32, 0x04, 1, .u64, .ro, false, 0, .any, .now⟩,  -- REMAINING
  ⟨0x3310, 32, 0x05, 1, .u64, .ro, false, 0, .any, .now⟩,  -- FAULT_ADDR
  ⟨0x3310, 32, 0x06, 1, .u64, .ro, false, 0, .any, .now⟩,  -- INPUT_CONSUMED
  ⟨0x3310, 32, 0x07, 1, .u64, .ro, false, 0, .any, .now⟩,  -- OUTPUT_PRODUCED
  ⟨0x3330, 8, 0x00, 1, .u8, .ro, false, 4, .any, .now⟩,  -- MOVE_CONFIG count
  ⟨0x3330, 8, 0x01, 1, .u8, .rw, false, 7, .bt 4 7, .apply⟩,  -- PRIORITY
  ⟨0x3330, 8, 0x02, 1, .u16, .rw, false, 8, .bt 1 256, .apply⟩,  -- SHARE
  ⟨0x3330, 8, 0x03, 1, .u64, .rw, false, 0, .any, .apply⟩,  -- RESUME_ADDR
  ⟨0x3330, 8, 0x04, 1, .u32, .rw, false, 0, .bt 1 67108864, .apply⟩,  -- RESUME_LENGTH
  ⟨0x3330, 8, 0xff, 1, .u8, .cmd, false, 0, .bt 0 1, .now⟩,  -- APPLY
  ⟨0x3338, 8, 0x00, 1, .dom, .rw, false, 0, .any, .now⟩,  -- MOVE_CHAIN_0–7
  ⟨0x3340, 1, 0x00, 1, .u8, .cmd, false, 0, .any, .now⟩,  -- MOVE_START
  ⟨0x3341, 1, 0x00, 1, .u8, .cmd, false, 0, .any, .now⟩,  -- MOVE_ABORT
  ⟨0x3348, 8, 0x00, 1, .dom, .rw, false, 0, .any, .now⟩  -- HOST_BUFFER_0–7
  ]

/-- The objects of 3400h to 34FFh. -/
def Dict.rows34 : List ObjRow := [
  ⟨0x3400, 1, 0x00, 1, .u8, .ro, false, 7, .any, .now⟩,  -- COMPRESS_STATUS count
  ⟨0x3400, 1, 0x01, 1, .u64, .ro, false, 0, .any, .now⟩,  -- JOBS
  ⟨0x3400, 1, 0x02, 1, .u64, .ro, false, 0, .any, .now⟩,  -- BYTES_IN
  ⟨0x3400, 1, 0x03, 1, .u64, .ro, false, 0, .any, .now⟩,  -- BYTES_OUT
  ⟨0x3400, 1, 0x04, 1, .u32, .ro, false, 0, .any, .now⟩,  -- NO_SHRINK
  ⟨0x3400, 1, 0x05, 1, .u32, .ro, false, 0, .any, .now⟩,  -- OUT_OF_SPACE
  ⟨0x3400, 1, 0x06, 1, .u32, .ro, false, 0, .any, .now⟩,  -- INVALID
  ⟨0x3400, 1, 0x07, 1, .u8, .ro, false, 0, .any, .now⟩,  -- ENGINES_BUSY
  ⟨0x3410, 1, 0x00, 1, .u8, .ro, false, 5, .any, .now⟩,  -- CAPTURE count
  ⟨0x3410, 1, 0x01, 1, .bool, .rw, false, 0, .bt 0 1, .now⟩,  -- CAPTURE_ENABLE
  ⟨0x3410, 1, 0x02, 1, .u64, .ro, false, 0, .any, .now⟩,  -- CAPTURE_BASE
  ⟨0x3410, 1, 0x03, 1, .u32, .ro, false, 268435456, .any, .now⟩,  -- CAPTURE_SIZE
  ⟨0x3410, 1, 0x04, 1, .u32, .ro, false, 0, .any, .now⟩,  -- WRITE_OFFSET
  ⟨0x3410, 1, 0x05, 1, .u32, .ro, false, 0, .any, .now⟩  -- DROPPED
  ]

/-- The objects of 3500h to 35FFh. -/
def Dict.rows35 : List ObjRow := [
  ⟨0x3500, 1, 0x00, 1, .u8, .ro, false, 12, .any, .now⟩,  -- TIME_STATUS count
  ⟨0x3500, 1, 0x01, 1, .u8, .ro, false, 0, .bt 0 3, .now⟩,  -- SERVO_STATE
  ⟨0x3500, 1, 0x02, 1, .i64, .ro, false, 0, .any, .now⟩,  -- OFFSET
  ⟨0x3500, 1, 0x03, 1, .i64, .ro, false, 0, .any, .now⟩,  -- MEAN_PATH_DELAY
  ⟨0x3500, 1, 0x04, 1, .i64, .ro, false, 0, .any, .now⟩,  -- RATE_ADJ
  ⟨0x3500, 1, 0x05, 1, .i64, .ro, false, 0, .any, .now⟩,  -- REFUSED_OFFSET
  ⟨0x3500, 1, 0x06, 1, .bool, .ro, false, 0, .bt 0 1, .now⟩,  -- STEP_NEEDED
  ⟨0x3500, 1, 0x07, 1, .i64, .ro, false, 0, .any, .now⟩,  -- FIRE_OFFSET
  ⟨0x3500, 1, 0x08, 1, .i64, .ro, false, 0, .any, .now⟩,  -- FIRE_RATE_ADJ
  ⟨0x3500, 1, 0x09, 1, (.oct 8), .ro, false, 0, .any, .now⟩,  -- GM_IDENTITY
  ⟨0x3500, 1, 0x0a, 1, (.oct 10), .ro, false, 0, .any, .now⟩,  -- MASTER_PORT
  ⟨0x3500, 1, 0x0b, 1, .u32, .ro, false, 0, .any, .now⟩,  -- STEP_COUNT
  ⟨0x3500, 1, 0x0c, 1, .u32, .ro, false, 0, .any, .now⟩,  -- DISCARDED
  ⟨0x3501, 1, 0x00, 1, .u8, .ro, false, 5, .any, .now⟩,  -- PTP_CONFIG count
  ⟨0x3501, 1, 0x01, 1, .bool, .rw, true, 1, .bt 0 1, .apply⟩,  -- PTP_ENABLE
  ⟨0x3501, 1, 0x02, 1, .u8, .rw, true, 0, .bt 0 1, .apply⟩,  -- TRANSPORT
  ⟨0x3501, 1, 0x03, 1, .u8, .rw, true, 0, .bt 0 1, .apply⟩,  -- DELAY_MECHANISM
  ⟨0x3501, 1, 0x04, 1, .u8, .rw, true, 0, .bt 0 127, .apply⟩,  -- DOMAIN
  ⟨0x3501, 1, 0x05, 1, .u8, .rw, true, 3, .bt 2 10, .apply⟩,  -- ANNOUNCE_TIMEOUT
  ⟨0x3501, 1, 0xff, 1, .u8, .cmd, false, 0, .bt 0 1, .now⟩,  -- APPLY
  ⟨0x3502, 1, 0x00, 1, .u8, .ro, false, 6, .any, .now⟩,  -- PTP_SERVO count
  ⟨0x3502, 1, 0x01, 1, .u32, .rw, true, 45875, .any, .apply⟩,  -- KP
  ⟨0x3502, 1, 0x02, 1, .u32, .rw, true, 1966, .any, .apply⟩,  -- KI
  ⟨0x3502, 1, 0x03, 1, .u32, .rw, true, 500000, .bt 1000 500000, .apply⟩,  -- MAX_RATE_ADJ
  ⟨0x3502, 1, 0x04, 1, .u32, .rw, true, 1000, .bt 10 1000000, .apply⟩,  -- LOCK_THRESHOLD
  ⟨0x3502, 1, 0x05, 1, .u32, .rw, true, 1000000, .bt 1000 1000000000, .apply⟩,  -- PTP_STEP_LIMIT
  ⟨0x3502, 1, 0x06, 1, .u32, .rw, true, 655, .bt 1 655360, .apply⟩,  -- FIRE_RATE_SLEW
  ⟨0x3502, 1, 0xff, 1, .u8, .cmd, false, 0, .bt 0 1, .now⟩,  -- APPLY
  ⟨0x3503, 1, 0x00, 1, .u8, .ro, false, 2, .any, .now⟩,  -- PTP_STEP count
  ⟨0x3503, 1, 0x01, 1, .u8, .rw, false, 1, .bt 1 2, .apply⟩,  -- MODE
  ⟨0x3503, 1, 0x02, 1, .u64, .rw, false, 0, .any, .apply⟩,  -- VALUE
  ⟨0x3503, 1, 0xff, 1, .u8, .cmd, false, 0, .bt 0 1, .now⟩,  -- APPLY
  ⟨0x3504, 1, 0x00, 1, .u8, .ro, false, 7, .any, .now⟩,  -- PTP_LATENCY count
  ⟨0x3504, 1, 0x01, 3, .u16, .rw, true, 0, .bt 0 10000, .now⟩,  -- PHY_RX_LATENCY_10, _100, _1000
  ⟨0x3504, 1, 0x04, 3, .u16, .rw, true, 0, .bt 0 10000, .now⟩,  -- PHY_TX_LATENCY_10, _100, _1000
  ⟨0x3504, 1, 0x07, 1, .i32, .rw, true, 0, .any, .now⟩,  -- DELAY_ASYMMETRY
  ⟨0x3505, 1, 0x00, 1, .u8, .ro, false, 6, .any, .now⟩,  -- TIME_BASE count
  ⟨0x3505, 1, 0x01, 1, .u64, .ro, false, 0, .any, .now⟩,  -- TB_PTP
  ⟨0x3505, 1, 0x02, 1, .u64, .ro, false, 0, .any, .now⟩,  -- TB_MONO
  ⟨0x3505, 1, 0x03, 1, .u64, .ro, false, 0, .any, .now⟩,  -- TB_FIRE
  ⟨0x3505, 1, 0x04, 3, .u16, .ro, false, 0, .any, .now⟩  -- TB_PTP_FRAC, TB_MONO_FRAC, TB_FIRE_FRAC
  ]

/-- The objects of 3600h to 36FFh. -/
def Dict.rows36 : List ObjRow := [
  ⟨0x3600, 1, 0x00, 1, .u8, .ro, false, 10, .any, .now⟩,  -- GRAFT_STATUS count
  ⟨0x3600, 1, 0x01, 1, .u8, .ro, false, 0, .bt 0 2, .now⟩,  -- ROLE
  ⟨0x3600, 1, 0x02, 1, .u8, .ro, false, 0, .bt 0 4, .now⟩,  -- STATE
  ⟨0x3600, 1, 0x03, 1, .bool, .ro, false, 0, .bt 0 1, .now⟩,  -- PAIRED
  ⟨0x3600, 1, 0x04, 1, .bool, .ro, false, 0, .bt 0 1, .now⟩,  -- CONTROL
  ⟨0x3600, 1, 0x05, 1, .u8, .ro, false, 0, .any, .now⟩,  -- ROLE_PINS
  ⟨0x3600, 1, 0x06, 1, .u64, .ro, false, 0, .any, .now⟩,  -- PARTNER_SERIAL
  ⟨0x3600, 1, 0x07, 1, .u64, .ro, false, 0, .any, .now⟩,  -- SYNC_POS
  ⟨0x3600, 1, 0x08, 1, .u32, .ro, false, 0, .any, .now⟩,  -- TAKEOVERS
  ⟨0x3600, 1, 0x09, 1, .u32, .ro, false, 0, .any, .now⟩,  -- XCHECK_ERRORS
  ⟨0x3600, 1, 0x0a, 1, .u32, .ro, false, 0, .any, .now⟩,  -- PLANNED_SWAPS
  ⟨0x3601, 1, 0x00, 1, .u8, .ro, false, 3, .any, .now⟩,  -- GRAFT_CONFIG count
  ⟨0x3601, 1, 0x01, 1, .u16, .rw, true, 10, .bt 2 1000, .now⟩,  -- MIRROR_HOLD
  ⟨0x3601, 1, 0x02, 1, .u16, .rw, true, 65535, .any, .now⟩,  -- CMP_FOLLOW
  ⟨0x3601, 1, 0x03, 1, .bool, .rw, true, 1, .bt 0 1, .now⟩,  -- ENCO_FOLLOW
  ⟨0x3610, 1, 0x00, 1, (.oct 448), .rw, true, 0, .any, .now⟩,  -- GRAFT_ALLOWLIST
  ⟨0x3620, 1, 0x00, 1, .dom, .ro, false, 0, .any, .now⟩  -- TAKEOVER_LOG
  ]

/-- The objects of 3700h to 37FFh, part 1. -/
def Dict.rows37a : List ObjRow := [
  ⟨0x3700, 4, 0x00, 1, .u8, .ro, false, 15, .any, .now⟩,  -- AXIS count
  ⟨0x3700, 4, 0x01, 1, .bool, .rw, true, 0, .bt 0 1, .apply⟩,  -- ENABLE
  ⟨0x3700, 4, 0x02, 1, .u16, .rw, true, 100, .bt 10 1000, .apply⟩,  -- SENSE_R
  ⟨0x3700, 4, 0x03, 1, .u16, .rw, true, 1000, .bt 0 51200, .apply⟩,  -- IRUN
  ⟨0x3700, 4, 0x04, 1, .u16, .rw, true, 500, .bt 0 65535, .apply⟩,  -- IHOLD
  ⟨0x3700, 4, 0x05, 1, .u16, .rw, true, 200, .bt 0 10000, .apply⟩,  -- HOLD_DELAY
  ⟨0x3700, 4, 0x06, 1, .u8, .rw, true, 0, .bt 0 2, .apply⟩,  -- STANDSTILL_MODE
  ⟨0x3700, 4, 0x07, 1, .u8, .rw, true, 0, .bt 0 2, .apply⟩,  -- SAFE_MODE
  ⟨0x3700, 4, 0x08, 1, .u16, .rw, true, 200, .step 20 2000 10, .apply⟩,  -- DEAD_TIME
  ⟨0x3700, 4, 0x09, 1, .u16, .rw, true, 100, .bt 10 2000, .apply⟩,  -- HYST
  ⟨0x3700, 4, 0x0a, 1, .u16, .rw, true, 500, .step 100 5000 10, .apply⟩,  -- BLANK
  ⟨0x3700, 4, 0x0b, 1, .u16, .rw, true, 100, .bt 0 1000, .apply⟩,  -- OFFSET_MAX
  ⟨0x3700, 4, 0x0c, 1, .u16, .rw, true, 2000, .bt 100 51200, .apply⟩,  -- OC_LIMIT
  ⟨0x3700, 4, 0x0d, 1, .u32, .rw, true, 64000, .bt 4000 1000000, .apply⟩,  -- MSTEP_RATE_MAX
  ⟨0x3700, 4, 0x0e, 1, .bool, .rw, true, 0, .bt 0 1, .apply⟩,  -- DIR_INVERT
  ⟨0x3700, 3, 0x0f, 1, .bool, .rw, true, 0, .bt 0 1, .apply⟩,  -- RUN_MOVES
  ⟨0x3700, 4, 0xff, 1, .u8, .cmd, false, 0, .bt 0 1, .now⟩,  -- APPLY
  ⟨0x3703, 1, 0x0f, 1, .bool, .rw, true, 1, .bt 0 1, .apply⟩,  -- 
  ⟨0x3710, 4, 0x00, 1, .u8, .ro, false, 9, .any, .now⟩,  -- RAMP count
  ⟨0x3710, 4, 0x01, 1, .u32, .rw, true, 25600, .bt 0 12800000, .apply⟩,  -- VSTART
  ⟨0x3710, 4, 0x02, 1, .u32, .rw, true, 20000, .bt 1 1000000, .apply⟩,  -- A1
  ⟨0x3710, 4, 0x03, 1, .u32, .rw, true, 256000, .bt 0 12800000, .apply⟩,  -- V1
  ⟨0x3710, 4, 0x04, 1, .u32, .rw, true, 10000, .bt 1 1000000, .apply⟩,  -- AMAX
  ⟨0x3710, 4, 0x05, 1, .u32, .rw, true, 1024000, .bt 0 12800000, .apply⟩,  -- VMAX
  ⟨0x3710, 4, 0x06, 1, .u32, .rw, true, 12000, .bt 1 1000000, .apply⟩,  -- DMAX
  ⟨0x3710, 4, 0x07, 1, .u32, .rw, true, 25000, .bt 1 1000000, .apply⟩,  -- D1
  ⟨0x3710, 4, 0x08, 1, .u32, .rw, true, 64000, .bt 0 12800000, .apply⟩,  -- VSTOP
  ⟨0x3710, 4, 0x09, 1, .u16, .rw, true, 0, .bt 0 10000, .apply⟩,  -- REVERSE_DWELL
  ⟨0x3710, 4, 0xff, 1, .u8, .cmd, false, 0, .bt 0 1, .now⟩,  -- APPLY
  ⟨0x3720, 4, 0x00, 1, .u8, .ro, false, 2, .any, .now⟩,  -- MOVE count
  ⟨0x3720, 4, 0x01, 1, .i32, .rw, false, 0, .any, .apply⟩,  -- TARGET
  ⟨0x3720, 4, 0x02, 1, .bool, .rw, false, 0, .bt 0 1, .apply⟩,  -- RELATIVE
  ⟨0x3720, 4, 0xff, 1, .u8, .cmd, false, 0, .bt 0 1, .now⟩,  -- APPLY
  ⟨0x3724, 1, 0x00, 1, .u8, .cmd, false, 0, .bt 0 15, .now⟩,  -- MOVE_STOP
  ⟨0x3725, 1, 0x00, 1, .u8, .cmd, false, 0, .bt 0 15, .now⟩,  -- MOVE_REPLAN
  ⟨0x3726, 1, 0x00, 1, .u8, .cmd, false, 0, .bt 0 15, .now⟩,  -- HOME
  ⟨0x3730, 4, 0x00, 1, .u8, .ro, false, 6, .any, .now⟩,  -- HOMING count
  ⟨0x3730, 4, 0x01, 1, .u8, .rw, true, 0, .bt 0 1, .apply⟩,  -- HOME_DIR
  ⟨0x3730, 4, 0x02, 1, .u32, .rw, true, 128000, .bt 0 12800000, .apply⟩,  -- HOME_SPEED
  ⟨0x3730, 4, 0x03, 1, .u32, .rw, true, 12800, .bt 0 12800000, .apply⟩,  -- HOME_SLOW
  ⟨0x3730, 4, 0x04, 1, .i32, .rw, true, 0, .any, .apply⟩,  -- HOME_POS
  ⟨0x3730, 4, 0x05, 1, .u32, .rw, true, 25600000, .bt 256 2147483647, .apply⟩,  -- HOME_MAX_DIST
  ⟨0x3730, 4, 0x06, 1, .u8, .rw, true, 0, .bt 0 1, .apply⟩,  -- HOME_ACTIVE
  ⟨0x3730, 4, 0xff, 1, .u8, .cmd, false, 0, .bt 0 1, .now⟩,  -- APPLY
  ⟨0x3740, 4, 0x00, 1, .u8, .ro, false, 13, .any, .now⟩,  -- AXIS_STATUS count
  ⟨0x3740, 4, 0x01, 1, .u8, .ro, false, 0, .bt 0 6, .now⟩,  -- STATE
  ⟨0x3740, 4, 0x02, 1, .i32, .ro, false, 0, .any, .now⟩,  -- POSITION
  ⟨0x3740, 4, 0x03, 1, .i32, .ro, false, 0, .any, .now⟩,  -- VELOCITY
  ⟨0x3740, 4, 0x04, 1, .i32, .ro, false, 0, .any, .now⟩,  -- TARGET_IN_EFFECT
  ⟨0x3740, 4, 0x05, 1, .u16, .ro, false, 256, .any, .now⟩,  -- RESOLUTION
  ⟨0x3740, 4, 0x06, 1, .u8, .ro, false, 0, .any, .now⟩,  -- FLAGS
  ⟨0x3740, 4, 0x07, 1, .u8, .ro, false, 0, .bt 0 5, .now⟩,  -- LAST_RESULT
  ⟨0x3740, 4, 0x08, 2, .i16, .ro, false, 0, .any, .now⟩,  -- CURRENT_A, CURRENT_B
  ⟨0x3740, 4, 0x0a, 2, .i16, .ro, false, 0, .any, .now⟩,  -- OFFSET_A, OFFSET_B
  ⟨0x3740, 4, 0x0c, 1, .u32, .ro, false, 0, .any, .now⟩,  -- MOVES
  ⟨0x3740, 4, 0x0d, 1, .bool, .ro, false, 0, .bt 0 1, .now⟩,  -- RAMP_PENDING
  ⟨0x3750, 1, 0x00, 1, .u8, .ro, false, 3, .any, .now⟩,  -- LEVEL count
  ⟨0x3750, 1, 0x01, 1, .bool, .rw, true, 1, .bt 0 1, .apply⟩,  -- LIFT_LINK
  ⟨0x3750, 1, 0x02, 1, .i32, .rw, true, 0, .any, .apply⟩,  -- LEVEL_OFFSET
  ⟨0x3750, 1, 0x03, 1, .u32, .rw, true, 2560, .bt 1 2560000, .apply⟩  -- LEVEL_TOL
  ]

/-- The objects of 3700h to 37FFh, part 2. -/
def Dict.rows37b : List ObjRow := [
  ⟨0x3750, 1, 0xff, 1, .u8, .cmd, false, 0, .bt 0 1, .now⟩  -- APPLY
  ]

/-- The objects of 3700h to 37FFh. -/
def Dict.rows37 : List ObjRow := Dict.rows37a ++ Dict.rows37b

/-- The objects of 3800h to 38FFh. -/
def Dict.rows38 : List ObjRow := [
  ⟨0x3800, 1, 0x00, 1, .u8, .ro, false, 6, .any, .now⟩,  -- CAL_STATUS count
  ⟨0x3800, 1, 0x01, 1, .u8, .ro, false, 0, .bt 0 3, .now⟩,  -- STATE
  ⟨0x3800, 1, 0x02, 1, .u32, .ro, false, 0, .any, .now⟩,  -- RUNS
  ⟨0x3800, 1, 0x03, 1, .u16, .ro, false, 0, .any, .now⟩,  -- REJECTED_ITEMS
  ⟨0x3800, 1, 0x04, 1, .u64, .ro, false, 0, .any, .now⟩,  -- LAST_RUN
  ⟨0x3800, 1, 0x05, 1, (.oct 16), .ro, false, 0, .any, .now⟩,  -- REF_TEMPS
  ⟨0x3800, 1, 0x06, 1, .bool, .ro, false, 0, .bt 0 1, .now⟩,  -- SLEWING
  ⟨0x3801, 1, 0x00, 1, .u8, .ro, false, 8, .any, .now⟩,  -- CAL_CONFIG count
  ⟨0x3801, 1, 0x01, 1, .u32, .rw, true, 2048000, .bt 1900000 2200000, .now⟩,  -- CAL_REF_VALUE
  ⟨0x3801, 1, 0x02, 1, .u16, .rw, true, 128, .bt 16 800, .now⟩,  -- CAL_DELTA_T
  ⟨0x3801, 1, 0x03, 1, .u16, .rw, true, 2000, .bt 0 60000, .now⟩,  -- CAL_SLEW_TIME
  ⟨0x3801, 1, 0x04, 1, .u16, .rw, true, 100, .bt 1 10000, .now⟩,  -- TOL_GAIN
  ⟨0x3801, 1, 0x05, 1, .u16, .rw, true, 500, .bt 1 20000, .now⟩,  -- TOL_OFFSET
  ⟨0x3801, 1, 0x06, 1, .u8, .rw, true, 4, .bt 1 64, .now⟩,  -- TOL_TEMP
  ⟨0x3801, 1, 0x07, 1, .u8, .rw, true, 2, .bt 1 50, .now⟩,  -- TOL_TRIM
  ⟨0x3801, 1, 0x08, 1, .bool, .rw, true, 1, .bt 0 1, .now⟩,  -- AUTO
  ⟨0x3802, 1, 0x00, 1, .u8, .cmd, false, 0, .bt 1 1, .now⟩,  -- CAL_START
  ⟨0x3810, 1, 0x00, 1, (.oct 256), .ro, false, O.adcNominal, .any, .now⟩,  -- ADC_COEFF
  ⟨0x3811, 1, 0x00, 1, (.oct 256), .ro, true, O.adcNominal, .any, .now⟩,  -- ADC_ACCEPTED
  ⟨0x3820, 1, 0x00, 1, (.oct 128), .ro, false, O.dacNominal, .any, .now⟩,  -- DAC_COEFF
  ⟨0x3821, 1, 0x00, 1, (.oct 128), .ro, true, O.dacNominal, .any, .now⟩,  -- DAC_ACCEPTED
  ⟨0x3830, 1, 0x00, 1, (.oct 64), .ro, false, 0, .any, .now⟩,  -- TEMP_COEFF
  ⟨0x3831, 1, 0x00, 1, (.oct 16), .ro, false, 0, .any, .now⟩,  -- TEMP_READINGS
  ⟨0x3840, 1, 0x00, 1, (.oct 32), .rw, true, 0, .eachU16 0 2500, .now⟩,  -- STROBE_TRIM
  ⟨0x3841, 1, 0x00, 1, (.oct 32), .ro, true, O.allOf 2 16 256, .any, .now⟩,  -- TRIM_CODES
  ⟨0x3850, 1, 0x00, 1, (.oct 72), .ro, false, 0, .any, .now⟩  -- ITEM_RESULTS
  ]

/-- The objects of 3900h to 39FFh. -/
def Dict.rows39 : List ObjRow := [
  ⟨0x3900, 2, 0x00, 1, .u8, .ro, false, 11, .any, .now⟩,  -- DISP count
  ⟨0x3900, 2, 0x01, 1, .bool, .rw, true, 0, .bt 0 1, .apply⟩,  -- ENABLE
  ⟨0x3900, 2, 0x02, 1, .u32, .rw, true, 148500, .bt 25000 165000, .apply⟩,  -- PIXEL_CLOCK
  ⟨0x3900, 2, 0x03, 1, .u16, .rw, true, 1920, .bt 320 2048, .apply⟩,  -- HACTIVE
  ⟨0x3900, 2, 0x04, 1, .u16, .rw, true, 88, .bt 1 1024, .apply⟩,  -- HFP
  ⟨0x3900, 2, 0x05, 1, .u16, .rw, true, 44, .bt 1 1024, .apply⟩,  -- HSYNC
  ⟨0x3900, 2, 0x06, 1, .u16, .rw, true, 148, .bt 1 1024, .apply⟩,  -- HBP
  ⟨0x3900, 2, 0x07, 1, .u16, .rw, true, 1080, .bt 200 2048, .apply⟩,  -- VACTIVE
  ⟨0x3900, 2, 0x08, 1, .u16, .rw, true, 4, .bt 1 1024, .apply⟩,  -- VFP
  ⟨0x3900, 2, 0x09, 1, .u16, .rw, true, 5, .bt 1 64, .apply⟩,  -- VSYNC
  ⟨0x3900, 2, 0x0a, 1, .u16, .rw, true, 36, .bt 1 1024, .apply⟩,  -- VBP
  ⟨0x3900, 2, 0x0b, 1, .u8, .rw, true, 3, .bt 0 7, .apply⟩,  -- FLAGS
  ⟨0x3900, 2, 0xff, 1, .u8, .cmd, false, 0, .bt 0 1, .now⟩,  -- APPLY
  ⟨0x3902, 2, 0x00, 1, .u8, .ro, false, 7, .any, .now⟩,  -- DISP_VIEW count
  ⟨0x3902, 2, 0x01, 1, .u8, .rw, true, 255, .btOr 0 3 255, .now⟩,  -- PREVIEW_SOURCE
  ⟨0x3902, 2, 0x02, 1, .u16, .rw, true, 0, .bt 0 2047, .now⟩,  -- PREVIEW_X
  ⟨0x3902, 2, 0x03, 1, .u16, .rw, true, 0, .bt 0 2047, .now⟩,  -- PREVIEW_Y
  ⟨0x3902, 2, 0x04, 1, .u8, .rw, true, 1, .bt 1 4, .now⟩,  -- PREVIEW_ZOOM
  ⟨0x3902, 2, 0x05, 1, .u32, .rw, true, 0, .bt 0 16777215, .now⟩,  -- BG_COLOUR
  ⟨0x3902, 2, 0x06, 1, .u16, .rw, true, 120, .any, .now⟩,  -- STATIC_FRAMES
  ⟨0x3902, 2, 0x07, 1, .u8, .rw, true, 4, .bt 2 16, .now⟩,  -- STATIC_DIV
  ⟨0x3908, 2, 0x00, 1, .u8, .ro, false, 4, .any, .now⟩,  -- DISP_STATUS count
  ⟨0x3908, 2, 0x01, 1, .u8, .ro, false, 0, .bt 0 2, .now⟩,  -- STATE
  ⟨0x3908, 2, 0x02, 1, .u32, .ro, false, 0, .any, .now⟩,  -- FRAMES
  ⟨0x3908, 2, 0x03, 1, .u32, .ro, false, 0, .any, .now⟩,  -- UNDERRUNS
  ⟨0x3908, 2, 0x04, 1, .u32, .ro, false, 0, .any, .now⟩,  -- PREVIEW_FRAME
  ⟨0x3910, 2, 0x00, 1, .dom, .rw, false, 0, .any, .now⟩  -- GRAPHICS_0–1
  ]

/-- The objects of 3A00h to 3AFFh. -/
def Dict.rows3a : List ObjRow := [
  ⟨0x3a00, 1, 0x00, 1, .u8, .ro, false, 3, .any, .now⟩,  -- RGMII_CONFIG count
  ⟨0x3a00, 1, 0x01, 1, .u8, .rw, true, 1, .bt 0 1, .boot⟩,  -- RGMII_VOLTAGE
  ⟨0x3a00, 1, 0x02, 1, .bool, .rw, true, 1, .bt 0 1, .boot⟩,  -- RGMII_TX_DELAY
  ⟨0x3a00, 1, 0x03, 1, .bool, .rw, true, 1, .bt 0 1, .boot⟩,  -- RGMII_RX_DELAY
  ⟨0x3a01, 1, 0x00, 1, .u8, .ro, false, 2, .any, .now⟩,  -- CMOS33_CONFIG count
  ⟨0x3a01, 1, 0x01, 1, .u8, .rw, true, 1, .bt 0 2, .now⟩,  -- CMOS33_DRIVE
  ⟨0x3a01, 1, 0x02, 1, .bool, .rw, true, 0, .bt 0 1, .now⟩,  -- ENC_PULLUP
  ⟨0x3a02, 1, 0x00, 1, .u8, .ro, false, 2, .any, .now⟩,  -- LVDS_CONFIG count
  ⟨0x3a02, 1, 0x01, 1, .u8, .rw, true, 1, .bt 0 2, .now⟩,  -- FIRE_VOD
  ⟨0x3a02, 1, 0x02, 1, .u8, .rw, true, 1, .bt 0 2, .now⟩,  -- DISP_VOD
  ⟨0x3a10, 1, 0x00, 1, .u8, .ro, false, 3, .any, .now⟩,  -- THERMAL count
  ⟨0x3a10, 1, 0x01, 1, .i16, .ro, false, 0, .any, .now⟩,  -- DIE_TEMP_MAX
  ⟨0x3a10, 1, 0x02, 1, .u32, .ro, false, 0, .any, .now⟩,  -- THERMAL_TRIPS
  ⟨0x3a10, 1, 0x03, 1, .u8, .ro, false, 0, .bt 0 7, .now⟩  -- HOTTEST_SENSOR
  ]

end Sys2Proof.Machine
end

