-- ==== Sys2Proof/Machine/Dict.lean ====
section
/-! DEFINITION. The dictionary as one table: the rows of an index, the row of an object, its default (R27, R71). -/

namespace Sys2Proof.Machine

/-- The rows whose first index lies in the range hh00h to hhFFh (*Index ranges*, R27). -/
def Dict.rowsOf (h : Nat) : List ObjRow :=
  match h with
  | 0x10 => Dict.rows10
  | 0x11 => Dict.rows11
  | 0x12 => Dict.rows12
  | 0x13 => Dict.rows13
  | 0x14 => Dict.rows14
  | 0x15 => Dict.rows15
  | 0x16 => Dict.rows16
  | 0x17 => Dict.rows17
  | 0x20 => Dict.rows20
  | 0x21 => Dict.rows21
  | 0x22 => Dict.rows22
  | 0x23 => Dict.rows23
  | 0x24 => Dict.rows24
  | 0x25 => Dict.rows25
  | 0x26 => Dict.rows26
  | 0x27 => Dict.rows27
  | 0x28 => Dict.rows28
  | 0x29 => Dict.rows29
  | 0x30 => Dict.rows30
  | 0x31 => Dict.rows31
  | 0x32 => Dict.rows32
  | 0x33 => Dict.rows33
  | 0x34 => Dict.rows34
  | 0x35 => Dict.rows35
  | 0x36 => Dict.rows36
  | 0x37 => Dict.rows37
  | 0x38 => Dict.rows38
  | 0x39 => Dict.rows39
  | 0x3a => Dict.rows3a
  | _ => []

/-- The row of object idx.sub, if the part has it. -/
def Dict.row? (idx sub : Nat) : Option ObjRow :=
  (Dict.rowsOf (idx / 256)).find? (·.covers idx sub)

/-- The part has some object at this index (check 4 of R49). -/
def Dict.hasIndex (idx : Nat) : Bool :=
  (Dict.rowsOf (idx / 256)).any (·.hasIndex idx)

/-- The default of the object with key idx × 256 + sub. -/
def Dict.dflt (key : Nat) : Nat :=
  match Dict.row? (key / 256) (key % 256) with
  | some r => r.dflt
  | none => 0

/-- The index is a record with subindex FFh (R77). -/
def Dict.hasApply (idx : Nat) : Bool := (Dict.row? idx 0xff).isSome

/-- The index holds job-scoped (RWS) objects (R28, R29). -/
def Dict.jobScoped (idx : Nat) : Bool :=
  (Dict.rowsOf (idx / 256)).any fun r => r.hasIndex idx && r.acc == .rws

/-- Every row of the dictionary. -/
def Dict.all : List ObjRow :=
  Dict.rows10 ++ Dict.rows11 ++ Dict.rows12 ++ Dict.rows13 ++ Dict.rows14 ++ Dict.rows15 ++ Dict.rows16 ++ Dict.rows17 ++ Dict.rows20 ++ Dict.rows21 ++ Dict.rows22 ++ Dict.rows23 ++ Dict.rows24 ++ Dict.rows25 ++ Dict.rows26 ++ Dict.rows27 ++ Dict.rows28 ++ Dict.rows29 ++ Dict.rows30 ++ Dict.rows31 ++ Dict.rows32 ++ Dict.rows33 ++ Dict.rows34 ++ Dict.rows35 ++ Dict.rows36 ++ Dict.rows37 ++ Dict.rows38 ++ Dict.rows39 ++ Dict.rows3a

end Sys2Proof.Machine
end

