-- ==== Sys2Proof/Machine/Hash.lean ====
section
/-! DEFINITION. The hash functions that the manual names: SHA-256 and HMAC-SHA-256 (R46, R55, R56, R191),
SHA-384 and HMAC-SHA-384 (R147, R156), CRC-32C (R116). PRESUMED from the standards that these names stand
for (FIPS 180-4, RFC 2104, RFC 3720), log 7. -/

namespace Sys2Proof.Machine

/-- The first 80 primes: 2, and the odd numbers up to 409 that no smaller odd prime up to 19 divides. -/
def Sha.primes : List Nat :=
  2 :: ((List.range 204).map (2 * · + 3)).filter fun n => [3, 5, 7, 11, 13, 17, 19].all fun d => n ≤ d || n % d != 0

/-- The whole part of the k-th root of n by Newton's steps down from x, for x not below it. -/
def Sha.root (k n : Nat) : Nat → Nat → Nat
  | 0, x => x
  | fuel + 1, x =>
    let y := ((k - 1) * x + n / x ^ (k - 1)) / k
    if x ≤ y then x else Sha.root k n fuel y

/-- The first w bits of the fractional part of the k-th root of p. -/
def Sha.fraction (k w p : Nat) : Nat := Sha.root k (p * 2 ^ (k * w)) 16 (2 ^ (w + 3)) % 2 ^ w

/-- The round constants: 64 bits of the cube roots of the first 80 primes; SHA-256 takes the upper halves of the first 64. -/
def Sha.constants : List Nat := Sha.primes.map (Sha.fraction 3 64)

/-- The initial hash value of SHA-256: 32 bits of the square roots of the first 8 primes. -/
def Sha.iv256 : List Nat := (Sha.primes.take 8).map (Sha.fraction 2 32)

/-- The initial hash value of SHA-384: 64 bits of the square roots of the 9th to 16th prime. -/
def Sha.iv384 : List Nat := ((Sha.primes.drop 8).take 8).map (Sha.fraction 2 64)

/-- What sets the two widths of SHA-2 apart. -/
structure Sha.Kind where
  w : Nat
  rounds : List Nat
  big0 : Nat × Nat × Nat
  big1 : Nat × Nat × Nat
  small0 : Nat × Nat × Nat
  small1 : Nat × Nat × Nat

/-- SHA-256. -/
def Sha.kind256 : Sha.Kind :=
  ⟨32, (Sha.constants.take 64).map (· / 2 ^ 32), (2, 13, 22), (6, 11, 25), (7, 18, 3), (17, 19, 10)⟩

/-- SHA-384, which is SHA-512 with another initial value, cut to 48 bytes. -/
def Sha.kind384 : Sha.Kind :=
  ⟨64, Sha.constants, (28, 34, 39), (14, 18, 41), (1, 8, 7), (19, 61, 6)⟩

/-- Rotation to the right in a word of w bits. -/
def Sha.rotr (w x r : Nat) : Nat := x / 2 ^ r + x % 2 ^ r * 2 ^ (w - r)

/-- The exclusive or of three rotations. -/
def Sha.big (w x : Nat) (r : Nat × Nat × Nat) : Nat :=
  (Sha.rotr w x r.1).xor ((Sha.rotr w x r.2.1).xor (Sha.rotr w x r.2.2))

/-- The exclusive or of two rotations and a shift. -/
def Sha.small (w x : Nat) (r : Nat × Nat × Nat) : Nat :=
  (Sha.rotr w x r.1).xor ((Sha.rotr w x r.2.1).xor (x / 2 ^ r.2.2))

/-- The message schedule as rounds consume it: the sixteen words that come next. -/
def Sha.nextWords (k : Sha.Kind) (ws : List Nat) : List Nat :=
  let g (i : Nat) := ws.getD i 0
  ws.drop 1 ++ [(Sha.small k.w (g 14) k.small1 + g 9 + Sha.small k.w (g 1) k.small0 + g 0) % 2 ^ k.w]

/-- One block: a round for each constant. -/
def Sha.rounds (k : Sha.Kind) : List Nat → List Nat → List Nat → List Nat
  | [], _, h => h
  | c :: cs, ws, h =>
    let g (i : Nat) := h.getD i 0
    let m := 2 ^ k.w
    let ch := ((g 4).land (g 5)).xor ((m - 1 - g 4).land (g 6))
    let maj := ((g 0).land (g 1)).xor (((g 0).land (g 2)).xor ((g 1).land (g 2)))
    let t1 := g 7 + Sha.big k.w (g 4) k.big1 + ch + c + ws.getD 0 0
    let t2 := Sha.big k.w (g 0) k.big0 + maj
    Sha.rounds k cs (Sha.nextWords k ws)
      [(t1 + t2) % m, g 0, g 1, g 2, (g 3 + t1) % m, g 4, g 5, g 6]

/-- The big-endian words of a byte string, n of them. -/
def Sha.words (bytes : Nat) : Nat → List Byte → List Nat
  | 0, _ => []
  | n + 1, bs => beNat (bs.take bytes) :: Sha.words bytes n (bs.drop bytes)

/-- The compression of n blocks. -/
def Sha.blocks (k : Sha.Kind) : Nat → List Byte → List Nat → List Nat
  | 0, _, h => h
  | n + 1, bs, h =>
    let bl := 2 * k.w
    let h' := Sha.rounds k k.rounds (Sha.words (k.w / 8) 16 (bs.take bl)) h
    Sha.blocks k n (bs.drop bl) ((h.zip h').map fun p => (p.1 + p.2) % 2 ^ k.w)

/-- The padded message: one bit, zeros, the length in bits. -/
def Sha.pad (k : Sha.Kind) (bs : List Byte) : List Byte :=
  let bl := 2 * k.w
  let z := (bl - (bs.length + 1 + k.w / 4) % bl) % bl
  bs ++ [0x80#8] ++ List.replicate z 0x00#8 ++ natBE (k.w / 4) (8 * bs.length)

/-- The hash of a byte string from an initial value. -/
def Sha.hash (k : Sha.Kind) (iv : List Nat) (bs : List Byte) : List Byte :=
  let p := Sha.pad k bs
  (Sha.blocks k (p.length / (2 * k.w)) p iv).flatMap (natBE (k.w / 8))

/-- SHA-256. -/
def sha256 (bs : List Byte) : List Byte := Sha.hash Sha.kind256 Sha.iv256 bs

/-- SHA-384. -/
def sha384 (bs : List Byte) : List Byte := (Sha.hash Sha.kind384 Sha.iv384 bs).take 48

/-- HMAC over a hash of the given block size. -/
def hmacOf (h : List Byte → List Byte) (bl : Nat) (key msg : List Byte) : List Byte :=
  let k0 := if bl < key.length then h key else key
  let k := k0 ++ List.replicate (bl - k0.length) 0x00#8
  h (k.map (· ^^^ 0x5c#8) ++ h (k.map (· ^^^ 0x36#8) ++ msg))

/-- HMAC-SHA-256. -/
def hmac256 (key msg : List Byte) : List Byte := hmacOf sha256 64 key msg

/-- HMAC-SHA-384. -/
def hmac384 (key msg : List Byte) : List Byte := hmacOf sha384 128 key msg

/-- The low n bits of the remainder register, shifted with the Castagnoli polynomial (reflected). -/
def Crc.bitsOf : Nat → Nat → Nat
  | 0, c => c
  | n + 1, c => Crc.bitsOf n (if c % 2 == 1 then (c / 2).xor 0x82f63b78 else c / 2)

/-- CRC-32C of a byte string: initial value and final exclusive or FFFF_FFFFh. -/
def crc32c (bs : List Byte) : Nat :=
  (bs.foldl (fun c b => Crc.bitsOf 8 (c.xor b.toNat)) 0xffffffff).xor 0xffffffff

end Sys2Proof.Machine
end

