-- ==== Sys2Proof/Machine/Ops.lean ====
section
/-! DEFINITION. The named operations over the object store, the DOM store, the free values, the outputs and the
notices. -/

namespace Sys2Proof.Machine

/-! ### Sparse maps: keys strictly rising, no entry at the default -/

/-- The value of key k, d where none is listed. -/
def mapGet {α : Type} (m : List (Nat × α)) (k : Nat) (d : α) : α :=
  match m with
  | [] => d
  | (k', v) :: rest => if k' = k then v else mapGet rest k d

/-- The map without key k. -/
def mapErase {α : Type} (m : List (Nat × α)) (k : Nat) : List (Nat × α) := m.filter fun e => e.1 != k

/-- The map with the entry (k, v) put in its place; k is not a key of m. -/
def mapPut {α : Type} (m : List (Nat × α)) (k : Nat) (v : α) : List (Nat × α) :=
  match m with
  | [] => [(k, v)]
  | e :: rest => if k < e.1 then (k, v) :: e :: rest else e :: mapPut rest k v

/-- The map in which key k reads v, with default d. -/
def mapSet {α : Type} [DecidableEq α] (m : List (Nat × α)) (k : Nat) (v d : α) : List (Nat × α) :=
  if v = d then mapErase m k else mapPut (mapErase m k) k v

/-- The keys rise strictly. -/
def mapSorted {α : Type} : List (Nat × α) → Bool
  | [] => true
  | e :: rest => (rest.all fun e' => e.1 < e'.1) && mapSorted rest

/-! ### Objects -/

/-- The canonical form of an object list: keys rise, and no entry equals its default (R74, R75). -/
def objsWf (m : List (Nat × Nat)) : Bool := mapSorted m && m.all fun e => e.2 != Dict.dflt e.1

/-- The value in effect of the object with this key. -/
def State.rd (s : State) (k : Nat) : Nat := mapGet s.objs k (Dict.dflt k)

/-- The value as a truth value. -/
def State.rdB (s : State) (k : Nat) : Bool := s.rd k != 0

/-- The value as a two's complement number of w bits. -/
def State.rdI (s : State) (w k : Nat) : Int := toInt w (s.rd k)

/-- The object set to v. -/
def State.wr (s : State) (k v : Nat) : State := { s with objs := mapSet s.objs k v (Dict.dflt k) }

def State.wrI (s : State) (w k : Nat) (i : Int) : State := s.wr k (ofInt w i)

/-- Several objects set. -/
def State.wrs (s : State) (kvs : List (Nat × Nat)) : State := kvs.foldl (fun s kv => s.wr kv.1 kv.2) s

/-- The largest value of the object's type. -/
def Dict.top (k : Nat) : Nat :=
  match Dict.row? (k / 256) (k % 256) with
  | some r => 2 ^ (8 * r.ty.size) - 1
  | none => 0

/-- The counter advanced by n, saturating (R100, R736, R765 and the like). -/
def State.add (s : State) (k n : Nat) : State := s.wr k (min (Dict.top k) (s.rd k + n))

/-- The counter advanced by 1, saturating. -/
def State.inc (s : State) (k : Nat) : State := s.add k 1

/-- Value of an RWS object in a job set, its default where no set holds it (R203, R907). -/
def JobSet.rd (j : JobSet) (k : Nat) : Nat := mapGet j.vals k (Dict.dflt k)

/-- The shadow and the active value of an RWS object (R28, R203). -/
def State.shadowRd (s : State) (k : Nat) : Nat := s.jobs.shadow.rd k
def State.activeRd (s : State) (k : Nat) : Nat :=
  match s.jobs.active with
  | some j => j.rd k
  | none => Dict.dflt k

/-! ### Free values -/

/-- A draw of a free value: the number of the draw, and the state after it. -/
def State.draw (s : State) : Nat × State := (s.draws, { s with draws := s.draws + 1 })

/-- Firmware runs and the port is in use: boot step 10 is reached, and the part is in RUN, PAUSE or STANDBY. -/
def State.awake (s : State) : Bool := (s.boot.phase == .applied || s.boot.phase == .ready) && s.power.state < 3

/-! ### Outputs -/

/-- The part sends or drives o. -/
def State.emit (s : State) (o : Out) : State := { s with out := s.out ++ [o] }

/-! ### Frames of the part -/

/-- The bytes of a TDP frame (*TDP frame*, R46), with its TAG under key when SESSION_ID is not 0 (R55). -/
def frameBytes (opcode seq status sid flags : Nat) (key body : List Byte) : List Byte :=
  let head := [0x54#8, 0x44#8, 1#8, toByte opcode] ++ natLE 2 seq ++ natLE 2 status ++ natLE 4 sid ++
    natLE 2 body.length ++ natLE 2 flags
  let msg := head ++ body
  if sid = 0 then msg else msg ++ (hmac256 key msg).take 16

/-- The part sends a frame to an address and port. -/
def State.sendFrame (s : State) (addr port opcode seq status sid flags : Nat) (key body : List Byte) : State :=
  s.emit (.datagram addr port (frameBytes opcode seq status sid flags key body))

/-! ### Notices (R92 to R96) -/

/-- *Notice body*. -/
def Notice.body (n : Notice) (lost : Nat) : List Byte :=
  [toByte n.kind, toByte n.block] ++ natLE 2 n.code ++ natLE 8 n.timeNs ++ natLE 2 n.timeFrac ++
  natLE 2 n.index ++ [toByte n.sub, toByte lost, 0#8, 0#8] ++ (n.data ++ List.replicate 16 0#8).take 16

/-- Queued notices are sent while fewer than 4 are unacknowledged (R93); the first sending takes the drops charged
to it (R95). -/
def Session.pump (x : Session) (now : Nat) : Nat → Session × List SentNotice
  | 0 => (x, [])
  | fuel + 1 =>
    match x.notices with
    | n :: rest =>
      if x.sent.length < 4 then
        let m : SentNotice := ⟨x.noticeSeq, n, min 255 x.charged, 1, now⟩
        let y := { x with notices := rest, sent := x.sent ++ [m], noticeSeq := (x.noticeSeq + 1) % 65536,
                          charged := 0 }
        let r := y.pump now fuel
        (r.1, m :: r.2)
      else (x, [])
    | [] => (x, [])

/-- A sending of a notice to the open session. -/
def State.sendNotice (s : State) (x : Session) (m : SentNotice) : State :=
  s.sendFrame x.addr x.port 0x20 m.seq 0 x.sid 2 x.key (m.notice.body m.lost)

/-- The session with its notices moved on, and the sendings that this makes. -/
def State.pumpNotices (s : State) : State :=
  match s.tdp.session with
  | some x =>
    let r := x.pump s.now 4
    r.2.foldl (fun s m => s.sendNotice r.1 m) { s with tdp := { s.tdp with session := some r.1 } }
  | none => s

/-- The part reports an event to the open session (R92); a full queue of 64 drops the notice (R95). -/
def State.notice (s : State) (kind block code index sub : Nat) (data : List Byte) : State :=
  match s.tdp.session with
  | some x =>
    if !bit (s.rd O.NOTICE_MASK) kind then s
    else if 64 ≤ x.notices.length + x.sent.length then
      ({ s with tdp := { s.tdp with session := some { x with charged := x.charged + 1 } } } : State).inc
        O.NOTICES_LOST
    else
      let v := s.time.ptpAt s.now
      let n : Notice := ⟨kind, block, code, tbNs v % 2 ^ 64, tbFrac v, index, sub, data⟩
      ({ s with tdp := { s.tdp with session := some { x with notices := x.notices ++ [n] } } } : State).pumpNotices
  | none => s

/-- A WARNING notice (kind 07h). -/
def State.warn (s : State) (block code index sub : Nat) (data : List Byte) : State :=
  s.notice 7 block code index sub data

/-! ### DOM objects -/

/-- Byte i of a DOM whose unlisted bytes read as fill. -/
def Dom.byte (d : Dom) (fill : Nat → Byte) (i : Nat) : Byte := mapGet d.cells i (fill i)

/-- n bytes of a DOM from offset o. -/
def Dom.read (d : Dom) (fill : Nat → Byte) (o n : Nat) : List Byte :=
  (List.range n).map fun i => d.byte fill (o + i)

/-- The cells of a byte string that differ from fill, from position o. -/
def cellsOf (fill : Nat → Byte) (o : Nat) : List Byte → List (Nat × Byte)
  | [] => []
  | b :: bs => if b = fill o then cellsOf fill (o + 1) bs else (o, b) :: cellsOf fill (o + 1) bs

/-- A DOM with one byte written. -/
def Dom.set (d : Dom) (fill : Nat → Byte) (i : Nat) (b : Byte) : Dom :=
  { d with cells := mapSet d.cells i b (fill i) }

/-- A DOM with bytes written from offset o. -/
def Dom.write (d : Dom) (fill : Nat → Byte) (o : Nat) (bs : List Byte) : Dom :=
  (indexed bs).foldl (fun d e => d.set fill (o + e.1) e.2) d

/-- The bytes of the Nozzle map default: FORMAT 1, ROWS 6, NOZZLES 3 456, HEAD_SERIAL 0, every entry 1000h (R330). -/
def nozzleFill (i : Nat) : Byte :=
  if i < 32 then [1#8, 0#8, 6#8, 0#8, 0x80#8, 0x0d#8].getD i 0#8 else if i % 2 = 1 then 0x10#8 else 0#8

/-- The code list of a block's class table, ascending (R744): the codes that the manual names against the block. -/
def blockCodes (b : Nat) : List Nat :=
  if b = 1 then [0x10]
  else if b = 5 then [1, 2]
  else if b = 6 then [1]
  else if b = 7 || b = 8 then [1, 2]
  else if 9 ≤ b && b ≤ 0xc then [1, 2, 3, 4, 5]
  else if b = 0xd then [1, 2, 3, 4, 5, 6, 7]
  else if b = 0xe || b = 0xf then [1, 2, 3, 4, 5]
  else if 0x10 ≤ b && b ≤ 0x1f then [0x101, 0x102]
  else if 0x20 ≤ b && b ≤ 0x2f then
    [0x201, 0x202, 0x301, 0x302, 0x303, 0x304, 0x305, 0x306, 0x310, 0x311, 0x312, 0x313, 0x314,
     0x401, 0x402, 0x403, 0x404, 0x405]
  else if 0x30 ≤ b && b ≤ 0x37 then [0x401, 0x402, 0x403, 0x404, 0x405]
  else if 0x38 ≤ b && b ≤ 0x3b then [1, 2, 3, 4, 5, 6, 7, 8, 9, 0xa]
  else if b = 0x3c then [1, 2, 3, 4, 5, 6]
  else if b = 0x3d then [1]
  else if b = 0x3e then [1, 2, 3, 4]
  else if b = 0x3f then [1, 2, 3, 4, 5, 6, 7, 8]
  else if b = 0x40 then [1, 2, 3, 4]
  else if b = 0x41 then [1, 3, 4]
  else []

/-- N, ACTION and W of a class at reset (*Default classes*, R749). -/
def defaultClass (b code : Nat) : Nat × Nat × Nat :=
  if 9 ≤ b && b ≤ 0xc && code = 1 then (64, 0, 3600000)
  else if 9 ≤ b && b ≤ 0xc && code = 4 then (4, 0, 3600000)
  else if b = 0xd && code = 6 then (64, 0, 100)
  else if 0x10 ≤ b && b ≤ 0x1f && code = 0x101 then (4, 3, 1000)
  else if 0x10 ≤ b && b ≤ 0x1f && code = 0x102 then (1, 3, 1000)
  else if 0x20 ≤ b && b ≤ 0x2f && code = 0x301 then (32, 2, 1000)
  else if 0x20 ≤ b && b ≤ 0x2f && code = 0x313 then (3, 2, 10000)
  else if b = 0x3c && code = 1 then (16, 0, 10000)
  else if b = 0x41 && code = 1 then (4, 0, 60000)
  else if b = 0x41 && code = 4 then (1, 3, 1000)
  else (16, 0, 1000)

/-- *Class entry*. -/
def classBytes (code n action w : Nat) : List Byte :=
  natLE 2 code ++ [toByte n, toByte action] ++ natLE 4 w

/-- The class table of a block at reset (R744, R749). -/
def defaultTable (b : Nat) : List Byte :=
  (blockCodes b).flatMap fun c => let d := defaultClass b c; classBytes c d.1 d.2.1 d.2.2

/-- The size of a DOM at reset (the object tables' defaults). -/
def domSize (idx : Nat) : Nat :=
  if 0x1610 ≤ idx && idx ≤ 0x1651 then 8 * (blockCodes (idx - 0x1610)).length
  else if idx = 0x2420 then 49152
  else if 0x2510 ≤ idx && idx ≤ 0x251f then 41504
  else if 0x2520 ≤ idx && idx ≤ 0x252f then 82944
  else if idx = 0x2544 then 331776
  else if 0x2720 ≤ idx && idx ≤ 0x272f then 20736
  else if 0x2820 ≤ idx && idx ≤ 0x282f then 256
  else if 0x300c ≤ idx && idx ≤ 0x300f then 24
  else if idx = 0x3122 then 65536
  else if 0x3348 ≤ idx && idx ≤ 0x334f then 67108864
  else if idx = 0x3620 then 3072
  else 0

/-- What byte i of a DOM reads as where nothing is listed. -/
def domFill (idx i : Nat) : Byte :=
  if 0x1610 ≤ idx && idx ≤ 0x1651 then (defaultTable (idx - 0x1610)).getD i 0#8
  else if idx = 0x2420 then toByte (4 * ((i % 128 + 5 * (i / 128 % 64)) % 64))
  else if 0x2510 ≤ idx && idx ≤ 0x251f then nozzleFill i
  else if idx = 0x2544 then 0xff#8
  else 0#8

/-- A DOM at reset. -/
def domDefault (idx : Nat) : Dom := ⟨domSize idx, 0, []⟩

/-- The DOM with this index. -/
def State.dom (s : State) (idx : Nat) : Dom := mapGet s.doms idx (domDefault idx)

/-- n bytes of a DOM from offset o. -/
def State.domRead (s : State) (idx o n : Nat) : List Byte := (s.dom idx).read (domFill idx) o n

/-- All bytes of a DOM. -/
def State.domAll (s : State) (idx : Nat) : List Byte := s.domRead idx 0 (s.dom idx).size

/-- The DOM put in place. -/
def State.setDom (s : State) (idx : Nat) (d : Dom) : State :=
  { s with doms := mapSet s.doms idx d (domDefault idx) }

/-- The object replaced in one step, its generation advanced by 1 (R87). -/
def Dom.replace (idx : Nat) (old : Dom) (bs : List Byte) : Dom :=
  ⟨bs.length, (old.gen + 1) % 2 ^ 32, cellsOf (domFill idx) 0 bs⟩

/-- The DOM replaced by bs, its generation advanced by 1 (R87). -/
def State.domReplace (s : State) (idx : Nat) (bs : List Byte) : State :=
  s.setDom idx (Dom.replace idx (s.dom idx) bs)

/-- Bytes of a DOM changed in place by the part, its generation advanced by 1. -/
def State.domPatch (s : State) (idx o : Nat) (bs : List Byte) : State :=
  let d := (s.dom idx).write (domFill idx) o bs
  s.setDom idx { d with gen := (d.gen + 1) % 2 ^ 32 }

end Sys2Proof.Machine
end

