-- ==== Sys2Proof/Machine/Faults.lean ====
section
/-! DEFINITION. What a block keeps of its events, and how a count becomes an action (R738 to R751). -/

namespace Sys2Proof.Machine

/-- A record that holds nothing. -/
def FaultRec.empty : FaultRec := ⟨0, [], [], 0, 0, [], []⟩

/-- The fault record of a block. -/
def State.faultRec (s : State) (b : Nat) : FaultRec := mapGet s.faults b .empty

def State.setFaultRec (s : State) (b : Nat) (r : FaultRec) : State :=
  { s with faults := mapSet s.faults b r .empty }

/-- The class index of a code in a block's table (R744). -/
def classIndex (b code : Nat) : Option Nat := (blockCodes b).findIdx? (· == code)

/-- N, ACTION and W (ms) of class c of block b, from its class table (R744). -/
def State.classEntry (s : State) (b c : Nat) : Nat × Nat × Nat :=
  let bs := s.domRead (0x1610 + b) (8 * c) 8
  (u8At bs 2, u8At bs 3, u32At bs 4)

/-- FLAGS with bit 1 set exactly when some class is SEVERE (*Fault flags*). -/
def FaultRec.refresh (r : FaultRec) : FaultRec := { r with flags := setBit r.flags 1 (!r.severe.isEmpty) }

/-- The record put in place; a change of FLAGS sends a STATUS notice (R741). -/
def State.updRec (s : State) (b : Nat) (r : FaultRec) : State :=
  let s' := s.setFaultRec b r
  if r.flags = (s.faultRec b).flags then s' else s'.notice 1 b r.flags (0x1500 + b) 1 []

/-- The window of class c holds N times, and the oldest of its last N lies no more than W ms before now (R745). -/
def severeNow (window : List Nat) (n w now : Nat) : Bool :=
  n != 0 && n ≤ window.length && now ≤ window.getD (n - 1) 0 + w * 1000000

/-- R738, R742, R743: the block counts and logs an event. -/
def FaultRec.record (r : FaultRec) (c code data now : Nat) (becomes : Bool) : FaultRec :=
  let full := 16 ≤ r.log.length
  let again := full && !bit r.flags 2
  let w := mapGet r.windows c []
  let w' := ((if again then [now, now] else [now]) ++ w).take 64
  { r with
    flags := setBit (setBit r.flags 0 true) 2 (full || bit r.flags 2)
    counts := mapSet r.counts c (min 65535 (mapGet r.counts c 0 + 1)) 0
    log := if full then r.log
           else r.log ++ [⟨code, c, b2n becomes + 2 * b2n (r.log.length == 15), data, now⟩]
    lost := if full then min 65535 (r.lost + 1) else r.lost
    lastCode := code
    windows := mapSet r.windows c w' [] }

/-- The action of a class that becomes SEVERE (*Fault actions*, R753 kind 1). -/
def actOf (b code action : Nat) : List Act :=
  match action with
  | 1 => [.spoilPage]
  | 2 => [.pausePrint]
  | 3 => [.safe ⟨b, 1, code⟩ false]
  | 4 => [.safe ⟨b, 1, code⟩ true]
  | _ => []

/-- An event of block b (R738 to R745): counted, logged, classified. A block with REG_FAULT counts none (R751). -/
def State.event (s : State) (b code data : Nat) : State :=
  match classIndex b code with
  | none => s
  | some c =>
    let r := s.faultRec b
    if bit r.flags 3 then s else
    let now := s.mono
    let e := s.classEntry b c
    let r0 := r.record c code data now false
    let becomes := !r.severe.contains c && severeNow (mapGet r0.windows c []) e.1 e.2.2 now
    let r1 := r.record c code data now becomes
    let s1 := s.updRec b r1
    if becomes then
      let s2 := s1.notice 2 b code (0x1610 + b) 0
        (natLE 2 code ++ [toByte c, toByte e.1] ++ natLE 4 e.2.2 ++ [toByte e.2.1])
      let entry : LogEntry := ⟨code, c, 1 + 2 * b2n (r.log.length == 15), data, now⟩
      let s3 : State :=
        { s2 with
          acts := s2.acts ++ actOf b code e.2.1
          under := { s2.under with severe := s2.under.severe ++ [entry] } }
      s3.updRec b { r1 with severe := r1.severe ++ [c] }.refresh
    else s1

/-- R746: class c has left SEVERE by now. -/
def severeOver (window : List Nat) (n w now : Nat) : Bool := !severeNow window n w now

/-- R746: the test of every SEVERE class of a block; the part does not act on the record of a block with REG_FAULT (R751). -/
def State.severeTestBlock (s : State) (b : Nat) : State :=
  let r := s.faultRec b
  if bit r.flags 3 then s else
  let keep := r.severe.filter fun c =>
    let e := s.classEntry b c
    !severeOver (mapGet r.windows c []) e.1 e.2.2 s.mono
  s.updRec b { r with severe := keep }.refresh

/-- R740: the record cleared; SEVERE is left by every class. -/
def State.clearRecord (s : State) (b : Nat) : State :=
  s.updRec b { FaultRec.empty with lastCode := (s.faultRec b).lastCode }

/-- R747: the size, the fixed codes and the fields of a class table. -/
def classTableOk (b : Nat) (bs : List Byte) : Bool :=
  bs.length == 8 * (blockCodes b).length &&
  (indexed (blockCodes b)).all fun e =>
    let o := 8 * e.1
    u16At bs o == e.2 && u8At bs (o + 2) ≤ 64 && u8At bs (o + 3) ≤ 4 &&
    1 ≤ u32At bs (o + 4) && u32At bs (o + 4) ≤ 3600000

/-- R747: a table that passed the check replaces the old one; a class whose N or W changed loses its window and
leaves SEVERE. -/
def State.replaceClassTable (s : State) (b : Nat) (bs : List Byte) : State :=
  let changed := (List.range (blockCodes b).length).filter fun c =>
    let e := s.classEntry b c
    u8At bs (8 * c + 2) != e.1 || u32At bs (8 * c + 4) != e.2.2
  let s1 := s.domReplace (0x1610 + b) bs
  let r := s1.faultRec b
  s1.updRec b { r with windows := r.windows.filter (fun w => !changed.contains w.1)
                       severe := r.severe.filter (fun c => !changed.contains c) }.refresh

/-- R750: a fault in a block's own registers. The part yields when the Graft role is ACTIVE, as under YIELD. -/
def State.registerFault (s : State) (b : Nat) : State :=
  let r := s.faultRec b
  let s1 := s.updRec b { r with flags := setBit r.flags 3 true }
  { s1 with acts := s1.acts ++ [.safe ⟨b, 2, 0xffff⟩ true] }

/-- A direct cause of safe state (R752, R753). -/
def State.requestSafe (s : State) (block kind code : Nat) : State :=
  { s with acts := s.acts ++ [.safe ⟨block, kind, code⟩ false] }

/-- Some class of block b whose action is SAFE or YIELD is SEVERE (*Safe causes*, kind 1). -/
def State.safeClassSevere (s : State) (b : Nat) : Bool :=
  (s.faultRec b).severe.any fun c => 3 ≤ (s.classEntry b c).2.1

/-- The bytes of COUNTS, LOG and SEVERE_CLASSES (*Fault flags*, *Event log entry*). -/
def FaultRec.countsValue (r : FaultRec) : Nat := octOf 2 ((List.range 64).map fun c => mapGet r.counts c 0)
def LogEntry.bytes (e : LogEntry) : List Byte :=
  natLE 2 e.code ++ [toByte e.cls, toByte e.flags] ++ natLE 4 e.data ++ natLE 8 e.time
def FaultRec.logValue (r : FaultRec) : Nat := leNat (r.log.flatMap LogEntry.bytes)
def FaultRec.severeValue (r : FaultRec) : Nat := r.severe.foldl (fun n c => setBit n c true) 0

end Sys2Proof.Machine
end

