-- ==== Sys2Proof/Machine/Inflate.lean ====
section
/-! DEFINITION. Inflation of a raw DEFLATE stream (R247, R699 to R708). The format is RFC 1951, which the manual
names; its tables are taken from there (PRESUMED, log 7). The input is read as bits, least significant first; the
output is kept newest first, so that a copy at distance d reads place d − 1. A stop says whether the input ran out (true) or is
no valid stream (false). -/

namespace Sys2Proof.Machine

/-- The bits of a byte string in DEFLATE order. -/
def Inflate.bitsOf (bs : List Byte) : List Bool := bs.flatMap fun b => (List.range 8).map fun i => b.toNat.testBit i

/-- The next n bits as a number, least significant first, and the rest. -/
def Inflate.take : Nat → List Bool → Except Bool (Nat × List Bool)
  | 0, bs => .ok (0, bs)
  | _ + 1, [] => .error true
  | n + 1, b :: bs =>
    match Inflate.take n bs with
    | .ok (v, r) => .ok (b2n b + 2 * v, r)
    | .error e => .error e

/-- What a step of the decoder makes: a value with the bits left, or a stop with the output so far. -/
abbrev Inflate.Run (α : Type) := Except (Bool × List Byte) α

/-- A reading whose stop keeps the output. -/
def Inflate.keep {α : Type} (out : List Byte) : Except Bool α → Inflate.Run α
  | .ok x => .ok x
  | .error e => .error (e, out)

/-- A value that a valid stream has. -/
def Inflate.valid {α : Type} : Option α → Except Bool α
  | some x => .ok x
  | none => .error false

/-- A canonical Huffman code as (length, code, symbol), the codes in ascending order of length then symbol. -/
def Inflate.codes (lens : List Nat) : List (Nat × Nat × Nat) :=
  let ls := indexed lens
  ((List.range 16).drop 1).foldl
    (fun (acc : Nat × List (Nat × Nat × Nat)) l =>
      let here := ls.filter fun p => p.2 == l
      let start := acc.1 * 2
      (start + here.length, acc.2 ++ (indexed here).map fun q => (l, start + q.1, q.2.1)))
    (0, []) |>.2

/-- The code set is not over-subscribed. -/
def Inflate.codesOk (lens : List Nat) : Bool :=
  (lens.foldl (fun a l => if l == 0 then a else a + 2 ^ (15 - l)) 0) ≤ 2 ^ 15

/-- The symbol that the next bits spell, reading at most the given number of bits. -/
def Inflate.symbol (tbl : List (Nat × Nat × Nat)) : Nat → Nat → Nat → List Bool → Except Bool (Nat × List Bool)
  | 0, _, _, _ => .error false
  | _ + 1, _, _, [] => .error true
  | fuel + 1, len, code, b :: bs =>
    let code' := 2 * code + b2n b
    match tbl.find? fun e => e.1 == len + 1 && e.2.1 == code' with
    | some e => .ok (e.2.2, bs)
    | none => Inflate.symbol tbl fuel (len + 1) code' bs

/-- Base length and extra bits of length symbol 257 + i. -/
def Inflate.lengthOf (i : Nat) : Option (Nat × Nat) :=
  if i < 8 then some (3 + i, 0)
  else if i < 28 then some (3 + (4 + i % 4) * 2 ^ (i / 4 - 1), i / 4 - 1)
  else if i == 28 then some (258, 0)
  else none

/-- Base distance and extra bits of distance symbol i. -/
def Inflate.distOf (i : Nat) : Option (Nat × Nat) :=
  if i < 4 then some (1 + i, 0)
  else if i < 30 then some (1 + (2 + i % 2) * 2 ^ (i / 2 - 1), i / 2 - 1)
  else none

/-- n bytes copied from distance d. -/
def Inflate.copy : Nat → Nat → List Byte → List Byte
  | 0, _, out => out
  | n + 1, d, out => Inflate.copy n d (out.getD (d - 1) 0 :: out)

/-- What follows a length symbol: the bits left, the length and the distance. -/
def Inflate.pair (dist : List (Nat × Nat × Nat)) (s : Nat) (bs : List Bool) : Except Bool (List Bool × Nat × Nat) := do
  let (lb, le) ← Inflate.valid (Inflate.lengthOf (s - 257))
  let (lx, bs) ← Inflate.take le bs
  let (ds, bs) ← Inflate.symbol dist 15 0 0 bs
  let (db, de) ← Inflate.valid (Inflate.distOf ds)
  let (dx, bs) ← Inflate.take de bs
  .ok (bs, lb + lx, db + dx)

/-- The symbols of one compressed block. -/
def Inflate.body (lit dist : List (Nat × Nat × Nat)) : Nat → List Bool → List Byte → Inflate.Run (List Bool × List Byte)
  | 0, _, out => .error (false, out)
  | fuel + 1, bs, out =>
    match Inflate.symbol lit 15 0 0 bs with
    | .error e => .error (e, out)
    | .ok (s, bs) =>
      if s < 256 then Inflate.body lit dist fuel bs (toByte s :: out)
      else if s == 256 then .ok (bs, out)
      else
        match Inflate.pair dist s bs with
        | .error e => .error (e, out)
        | .ok (bs, n, d) =>
          if out.length < d then .error (false, out)
          else Inflate.body lit dist fuel bs (Inflate.copy n d out)

/-- The order in which the lengths of the code-length code are sent. -/
def Inflate.clOrder : List Nat := [16, 17, 18, 0, 8, 7, 9, 6, 10, 5, 11, 4, 12, 3, 13, 2, 14, 1, 15]

/-- The 3-bit lengths of the code-length code. -/
def Inflate.clLens : List Nat → Nat → List Bool → Except Bool (List (Nat × Nat) × List Bool)
  | _, 0, bs => .ok ([], bs)
  | [], _ + 1, bs => .ok ([], bs)
  | o :: os, n + 1, bs => do
    let (v, bs) ← Inflate.take 3 bs
    let (r, bs) ← Inflate.clLens os n bs
    .ok ((o, v) :: r, bs)

/-- The literal and distance code lengths, n in all, newest first. -/
def Inflate.lens (cl : List (Nat × Nat × Nat)) (n : Nat) :
    Nat → List Bool → List Nat → Except Bool (List Nat × List Bool)
  | 0, _, _ => .error false
  | fuel + 1, bs, acc =>
    if acc.length == n then .ok (acc.reverse, bs)
    else if n < acc.length then .error false
    else do
      let (s, bs) ← Inflate.symbol cl 7 0 0 bs
      if s < 16 then Inflate.lens cl n fuel bs (s :: acc)
      else if s == 16 then
        let (x, bs) ← Inflate.take 2 bs
        match acc with
        | [] => .error false
        | p :: _ => Inflate.lens cl n fuel bs (List.replicate (3 + x) p ++ acc)
      else
        let (x, bs) ← Inflate.take (if s == 17 then 3 else 7) bs
        Inflate.lens cl n fuel bs (List.replicate ((if s == 17 then 3 else 11) + x) 0 ++ acc)

/-- The lengths of the fixed literal code. -/
def Inflate.fixedLit : List Nat :=
  List.replicate 144 8 ++ List.replicate 112 9 ++ List.replicate 24 7 ++ List.replicate 8 8

/-- The bytes of a stored block. -/
def Inflate.stored : Nat → List Bool → List Byte → Inflate.Run (List Bool × List Byte)
  | 0, bs, out => .ok (bs, out)
  | n + 1, bs, out =>
    match Inflate.take 8 bs with
    | .ok (v, bs) => Inflate.stored n bs (toByte v :: out)
    | .error e => .error (e, out)

/-- The two codes of a dynamic block. total is the length of the stream in bits. -/
def Inflate.tables (total : Nat) (bs : List Bool) :
    Except Bool (List Bool × List (Nat × Nat × Nat) × List (Nat × Nat × Nat)) := do
  let (hlit, bs) ← Inflate.take 5 bs
  let (hdist, bs) ← Inflate.take 5 bs
  let (hclen, bs) ← Inflate.take 4 bs
  let (cls, bs) ← Inflate.clLens Inflate.clOrder (hclen + 4) bs
  let cl := (List.range 19).map fun i => ((cls.find? fun p => p.1 == i).map (·.2)).getD 0
  if !Inflate.codesOk cl then .error false
  else
    let (ls, bs) ← Inflate.lens (Inflate.codes cl) (hlit + 257 + hdist + 1) (total + 1) bs []
    let lit := ls.take (hlit + 257)
    let dist := ls.drop (hlit + 257)
    if Inflate.codesOk lit && Inflate.codesOk dist then .ok (bs, Inflate.codes lit, Inflate.codes dist)
    else .error false

/-- The length of a stored block. -/
def Inflate.storedLength (bs : List Bool) : Except Bool (List Bool × Nat) := do
  let bs := bs.drop (bs.length % 8)
  let (len, bs) ← Inflate.take 16 bs
  let (nlen, bs) ← Inflate.take 16 bs
  if len + nlen == 65535 then .ok (bs, len) else .error false

/-- One block after its 3-bit header. -/
def Inflate.block (total kind : Nat) (bs : List Bool) (out : List Byte) : Inflate.Run (List Bool × List Byte) :=
  if kind == 0 then
    match Inflate.storedLength bs with
    | .ok (bs, len) => Inflate.stored len bs out
    | .error e => .error (e, out)
  else if kind == 1 then
    Inflate.body (Inflate.codes Inflate.fixedLit) (Inflate.codes (List.replicate 30 5)) (total + 1) bs out
  else if kind == 2 then
    match Inflate.tables total bs with
    | .ok (bs, lit, dist) => Inflate.body lit dist (total + 1) bs out
    | .error e => .error (e, out)
  else .error (false, out)

/-- The blocks of a stream up to the final one. -/
def Inflate.blocks (total : Nat) : Nat → List Bool → List Byte → Inflate.Run (List Bool × List Byte)
  | 0, _, out => .error (false, out)
  | fuel + 1, bs, out => do
    let (fin, bs) ← Inflate.keep out (Inflate.take 1 bs)
    let (kind, bs) ← Inflate.keep out (Inflate.take 2 bs)
    let (bs, out) ← Inflate.block total kind bs out
    if fin == 1 then .ok (bs, out) else Inflate.blocks total fuel bs out

/-- A whole block of a stream: BFINAL, its type, the bytes it makes and its length in bits. -/
structure Inflate.Block where
  final : Bool
  kind : Nat
  bytes : Nat
  bits : Nat
deriving DecidableEq, Repr

/-- The whole blocks of a stream up to the final one; fuel bounds them. -/
def Inflate.shape (total : Nat) : Nat → List Bool → List Byte → List Inflate.Block
  | 0, _, _ => []
  | fuel + 1, bs, out =>
    match Inflate.take 3 bs with
    | .error _ => []
    | .ok (head, rest) =>
      match Inflate.block total (head / 2) rest out with
      | .error _ => []
      | .ok (left, out') =>
        ⟨head % 2 = 1, head / 2, out'.length - out.length, bs.length - left.length⟩ ::
          (if head % 2 = 1 then [] else Inflate.shape total fuel left out')

/-- The whole blocks of a raw stream. -/
def inflateBlocks (bs : List Byte) : List Inflate.Block :=
  Inflate.shape (8 * bs.length) (8 * bs.length + 1) (Inflate.bitsOf bs) []

/-- A raw stream decoded as far as it goes. -/
def Inflate.run (bs : List Byte) : Inflate.Run (List Bool × List Byte) :=
  let n := 8 * bs.length
  Inflate.blocks n (n + 1) (Inflate.bitsOf bs) []

/-- The bytes that a DEFLATE stream inflates to and the number of input bytes it takes; none when it is not complete and
valid. -/
def inflate (bs : List Byte) : Option (List Byte × Nat) :=
  match Inflate.run bs with
  | .ok (rest, out) => some (out.reverse, bs.length - rest.length / 8)
  | .error _ => none

/-- The bytes that the beginning of a stream inflates to, and how it goes on: none it has ended, some true its input is
used up, some false it is no valid stream. -/
def inflateSoFar (bs : List Byte) : List Byte × Option Bool :=
  match Inflate.run bs with
  | .ok (_, out) => (out.reverse, none)
  | .error (short, out) => (out.reverse, some short)

end Sys2Proof.Machine
end

