-- ==== Sys2Proof/Machine/Engines.lean ====
section
/-! DEFINITION. The compression engines as the page link and the log use them, and the capture of ingest packets (R699 to R712). -/

namespace Sys2Proof.Machine

/-- Stored blocks over the bytes, the last with BFINAL where the stream ends; fuel bounds the blocks. -/
def storedBlocks (final : Bool) : Nat → List Byte → List Byte
  | 0, _ => []
  | fuel + 1, bs =>
    let b := bs.take 65535
    let rest := bs.drop 65535
    [if final && rest.isEmpty then 1#8 else 0#8] ++ natLE 2 b.length ++ natLE 2 (65535 - b.length) ++ b ++
    (if rest.isEmpty then [] else storedBlocks final fuel rest)

/-- R705: the longest output of a privileged deflate of n bytes. -/
def deflateBound (n : Nat) : Nat := n + 5 * ceilDiv n 65535 + 5

/-- R700: no block of more than 65 535 bytes, dynamic and static tables as they are allowed, and a block of either shorter than a
stored one. -/
def blocksOk (dynamic static' : Bool) (z : List Byte) : Bool :=
  (inflateBlocks z).all fun b =>
    b.bytes ≤ 65535 && (b.kind = 0 || (b.bits < 40 + 8 * b.bytes && if b.kind = 1 then static' else dynamic))

/-- A privileged deflate of the bytes as one stream with FINAL (R700, R702, R705). RFC 1951 leaves the encoding open: the free
value stands where it is a stream of these bytes as R700 and R705 ask, and stored blocks elsewhere (log 16). -/
def deflateOf (bs : List Byte) : List Byte :=
  let z := Config.deflated bs
  if bs.isEmpty then [3#8, 0#8]
  else if inflate z == some (bs, z.length) && z.length ≤ deflateBound bs.length && blocksOk true true z then z
  else storedBlocks true (bs.length + 1) bs

/-- The output z of a stream is one that the descriptors x, the newest, and before may have made; old is the output up to x.
FLUSH leaves it aligned with the whole input in it, FINAL ends it (R700 to R702, R705). -/
def streamOk (before : List (Nat × List Byte)) (x : Nat × List Byte) (old z : List Byte) : Bool :=
  let all := x :: before
  let input := (all.reverse.map (·.2)).flatten
  let r := inflateSoFar z
  old.isPrefixOf z && z.length ≤ (all.map fun e => deflateBound e.2.length).foldl (· + ·) 0 &&
  blocksOk (all.any fun e => bit e.1 1) (all.any fun e => !bit e.1 1) z &&
  (if bit x.1 3 then inflate z == some (input, z.length)
   else r.2 == some true && r.1.isPrefixOf input &&
     (!bit x.1 2 || (r.1 == input && ((inflateBlocks z).map (·.bits)).foldl (· + ·) 0 == 8 * z.length)))

/-- The output of a stream whose descriptors' FLAGS and inputs are given, the newest first: the free value where it is such an
output, and stored blocks of the newest input elsewhere (log 16). -/
def streamOf : List (Nat × List Byte) → List Byte
  | [] => []
  | x :: before =>
    let old := streamOf before
    let z := Config.deflateStream (x :: before)
    if streamOk before x old z then z else old ++ storedBlocks (bit x.1 3) (x.2.length + 1) x.2

/-- A job of an engine has ended (3400h.01 to .03). -/
def State.engineJob (s : State) (input output : Nat) : State :=
  ((s.inc O.COMPRESS_JOBS).add O.BYTES_IN input).add O.BYTES_OUT output

/-- Bytes go into the capture ring from its write offset on. -/
def State.ringPut (s : State) (bs : List Byte) : State :=
  let size := s.rd O.CAPTURE_SIZE
  let o := s.rd O.CAPTURE_WRITE_OFFSET
  let ring := (indexed bs).foldl (fun m e => mapSet m ((o + e.1) % size) e.2 0#8) s.movers.ring
  ({ s with movers := { s.movers with ring := ring } } : State).wr O.CAPTURE_WRITE_OFFSET ((o + bs.length) % size)

/-- Ingest capture of a packet as it was received (R711, R712). Whether an engine is free within 2 µs is a free value. -/
def State.capture (s : State) (raw : List Byte) : State :=
  if !s.rdB O.CAPTURE_ENABLE then s
  else
    let d := s.draw
    if (Config.free d.1).toNat % 2 = 1 then (d.2.inc O.CAPTURE_DROPPED).event 7 2 0
    else
      let z := deflateOf raw
      let r := natLE 4 z.length ++ natLE 4 raw.length ++ z
      (d.2.engineJob raw.length z.length).ringPut (r ++ List.replicate ((8 - r.length % 8) % 8) 0#8)

end Sys2Proof.Machine
end

