-- ==== Sys2Proof/Machine/Align.lean ====
section
/-! DEFINITION. Where rows and segments sit (R346 to R353), which rows are fitted (R433, R513, R516), and the
nozzle entries (R330). -/

namespace Sys2Proof.Machine

/-- Row p of segment s. -/
def rowKey (seg row : Nat) : Nat := 6 * seg + row

def State.row (s : State) (seg row : Nat) : RowState := s.fire.rows.getD (rowKey seg row) .init
def State.head (s : State) (seg : Nat) : Head := s.heads.getD seg .init
def State.lane (s : State) (n : Nat) : Lane := s.lanes.getD n .init

def State.updRow (s : State) (seg row : Nat) (f : RowState → RowState) : State :=
  { s with fire := { s.fire with rows := s.fire.rows.modify (rowKey seg row) f } }
def State.updHead (s : State) (seg : Nat) (f : Head → Head) : State := { s with heads := s.heads.modify seg f }
def State.updLane (s : State) (n : Nat) (f : Lane → Lane) : State := { s with lanes := s.lanes.modify n f }

/-- The loop counts of a row (R630, R631). -/
def State.loopRow (s : State) (key : Nat) : LoopRow := s.inspect.rows.getD key .init

def State.updLoopRow (s : State) (key : Nat) (f : LoopRow → LoopRow) : State :=
  { s with inspect := { s.inspect with rows := s.inspect.rows.modify key f } }

/-- LINE_PITCH in effect, lpi. -/
def State.pitch (s : State) : Nat := s.rd O.LINE_PITCH

/-- R352: the row delay of a position D at pitch P, in lines. -/
def rowDelay (d p : Nat) : Nat := d * p / 614400

/-- R352: the sub-line phase of a position D at pitch P, in 1/65 536 line. -/
def rowPhase (d p : Nat) : Nat := d * p % 614400 * 65536 / 614400

/-- d_p and φ_p in effect for row p of segment s. -/
def State.delay (s : State) (seg row : Nat) : Nat := rowDelay (s.row seg row).eff s.pitch
def State.phase (s : State) (seg row : Nat) : Nat := rowPhase (s.row seg row).eff s.pitch

/-- R353: ROW_DELAY, d and φ of each row in 48.16. -/
def State.rowDelayValue (s : State) : Nat :=
  octOf 8 ((List.range 96).map fun i => s.delay (i / 6) (i % 6) * 65536 + s.phase (i / 6) (i % 6))

/-- ROW_POS_PENDING: a position is pending until its adoption at the fire instant (R356 to R358). -/
def State.pendingValue (s : State) : Nat :=
  (List.range 96).foldl (fun n i => 
    let r := s.row (i / 6) (i % 6)
    setBit n i (r.pending.isSome || r.adopt.isSome)) 0

/-- SEGMENT_ENABLE names segment s. -/
def State.segEnabled (s : State) (seg : Nat) : Bool := bit (s.rd O.SEGMENT_ENABLE) seg

/-- R433, R513, R516: row p of segment s is fitted. -/
def State.fitted (s : State) (seg row : Nat) : Bool := s.segEnabled seg && bit (s.head seg).rowsFitted row

/-- The fitted rows, in order of segment and row. -/
def State.fittedRows (s : State) : List (Nat × Nat) :=
  ((List.range 96).map fun i => (i / 6, i % 6)).filter fun e => s.fitted e.1 e.2

/-- X_SHIFT(s, p) (R346). -/
def State.xShift (s : State) (seg row : Nat) : Int := toInt 8 (octAt 1 (s.rd O.X_SHIFT) (rowKey seg row))

/-- h_s, the stitch position of overlap s (R348). -/
def State.stitchPos (s : State) (seg : Nat) : Nat := octAt 1 (s.rd O.STITCH_POS) seg

/-- R346, R347: the column of nozzle n of row p of segment s; none outside 0 to 53 375. -/
def State.columnOf (s : State) (seg row n : Nat) : Option Nat :=
  let x : Int := (seg * 3328 + n : Nat) + s.xShift seg row
  if 0 ≤ x && x < 53376 then some x.toNat else none

/-- The nozzle of row p of segment s that reaches column x. -/
def State.nozzleAt (s : State) (seg row x : Nat) : Option Nat :=
  let n : Int := (x : Int) - (seg * 3328 : Nat) - s.xShift seg row
  if seg < 16 && 0 ≤ n && n < 3456 then some n.toNat else none

/-- ENTRY of nozzle n of row p of segment s (*Nozzle map*). -/
def State.nozzleEntry (s : State) (seg row n : Nat) : Nat :=
  leNat (s.domRead (0x2510 + seg) (32 + 2 * (3456 * row + n)) 2)

/-- *Nozzle entry*: state, gain, and takeover weights. -/
def entryState (e : Nat) : Nat := bits e 15 14
def entryGain (e : Nat) : Nat := bits e 13 0
def entryLeft (e : Nat) : Nat := 2 * bits e 13 7
def entryRight (e : Nat) : Nat := 2 * bits e 6 0
/-- GOOD or WEAK. -/
def entryPrints (e : Nat) : Bool := entryState e ≤ 1

/-- A DEAD or MASKED entry with these weights. -/
def weightEntry (state wl wr : Nat) : Nat := state * 16384 + wl / 2 * 128 + wr / 2

/-- The entry written, the map's generation advanced. -/
def State.setEntry (s : State) (seg row n e : Nat) : State :=
  s.domPatch (0x2510 + seg) (32 + 2 * (3456 * row + n)) (natLE 2 e)

/-- R329: the part itself moves a nozzle to a state. -/
def movedEntry (dfltWeight e st : Nat) : Nat :=
  if st = 2 && entryState e != 2 then weightEntry 2 dfltWeight dfltWeight
  else if st ≤ 1 && 2 ≤ entryState e then st * 16384 + 4096
  else st * 16384 + e % 16384

/-- f_n: the fine delay of nozzle n of row p of segment s (R425). -/
def State.fineDelay (s : State) (seg row n : Nat) : Nat :=
  ((s.dom (0x2720 + seg)).byte (domFill (0x2720 + seg)) (3456 * row + n)).toNat

/-- The fine delays of a row that some nozzle has. -/
def State.fineDelays (s : State) (seg row : Nat) : List Nat :=
  let d := s.dom (0x2720 + seg)
  let own := (d.cells.filter fun c => 3456 * row ≤ c.1 && c.1 < 3456 * (row + 1))
  ((if own.length < 3456 then [0] else []) ++ own.map fun (c : Nat × Byte) => c.2.toNat).eraseDups

/-- The largest fine delay of a row. -/
def State.fineMax (s : State) (seg row : Nat) : Nat := (s.fineDelays seg row).foldl max 0

/-- Whole lines of the high-water mark. -/
def State.hwmLine (s : State) : Nat := s.web.hwm / 2 ^ 32

/-- Position and high-water mark in 48.16 (R9, R383). -/
def to4816 (x : Nat) : Nat := x / 65536

end Sys2Proof.Machine
end

