-- ==== Sys2Proof/Machine/Compose.lean ====
section
/-! DEFINITION. The seven stages of a composed line (R290 to R323, R360 to R362). -/

namespace Sys2Proof.Machine

/-- Column count of the bar. -/
def barColumns : Nat := 53376

/-- A job-scoped DOM of a set. -/
def JobSet.dom (j : JobSet) (idx : Nat) : Dom := mapGet j.doms idx (domDefault idx)

/-- Byte i of a job-scoped DOM. -/
def JobSet.domByte (j : JobSet) (idx i : Nat) : Nat := ((j.dom idx).byte (domFill idx) i).toNat

/-- The planes of a mask, ascending. -/
def planesOf (m : Nat) : List Nat := (List.range 6).filter (bit m)

/-! ### Stage 1: composition -/

/-- mul(a, s) of R302. -/
def inkMul (a s : Nat) : Nat := (a * s + 127) / 255

/-- *Blend modes* (R302). -/
def blendOf (mode a s : Nat) : Nat :=
  match mode with
  | 1 => a + s - inkMul a s
  | 2 => max a s
  | 3 => min a s
  | 4 => min 255 (a + s)
  | _ => s

/-- R302: the present value a after an object of value s. -/
def blend (mode alpha a s : Nat) : Nat := (a * (255 - alpha) + blendOf mode a s * alpha + 127) / 255

/-- R304, cross-web: the value of source line v (read by px) at offset e of an image of width w. -/
def sampleAcross (linear : Bool) (w e : Nat) (px : Nat → Nat) : Nat :=
  let u := e / 2
  if linear then
    let n := if e % 2 = 0 then u - 1 else min (u + 1) (w - 1)
    (3 * px u + px n + 2) / 4
  else px u

/-- R304, along the web: the value at offset dl of lines at this pitch; v0 and v1 go through clampTop, which is
HEIGHT − 1 for an object. -/
def sampleAlong (linear : Bool) (pitch dl : Nat) (clampTop : Nat → Nat) (h : Nat → Nat) : Nat :=
  if linear && 600 ≤ pitch then
    let num : Int := ((2 * dl + 1) * 600 : Nat) - (pitch : Nat)
    if num < 0 then (h 0 * 256 + 128) / 256
    else
      let y := num.toNat
      let v0 := y / (2 * pitch)
      let k := y % (2 * pitch) * 256 / (2 * pitch)
      (h v0 * (256 - k) + h (clampTop (v0 + 1)) * k + 128) / 256
  else h (dl * 600 / pitch)

/-- R297, R304: the background value of plane k at column x of page line l. -/
def backgroundAt (j : JobSet) (pg : Page) (pitch l k x : Nat) : Option Nat :=
  let bx := j.rd O.BG_X
  let w := j.rd O.BG_WIDTH
  let ht := j.rd O.BG_HEIGHT
  if pg.useBg && bit (j.rd O.BG_PLANES) k && bx ≤ x && x < bx + 2 * w then
    let cells := mapGet j.planes k []
    let samp := j.rd O.BG_SAMPLING
    some (sampleAlong (bit samp 1) pitch l id fun v =>
      let v' := (pg.bgLine + v) % ht
      sampleAcross (bit samp 0) w (x - bx) fun u => (mapGet cells (v' * w + u) 0#8).toNat)
  else none

/-- Lines that a placement covers (*Object limits*, check 3). -/
def Placement.lines (p : Placement) (pitch : Nat) : Nat :=
  if p.format = 0 then ceilDiv (p.height * pitch) 600 else p.height

/-- Columns that a placement spans. -/
def Placement.span (p : Placement) : Nat := if p.format = 0 then 2 * p.width else p.width

/-- R300, R303, R304: the value that object o gives plane k at column x of page line l, if it covers it. -/
def objectAt (o : PageObj) (pitch l k x : Nat) : Option Nat :=
  let p := o.place
  let byte (i : Nat) : Nat := (mapGet o.data i 0#8).toNat
  if o.size != 0 && bit p.planes k && p.x ≤ x && x < p.x + p.span && p.y ≤ l && l < p.y + p.lines pitch then
    let e := x - p.x
    if p.format = 0 then
      let base := ((planesOf p.planes).filter (· < k)).length * p.height * p.stride
      some (sampleAlong (bit p.sampling 1) pitch (l - p.y) (fun v => min v (p.height - 1)) fun v =>
        sampleAcross (bit p.sampling 0) p.width e fun u => byte (base + v * p.stride + u))
    else if bit (byte ((l - p.y) * p.stride + e / 8)) (e % 8) then some (p.tint.getD k 0)
    else none
  else none

/-- R301: the composed value of plane k at column x of page line l. -/
def composedAt (j : JobSet) (pg : Page) (pitch l k x : Nat) : Nat :=
  let start := (backgroundAt j pg pitch l k x).getD (j.rd (O.BASE_PLANE k))
  pg.objs.foldl (fun a o =>
    match objectAt o pitch l k x with
    | some v => blend o.place.blend o.place.opacity a v
    | none => a) start

/-- The composed value of pattern 2, DENSITY_STEPS, on line l of its repeat (*Test patterns*). -/
def densityStep (l : Nat) : Nat := [0, 32, 64, 96, 128, 160, 192, 224, 255].getD (l % 1152 / 128) 0

/-- Stage 1 of a page line: background and objects, or pattern 2 of a test page. Patterns 1 and 3 to 6 use stage 7
only and compose nothing. -/
def contoneAt (j : JobSet) (pg : Page) (pitch l k x : Nat) : Nat :=
  match pg.test with
  | some (2, _, _, _) => densityStep l
  | some _ => 0
  | none => composedAt j pg pitch l k x

/-! ### Stages 2 and 3 -/

/-- R310: the tone of composed value c on plane k. -/
def toneOf (j : JobSet) (k c : Nat) : Nat := octAt 2 (j.rd (O.TONE_CURVE k)) c

/-- R311: ROW_PLANE of row p. -/
def JobSet.plane (j : JobSet) (p : Nat) : Nat := j.rd (O.ROW_PLANE p)

/-- R312: row p is one of a pair. -/
def JobSet.paired (j : JobSet) (p : Nat) : Bool := bit (j.rd O.PAIRS) (p / 2)

/-- R312, R313: row p of a pair does not own web line w, and receives a SKIP marker. -/
def JobSet.skips (j : JobSet) (p w : Nat) : Bool :=
  j.paired p && (w + j.rd O.SPLIT_PHASE) % 2 != p % 2

/-! ### Stage 4: stitch selection -/

/-- a(j) of R314 for stitch position h and width w. -/
def stitchShare (h w j : Nat) : Nat :=
  if w = 0 then (if j < h then 256 else 0)
  else (clampI 0 256 (256 * (2 * (h : Int) + w - 2 * j - 1) / (2 * w : Nat))).toNat

/-- R314: column j of the overlap goes to the lower segment. -/
def stitchLower (set : JobSet) (h k j l : Nat) : Bool :=
  set.domByte 0x2420 (k * 8192 + l % 64 * 128 + j) < stitchShare h (set.rd O.STITCH_WIDTH) j

/-- The segments whose row p has a nozzle at column x, ascending. -/
def State.reaching (s : State) (row x : Nat) : List (Nat × Nat) :=
  (List.range 16).filterMap fun seg => (s.nozzleAt seg row x).map fun n => (seg, n)

/-- Column x, which segment b reaches, lies in its overlap with the segment below (R348). -/
def State.inOverlap (s : State) (b row x : Nat) : Bool :=
  ((x : Int) - (((b * 3328 : Nat) : Int) + s.xShift b row)).toNat < 128

/-- R314, R315, R349: the segment and nozzle that print column x of row p on page line l; mapOk tells whether an
entry counts as GOOD or WEAK. -/
def State.printing (s : State) (set : JobSet) (printsEntry : Nat → Bool) (row k l x : Nat) : Option (Nat × Nat) :=
  match s.reaching row x with
  | [] => none
  | [a] => some a
  | a :: b :: _ =>
    if !s.inOverlap b.1 row x then some b
    else
      let j := ((x : Int) - (((b.1 * 3328 : Nat) : Int) + s.xShift b.1 row)).toNat
      let first := stitchLower set (s.stitchPos a.1) k j l
      let sel := if first then a else b
      let other := if first then b else a
      if !printsEntry (s.nozzleEntry sel.1 row sel.2) && printsEntry (s.nozzleEntry other.1 row other.2)
      then some other else some sel

/-! ### Stages 5 and 6 -/

/-- A column as stage 5 sees it: its printing nozzle, whether it prints, its gain and weights. -/
structure Column where
  nozzle : Option (Nat × Nat)
  prints : Bool
  gain : Nat
  wl : Nat
  wr : Nat
deriving DecidableEq, Repr

/-- The column x of row p; bypass is BYPASS_MAP of pattern 2 (R362), which treats every nozzle that is not MASKED as
GOOD with gain 4 096. R338: a column that no nozzle reaches has DEFAULT_WEIGHT. -/
def State.column (s : State) (set : JobSet) (bypass : Bool) (row k l x : Nat) : Column :=
  let ok (e : Nat) : Bool := if bypass then entryState e != 3 else entryPrints e
  match s.printing set ok row k l x with
  | none => let w := s.rd O.DEFAULT_WEIGHT; ⟨none, false, 0, w, w⟩
  | some (seg, n) =>
    let e := s.nozzleEntry seg row n
    ⟨some (seg, n), ok e, if bypass then 4096 else entryGain e, entryLeft e, entryRight e⟩

/-- The column at x of a row of columns; off the bar nothing prints. -/
def colAt (cols : Array Column) (x : Int) : Column :=
  if 0 ≤ x then cols.getD x.toNat ⟨none, false, 0, 0, 0⟩ else ⟨none, false, 0, 0, 0⟩

/-- R317: the nearest printing column on a side of x (dir −1 left, 1 right), at most 2 columns away. -/
def takeoverTo (cols : Array Column) (x : Int) (dir : Int) : Option Int :=
  if (colAt cols (x + dir)).prints then some (x + dir)
  else if (colAt cols (x + 2 * dir)).prints then some (x + 2 * dir)
  else none

/-- R317: the tone of printing column x with the shares it takes over. -/
def takenTone (cols : Array Column) (tone : Nat → Nat) (x : Nat) : Nat :=
  let from' (y : Int) (dir : Int) : Nat :=
    let c := colAt cols y
    if 0 ≤ y && y < barColumns && !c.prints && takeoverTo cols y dir == some (x : Int) then
      tone y.toNat * (if dir < 0 then c.wl else c.wr) / 256
    else 0
  tone x + from' (x + 1) (-1) + from' (x + 2) (-1) + from' (x - 1) 1 + from' (x - 2) 1

/-- R317: shares of column x that no printing column takes. -/
def lostShares (cols : Array Column) (x : Nat) : Nat :=
  if (colAt cols x).prints then 0
  else b2n (takeoverTo cols x (-1)).isNone + b2n (takeoverTo cols x 1).isNone

/-- R321: the drop level of tone v at column x of page line l on plane k. -/
def screen (j : JobSet) (k x l v : Nat) : Nat :=
  let idx := 0x2410 + k
  let u16 (o : Nat) : Nat := j.domByte idx o + 256 * j.domByte idx (o + 1)
  let w := u16 0
  let h := u16 2
  if w = 0 || h = 0 then 0
  else
    let o := 8 + 6 * (l % h * w + x % w)
    if u16 (o + 4) % 4096 < v then 3 else if u16 (o + 2) % 4096 < v then 2 else if u16 o % 4096 < v then 1 else 0

/-- What stages 5 to 7 make of one row: the levels that are not 0, lost shares, saturated columns. -/
structure RowResult where
  levels : List (Nat × Nat)
  lost : Nat
  saturated : Nat
deriving DecidableEq, Repr

/-- Stages 2 to 7 of one row whose plane is k, from the composed values of the plane. -/
def State.rowStages (s : State) (set : JobSet) (bypass : Bool) (row k l : Nat) (c8 : Array Nat) : RowResult :=
  let cols : Array Column := (Array.range barColumns).map fun x => s.column set bypass row k l x
  let tones : Array Nat := c8.map (toneOf set k)
  let tone (x : Nat) : Nat := tones.getD x 0
  (List.range barColumns).foldl (fun r (x : Nat) =>
    let c := colAt cols (x : Int)
    match c.nozzle, c.prints with
    | some (seg, n), true =>
      let v := takenTone cols tone x * c.gain / 4096
      let level := screen set k x l (min 4095 v)
      { r with levels := if level = 0 then r.levels else (seg * 3456 + n, level) :: r.levels
               saturated := r.saturated + b2n (4095 < v) }
    | _, _ => { r with lost := r.lost + lostShares cols x }) ⟨[], 0, 0⟩

/-! ### Test patterns of stage 7 only (R360, R361) -/

/-- The selected rows before row p. -/
def rowsBefore (rows p : Nat) : Nat := ((List.range p).filter (bit rows)).length

/-- Nozzle n of row p of segment s fires on line l of the test page (*Test patterns* 1, 3, 4, 5, 6). j is the index of
its column in the overlap with the segment above, j' in that with the segment below, where it has one. -/
def patternFires (pattern rows seg row n l : Nat) (j j' : Option Nat) : Bool :=
  let count := rowsBefore rows 6
  bit rows row &&
  match pattern with
  | 1 =>
    let r := l % (160 * count)
    r / 160 == rowsBefore rows row && r % 160 < 128 && (n + 8 * (seg % 2)) % 16 == r % 160 / 8
  | 3 =>
    let r := l % (128 * count)
    let bar (i : Option Nat) : Bool :=
      match i with
      | some i => [16, 48, 80, 112].any fun b => b ≤ i && i < b + 4
      | none => false
    r / 128 == rowsBefore rows row && (if r % 128 < 64 then bar j else bar j')
  | 4 =>
    let r := l % 128
    let own := 128 + 512 * row ≤ n && n < 128 + 512 * (row + 1)
    let all := 128 ≤ n && n < 128 + 3072
    (row == 0 && all && (r == 32 || r == 33)) || (own && (r == 64 || r == 65)) ||
    (own && 254 ≤ n - (128 + 512 * row) && n - (128 + 512 * row) < 258)
  | 5 => true
  | 6 => n % 16 == l % 16
  | _ => false

/-- Lines per repeat of a pattern (*Test patterns*). -/
def patternLines (pattern rows : Nat) : Nat :=
  match pattern with
  | 1 => 160 * rowsBefore rows 6
  | 2 => 1152
  | 3 => 128 * rowsBefore rows 6
  | 4 => 128
  | _ => 256

/-- Stage 7 of a test pattern on one row (R327, R347, R361). -/
def State.patternRow (s : State) (pattern rows level row l : Nat) : List (Nat × Nat) :=
  (List.range 16).flatMap fun seg =>
    (List.range 3456).filterMap fun n =>
      match s.columnOf seg row n with
      | none => none
      | some x =>
        let overlap (upper : Nat) : Option Nat :=
          let c0 : Int := ((upper * 3328 : Nat) : Int) + s.xShift upper row
          let j := (x : Int) - c0
          if 0 ≤ j && j < 128 then some j.toNat else none
        let j := if seg < 15 then overlap (seg + 1) else none
        let j' := if 0 < seg then overlap seg else none
        if entryState (s.nozzleEntry seg row n) != 3 && patternFires pattern rows seg row n l j j'
        then some (seg * 3456 + n, level) else none

/-! ### The line -/

/-- A composed page line: its six rows, and what the counters of 2201h gain. -/
structure LineResult where
  rows : List RowLine
  lost : Nat
  saturated : Nat
  /-- composed values that are not 0, by plane × 53 376 + column, for the reference store (R295) -/
  contone : List (Nat × Nat)
deriving DecidableEq, Repr

/-- A line of level 0, with the SKIP markers of R313. -/
def blankRows (set : JobSet) (w : Nat) : List RowLine :=
  (List.range 6).map fun p => if set.skips p w then .skip else .levels []

/-- All stages of page line l of a page that starts at web line w − l (R290). -/
def State.composePage (s : State) (set : JobSet) (pg : Page) (w l : Nat) : LineResult :=
  let stages (bypass : Bool) (sel : Nat) : LineResult :=
    let c8 : List (Array Nat) := (List.range 6).map fun k =>
      (Array.range barColumns).map fun x => contoneAt set pg s.pitch l k x
    let done : List (RowLine × Nat × Nat) := (List.range 6).map fun p =>
      let k := set.plane p
      if set.skips p w then (.skip, 0, 0)
      else if k = 255 || !bit sel p then (.levels [], 0, 0)
      else
        let r := s.rowStages set bypass p k l (c8.getD k #[])
        (.levels r.levels, r.lost, r.saturated)
    { rows := done.map (·.1)
      lost := (done.map (·.2.1)).foldl (· + ·) 0
      saturated := (done.map (·.2.2)).foldl (· + ·) 0
      contone := (indexed c8).flatMap fun e =>
        (List.range barColumns).filterMap fun x =>
          if e.2.getD x 0 = 0 then none else some (e.1 * barColumns + x, e.2.getD x 0) }
  match pg.test with
  | some (2, rows, _, flags) => stages (bit flags 2) rows
  | some (pat, rows, level, _) =>
    { rows := (List.range 6).map fun p => .levels (s.patternRow pat rows level p l)
      lost := 0, saturated := 0, contone := [] }
  | none => stages false 63

/-- R308: COMPOSE_RATE_MAX of a set. -/
def JobSet.composeRate (j : JobSet) : Nat := min 320000 (16000000000 / j.rd O.LINE_READ_BUDGET)

end Sys2Proof.Machine
end

