-- ==== Sys2Proof/Machine/Pages.lean ====
section
/-! DEFINITION. Job sets and pages: which set content belongs to, page positions, spoiling, and the notices of the
job sequencer (R203 to R216, R36 to R40, R236). -/

namespace Sys2Proof.Machine

def JobSet.jobId (j : JobSet) : Nat := j.rd O.JOB_ID

/-- The shadow set as R208 fills it: every job-scoped object as in the active set, or at its default. -/
def fillShadow (active : Option JobSet) : JobSet :=
  match active with
  | some a => { JobSet.empty with vals := a.vals, doms := a.doms }
  | none => .empty

/-- The set that content with this JOB_ID belongs to (R205): some true for the active set, some false for the
shadow set. -/
def State.setFor (s : State) (job : Nat) : Option Bool :=
  match s.jobs.active with
  | some a =>
    if a.jobId = job then some true
    else if s.jobs.shadow.jobId = job && s.jobs.state != .empty then some false else none
  | none => if s.jobs.shadow.jobId = job && s.jobs.state != .empty then some false else none

/-- What has come of descriptors that are not complete goes with the set of a JOB_ID (R205). -/
def State.dropDescs (s : State) (job : Nat) : State :=
  { s with ingest := { s.ingest with descs := s.ingest.descs.filter (·.job != job) } }

/-- The active set (true) or the shadow set (false). -/
def State.getSet (s : State) (act : Bool) : Option JobSet := if act then s.jobs.active else some s.jobs.shadow

def State.updSet (s : State) (act : Bool) (f : JobSet → JobSet) : State :=
  { s with jobs := if act then { s.jobs with active := s.jobs.active.map f }
                   else { s.jobs with shadow := f s.jobs.shadow } }

/-- Both sets, the active one first. -/
def State.sets (s : State) : List JobSet :=
  (match s.jobs.active with | some a => [a] | none => []) ++ [s.jobs.shadow]

/-- Page seq of a set. A test page has the number 0 (R363). -/
def JobSet.page? (j : JobSet) (seq : Nat) : Option Page := j.pages.find? (·.seq == seq)

def JobSet.updPage (j : JobSet) (seq : Nat) (f : Page → Page) : JobSet :=
  { j with pages := j.pages.map fun p => if p.seq = seq then f p else p }

def State.page? (s : State) (job seq : Nat) : Option Page := do
  let act ← s.setFor job
  let j ← s.getSet act
  j.page? seq

def State.updPage (s : State) (job seq : Nat) (f : Page → Page) : State :=
  match s.setFor job with
  | some act => s.updSet act (·.updPage seq f)
  | none => s

/-- The page is accepted: it has a start (R213, R276). -/
def Page.accepted (p : Page) : Bool := p.start.isSome

/-- The first web line behind the page. -/
def Page.stop (p : Page) : Nat := p.start.getD 0 + p.length

/-- Web line w belongs to the page. -/
def Page.has (p : Page) (w : Nat) : Bool :=
  match p.start with
  | some a => a ≤ w && w < a + p.length
  | none => false

/-- The page is SPOILED already, though the outcome may not be final yet. -/
def Page.spoiled (p : Page) : Bool := !p.spoil.marks.isEmpty

/-- Accepted pages of a set that have no final outcome. -/
def JobSet.open (j : JobSet) : List Page := j.pages.filter fun p => p.accepted && p.outcome.isNone

/-- Pages of a set that are held (R213). -/
def JobSet.heldPages (j : JobSet) : List Page := j.pages.filter fun p => !p.accepted

/-- Some accepted page of either set has no final outcome. -/
def State.openPages (s : State) : Bool := s.sets.any fun j => !j.open.isEmpty

/-- Some accepted or held page has no outcome (R381). -/
def State.unfinishedPages (s : State) : Bool := s.sets.any fun j => !j.open.isEmpty || !j.heldPages.isEmpty

/-- E: the end of the last accepted page of the active set; 0 with none (R221). -/
def State.lastEnd (s : State) : Nat :=
  match s.jobs.active with
  | some a => ((a.pages.filter Page.accepted).map Page.stop).foldl max 0
  | none => 0

/-! ### Spoiling (R37 to R40) -/

/-- The first page line that the cause affected. -/
def Spoil.mark (x : Spoil) (c : SpoilCause) (line : Nat) : Spoil :=
  match x.marks.find? (·.1 == c) with
  | some _ => { x with marks := x.marks.map fun m => if m.1 = c then (c, min m.2 line) else m }
  | none => { x with marks := x.marks ++ [(c, line)] }

/-- n more lines affected on row key. -/
def Spoil.count (x : Spoil) (key n : Nat) : Spoil := { x with rows := mapSet x.rows key (mapGet x.rows key 0 + n) 0 }

/-- *Spoil causes* as *ACK body* codes them. -/
def SpoilCause.code : SpoilCause → Nat
  | .overspeed => 1 | .interlock => 2 | .takeover => 3 | .reverseGap => 4 | .fault => 5 | .ingestLate => 6

/-- The order of R39, least first. -/
def SpoilCause.rank : SpoilCause → Nat
  | .fault => 0 | .takeover => 1 | .interlock => 2 | .overspeed => 3 | .reverseGap => 4 | .ingestLate => 5

/-- R38, R39: the recorded cause: first affected line furthest upstream, then the order of R39. Upstream lines of a
page have the larger numbers (DEDUCED, log 21). -/
def Spoil.cause (x : Spoil) : Option SpoilCause :=
  (x.marks.foldl (fun best m =>
    match best with
    | none => some m
    | some b => if b.2 < m.2 || (m.2 == b.2 && m.1.rank < b.1.rank) then some m else some b) none).map (·.1)

/-- Page line `line` of the page is affected; key is the row, when one row is. A final outcome stays (R36). -/
def Page.hit (p : Page) (c : SpoilCause) (line : Nat) (key : Option Nat) : Page :=
  if p.outcome.isSome then p
  else
    let m := p.spoil.mark c line
    { p with spoil := match key with | some k => m.count k 1 | none => m }

/-- R461: a fire line of row key does not fire; each page that owns a composed line of it is affected. -/
def State.spoilOwners (s : State) (owners : List Owner) (c : SpoilCause) (key : Nat) : State :=
  owners.foldl (fun s o => s.updPage o.job o.page fun p => p.hit c o.line (some key)) s

/-! ### The job sequencer's notices -/

/-- SHADOW_STATE. -/
def SetState.code : SetState → Nat
  | .empty => 0 | .building => 1 | .planning => 2 | .committed => 3 | .armed => 4 | .latched => 5 | .retiring => 6

/-- JOB_ID of the incoming set. -/
def State.incomingJob (s : State) : Nat :=
  match s.jobs.state with
  | .retiring => (s.jobs.active.map JobSet.jobId).getD 0
  | _ => s.jobs.shadow.jobId

/-- R236: a JOB notice. -/
def State.jobNotice (s : State) (code job : Nat) : State :=
  s.notice 5 4 code 0x2001 (if code < 0x100 then 1 else 6)
    (natLE 4 job ++ natLE 8 (s.jobs.boundary.getD 0 * 65536) ++ natLE 2 s.jobs.swap ++ [0#8, 0#8])

/-- The shadow set enters a state (R236). -/
def State.enterSet (s : State) (st : SetState) : State :=
  if s.jobs.state = st then s
  else
    let s' : State := { s with jobs := { s.jobs with state := st } }
    s'.jobNotice st.code s'.incomingJob

/-- The JOB_ID that a swap bit's notice names: the set that has come in. -/
def State.activeJob (s : State) : Nat := (s.jobs.active.map JobSet.jobId).getD 0

/-- R235: SWAP_STATUS bit i is set, with its JOB notice. -/
def State.swapBit (s : State) (i : Nat) : State :=
  if bit s.jobs.swap i then s
  else
    let s' : State := { s with jobs := { s.jobs with swap := setBit s.jobs.swap i true } }
    s'.jobNotice (0x100 + i) s'.activeJob

/-! ### The page queue (R273 to R275) -/

/-- R273: the bytes that a page reserves; a test page reserves none (R363). -/
def Page.reserve (p : Page) : Nat :=
  if p.test.isSome then 0
  else 4096 * ceilDiv (32 + 64 * p.objs.length) 4096 + (p.objs.map fun o => 4096 * ceilDiv o.size 4096).foldl (· + ·) 0

/-- Free bytes of the set's page queue. -/
def JobSet.queueFree (j : JobSet) : Nat :=
  j.rd O.PAGE_QUEUE_SIZE - ((j.pages.filter fun p => !p.freed).map Page.reserve).foldl (· + ·) 0

/-! ### Page positions -/

/-- R215: the start of the next accepted page of a set. -/
def JobSet.nextStart (j : JobSet) : Nat :=
  match (j.pages.filter Page.accepted).getLast? with
  | some p => p.stop + j.rd O.PAGE_GAP
  | none => j.start

/-- A page becomes accepted with the start that R215 gives. -/
def JobSet.accept (j : JobSet) (seq : Nat) : JobSet :=
  j.updPage seq fun p => if p.accepted then p else { p with start := some j.nextStart }

/-- Every held page of the set becomes accepted, in order (R213). -/
def JobSet.acceptAll (j : JobSet) : JobSet := j.heldPages.foldl (fun j p => j.accept p.seq) j

/-- The accepted page that owns web line w. -/
def JobSet.owner (j : JobSet) (w : Nat) : Option Page := j.pages.find? (·.has w)

/-- The page has no outcome and none of its lines has begun. -/
def Page.waits (p : Page) : Bool := p.outcome.isNone && !p.spoiled && p.composed = 0 && !p.fired

/-- R217: Δ lines are added to the start of every page of the set that has no outcome: that is neither begun nor
SPOILED. The set's own S stays. -/
def JobSet.shift (j : JobSet) (d : Nat) : JobSet :=
  { j with pages := j.pages.map fun p => if p.waits then { p with start := p.start.map (· + d) } else p }

/-! ### Cameras and rows as the job sequencer sees them -/

/-- R568: d_cam of pipeline k, in lines. -/
def State.camDist (s : State) (k : Nat) : Nat := rowDelay (s.rd (O.CAM_DIST k)) s.pitch

/-- Pipeline k takes triggered frames: it is enabled and not free-running (R566). -/
def State.camTriggered (s : State) (k : Nat) : Bool :=
  s.rdB (O.CAM_PORT_ENABLE k) && s.rd (O.CAM_TRIGGER_MODE k) = 0

/-- The largest d_cam over the four cameras (R218). -/
def State.camFarthest (s : State) : Nat := ((List.range 4).map s.camDist).foldl max 0

/-- R216: rows p and q are paired in the outgoing or the incoming set. -/
def pairedEither (a b : JobSet) (i : Nat) : Bool := bit (a.rd O.PAIRS) i || bit (b.rd O.PAIRS) i

/-- R216: G at the latch. -/
def State.jobGapG (s : State) (a b : JobSet) : Nat :=
  ((List.range 3).filter (pairedEither a b)).foldl (fun g i =>
    (List.range 16).foldl (fun g seg =>
      let p := s.delay seg (2 * i)
      let q := s.delay seg (2 * i + 1)
      max g (max (p - q) (q - p))) g) 0

/-- The first fire position of row p of segment s that carries web line b or one behind it, under an adoption that is fixed
(R227, R357). -/
def State.carries (s : State) (seg row b : Nat) : Nat :=
  let r := s.row seg row
  let w := b + rowDelay r.eff s.pitch
  match r.adopt with
  | some (w0, d) => if w < w0 then w else max w0 (b + rowDelay d s.pitch)
  | none => w

/-- R227, R228: the fire position at which row p of segment s switches. -/
def State.switchPos (s : State) (seg row : Nat) : Option Nat := do
  let b ← s.jobs.boundary
  let own := s.carries seg row b
  match s.jobs.active with
  | some a =>
    let mate := s.carries seg (if row % 2 = 0 then row + 1 else row - 1) b
    some (if pairedEither a s.jobs.shadow (row / 2) then max own mate else own)
  | none => some own

/-- The set whose row parameters apply to row p of segment s at fire position w (R227). -/
def State.rowSet (s : State) (seg row w : Nat) : JobSet :=
  let active := s.jobs.active.getD .empty
  if s.jobs.state = .retiring then
    match s.switchPos seg row with
    | some b => if w < b && !s.jobs.rowsDone.contains (seg, row) then s.jobs.shadow else active
    | none => active
  else active

/-- The set that composes web line w (R226): from B on, the incoming set. -/
def State.lineSet (s : State) (w : Nat) : JobSet :=
  let active := s.jobs.active.getD .empty
  match s.jobs.state, s.jobs.boundary with
  | .latched, some b => if w < b then active else s.jobs.shadow
  | .retiring, some b => if w < b then s.jobs.shadow else active
  | _, _ => active

end Sys2Proof.Machine
end

