-- ==== Sys2Proof/Machine/Jobs.lean ====
section
/-! DEFINITION. The job sequencer: COMMIT and its checks, the memory plan, arming, the latch, the exchange of the sets
and the last stage (R209 to R239, R324, R463, R591). -/

namespace Sys2Proof.Machine

/-! *Status codes*. -/
namespace Status
def ok : Nat := 0
def empty : Nat := 1
def staged : Nat := 2
def badVersion : Nat := 0x101
def badOpcode : Nat := 0x102
def noSession : Nat := 0x103
def busy : Nat := 0x104
def authFailed : Nat := 0x105
def authLocked : Nat := 0x106
def unsealed : Nat := 0x107
def outOfSequence : Nat := 0x108
def badLength : Nat := 0x109
def noObject : Nat := 0x201
def noSubindex : Nat := 0x202
def readOnly : Nat := 0x203
def writeOnly : Nat := 0x204
def typeMismatch : Nat := 0x205
def range : Nat := 0x206
def state : Nat := 0x207
def offset : Nat := 0x208
def changed : Nat := 0x209
def locked : Nat := 0x20a
end Status

/-- What the owning block answers to a write: the status, the data of R909 for a refusal, and the state after. -/
structure Reply where
  status : Nat
  data : List Byte
  state : State

def Reply.of (st : Nat) (s : State) : Reply := ⟨st, [], s⟩

/-- R324, R463, R591 refusals carry the failing index and subindex (R909). -/
def failing (key : Nat) : List Byte := natLE 2 (key / 256) ++ [toByte (key % 256), 0#8]

/-! ### COMMIT -/

/-- R296: bytes of the announced background. -/
def JobSet.background (j : JobSet) : Nat :=
  (planesOf (j.rd O.BG_PLANES)).length * j.rd O.BG_WIDTH * j.rd O.BG_HEIGHT

/-- R324: the first failing object of *Commit checks*. -/
def JobSet.commitFail (j : JobSet) : Option Nat :=
  let rows := List.range 6
  if j.rd O.BG_PLANES != 0 && 6442450944 < j.background then some O.BG_HEIGHT
  else if 53376 < j.rd O.BG_X + 2 * j.rd O.BG_WIDTH then some O.BG_X
  else match rows.find? fun p => j.plane p != 255 && (j.dom (0x2410 + j.plane p)).size == 0 with
  | some p => some ((0x2410 + j.plane p) * 256)
  | none =>
    if (List.range 3).any fun i =>
        bit (j.rd O.PAIRS) i && (j.plane (2 * i) != j.plane (2 * i + 1) || j.plane (2 * i) == 255)
    then some O.PAIRS
    else if (j.dom 0x2420).size = 0 then some (0x2420 * 256)
    else none

/-- R463: the first failing object of *Firing commit checks*. -/
def JobSet.firingFail (j : JobSet) : Option Nat :=
  ((List.range 6).filter fun p => j.plane p != 255).findSome? fun p =>
    let lo := j.rd (O.PW_MIN p)
    let hi := j.rd (O.PW_MAX p)
    if hi < lo then some (O.PW_MAX p)
    else match (List.range 3).find? fun i => j.rd (O.PW_BASE p i) < lo || hi < j.rd (O.PW_BASE p i) with
    | some i => some (O.PW_BASE p i)
    | none =>
      if 16 * j.rd (O.FIRE_PERIOD_MIN p) < hi + 8000 then some (O.FIRE_PERIOD_MIN p) else none

/-- Channels of a mosaic (*Mosaics*). -/
def mosaicChannels (m : Nat) : Nat := [1, 2, 4, 4].getD m 1

/-- R591: the first failing object of *Camera commit checks*, over the enabled pipelines. -/
def State.cameraFail (s : State) (j : JobSet) : Option Nat :=
  ((List.range 4).filter fun k => s.rdB (O.CAM_PORT_ENABLE k)).findSome? fun k =>
    let key (st sub : Nat) : Nat := (0x3020 + 4 * k + st) * 256 + sub
    let v (st sub : Nat) : Nat := j.rd (key st sub)
    let sensorW := s.rd (O.CAM_PORT_WIDTH k)
    let sensorH := s.rd (O.CAM_PORT_HEIGHT k)
    let ch := mosaicChannels (s.rd (O.MOSAIC k))
    let perStream (st : Nat) : Option Nat :=
      if v st 1 = 0 then none
      else if sensorW < v st 2 + v st 4 then some (key st 4)
      else if sensorH < v st 3 + v st 5 then some (key st 5)
      else if v st 4 % v st 6 != 0 then some (key st 6)
      else if v st 5 % v st 7 != 0 then some (key st 7)
      else if v st 8 = 0 || 2 ^ ch ≤ v st 8 then some (key st 8)
      else none
    match (List.range 4).findSome? perStream with
    | some x => some x
    | none =>
      let twice (sink : Nat) : Option Nat :=
        (((List.range 4).filter fun st => v st 1 == sink).drop 1).head?.map fun st => key st 1
      match twice 1, twice 2 with
      | some x, _ => some x
      | _, some x => some x
      | _, _ =>
        let base := (0x3010 + k) * 256
        let e := j.rd (base + 1)
        if j.rd (base + 7) < j.rd (base + 6) || e < j.rd (base + 6) || j.rd (base + 7) < e then some (base + 1)
        else none

/-- R637, R639: DEAD_DEPTH below STREAK_TOL, DENS_HI below DENS_LO (log 168). -/
def JobSet.inspectFail (j : JobSet) : Option Nat :=
  (List.range 4).findSome? fun k =>
    let b := (0x3118 + k) * 256
    if j.rd (b + 2) < j.rd (b + 1) then some (b + 2)
    else if j.rd (b + 6) < j.rd (b + 5) then some (b + 6)
    else none

/-- COMMIT (R209, R211). -/
def State.commitSet (s : State) : Reply :=
  let done (r : Reply) : Reply := { r with state := r.state.wr O.SET_STATUS_LAST_RESULT r.status }
  done <|
    match s.jobs.state with
    | .planning => .of Status.busy s
    | .building =>
      let j := s.jobs.shadow
      if j.jobId = 0 || (s.jobs.active.isSome && j.jobId == s.activeJob) then .of Status.range s
      else match j.commitFail <|> j.firingFail <|> s.cameraFail j <|> j.inspectFail with
      | some k => ⟨Status.range, failing k, s⟩
      | none => .of Status.ok (s.enterSet .planning)
    | _ => .of Status.state s

/-! ### The memory plan (R218 to R220) -/

/-- Fitted DRAM by the DRAM_SIZE straps (R105, R23). -/
def State.capacity (s : State) : Nat := 17179869184 * 2 ^ bits s.boot.straps 4 3

/-- The largest d of row p over the segments, with a pending position and a fixed adoption counted too. -/
def State.largestDelay (s : State) (row : Nat) : Nat :=
  ((List.range 16).map fun seg =>
    let r := s.row seg row
    let of (q : Option Nat) : Nat := match q with | some d => rowDelay d s.pitch | none => 0
    max (s.delay seg row) (max (of (r.pending.map (·.1))) (of (r.adopt.map (·.2))))).foldl max 0

/-- Reference lines that the farthest camera needs (R218). -/
def State.refLinesNeeded (s : State) : Nat := ceilDiv (s.camFarthest + 1024) 4

/-- The terms of the plan: delay lines and reference store in bytes, depth of each row, reference lines. -/
structure Plan where
  delayBytes : Nat
  refBytes : Nat
  depths : List Nat
  refLines : Nat
  fixed : Nat
  active : Nat
  shadow : Nat
  free : Int

/-- Need of a set. -/
def JobSet.need (j : JobSet) : Nat := j.background + j.rd O.PAGE_QUEUE_SIZE + 67108864

/-- R218: the method of the memory plan. -/
def State.plan (s : State) : Plan :=
  let margin := s.rd O.DELAY_MARGIN
  let depths := (List.range 6).map fun p => s.largestDelay p + margin
  let delayBytes := (depths.map (· * 13344)).foldl (· + ·) 0
  let refLines := s.refLinesNeeded
  let refBytes := refLines * 13344 * 6
  let fixed := 1073741824 + delayBytes + refBytes
  let active := (s.jobs.active.map JobSet.need).getD 0
  let shadow := s.jobs.shadow.need
  ⟨delayBytes, refBytes, depths, refLines, fixed, active, shadow, (s.capacity : Int) - fixed - active - shadow⟩

/-- The plan is complete (R210, R218, R220). -/
def State.finishPlan (s : State) : State :=
  if s.jobs.state != .planning then s
  else
    let p := s.plan
    let s1 := (s.wrs [(O.MEMORY_PLAN_FIXED, p.fixed), (O.ACTIVE_NEED, p.active), (O.SHADOW_NEED, p.shadow),
      (O.PLAN_DELAY_LINES, p.delayBytes), (O.PLAN_REFERENCE, p.refBytes),
      (O.MEMORY_PLAN_SHADOW_BACKGROUND, s.jobs.shadow.background),
      (O.SHADOW_QUEUE, s.jobs.shadow.rd O.PAGE_QUEUE_SIZE)]).wrI 64 O.MEMORY_PLAN_FREE p.free
    if p.free < 0 then (s1.wr O.SET_STATUS_LAST_RESULT Status.range).enterSet .building
    else
      let s2 := s1.wr O.SET_STATUS_LAST_RESULT Status.ok
      ({ s2 with jobs := { s2.jobs with reserved := some ⟨p.depths, p.refLines⟩ } } : State).enterSet
        .committed

/-- R219: the cameras need more reference lines than the plan in effect reserves. -/
def State.refShort (s : State) : Bool := match s.jobs.reserved with | some r => r.refLines < s.refLinesNeeded | none => false

/-- R219, R354: row p may take the delay d under the plan in effect. -/
def State.depthOk (s : State) (row d : Nat) : Bool :=
  match s.jobs.reserved with
  | some r => d ≤ r.rows.getD row 0
  | none => true

/-! ### Latch, exchange, last stage -/

/-- The boundary latches at high-water mark B − 256 in RUN (R209, R213, R216). -/
def State.latch (s : State) : State :=
  match s.jobs.active, s.jobs.boundary with
  | some a, some b =>
    let start := b + s.jobGapG a s.jobs.shadow
    let sh := ({ s.jobs.shadow with start := start, begun := true } : JobSet).acceptAll
    ({ s with jobs := { s.jobs with shadow := sh, armStart := start, swap := 0, rowsDone := [], camsDone := [] } }
      : State).enterSet .latched
  | _, _ => s

/-- Composition reaches B: the sets exchange roles (R209, R226). -/
def State.exchange (s : State) : State :=
  match s.jobs.active with
  | some a =>
    let s1 : State := { s with jobs := { s.jobs with active := some s.jobs.shadow, shadow := a } }
    ((s1.wr O.COMPOSE_RATE_MAX s.jobs.shadow.composeRate).enterSet .retiring).swapBit 0
  | none => s

/-- The last stage has swapped (R209, R233): the outgoing set is freed and the shadow set refilled. -/
def State.lastStage (s : State) : State :=
  let s0 := s.dropDescs s.jobs.shadow.jobId
  let s1 : State := { s0 with jobs := { s0.jobs with shadow := fillShadow s0.jobs.active } }
  let s2 := (s1.inc O.SWAP_COUNT).enterSet .empty
  { s2 with jobs := { s2.jobs with boundary := none, rowsDone := [], camsDone := [] } }

/-- R233: every row and every camera has switched. -/
def State.checkLast (s : State) : State :=
  if s.jobs.state = .retiring && s.jobs.rowsDone.length = 96 && s.jobs.camsDone.length = 4 then s.lastStage else s

/-- Row p of segment s switches, and its lines name the other slot (R227, R235, R486). -/
def State.rowSwitched (s : State) (seg row : Nat) : State :=
  if (s.jobs.state != .latched && s.jobs.state != .retiring) || s.jobs.rowsDone.contains (seg, row) then s
  else
    let s1 : State := { s.updRow seg row fun r => { r with slot := 1 - r.slot } with
      jobs := { s.jobs with rowsDone := s.jobs.rowsDone ++ [(seg, row)] } }
    let s2 := if (s1.jobs.rowsDone.filter (·.2 == row)).length = 16 then s1.swapBit (1 + row) else s1
    s2.checkLast

/-- Camera k switches (R229, R235). -/
def State.camSwitched (s : State) (k : Nat) : State :=
  if (s.jobs.state != .latched && s.jobs.state != .retiring) || s.jobs.camsDone.contains k then s
  else
    (({ s with jobs := { s.jobs with camsDone := s.jobs.camsDone ++ [k] } } : State).swapBit (8 + k)).checkLast

/-- Mode 0: every stage swaps at once (R209, R216, R221). -/
def State.swapNow (s : State) (start : Nat) : State :=
  let sh := ({ s.jobs.shadow with start := start, begun := true } : JobSet).acceptAll
  let s1 : State := { s with jobs := { s.jobs with active := some sh, shadow := s.jobs.active.getD .empty,
                                                    boundary := none, armStart := start, swap := 0, rowsDone := [], camsDone := [] } }
  let s2 := s1.wr O.COMPOSE_RATE_MAX sh.composeRate
  ([0, 1, 2, 3, 4, 5, 6, 8, 9, 10, 11].foldl (fun s i => s.swapBit i) s2).lastStage

/-! ### Arming (R221 to R223) -/

/-- R222 in the order of R49: range before state. -/
def State.armRefusal (s : State) (mode boundary flags : Nat) (graftActive : Bool) : Option (Nat × List Byte) :=
  let pages := match s.jobs.active with | some a => !(a.pages.filter Page.accepted).isEmpty | none => false
  let e := s.lastEnd + s.jobs.shadow.rd O.JOB_GAP
  if mode = 1 && (boundary % 65536 != 0 || boundary < to4816 s.web.hwm + 256 * 65536 ||
      (pages && boundary < e * 65536)) then some (Status.range, [2#8, 0#8, 0#8, 0#8])
  else if s.jobs.state != .committed && s.jobs.state != .armed then some (Status.state, [])
  else if mode = 0 && (s.power.state = 0 ||
      (match s.jobs.active with | some a => !a.open.isEmpty | none => false)) then some (Status.state, [])
  else if mode != 0 && s.jobs.active.isNone then some (Status.state, [])
  else if bit flags 0 && !graftActive then some (Status.state, [])
  else none

/-- B of an ARM APPLY in mode 1 or 2 (R221): the high-water mark + 256 taken up to a whole line. -/
def State.armBoundary (s : State) (mode boundary : Nat) : Nat :=
  if mode = 1 then boundary / 65536
  else
    let h := ceilDiv s.web.hwm (2 ^ 32) + 256
    match s.jobs.active with
    | some a => if (a.pages.filter Page.accepted).isEmpty then h else max (s.lastEnd + s.jobs.shadow.rd O.JOB_GAP) h
    | none => h

/-- The page queue of the active set closed or reopened (R223, R237). -/
def State.closeQueue (s : State) (c : Bool) : State := s.updSet true fun a => { a with closed := c }

/-- An ARM APPLY whose checks passed (R209). In ARMED it replaces B, in mode 0 by BOUNDARY (log 29). -/
def State.arm (s : State) (mode boundary : Nat) : State :=
  if mode = 0 && s.jobs.state = .committed then s.swapNow (boundary / 65536)
  else
    let b := if mode = 0 then boundary / 65536 else s.armBoundary mode boundary
    let g := match s.jobs.active with | some a => s.jobGapG a s.jobs.shadow | none => 0
    (({ s with jobs := { s.jobs with boundary := some b, armStart := b + g } } : State).closeQueue true).enterSet .armed

/-- CANCEL (R209, R237). -/
def State.cancelArm (s : State) : Reply :=
  if s.jobs.state = .armed then
    .of Status.ok ((({ s with jobs := { s.jobs with boundary := none, armStart := 0 } } : State).closeQueue
      false).enterSet .committed)
  else .of Status.state s

/-- REOPEN (R209): held pages and the reservation stay. -/
def State.reopenSet (s : State) : Reply :=
  if s.jobs.state = .committed then .of Status.ok (s.enterSet .building) else .of Status.state s

/-- DISCARD (R209, R208, R213). -/
def State.discardSet (s : State) : Reply :=
  let drop (s : State) : State :=
    let s := s.dropDescs s.jobs.shadow.jobId
    ({ s with jobs := { s.jobs with shadow := fillShadow s.jobs.active, boundary := none, armStart := 0 } }
      : State).enterSet .empty
  match s.jobs.state with
  | .empty => .of Status.empty s
  | .building => .of Status.ok (drop s)
  | .committed => .of Status.ok (drop s)
  | .armed => .of Status.ok (drop (s.closeQueue false))
  | .planning => .of Status.busy s
  | .latched => .of Status.state s
  | .retiring => .of Status.state s

/-- A write to an RWS object or job-scoped DOM is accepted in EMPTY and BUILDING (R72, R209). -/
def State.shadowOpen (s : State) : Bool := s.jobs.state = .empty || s.jobs.state = .building

/-- An RWS object of the shadow set takes a value; the set becomes BUILDING (R209). -/
def State.shadowWrite (s : State) (k v : Nat) : State :=
  (s.updSet false fun j => { j with vals := mapSet j.vals k v (Dict.dflt k) }).enterSet .building

/-- Both sets are lost (R209, R665). -/
def State.loseSets (s : State) : State :=
  ({ s with jobs := { s.jobs with active := none, shadow := .empty, boundary := none, armStart := 0, swap := 0,
                                  rowsDone := [], camsDone := [] }
            ingest := { s.ingest with descs := [] } } : State).enterSet .empty

end Sys2Proof.Machine
end

