-- ==== Sys2Proof/Machine/HeadOps.lean ====
section
/-! DEFINITION. Sending to head modules: packets, commands, FLUSH, pulse-width tables and fire descriptors
(R468 to R488, R495). -/

namespace Sys2Proof.Machine

/-- Strobes are sent: RUN or an orderly pause, and no safe state (R440). -/
def State.firing (s : State) : Bool := (s.power.state = 0 || s.power.pausing) && !s.safe.active

/-- The part fires: it holds the heads, and in a planned swap only up to B − 1 (R792). A standby part composes and assembles the same
lines, and fires none (spec/19, its first paragraph; log 173). -/
def State.firesAt (s : State) (w : Nat) : Bool :=
  s.firing && s.graft.owner && !(s.graft.planned && match s.jobs.boundary with | some b => b ≤ w | none => false)

/-- The lane of segment s is up at G2 or G3, the module READY, the lane not at IDLE with INHIBIT, and the part claims the module, so
that LINE packets are sent; after a takeover, once the tables are (R31, R170, R480, R788). -/
def State.lineReady (s : State) (seg : Nat) : Bool :=
  s.firing && (s.head seg).link = 3 && (s.lane seg).state = 3 && 2 ≤ (s.lane seg).grade && (s.head seg).claimed &&
  !s.graft.awaiting.contains seg

/-- Packets can be sent on the head lane of segment s: it is UP or stepping up (*Lane states*). -/
def State.laneCarries (s : State) (n : Nat) : Bool := (s.lane n).state = 3 || (s.lane n).state = 4

/-- FLAGS bits of *THL packet*. -/
def thlSkip : Nat := 1
def thlSlot : Nat := 2
def thlRetransmit : Nat := 4

/-- The accepted level of input i is its active level (R455, R457). -/
def State.levelActive (s : State) (i : Nat) : Bool :=
  (s.fire.interlocks.getD i ⟨none, false, 0⟩).level == some (s.rdB (O.INTERLOCK_ACTIVE_LEVEL i))

/-- Input i is tripped (R455). -/
def State.tripped (s : State) (i : Nat) : Bool := s.rdB (O.INTERLOCK_ENABLE i) && s.levelActive i

def State.latchedTrip (s : State) (i : Nat) : Bool := (s.fire.interlocks.getD i ⟨none, false, 0⟩).latched

/-- Interlock inhibit is in effect: an input is tripped, or latched (R456). -/
def State.inhibited (s : State) : Bool := (List.range 4).any fun i => s.tripped i || s.latchedTrip i

/-- R469: INHIBIT in the idle words of every head lane. -/
def State.sendsInhibit (s : State) : Bool := s.inhibited || !s.firing

/-- *Idle word* (R468, R469): the 56-bit payload of the idle word with this IDLE_SEQ on head lane seg. -/
def State.idleWord (s : State) (seg seq : Nat) : Nat :=
  2 ^ 48 + seq % 65536 * 2 ^ 32 + s.fuses.serial % 256 * 256 + 2 * b2n s.sendsInhibit + b2n (s.head seg).claimed

/-- The idle words ahead of a packet: at least one, and how many more have fitted in is a free value (R468, log 128). -/
def State.sendIdle (s : State) (seg : Nat) : State :=
  let x := s.draw
  let seq := ((s.head seg).idleSeq + (Config.free x.1).toNat) % 65536
  (x.2.updHead seg fun h => { h with idleSeq := (seq + 1) % 65536 }).emit (.idle seg (s.idleWord seg seq))

/-- *THL packet* (R476). -/
def thlBytes (ty row seq flags pwId firePos : Nat) (payload : List Byte) : List Byte :=
  let body := [toByte ty, toByte row] ++ natLE 2 seq ++ natLE 2 payload.length ++ [toByte flags, toByte pwId] ++ natLE 4 firePos ++
    natLE 4 0 ++ payload
  body ++ natLE 4 (crc32c body)

/-- A new packet goes to the head module of segment s, kept for retransmission (R476, R507). -/
def State.thlSend (s : State) (seg ty row flags pwId firePos : Nat) (payload : List Byte) : State :=
  let seq := (s.head seg).txSeq
  let p : SentPacket := ⟨seq, ty, row, flags, pwId, firePos, payload, 0, s.now⟩
  (((s.sendIdle seg).updHead seg fun h => { h with txSeq := (seq + 1) % 65536, sent := h.sent ++ [p] }).inc
    (O.HEAD_STATUS_PACKETS_TX seg)).emit (.thl seg (thlBytes ty row seq flags pwId firePos payload))

/-- A COMMAND with its arguments (R487), sent for the first time. -/
def State.headCommand (s : State) (seg cmd : Nat) (args : List Byte) : State :=
  let tag := (s.head seg).nextTag
  let s1 := s.updHead seg fun h =>
    { h with nextTag := (tag + 1) % 256, commands := h.commands ++ [⟨cmd, tag, args, 1, s.now⟩] }
  s1.thlSend seg 4 255 0 0 0 ([toByte cmd, toByte tag, 0#8, 0#8] ++ args)

/-- The next fire position of a row: that of its next pulse (R495). -/
def State.nextFirePos (s : State) (seg row : Nat) : Nat :=
  match (s.row seg row).placed with
  | p :: _ => p.w
  | [] => match s.fire.crossings.find? fun c => s.fire.resume ≤ c.1 with
    | some c => c.1
    | none => max s.fire.resume (s.hwmLine + 1)

/-- A row that has not pulsed takes its first position from the FLUSH. -/
def State.rowFlushed (s : State) (seg row : Nat) : State :=
  s.updRow seg row fun r => { r with lastW := some (r.lastW.getD (s.nextFirePos seg row - 1)) }

/-- FLUSH with the next fire position of every row (R495). -/
def State.flush (s : State) (seg : Nat) : State :=
  (s.headCommand seg 1 ((List.range 6).flatMap fun p => natLE 4 (s.nextFirePos seg p % 2 ^ 32))).updHead seg
    fun h => { h with flushed := true }

/-- FLUSH before a pulse: the rows that have not pulsed yet take their position from it, so that it serves the first pulse
of each of them (R495; DEDUCED, log 71). -/
def State.flushForPulse (s : State) (seg : Nat) : State :=
  (List.range 6).foldl (fun s p => s.rowFlushed seg p) (s.flush seg)

/-- *Fire descriptor* of row p under a set (R485). -/
def JobSet.descriptor (j : JobSet) (slot p : Nat) : List Byte :=
  [toByte slot, toByte (j.rd (O.INK_CODE p)), toByte (j.rd (O.DROP_LEVELS p)),
   toByte (b2n (j.plane p != 255) + 2 * b2n (j.paired p))] ++ natLE 4 j.jobId

/-- FIRE_DESC of row p goes to slot (R485). -/
def State.sendDescriptor (s : State) (seg row slot : Nat) (j : JobSet) : State :=
  s.thlSend seg 3 row 0 0 0 (j.descriptor slot row)

/-- PW_TABLE with the row's effective widths, under the next ID of the row (R481, R482). -/
def State.sendPwTable (s : State) (seg row : Nat) : State :=
  let r := s.row seg row
  let id := (r.pwId + 1) % 256
  (s.updRow seg row fun r => { r with pwId := id, pwSent := true }).thlSend seg 2 row 0 id 0
    (r.pw.flatMap (natLE 2) ++ [0#8, 0#8])

/-- The payload of a LINE packet: 3 456 levels of 2 bits (R478). -/
def linePayload (levels : List (Nat × Nat)) : List Byte :=
  (List.range 864).map fun i =>
    toByte ((List.range 4).foldl (fun b k => b + mapGet levels (4 * i + k) 0 * 4 ^ k) 0)

/-- The LINE packet of a fire line (R478, R479). -/
def State.sendLine (s : State) (seg row : Nat) (f : FireLine) : State :=
  let skip := f.void == some .skip
  s.thlSend seg 1 row (b2n skip * thlSkip + f.slot * thlSlot) f.pwId (f.w % 2 ^ 32)
    (if skip then [] else linePayload f.levels)

/-- The packet of this SEQ that is still held (R507). -/
def Head.packet? (h : Head) (seq : Nat) : Option SentPacket := h.sent.find? (·.seq == seq)

/-- Packets other than LINE are kept for 1 ms (R507). -/
def Head.prune (h : Head) (now : Nat) : Head :=
  { h with sent := h.sent.filter fun p => p.ty = 1 || now < p.since + ms }

/-- The head link of segment s goes down: LINK 0, its commands and packets are gone (R488, R480). -/
def State.headDown (s : State) (seg : Nat) : State :=
  s.updHead seg fun h => { h with link := 0, commands := [], sent := [], flushed := false, ownerState := 0, events := [] }

/-- Before the next pulse of any row comes a FLUSH: RUN is entered, or LINE_PITCH has changed (R495). -/
def State.unflush (s : State) : State :=
  (List.range 16).foldl (fun s seg => s.updHead seg fun h => { h with flushed := false }) s

/-- The target widths of row p of segment s under a table, and whether a clamp acted (R441). -/
def State.pwTargets (s : State) (seg row : Nat) (j : JobSet) : List Nat × Bool :=
  let h := s.head seg
  let i16 (k : Nat) : Int := toInt 16 (j.rd k)
  let t : Int := h.temps.getD (h.rowDie.getD row 0) 0
  let v : Int := h.voltage
  let factor : Int := 65536 + (i16 (O.KT row) * (t - i16 (O.T_REF row))).tdiv 16 +
    (i16 (O.KV row) * (v - (j.rd (O.V_REF row) : Nat))).tdiv 1000
  let lo : Int := j.rd (O.PW_MIN row)
  let hi : Int := j.rd (O.PW_MAX row)
  let raw (i : Nat) : Int := ((j.rd (O.PW_BASE row i) : Nat) * factor + 32768).tdiv 65536
  ((List.range 3).map fun i => (min hi (max lo (raw i))).toNat,
   (List.range 3).any fun i => raw i < lo || hi < raw i)

/-- Head data of a row is fresh: reported within STALE_TIME (R446). -/
def State.headFresh (s : State) (seg : Nat) : Bool :=
  match (s.head seg).reported with
  | some t => s.now < t + s.rd O.STALE_TIME * ms
  | none => false

/-- R513, R447: the limit period of a fitted row at fire position w, ns: the terms are those of the set whose row parameters
apply there (R227). -/
def State.limitAt (s : State) (seg row w : Nat) : Nat :=
  if !s.fitted seg row then 0
  else
    let j := s.rowSet seg row w
    let k := if j.paired row then 2 else 1
    let rate := (s.jobs.active.map JobSet.composeRate).getD 160000
    max (max (j.rd (O.FIRE_PERIOD_MIN row)) ((s.head seg).minPeriod.getD row 0)) (k * ceilDiv 1000000000 rate)

/-- LIMIT_PERIOD: that of the next position. -/
def State.limitPeriod (s : State) (seg row : Nat) : Nat := s.limitAt seg row (s.hwmLine + 1)

/-- R450: RATE_LIMIT, 160 000 while no fitted row prints. -/
def State.rateLimit (s : State) : Nat :=
  let terms := s.fittedRows.filterMap fun e =>
    let j := s.rowSet e.1 e.2 (s.hwmLine + 1)
    if j.plane e.2 = 255 then none
    else some ((if j.paired e.2 then 2 else 1) * 1000000000 / s.limitPeriod e.1 e.2)
  match terms with
  | [] => 160000
  | x :: xs => xs.foldl min x

end Sys2Proof.Machine
end

