-- ==== Sys2Proof/Machine/LaneOps.lean ====
section
/-! DEFINITION. The lanes as far as the protocols above them need them: control words, the return to DETECT, and the head
link that a lane carries up (R512, R528 to R554). -/

namespace Sys2Proof.Machine

/-- The block ID of lane n (R549). -/
def laneBlock (n : Nat) : Nat := if n < 16 then 0x20 + n else if n < 20 then 0x30 + (n - 16) else 0x34 + (n - 20)

/-- Lane n is enabled by its objects (*Lane objects*, R516). -/
def State.laneEnabled (s : State) (n : Nat) : Bool := s.rdB (O.LANE_CONFIG_ENABLE n) && (16 ≤ n || s.segEnabled n)

/-- The grade limit as configured (R25, R540). -/
def State.laneMax (s : State) (n : Nat) : Nat := if n < 16 then min 3 (s.rd (O.MAX_GRADE n)) else s.rd (O.MAX_GRADE n)

/-- The hottest of the eight on-die sensors at their latest readings, 1/16 °C: the die temperature of R546 and R547
(DEDUCED, log 44). -/
def State.dieTemp (s : State) : Int :=
  let ts := (List.range 8).map fun k => toInt 16 (octAt 2 (s.rd O.TEMP_READINGS) k)
  ts.foldl max (ts.headD 0)

/-- R547: the stored equaliser state of lane n is valid for a grade. -/
def State.eqFor (s : State) (n grade : Nat) : Bool :=
  let l := s.lane n
  match l.eq with
  | some e => e.grade = grade && e.peer = l.peer && (s.dieTemp - e.temp).natAbs ≤ 160 &&
      s.now < e.since + s.rd O.EQ_STATE_MAX_AGE * sec
  | none => false

/-- EQ_STATE_VALID: valid for the grade in use. -/
def State.eqValid (s : State) (n : Nat) : Bool := s.eqFor n (s.lane n).grade

/-- Lane n sends idle blocks, training frames or nothing, as *Lane states* has it. -/
def State.laneSends (s : State) (n what : Nat) : State := s.emit (.laneSends n what (s.lane n).txInvert)

/-- LANE_ROLE (*Lane control word*). -/
def laneRole (n : Nat) : Nat := if n < 16 then 0 else if n < 20 then 2 else 4

/-- A lane control word goes out on lane n (R528), with these bits of its own. EQ_VALID is for the grade under negotiation, else for
the grade in use. The part asks for no tap change: what its receiver wants the manual does not say. -/
def State.laneWordOf (s : State) (n own : Nat) : State :=
  let l := s.lane n
  let eq := s.eqFor n (if l.state = 4 then l.proposed else l.grade)
  let w := 2 * 2 ^ 48 + l.limit * 2 ^ 45 + l.proposed * 2 ^ 42 + b2n eq * 2 ^ 41 + own + laneRole n * 2 ^ 32 +
    s.fuses.serial % 256 * 2 ^ 8 + l.wordSeq
  (s.updLane n fun l => { l with wordSeq := (l.wordSeq + 1) % 256 }).emit (.laneWord n w)

/-- A lane control word with LP_REQUEST, LP_ACK and SWITCH_COUNT. -/
def State.laneWord (s : State) (n lpRequest lpAck count : Nat) : State :=
  s.laneWordOf n (lpRequest * 2 ^ 37 + lpAck * 2 ^ 36 + count * 2 ^ 24)

/-- The words of a training at its end: eight with READY, then eight with VERIFIED (R537). -/
def State.laneReadyWords (s : State) (n : Nat) : State := (List.range 8).foldl (fun s _ => s.laneWordOf n (2 ^ 40)) s
def State.laneVerifiedWords (s : State) (n : Nat) : State := (List.range 8).foldl (fun s _ => s.laneWordOf n (2 ^ 40 + 2 ^ 39)) s

/-- Lane n sends G0 and waits for signal (*Lane states*), on the configuration of 2920h + n as it now is (R553). With restore, and
where no failure had lowered it, the limit is the configured value; otherwise it stays, but never above that (R540; DEDUCED, log
167). -/
def State.laneDetect (s : State) (n : Nat) (restore : Bool) : State :=
  let max' := s.laneMax n
  (s.updLane n fun l =>
    { l with state := 1, grade := 0, limit := if restore || l.limit = l.maxTaken then max' else min l.limit max', proposed := 0
             matched := 0, count := 0, lp := none, entered := s.now, maxTaken := max', rxMode := s.rd (O.RX_INVERT n)
             txInvert := s.rdB (O.TX_INVERT n) }).laneSends n 1

/-- The identity memory is asked for (R512 step 2). -/
def State.readIdentity (s : State) (seg : Nat) : State :=
  ((s.updHead seg fun h => { h with link := 1, commands := [], user := [] }).headCommand seg 2
    (natLE 2 0 ++ natLE 2 256)).headCommand seg 2 (natLE 2 256 ++ natLE 2 256)

/-- SET_REPORT with REPORT_INTERVAL (R489, R518). -/
def State.setReport (s : State) (seg : Nat) : State := s.headCommand seg 4 (natLE 2 (s.rd O.REPORT_INTERVAL))

/-- The descriptors of a fitted row at link-up (R512 step 4): the set of the row's lines in slot 0, the other set in
slot 1 too while a boundary is latched. -/
def State.linkDescriptors (s : State) (seg row : Nat) : State :=
  let s0 := s.updRow seg row fun r => { r with slot := 0 }
  match s.jobs.active with
  | none => s0
  | some a =>
    match s.jobs.state with
    | .latched => (s0.sendDescriptor seg row 0 a).sendDescriptor seg row 1 s.jobs.shadow
    | .retiring =>
      if s.jobs.rowsDone.contains (seg, row) then s0.sendDescriptor seg row 0 a
      else (s0.sendDescriptor seg row 0 s.jobs.shadow).sendDescriptor seg row 1 a
    | _ => s0.sendDescriptor seg row 0 a

/-- Steps 4 and 5 of *Head link-up*: READY. -/
def State.headReady (s : State) (seg : Nat) : State :=
  let s1 := ((List.range 6).filter (s.fitted seg)).foldl (fun (s : State) row =>
    (s.linkDescriptors seg row).sendPwTable seg row) (s.setReport seg)
  let s2 := s1.updHead seg fun h => { h with link := 3, flushed := false }
  if (s2.head seg).ownerState = 1 then s2.flush seg else s2

/-- A lane that carries its protocol again: a head lane whose identity is accepted goes on to READY, any other begins at
step 1 of *Head link-up*. -/
def State.laneLinkUp (s : State) (n : Nat) : State :=
  if 16 ≤ n then s
  else if (s.head n).link = 2 then s.headReady n
  else s.readIdentity n

/-- Lane n at UP at G0 asks for a step-up where its limit allows one (R532, *Lane states*). -/
def State.negotiate (s : State) (n : Nat) : State :=
  let l := s.lane n
  if l.state = 3 && l.grade = 0 && 0 < l.limit then
    (s.updLane n fun l => { l with state := 4, proposed := l.limit, matched := 0, count := 0, entered := s.now
                                   stepHeld := false }).laneWord n 0 0 0
  else s

end Sys2Proof.Machine
end

