-- ==== Sys2Proof/Machine/PageCheck.lean ====
section
/-! DEFINITION. A page descriptor read, and the object limits (R264 to R266, R298, R299, R305 to R309). -/

namespace Sys2Proof.Machine

/-- A descriptor's object entry: number, SIZE, PLACEMENT, and whether its reserved bytes are 0. -/
structure DescEntry where
  num : Nat
  size : Nat
  place : Placement
  clean : Bool

/-- *Placement*, 56 bytes. -/
def readPlacement (b : List Byte) : Placement :=
  { x := u32At b 0, y := u32At b 4, width := u32At b 8, height := u32At b 12, stride := u32At b 16, format := u8At b 20
    planes := u8At b 21, blend := u8At b 22, opacity := u8At b 23, sampling := u8At b 24
    tint := ((b.drop 26).take 6).map (·.toNat)
    clean := u8At b 25 == 0 && (b.drop 32).all (· == 0#8) && u8At b 21 < 64 && u8At b 24 < 4 }

/-- Entry k of a descriptor (*Page descriptor*). -/
def descEntry (d : List Byte) (k : Nat) : DescEntry :=
  let b := (d.drop (32 + 64 * k)).take 64
  ⟨u16At b 0, u32At b 4, readPlacement (b.drop 8), u16At b 2 == 0⟩

def descEntries (d : List Byte) : List DescEntry := (List.range (u16At d 4)).map (descEntry d)

/-- Planes that an object carries. -/
def Placement.planeCount (p : Placement) : Nat := (planesOf p.planes).length

/-- Reason 2. -/
def Placement.formOk (p : Placement) : Bool := p.format ≤ 1 && p.planes != 0 && p.blend ≤ 4 && p.clean

/-- Reason 3. -/
def Placement.placeOk (p : Placement) (pitch length : Nat) : Bool :=
  1 ≤ p.width && 1 ≤ p.height && p.x + p.span ≤ barColumns && p.y + p.lines pitch ≤ length

/-- Reason 4. -/
def DescEntry.sizeOk (e : DescEntry) : Bool :=
  let p := e.place
  if p.format = 0 then p.width ≤ p.stride && e.size == p.planeCount * p.height * p.stride
  else ceilDiv p.width 8 ≤ p.stride && e.size == p.height * p.stride

/-- The object covers page line l. -/
def Placement.on (p : Placement) (pitch l : Nat) : Bool := p.y ≤ l && l < p.y + p.lines pitch

/-- Spans of columns joined where they touch or overlap, from spans in ascending order. -/
def joinSpans (spans : List (Nat × Nat)) : List (Nat × Nat) :=
  spans.foldl (fun joined a =>
    match joined with
    | b :: more => if a.1 ≤ b.2 then (b.1, max a.2 b.2) :: more else a :: joined
    | [] => [a]) []

/-- Background pixels of a line whose two columns both lie under a span. -/
def hiddenPixels (x w : Nat) (spans : List (Nat × Nat)) : Nat :=
  (spans.map fun a =>
    let lo := ceilDiv (max a.1 x - x) 2
    let hi := min w ((max a.2 x - x) / 2)
    hi - lo).foldl (· + ·) 0

/-- R307: the read load of page line l, times max(LINE_PITCH, 600). -/
def JobSet.readLoad (j : JobSet) (useBg : Bool) (pitch : Nat) (objs : List DescEntry) (l : Nat) : Nat :=
  let on := objs.filter fun o => o.place.on pitch l
  let bg := if !useBg then 0 else
    ((planesOf (j.rd O.BG_PLANES)).map fun k =>
      let opaque' := on.filter fun o =>
        o.place.format == 0 && o.place.blend == 0 && o.place.opacity == 255 && bit o.place.planes k
      let spans := (opaque'.map fun o => (o.place.x, o.place.x + o.place.span)).mergeSort fun a b => a.1 ≤ b.1
      j.rd O.BG_WIDTH - hiddenPixels (j.rd O.BG_X) (j.rd O.BG_WIDTH) (joinSpans spans)).foldl (· + ·) 0
  let tone := (on.filter (·.place.format == 0)).map fun o => o.place.planeCount * o.place.width
  let mask := (on.filter (·.place.format != 0)).map fun o => ceilDiv o.place.width 8
  (bg + tone.foldl (· + ·) 0) * 600 + mask.foldl (· + ·) 0 * max pitch 600

/-- The page lines at which the covering objects change. -/
def changeLines (pitch length : Nat) (objs : List DescEntry) : List Nat :=
  (0 :: objs.flatMap fun o => [o.place.y, o.place.y + o.place.lines pitch]).filter (· < length)

/-- R306: the first failing check, in the order of its reasons (log 38): reason and object number. A number 0 or one
that repeats on the page fails reason 2. -/
def JobSet.limitFail (j : JobSet) (pitch : Nat) (d : List Byte) : Option (Nat × Nat) :=
  let objs := descEntries d
  let live := objs.filter (·.size != 0)
  let length := u32At d 0
  let useBg := bit (u16At d 6) 0
  let bad2 := (indexed objs).find? fun e =>
    let o := e.2
    o.num == 0 || ((objs.take e.1).any (·.num == o.num)) || !o.clean || (o.size != 0 && !o.place.formOk)
  let lines := changeLines pitch length live
  if j.rd O.MAX_OBJECTS < objs.length then some (1, 0)
  else match bad2 with
  | some e => some (2, e.2.num)
  | none =>
    match live.find? fun o => !o.place.placeOk pitch length with
    | some o => some (3, o.num)
    | none =>
      match live.find? fun o => !o.sizeOk with
      | some o => some (4, o.num)
      | none =>
        if lines.any fun l => 64 < (live.filter fun o => o.place.on pitch l).length then some (5, 0)
        else if lines.any fun l => j.rd O.LINE_READ_BUDGET * max pitch 600 < j.readLoad useBg pitch live l then some (6, 0)
        else if useBg && (j.rd O.BG_PLANES == 0 || j.rd O.BG_HEIGHT ≤ u32At d 8) then some (7, 0)
        else none

end Sys2Proof.Machine
end

