-- ==== Sys2Proof/Machine/Compare.lean ====
section
/-! DEFINITION. The compare units and the repeater (R410 to R419, R791). Match positions are in 48.16 lines. -/

namespace Sys2Proof.Machine

/-- A part that does not assert OWNER holds the balls of CMP_FOLLOW at high impedance (R791). -/
def State.cmpDriven (s : State) (k : Nat) : Bool := s.graft.owner || !bit (s.rd O.CMP_FOLLOW) k

def State.unit (s : State) (k : Nat) : CompareUnit := s.web.units.getD k ⟨0, none, none⟩

def State.updUnit (s : State) (k : Nat) (f : CompareUnit → CompareUnit) : State :=
  { s with web := { s.web with units := s.web.units.modify k f } }

/-- COMPARE_LIST_k as positions. -/
def State.cmpList (s : State) (k : Nat) : List Nat :=
  let d := s.dom (0x2630 + k)
  (List.range (d.size / 8)).map fun i => u64At (s.domRead (0x2630 + k) (8 * i) 8) 0

/-- Match i of unit k, none when it has no such match (R411, R412). -/
def State.cmpMatch (s : State) (k i : Nat) : Option Nat :=
  match s.rd (O.CMP_MODE k) with
  | 1 => (s.cmpList k)[i]?
  | 2 =>
    let count := s.rd (O.CMP_COUNT k)
    let p := s.rd (O.CMP_START k) + i * s.rd (O.CMP_PERIOD k)
    if (i < count || count = 0xffffffff) && p < 2 ^ 64 then some p else none
  | _ => none

/-- How many matches of unit k lie at or behind a position. -/
def State.cmpPassed (s : State) (k pos : Nat) : Nat :=
  match s.rd (O.CMP_MODE k) with
  | 1 => ((s.cmpList k).filter (· ≤ pos)).length
  | 2 =>
    let count := s.rd (O.CMP_COUNT k)
    let start := s.rd (O.CMP_START k)
    if start ≤ pos then
      let n := (pos - start) / max 1 (s.rd (O.CMP_PERIOD k)) + 1
      if count = 0xffffffff then n else min count n
    else 0
  | _ => 0

/-- NEXT (R412). -/
def State.cmpNext (s : State) (k : Nat) : Nat := (s.cmpMatch k (s.unit k).taken).getD 0xffffffffffffffff

/-- The level that CMPk has while no pulse is active (R413). -/
def State.cmpIdle (s : State) (k : Nat) : Bool := s.rdB (O.IDLE_LEVEL k)

/-- A pulse of unit k is active. -/
def State.cmpActive (s : State) (k : Nat) : Bool :=
  match (s.unit k).pulseEnd with
  | some t => s.now < t
  | none => false

/-- The level that unit k asks of its ball: OUTPUT_ENABLE false holds it at IDLE_LEVEL (R413). -/
def State.cmpLevel (s : State) (k : Nat) : Bool :=
  if s.rdB (O.OUTPUT_ENABLE k) && s.cmpActive k then !s.cmpIdle k else s.cmpIdle k

/-- The latency of *Fixed-latency crossings* from a POS cycle to the ball CMPk, in ps: 15 ns ± 2.5 ns, free within that
(R20, R410, log 68). -/
def cmpLatency (k : Nat) : Nat := 12500 + (Config.cmpSkew k).toNat % 5001

/-- CMPk takes the level that its unit asks, or high impedance where this part does not drive it (R413, R791). -/
def State.cmpSettle (s : State) (k : Nat) : State :=
  let want := if s.cmpDriven k then some (s.cmpLevel k) else none
  if want = (s.unit k).level then s
  else
    let s1 := s.updUnit k fun u => { u with level := want }
    match want with
    | some l => s1.emit (.cmp k l (s.now + cmpLatency k))
    | none => s1

/-- COMPARE_PULSE_END: WIDTH ns have passed (R413). -/
def State.cmpPulseEnd (s : State) (k : Nat) : State :=
  match (s.unit k).pulseEnd with
  | some t => if t ≤ s.now then (s.updUnit k fun u => { u with pulseEnd := none }).cmpSettle k else s
  | none => s

/-- R417: safe state ends an active pulse. -/
def State.cmpStop (s : State) (k : Nat) : State :=
  if (s.unit k).pulseEnd.isSome then (s.updUnit k fun u => { u with pulseEnd := none }).cmpSettle k else s

/-- R415: the unit restarts from its first match; matches at or behind the high-water mark are skipped and MISSED. -/
def State.cmpRestart (s : State) (k : Nat) : State :=
  let n := s.cmpPassed k (to4816 s.web.hwm)
  (((s.updUnit k fun u => { u with taken := n }).wr (O.CMP_PULSES k) 0).wr (O.CMP_MISSED k) (min (2 ^ 32 - 1) n)).cmpSettle k

/-- Unit k takes the matches that the high-water mark has reached (R410, R414, R417): whether it gives a pulse. -/
def State.cmpTake (s : State) (k : Nat) : Bool × State :=
  let n := s.cmpPassed k (to4816 s.web.hwm) - (s.unit k).taken
  if n = 0 then (false, s)
  else
    let s1 := s.updUnit k fun u => { u with taken := u.taken + n }
    let missed (s : State) (m : Nat) : State :=
      (List.range m).foldl (fun s _ => s.event 0xd 5 0) (s.add (O.CMP_MISSED k) m)
    if s.safe.active || s.cmpActive k then (false, missed s1 n)
    else
      let s2 := (s1.updUnit k fun u => { u with pulseEnd := some (s.now + s.rd (O.CMP_WIDTH k) * 1000) }).inc
        (O.CMP_PULSES k)
      (true, missed (s2.cmpSettle k) (n - 1))

/-- Every unit takes its matches: the units that give a pulse (R410). -/
def State.cmpTakeAll (s : State) : List Nat × State :=
  (List.range 16).foldl (fun (r : List Nat × State) k =>
    let x := r.2.cmpTake k
    (if x.1 then r.1 ++ [k] else r.1, x.2)) ([], s)

/-! ### The repeater -/

/-- The quadrature levels of an output count (R376): 00, 10, 11, 01 forward. -/
def quadrature (n : Int) : Bool × Bool :=
  match (n % 4).toNat with
  | 0 => (false, false)
  | 1 => (true, false)
  | 2 => (true, true)
  | _ => (false, true)

/-- ENCO_A and ENCO_B are this part's to drive (R791). -/
def State.encoDriven (s : State) : Bool := s.graft.owner || !s.rdB O.ENCO_FOLLOW

/-- What ENCO_A and ENCO_B carry (R418): nothing before boot step 10, in SLEEP and in OFF. -/
def State.encoWant (s : State) : Enco :=
  if !s.awake || !s.encoDriven then .off
  else match s.rd O.REPEAT_MODE with
    | 1 => .follows 1
    | 2 => .follows 2
    | 3 => let q := quadrature s.web.repCount; .levels q.1 q.2
    | _ => .levels false false

/-- ENCO_A and ENCO_B carry what they should. -/
def State.encoSettle (s : State) : State :=
  let e := s.encoWant
  if s.web.enco = e then s else ({ s with web := { s.web with enco := e } } : State).emit (.repeater e)

/-- The target of the output count (R419). -/
def State.repTarget (s : State) : Int :=
  ((to4816 s.web.pos / s.rd O.SYNTH_LINES : Nat) : Int)

/-- REPEATER_COUNT: an owed count is sent 40 ns after the last one at the earliest (R419). -/
def State.repStep (s : State) : State :=
  if s.rd O.REPEAT_MODE = 3 && s.power.state < 3 && s.due s.web.repEdge 40000 && s.web.repCount != s.repTarget then
    let n := if s.web.repCount < s.repTarget then s.web.repCount + 1 else s.web.repCount - 1
    ({ s with web := { s.web with repCount := n, repEdge := s.now } } : State).encoSettle
  else s

end Sys2Proof.Machine
end

