-- ==== Sys2Proof/Machine/Firing.lean ====
section
/-! DEFINITION. From the delay lines to the strobes: assembly of fire lines, row adoption, the fire decision, pulses,
pulse width and the interlocks (R356 to R358, R423 to R466). -/

namespace Sys2Proof.Machine

/-! ### Assembly (R423 to R431) -/

/-- D of row p of segment s for fire position w: the new one from a fixed adoption on. -/
def RowState.posAt (r : RowState) (w : Nat) : Nat :=
  match r.adopt with
  | some (w0, d) => if w0 ≤ w then d else r.eff
  | none => r.eff

/-- The composed line that is kept for web line w (R294: a line that is not kept is blank). -/
def State.composedAt (s : State) (w : Nat) : Option Composed := s.compose.lines.find? (·.line == w)

/-- Web line w lies outside every accepted page. -/
def State.outside (s : State) (w : Nat) : Bool := (s.composedAt w).isNone

/-- n lines from w on lie outside every accepted page. -/
def State.outsideRun (s : State) (w n : Nat) : Bool := (List.range n).all fun i => s.outside (w + i)

/-- R356 to R358: whether row p of segment s adopts its pending position at fire position w. -/
def State.adoptsAt (s : State) (seg row w : Nat) : Bool :=
  let r := s.row seg row
  match r.pending with
  | none => false
  | some (dNew, written) =>
    let d := rowDelay r.eff s.pitch
    let d' := rowDelay dNew s.pitch
    if w < d then false
    else
      let line := w - d
      let pageStart := match s.composedAt line with | some c => c.pageLine == 0 | none => false
      if line < written || r.adopt.isSome then false
      else if d' = d then pageStart
      else if d < d' then pageStart && d' - d ≤ line && s.outsideRun (line - (d' - d)) (d' - d)
      else s.outside line && (line = 0 || !s.outside (line - 1) || line = written) &&
        s.outsideRun line (d - d')

/-- R427: DROP_LEVELS applied to a level. -/
def dropLevel (mask level : Nat) : Nat :=
  if level = 0 then 0
  else if bit mask (level - 1) then level
  else if 2 ≤ level && bit mask (level - 2) then level - 1
  else if 3 ≤ level && bit mask (level - 3) then level - 2
  else 0

/-- The pages that own the composed lines w − d − f, each with its least page line. -/
def State.ownersOf (s : State) (w d : Nat) (fines : List Nat) : List Owner :=
  (fines.filterMap fun f => if d + f ≤ w then s.composedAt (w - d - f) else none).foldl (fun os c =>
    match os.find? fun o => o.job == c.job && o.page == c.page with
    | some _ => os.map fun o => if o.job = c.job ∧ o.page = c.page then { o with line := min o.line c.pageLine } else o
    | none => os ++ [⟨c.job, c.page, c.pageLine⟩]) []

/-- The levels of row p of segment s on a composed line, by nozzle. -/
def Composed.levelsOf (c : Composed) (seg row : Nat) : List (Nat × Nat) :=
  match c.rows.getD row .skip with
  | .skip => []
  | .levels xs => (xs.filter fun e => seg * 3456 ≤ e.1 && e.1 < (seg + 1) * 3456).map fun e => (e.1 - seg * 3456, e.2)

/-- R423: the levels of the fire line, by nozzle. -/
def State.fireLevels (s : State) (seg row w d mask : Nat) (fines : List Nat) : List (Nat × Nat) :=
  fines.foldl (fun acc f =>
    match if d + f ≤ w then s.composedAt (w - d - f) else none with
    | some c =>
      (c.levelsOf seg row).foldl (fun acc e =>
        if s.fineDelay seg row e.1 = f then mapSet acc e.1 (dropLevel mask e.2) 0 else acc) acc
    | none => acc) []

/-- R313: the composed line w − d carries a SKIP marker for the row. -/
def State.lineSkips (s : State) (row line : Nat) : Bool :=
  match s.composedAt line with
  | some c => c.rows.getD row (.levels []) == .skip
  | none => (s.lineSet line).skips row line

/-- The row takes the widths of the table that its line is assembled under, at its swap (R444). -/
def State.swapWidths (s : State) (seg row w : Nat) : State :=
  match s.switchPos seg row with
  | some b =>
    if s.jobs.state = .retiring && b ≤ w && !(s.row seg row).swapped && !s.jobs.rowsDone.contains (seg, row) then
      let t := s.pwTargets seg row (s.jobs.active.getD .empty)
      s.updRow seg row fun r => { r with pw := t.1, pwSent := false, swapped := true }
    else s
  | none => s

/-- The slot that a line at w names (R486). -/
def State.slotAt (s : State) (seg row w : Nat) : Nat :=
  let slot := (s.row seg row).slot
  match s.switchPos seg row with
  | some b => if s.jobs.state = .retiring && b ≤ w && !s.jobs.rowsDone.contains (seg, row) then 1 - slot else slot
  | none => slot

/-- The high-water mark is at line h: composed lines of the row move from its coarse delay line into its FIFO up to
L + d_p = h + 256, or as they are composed where d_p is below 256; those fired move on into the fine delay store and stay
there up to L + d_p + 63 (R428, R429). -/
def State.moveRow (s : State) (seg row h : Nat) : State :=
  let d := rowDelay ((s.row seg row).posAt (h + 32)) s.pitch
  let next := s.compose.next
  s.updRow seg row fun r =>
    { r with fifo := (h + 1 - d, if d < 256 then next else min next (h + 257 - d)), fineStore := (h - 63 - d, min next (h + 1 - d)) }

/-- Composed lines move in every fitted row. -/
def State.moveRows (s : State) (h : Nat) : State := s.fittedRows.foldl (fun s e => s.moveRow e.1 e.2 h) s

/-- Line L is in the row's FIFO or in its fine delay store. -/
def RowState.holds (r : RowState) (L : Nat) : Bool :=
  (r.fifo.1 ≤ L && L < r.fifo.2) || (r.fineStore.1 ≤ L && L < r.fineStore.2)

/-- Whether a hurried line L comes late to the row: the manual promises no time above COMPOSE_RATE_MAX, so it is free
(R291, R431, log 155). -/
def State.comesLate (s : State) (L : Nat) : Bool × State :=
  if ((s.composedAt L).map (·.hurried)).getD false then
    let x := s.draw
    ((Config.free x.1).toNat % 2 == 1, x.2)
  else (false, s)

/-- The fire line of row p of segment s at w is assembled and sent (R424 to R431, R478 to R482). -/
def State.assembleRow (s : State) (seg row w : Nat) : State :=
  let s0 := if s.adoptsAt seg row w then
      (s.updRow seg row fun r => match r.pending with
        | some (d, _) => { r with adopt := some (w, d), pending := none }
        | none => r).moveRow seg row (w - 32)
    else s
  let s1 := s0.swapWidths seg row w
  let late := s1.comesLate (w - rowDelay ((s1.row seg row).posAt w) s1.pitch)
  let s2 := if (s1.row seg row).pwSent || !s1.laneCarries seg then late.2 else late.2.sendPwTable seg row
  let r := s2.row seg row
  let d := rowDelay (r.posAt w) s2.pitch
  let fines := s2.fineDelays seg row
  let set := s2.rowSet seg row w
  let void : Option VoidReason :=
    if d < 32 then some (.fault 0x102)
    else if d ≤ w && (late.1 || !r.holds (w - d)) then some (.fault 0x101)
    else if d ≤ w && s2.lineSkips row (w - d) then some .skip
    else none
  let f : FireLine :=
    { w := w
      levels := if void.isSome then [] else s2.fireLevels seg row w d (set.rd (O.DROP_LEVELS row)) fines
      void := void, owners := s2.ownersOf w d fines, slot := s2.slotAt seg row w, pwId := r.pwId
      sent := s2.lineReady seg }
  let s3 := s2.updRow seg row fun r => { r with lines := r.lines ++ [f] }
  if s2.lineReady seg then s3.sendLine seg row f else s3

/-- The fire lines of every fitted row up to position w are assembled (R424); fuel bounds the positions. -/
def State.assembleTo (s : State) (w : Nat) : Nat → State
  | 0 => s
  | fuel + 1 =>
    if s.fire.nextAsm ≤ w then
      let p := s.fire.nextAsm
      let s1 := s.fittedRows.foldl (fun s e => s.assembleRow e.1 e.2 p) s
      ({ s1 with fire := { s1.fire with nextAsm := p + 1 } } : State).assembleTo w fuel
    else s

/-! ### The fire decision (R432 to R434) -/

/-- TB_FIRE ns in 2⁻⁴⁰ ns. -/
def fireNs (n : Nat) : Nat := n * 2 ^ 40

/-- The phase term of R432 in 2⁻⁴⁰ ns: a whole number of FIRE cycles. -/
def phaseTerm (phi : Nat) (speed : Int) : Nat :=
  if speed = 0 then 0 else phi * 1000000000 * 2 / (256 * speed.natAbs * 5) * (5 * 2 ^ 39)

/-- A pending adoption comes into effect at the crossing of its fire position; it is a change to the row's position, which the
loops do not judge before (R619, R631, log 168). -/
def State.applyAdoption (s : State) (seg row w : Nat) : State :=
  match (s.row seg row).adopt with
  | some (w0, d) =>
    if w0 ≤ w then
      let s1 := s.updRow seg row fun r => { r with eff := d, adopt := none }
      ({ s1 with inspect := { s1.inspect with changes := .adopted w0 (rowKey seg row) :: s1.inspect.changes } } : State).updLoopRow
        (rowKey seg row) fun r => { r with errors := [] }
    else s
  | none => s

/-- Placed instants that lie behind t move to t (R432). -/
def State.placeLate (s : State) (seg row t : Nat) : State :=
  let late := ((s.row seg row).placed.filter fun p => t < p.target).length
  (s.updRow seg row fun r => { r with placed := r.placed.map fun p => if t < p.target then { p with target := t } else p }).add
    O.LATE_FIRES late

/-- A fire line that is not fired counts for its cause (R461, R462). -/
def State.voidLine (s : State) (seg row : Nat) (c : SpoilCause) (f : FireLine) : State :=
  let counter := match c with
    | .overspeed => O.OVERSPEED_LINES
    | .interlock => O.INTERLOCK_LINES
    | _ => O.FAULT_LINES
  (s.inc counter).spoilOwners f.owners c (rowKey seg row)

/-- A row's line is taken off the store. -/
def State.takeLine (s : State) (seg row w : Nat) : Option FireLine × State :=
  ((s.row seg row).lines.find? (·.w == w), s.updRow seg row fun r => { r with lines := r.lines.filter fun f => w < f.w })

/-- The fire line of position w of a row that has none, for it was fitted within the lead: void, and counted against the pages
that own its composed lines (R461). -/
def State.unassembled (s : State) (seg row w : Nat) : FireLine :=
  { w := w, levels := [], void := none, owners := s.ownersOf w (s.delay seg row) (s.fineDelays seg row), slot := 0, pwId := 0
    sent := false }

/-- Pulses that the web's turn held back come with the next position (R452). -/
def State.releaseHeld (s : State) (seg row t : Nat) : State :=
  if s.fire.held then s.updRow seg row fun r => { r with placed := r.placed.map fun p => { p with target := max t p.target } } else s

/-- The fire comparator sees position w (R432): instants are placed for every fitted row while strobes are sent; in
safe state the lines are held inactive and count as FAULT (R461). -/
def State.crossing (s : State) (w : Nat) (speed : Int) : State :=
  let t := s.time.fireAt s.now
  let s0 := s.fittedRows.foldl (fun s e => ((s.applyAdoption e.1 e.2 w).releaseHeld e.1 e.2 t).placeLate e.1 e.2 t) s
  let s1 := if s0.fire.voidNext then
      s0.fittedRows.foldl (fun s e => s.updRow e.1 e.2 fun r =>
        { r with lines := r.lines.map fun f => if f.w = w then { f with void := some (.fault 0) } else f }) s0
    else s0
  let s2 : State := { s1 with fire := { s1.fire with seen := some w, voidNext := false, held := false,
                                                      trims := (List.range 16).map fun i => octAt 2 (s1.rd O.STROBE_TRIM) i } }
  let s3 := s2.fittedRows.foldl (fun s e =>
    let seg := e.1
    let row := e.2
    if w < s.fire.resume then (s.takeLine seg row w).2
    else if s.firesAt w then
      s.updRow seg row fun r => { r with placed := r.placed ++ [⟨w, t + phaseTerm (s.phase seg row) speed, speed == 0, octAt 2 (s.rd O.STROBE_TRIM) seg⟩] }
    else
      let x := s.takeLine seg row w
      if s.safe.active then x.2.voidLine seg row .fault (x.1.getD (s.unassembled seg row w)) else x.2) s2
  -- R227, R232: rows that send no pulse at their switch position switch as the web carries it past them
  (List.range 96).foldl (fun s i =>
    let seg := i / 6
    let row := i % 6
    match s.switchPos seg row with
    | some b => if b ≤ w && (!s.fitted seg row || !s.firesAt w) then s.rowSwitched seg row else s
    | none => s) s3

/-! ### Pulses (R435 to R449, R458 to R462, R480, R495) -/

/-- The pulse of a segment that comes next: least target, ties in ascending row (R437). -/
def State.nextPulse (s : State) (seg : Nat) : Option (Nat × Placed) :=
  (List.range 6).foldl (fun best row =>
    match (s.row seg row).placed with
    | p :: _ => match best with
      | some b => if p.target < b.2.target then some (row, p) else best
      | none => some (row, p)
    | [] => best) none

/-- *Strobe pulses*: the width in ns. -/
def pulseWidth (row : Nat) (fire : Bool) : Nat := if fire then 20 * (row + 1) else 20 * (row + 7)

/-- R448: the target of position w lies less than the limit period after that of the row's last fire pulse. -/
def State.overspeed (s : State) (seg row : Nat) (p : Placed) : Bool :=
  match (s.row seg row).lastTarget with
  | some l => p.target < l + fireNs (s.limitAt seg row p.w)
  | none => false

/-- The instant of a pulse: its target, pushed later as R437 asks (R438). -/
def State.pulseInstant (s : State) (seg : Nat) (p : Placed) : Nat := max p.target (s.fire.free.getD seg 0)

/-- The pulse leaves: pushed under R438, driven 10.0 ns and the trim after its instant (R439). -/
def State.drivePulse (s : State) (seg row : Nat) (p : Placed) (fire : Bool) : State :=
  let at' := s.pulseInstant seg p
  let width := pulseWidth row fire
  let push := (at' - p.target) / (5 * 2 ^ 39)
  let s1 : State := { s with fire := { s.fire with free := s.fire.free.set seg (at' + fireNs (width + 20)) } }
  let s2 := if s1.rd O.MAX_PUSH < push then s1.wr O.MAX_PUSH (min 65535 push) else s1
  (s2.emit (.strobe seg row fire (at' + fireNs 10 + p.trim * 2 ^ 40 / 1000) width)).updRow seg row
    fun r => { r with lastW := some p.w, lastTarget := if fire then some p.target else r.lastTarget }

/-- The drops of a fired line are counted (R342): remainders per nozzle, whole units kept for R344. -/
def State.countDrops (s : State) (seg row : Nat) (f : FireLine) : State :=
  { s with nozzle := { s.nozzle with
      remainders := f.levels.foldl (fun m e =>
        let k := seg * 20736 + 3456 * row + e.1
        mapSet m k (mapGet m k 0 + 1) 0) s.nozzle.remainders } }

/-- R495: FLUSH before a pulse whose position is not one more than the row's previous pulse, or that none precedes. -/
def State.flushIfNeeded (s : State) (seg row w : Nat) : State :=
  let h := s.head seg
  if h.link = 3 && h.claimed && (!h.flushed || (match (s.row seg row).lastW with
      | some l => l + 1 != w
      | none => true)) then s.flushForPulse seg
  else s

/-- Whether the line fires, and otherwise the cause that counts: none fires, some none is void without a count
(SKIP). The order is FAULT, an unsent line among them (R480), then SKIP, INTERLOCK, OVERSPEED (R436; DEDUCED, log 26). -/
def State.lineVoid (s : State) (seg row : Nat) (p : Placed) (f : FireLine) : Option (Option SpoilCause) :=
  match f.void with
  | some (.fault _) => some (some .fault)
  | v =>
    if !f.sent then some (some .fault)
    else if v.isSome then some none
    else if s.inhibited then some (some .interlock)
    else if s.overspeed seg row p then some (some .overspeed)
    else none

/-- Row p of segment s has pulsed at its switch position or behind it: it switches (R227). -/
def State.switchAfterPulse (s : State) (seg row w : Nat) : State :=
  match s.switchPos seg row with
  | some b =>
    if b ≤ w && s.jobs.state = .retiring && !s.jobs.rowsDone.contains (seg, row) then
      s.rowSwitched seg row
    else s
  | none => s

/-- The pulsed line awaits the STATUS that confirms it (R498). -/
def State.awaitStatus (s : State) (seg row w : Nat) (owners : List Owner) : State :=
  s.updHead seg fun h => { h with unconfirmed := h.unconfirmed ++ [(⟨row, w, s.now, owners⟩ : Unconfirmed)] }

/-- A calibration pass has one more edge of output seg to measure, within 400 ms of its start (R842). -/
def State.countEdge (s : State) (seg : Nat) : State :=
  let pass := s.rd O.CAL_STATUS_STATE
  if (pass = 1 || pass = 2) && s.now ≤ s.cal.since + 400 * ms then
    { s with cal := { s.cal with edges := s.cal.edges.modify seg (· + 1) } }
  else s

/-- The line fires (R435). -/
def State.pulseFires (s : State) (seg row : Nat) (p : Placed) (f : FireLine) : State :=
  let s1 := ((((s.drivePulse seg row p true).countEdge seg).inc O.FIRED_LINES).add O.ZERO_SPEED_FIRES (b2n p.still)).countDrops seg row f
  (f.owners.foldl (fun (s : State) o => s.updPage o.job o.page fun pg => { pg with fired := true }) s1).awaitStatus
    seg row p.w f.owners

/-- The line gets a void pulse for a cause that counts (R436, R461, R462). -/
def State.pulseVoids (s : State) (seg row : Nat) (p : Placed) (c : SpoilCause) (f : FireLine) : State :=
  let s1 := (s.drivePulse seg row p false).voidLine seg row c f
  match c, f.void with
  | .overspeed, _ => s1.event 0xd 6 0
  | .fault, some (.fault code) => if code = 0 then s1 else s1.event (0x10 + seg) code 0
  | .fault, _ => s1.event (0x20 + seg) 0x310 0
  | _, _ => s1

/-- The LINE packet of a pulsed line is no longer held (R507). -/
def State.dropSentLine (s : State) (seg row w : Nat) : State :=
  s.updHead seg fun h =>
    { h with sent := h.sent.filter fun k => !(k.ty == 1 && k.row == row && k.firePos == w % 2 ^ 32) }

/-- A fire or void pulse of row p of segment s at its instant (R435 to R449). -/
def State.pulse (s : State) (seg row : Nat) (p : Placed) : State :=
  let s0 := (s.flushIfNeeded seg row p.w).updRow seg row fun r => { r with placed := r.placed.drop 1 }
  let x := s0.takeLine seg row p.w
  let f : FireLine := x.1.getD (s0.unassembled seg row p.w)
  let s1 :=
    match x.2.lineVoid seg row p f with
    | none => x.2.pulseFires seg row p f
    | some none => x.2.drivePulse seg row p false
    | some (some c) => x.2.pulseVoids seg row p c f
  (s1.dropSentLine seg row p.w).switchAfterPulse seg row p.w

/-- R31, R32: in safe state a placed instant later than 200 ns after its cause is held inactive; its line counts as
FAULT. -/
def State.holdInactive (s : State) (seg row : Nat) (p : Placed) : State :=
  let x := (s.updRow seg row fun r => { r with placed := r.placed.drop 1 }).takeLine seg row p.w
  x.2.voidLine seg row .fault (x.1.getD (s.unassembled seg row p.w))

/-- Placed instants of a part that has left RUN, or given the heads up, without safe state are given up. -/
def State.dropPlaced (s : State) (seg row : Nat) : State :=
  s.updRow seg row fun r => { r with placed := [] }

/-- No pulse is sent: the web lies below the high-water mark, or has come back and the comparator has seen no new position
(R452; DEDUCED, log 112). -/
def State.holding (s : State) : Bool := s.fire.held || s.web.pos < s.web.hwm

/-- FIRE_PULSE of row p of segment s: it is the segment's next pulse, and its instant, pushed as it may be, has come (R32, R438,
R452, R458). -/
def State.firePulse (s : State) (seg row : Nat) : State :=
  let now := s.time.fireAt s.now
  match s.nextPulse seg with
  | some (row', p) =>
    let instant := s.pulseInstant seg p
    let last := s.safe.rose + fireNs 200
    if row' != row || now < instant then s
    else if s.safe.active && (last < instant || (s.holding && last < now)) then s.holdInactive seg row p
    else if s.safe.active || (s.firing && s.graft.owner) then (if s.holding then s else s.pulse seg row p)
    else s.dropPlaced seg row
  | none => s

/-! ### Pulse width (R441 to R446) -/

/-- n moved toward target by at most step. -/
def slewTo (n target step : Nat) : Nat :=
  if n < target then min target (n + step) else max target (n - step)

/-- The 1 ms update of one row, toward the table that its lines are assembled under (R442 to R444). -/
def State.pwUpdateRow (s : State) (seg row : Nat) : State :=
  if !s.headFresh seg then s
  else
    let incoming := s.jobs.state = .retiring && (s.row seg row).swapped
    let t := s.pwTargets seg row (if incoming then s.jobs.active.getD .empty else s.rowSet seg row (s.hwmLine + 1))
    let new := ((s.row seg row).pw.zip t.1).map fun e => slewTo e.1 e.2 (s.rd O.PW_SLEW)
    let s1 := s.updRow seg row fun r => { r with pw := new, pwSent := r.pwSent && r.pw == new }
    if t.2 then s1.event (0x20 + seg) 0x201 0 else s1

def State.pwUpdateAll (s : State) : State := s.fittedRows.foldl (fun s e => s.pwUpdateRow e.1 e.2) s

/-- R446: the head data of a row has gone stale, counted once until the next report. -/
def State.headStale (s : State) (seg row : Nat) : State :=
  let h := s.head seg
  if s.fitted seg row && !s.headFresh seg && !h.stale.getD row false then
    (s.updHead seg fun h => { h with stale := h.stale.set row true }).event (0x20 + seg) 0x202 0
  else s

/-- PW_EFFECTIVE and LIMIT_PERIOD. -/
def State.pwEffectiveValue (s : State) : Nat := octOf 2 (s.fire.rows.flatMap RowState.pw)
def State.limitPeriodValue (s : State) : Nat := octOf 4 ((List.range 96).map fun i => s.limitPeriod (i / 6) (i % 6))

/-! ### Interlocks (R454 to R460, R466) -/

/-- STATE of an interlock: 0 inactive, 1 tripped, 2 latched. -/
def State.interlockState (s : State) (i : Nat) : Nat :=
  if s.latchedTrip i then 2 else if s.tripped i then 1 else 0

/-- R455, R456: input i trips. -/
def State.trip (s : State) (i : Nat) : State :=
  let s1 : State := { s with fire := { s.fire with
    interlocks := s.fire.interlocks.modify i fun x => { x with latched := x.latched || s.rdB (O.INTERLOCK_LATCH i) } } }
  (s1.inc (O.INTERLOCK_TRIPS i)).event 0x40 (i + 1) 0

/-- R454: a new level of input i is accepted, after FILTER equal samples of 5 ns: no sooner than that after step 10 or after the
level before it. -/
def State.interlockLevel (s : State) (i : Nat) (level : Bool) : State :=
  let x := s.fire.interlocks.getD i ⟨none, false, 0⟩
  if x.level = some level || !s.due x.since (s.rd (O.INTERLOCK_FILTER i) * 5000) then s
  else
    let before := s.tripped i
    let s1 : State := { s with fire := { s.fire with
      interlocks := s.fire.interlocks.modify i fun x => { x with level := some level, since := s.now } } }
    if !before && s1.tripped i then s1.trip i else s1

/-- R466: the record of input i was written. -/
def State.interlockConfig (s : State) (i : Nat) (before : Bool) : State :=
  let latch := s.rdB (O.INTERLOCK_LATCH i)
  let s1 : State := { s with fire := { s.fire with interlocks := s.fire.interlocks.modify i fun x =>
    { x with latched := latch && s.rdB (O.INTERLOCK_ENABLE i) && (x.latched || s.tripped i) } } }
  if !before && s1.tripped i then s1.trip i else s1

/-- INTERLOCK_CLEAR (R457). -/
def State.interlockClear (s : State) (v : Nat) : Reply :=
  let named := (List.range 4).filter (bit v)
  if 16 ≤ v then .of Status.range s
  else if v = 0 then .of Status.empty s
  else if named.any s.levelActive then .of Status.state s
  else .of Status.ok { s with fire := { s.fire with
    interlocks := (indexed s.fire.interlocks).map fun e => if named.contains e.1 then { e.2 with latched := false } else e.2 } }

end Sys2Proof.Machine
end

