-- ==== Sys2Proof/Machine/Link.lean ====
section
/-! DEFINITION. The mirror bond as it sends (R249 to R251, R283), control authority, and the STATE packets that carry
accepted changes to the partner part (R772, R781). -/

namespace Sys2Proof.Machine

/-- Credits that a packet of so many payload bytes costs (R249). -/
def packetCost (length : Nat) : Nat := ceilDiv (44 + 4 * ceilDiv length 4) 256

/-! ### Packets (R246) -/

/-- Bytes 0 to 39 of the header (*TPL header*). -/
def packetHead (p : TplPacket) : List Byte :=
  natLE 2 p.magic ++ [toByte p.version, toByte p.ty] ++ natLE 4 p.linkSeq ++ natLE 4 p.job ++ natLE 4 p.page ++
  natLE 8 p.offset ++ natLE 2 p.object ++ natLE 2 p.flags ++ natLE 2 p.length ++ natLE 2 p.reserved ++ natLE 4 p.inflated ++
  natLE 4 p.payloadCrc

/-- Both CRCs are right (R255). -/
def packetOk (p : TplPacket) : Bool :=
  crc32c (packetHead p) == p.headerCrc && p.payload.length == p.length && crc32c p.payload == p.payloadCrc

/-- A packet on the wire: its 44-byte header, its payload, and zeros up to a multiple of 4. -/
def packetBytes (p : TplPacket) : List Byte :=
  packetHead p ++ natLE 4 p.headerCrc ++ p.payload ++ List.replicate ((4 - p.payload.length % 4) % 4) 0#8

/-- A packet that the part sends: MAGIC, VERSION, LENGTH and both CRCs are the part's. -/
def sentPacket (seq : Nat) (m : MirrorPacket) : TplPacket :=
  let p : TplPacket :=
    { magic := 0x5054, version := 1, ty := m.ty, linkSeq := seq, job := m.job, page := m.page, offset := m.offset
      object := m.object, flags := m.flags, length := m.payload.length, reserved := 0, inflated := m.inflated
      payloadCrc := crc32c m.payload, headerCrc := 0, payload := m.payload }
  { p with headerCrc := crc32c (packetHead p) }

/-! ### The mirror bond as it sends -/

/-- CREDIT, RESYNC, ACK, REFUSE and MIRROR_ACK take no credits (R250). -/
def MirrorPacket.answers (p : MirrorPacket) : Bool := 0x10 ≤ p.ty && p.ty ≤ 0x14

/-- A packet with its LINK_SEQ goes out on the mirror bond. -/
def State.mirrorEmit (s : State) (seq : Nat) (p : MirrorPacket) : State :=
  (s.inc O.MIRROR_STATUS_PACKETS_TX).emit (.tpl 1 (sentPacket seq p))

/-- A packet takes its LINK_SEQ; it is kept, for the partner may ask for it again (R256). The packets of *Graft packets*
share the bond, its LINK_SEQ and its retransmission. SYNC_MARK carries the high-water mark of its sending (R784). An answer
does not pass packets that are to be sent again in order. -/
def State.mirrorOut (s : State) (p0 : MirrorPacket) : State :=
  let mark := s.hwmLine + 256
  let p := if p0.ty = 0x24 then { p0 with payload := natLE 8 (mark * 65536) } else p0
  let m := s.mirror
  let wait := !m.again.isEmpty
  let s1 : State :=
    { s with
      mirror := { m with
        txSeq := (m.txSeq + 1) % 2 ^ 32, sent := m.sent ++ [(m.txSeq, p)]
        again := if wait then m.again ++ [(m.txSeq, p)] else m.again }
      graft := if p0.ty = 0x24 then { s.graft with syncPos := some mark } else s.graft }
  if wait then s1 else s1.mirrorEmit m.txSeq p

/-- The credits of a packet are there (R250), or it takes none. -/
def State.mirrorMay (s : State) (p : MirrorPacket) : Bool :=
  s.mirror.link = 2 && (p.answers || !seqLater 32 (s.mirror.spent + packetCost p.payload.length) s.mirror.limit)

/-- A packet's credits are spent. -/
def State.mirrorSpend (s : State) (p : MirrorPacket) : State :=
  if p.answers then s
  else { s with mirror := { s.mirror with spent := (s.mirror.spent + packetCost p.payload.length) % 2 ^ 32 } }

/-- While the partner's credits last, packets go out on the mirror bond (R250): first those asked for again, then those that
wait, in order (R256, R283); each of these frees the ingest credits that it held (R251). -/
def State.mirrorPump (s : State) : Nat → State
  | 0 => s
  | fuel + 1 =>
    match s.mirror.again, s.mirror.backlog with
    | e :: more, _ =>
      if s.mirrorMay e.2 then
        ((({ s with mirror := { s.mirror with again := more } } : State).mirrorSpend e.2).mirrorEmit e.1 e.2).mirrorPump fuel
      else s
    | [], p :: rest =>
      if s.mirrorMay p then
        let s1 : State :=
          { s with
            mirror := { s.mirror with backlog := rest }
            ingest := { s.ingest with freed := s.ingest.freed + p.cost } }
        ((s1.mirrorSpend p).mirrorOut p).mirrorPump fuel
      else s
    | [], [] => s

/-- Everything that may go out goes out. -/
def State.mirrorFlow (s : State) : State := s.mirrorPump (s.mirror.again.length + s.mirror.backlog.length)

/-- A packet joins those that wait for the mirror bond. -/
def State.mirrorSend (s : State) (p : MirrorPacket) : State :=
  ({ s with mirror := { s.mirror with backlog := s.mirror.backlog ++ [p] } } : State).mirrorFlow

/-- A part that is no longer paired as ACTIVE frees the credits of packets that wait, and does not send them (R251). -/
def State.dropWaiting (s : State) : State :=
  { s with
    ingest := { s.ingest with freed := s.ingest.freed + (s.mirror.backlog.map (·.cost)).foldl (· + ·) 0 }
    mirror := { s.mirror with backlog := s.mirror.backlog.filter fun p => p.ty != 1 && p.ty != 2 && p.ty != 3 } }

/-- A packet of *Graft packets* to the partner part. -/
def State.graftSend (s : State) (ty : Nat) (payload : List Byte) : State :=
  s.mirrorSend ⟨ty, 0, 0, 0, 0, 0, payload.length, payload, 0⟩

/-- A packet that answers the partner, CREDIT, RESYNC, REFUSE or MIRROR_ACK, takes no credits (R250). -/
def State.mirrorAnswer (s : State) (ty job page : Nat) (payload : List Byte) : State :=
  if s.mirror.link = 2 then s.mirrorOut ⟨ty, job, page, 0, 0, 0, payload.length, payload, 0⟩ else s

/-- The part has control authority (R772). -/
def State.control (s : State) : Bool :=
  s.graft.state = 0 || (s.graft.state = 1 && s.graft.pins = 1 && s.graft.paired)

/-- LOOP_ENABLE as the part treats it (R772). -/
def State.loops (s : State) (i : Nat) : Bool := s.control && bit (s.rd O.LOOP_ENABLE) i

/-- The object is mirrored (R772). -/
def isMirrored (key : Nat) : Bool :=
  let idx := key / 256
  match Dict.row? idx (key % 256) with
  | some r => r.acc == .rws || key == O.SEGMENT_ENABLE ||
      (r.acc != .ro && ((0x2000 ≤ idx && idx < 0x2100) || (0x2200 ≤ idx && idx < 0x2800)))
  | none => false

/-- A STATE packet (*Graft packets*). -/
def statePayload (idx sub ty : Nat) (data : List Byte) : List Byte :=
  natLE 2 idx ++ [toByte sub, toByte ty] ++ natLE 4 data.length ++ data

/-- The bytes of an object as a STATE packet carries them: a job-scoped one from the shadow set, a DOM whole. -/
def State.objectBytes (s : State) (key : Nat) : List Byte :=
  let idx := key / 256
  match Dict.row? idx (key % 256) with
  | some r =>
    if r.ty == .dom then
      if r.acc == .rws then
        let d := mapGet s.jobs.shadow.doms idx (domDefault idx)
        d.read (domFill idx) 0 d.size
      else s.domAll idx
    else natLE r.ty.size (if r.acc == .rws then s.shadowRd key else s.rd key)
  | none => []

/-- An accepted change of a mirrored object goes to the partner (R781). -/
def State.forwardBytes (s : State) (key : Nat) (data : List Byte) : State :=
  if s.control && s.graft.paired && isMirrored key then
    match Dict.row? (key / 256) (key % 256) with
    | some r => s.graftSend 0x22 (statePayload (key / 256) (key % 256) r.ty.code data)
    | none => s
  else s

def State.forward (s : State) (key : Nat) : State := s.forwardBytes key (s.objectBytes key)

/-- Several changes in order. -/
def State.forwardAll (s : State) (keys : List Nat) : State := keys.foldl State.forward s

end Sys2Proof.Machine
end

