-- ==== Sys2Proof/Machine/GraftOps.lean ====
section
/-! DEFINITION. Head ownership in a Graft pair: asserting and clearing OWNER, the takeover, its record, and the planned
swap (R771, R777, R785, R788 to R798). -/

namespace Sys2Proof.Machine

/-- HELLO with a fresh nonce of 32 bytes; forming starts (R778, R779). -/
def State.startForming (s : State) : State :=
  let a := s.draw
  let b := a.2.draw
  let nonce := natLE 16 (Config.nonce a.1).toNat ++ natLE 16 (Config.nonce b.1).toNat
  let s1 : State :=
    { b.2 with graft := { b.2.graft with forming := some s.now, retryAt := none, nonce := nonce, accepted := false, failed := 0 } }
  s1.graftSend 0x20 (nonce ++ natLE 8 s.fuses.serial ++ natLE 8 s.capacity ++ [toByte s.graft.pins, toByte s.graft.state] ++
    List.replicate 6 0#8)

/-- d_max: the largest row delay in effect. -/
def State.delayMax (s : State) : Nat := ((List.range 96).map fun i => s.delay (i / 6) (i % 6)).foldl max 0

/-- A part in SYNC could be READY by its position (R785, R787). -/
def State.syncReached (s : State) : Bool :=
  match s.graft.syncPos with
  | some p => p + s.delayMax + 64 ≤ s.hwmLine && s.rd O.WEB_SOURCE ≤ 1
  | none => false

/-- The holder takes its partner for READY by the SYNC_MARK that it sent, for no packet says so (log 35). -/
def State.partnerReady (s : State) : Bool := s.graft.paired && s.syncReached

/-- The balls that follow the heads are driven from now on, or no longer (R791). -/
def State.driveFollowed (s : State) : State := ((List.range 16).foldl State.cmpSettle s).encoSettle

/-- OWNER is asserted on every enabled head lane (R788), or cleared. -/
def State.setOwner (s : State) (on : Bool) : State :=
  if s.graft.owner = on then s
  else
    let s1 := (List.range 16).foldl (fun (s : State) seg =>
      s.updHead seg fun h => { h with claimed := on && s.segEnabled seg, flushed := false })
      { s with graft := { s.graft with owner := on, taking := none, awaiting := [] } }
    s1.driveFollowed

/-- GRAFT_YIELD_OUT goes to its holding level, driven low, or is released (R767). -/
def State.setHolding (s : State) (on : Bool) : State :=
  if s.graft.holding = on then s
  else ({ s with graft := { s.graft with holding := on } } : State).emit (.pin "GRAFT_YIELD_OUT" (!on))

/-- The part enters a Graft state. -/
def State.graftState (s : State) (st : Nat) : State := { s with graft := { s.graft with state := st } }

/-- The part enters READY, which it can be with source 0 or 1 only (R787); else SYNC. -/
def State.toReady (s : State) : State := s.graftState (if s.rd O.WEB_SOURCE ≤ 1 then 3 else 2)

/-- The lines of rows up to position w that have not been pulsed count as missed, with TAKEOVER (R789). -/
def State.missLines (s : State) (w : Nat) : State :=
  s.fittedRows.foldl (fun (s : State) e =>
    let seg := e.1
    let row := e.2
    let gone := (s.row seg row).lines.filter (·.w ≤ w)
    let s1 := gone.foldl (fun (s : State) f => s.spoilOwners f.owners .takeover (rowKey seg row)) s
    s1.updRow seg row fun r =>
      { r with lines := r.lines.filter (w < ·.w), placed := r.placed.filter (w < ·.w) }) s

/-- Pages of both sets without outcome that TAKEOVER has hit, the active set first: JOB_ID and PAGE_SEQ. -/
def State.takenPages (s : State) : List (Nat × Nat) :=
  s.sets.flatMap fun j => (j.pages.filter fun p => p.outcome.isNone && p.spoil.marks.any (·.1 == .takeover)).map
    fun p => (j.jobId, p.seq)

/-- *Takeover record*. -/
def takeoverRecord (number kind block code : Nat) (yield resume time : Nat) (pages : List (Nat × Nat)) : List Byte :=
  let first := pages.headD (0, 0)
  natLE 4 number ++ [toByte kind, toByte block] ++ natLE 2 code ++ natLE 8 (yield * 65536) ++ natLE 8 (resume * 65536) ++
  natLE 8 time ++ natLE 2 pages.length ++ natLE 2 0 ++ natLE 4 first.1 ++ natLE 4 first.2 ++ natLE 4 0

/-- A takeover record is stored and sent (R796). -/
def State.storeRecord (s : State) (bs : List Byte) : State :=
  (s.domPatch 0x3620 (48 * (u32At bs 0 % 64)) bs).graftSend 0x25 bs

/-- The part takes the heads with YIELD_POS H (R788, R789, R796). The manual names no way in which the new holder learns
whether the yield was forced and what its cause was: KIND 1 or 2 and the cause fields are free values (log 36). -/
def State.takeover (s : State) (h : Nat) (planned : Bool) : State :=
  let s1 := ((s.graftState 1).setHolding true).setOwner true
  let s2 := s1.missLines (h + 31)
  let pages := s2.takenPages.filter fun x => !s.takenPages.contains x
  let number := s2.graft.number + 1
  let d := s2.draw
  let v := (Config.free d.1).toNat
  let rec' := takeoverRecord number (if planned then 3 else 1 + v % 2) (if planned then 0xff else bits v 15 8)
    (if planned then 0 else bits v 31 16) h (h + 32) s2.ptp pages
  let s3 : State :=
    { d.2 with
      fire := { s2.fire with resume := h + 32 }
      graft := { s2.graft with number := number, planned := false, taking := some (h + 32)
                               awaiting := (List.range 16).filter s2.segEnabled } }
  let s4 := (s3.inc O.TAKEOVERS).event 0x3f 2 0
  (if planned then s4.inc O.PLANNED_SWAPS else s4).storeRecord rec'

/-- Step 3 of R788 on one head lane: the lines from position w on that wait in the store go out, in ascending position. -/
def State.sendWaiting (s : State) (seg w : Nat) : State :=
  let lines := (List.range 6).flatMap fun row => ((s.row seg row).lines.filter fun f => w ≤ f.w && !f.sent).map fun f => (row, f)
  (lines.mergeSort fun a b => a.2.w ≤ b.2.w).foldl (fun (s : State) e =>
    if s.lineReady seg then
      (s.updRow seg e.1 fun r => { r with lines := r.lines.map fun g => if g.w = e.2.w then { g with sent := true } else g }).sendLine
        seg e.1 e.2
    else s) s

/-- Steps 2 and 3 of R788 on one head lane, once its head module shows OWNER_STATE 1. -/
def State.takeoverHead (s : State) (seg : Nat) : State :=
  match s.graft.taking with
  | some w =>
    if s.graft.awaiting.contains seg && (s.head seg).ownerState = 1 then
      let rows := (List.range 6).filter (s.fitted seg)
      let active := s.jobs.active.getD .empty
      let s1 := rows.foldl (fun (s : State) row =>
        let slot := (s.row seg row).slot
        ((s.sendPwTable seg row).sendDescriptor seg row slot active).sendDescriptor seg row (1 - slot) s.jobs.shadow)
        { s with graft := { s.graft with awaiting := s.graft.awaiting.filter (· != seg) } }
      ((s1.headCommand seg 1 ((List.range 6).flatMap fun _ => natLE 4 (w % 2 ^ 32))).updHead seg fun h =>
        { h with flushed := true }).sendWaiting seg w
    else s
  | none => s

/-- No pulse of a position before b is still to be sent. -/
def State.pulsedBefore (s : State) (b : Nat) : Bool :=
  s.fittedRows.all fun e => (s.row e.1 e.2).placed.all (b ≤ ·.w)

/-- The holder gives the heads up in a planned swap (R792). -/
def State.plannedRelease (s : State) : State :=
  (((({ s with graft := { s.graft with planned := false } } : State).setOwner false).setHolding false).toReady).inc
    O.PLANNED_SWAPS

/-- The holder's last pulse of B − 1 has left, or the high-water mark is at B + 1 (R792). -/
def State.checkRelease (s : State) : State :=
  match s.jobs.boundary with
  | some b =>
    if s.graft.planned && s.graft.state = 1 && (b + 1 ≤ s.hwmLine || (b ≤ s.hwmLine && s.fire.crossings.all (b ≤ ·.1) &&
        s.pulsedBefore b)) then s.plannedRelease
    else s
  | none => s

/-- A planned swap is skipped (R795, *Graft role transitions*). -/
def State.skipSwap (s : State) : State :=
  let s1 := ({ s with graft := { s.graft with planned := false } } : State).event 0x3f 7 0
  if s.graft.state = 1 then s1.warn 0x3f 7 0x3600 2 [] else s1

/-- SYNC is left for READY: R785 is met, and POSITION records come (R786). -/
def State.checkReady (s : State) : State :=
  if s.graft.state = 2 && s.graft.paired && !s.graft.mismatch && s.syncReached &&
      s.now < s.graft.heard + s.rd O.MIRROR_HOLD * ms then s.graftState 3 else s

/-- The high-water mark reaches line w: a planned swap at B, and READY while POSITION records come (R785, R786, R792,
R795). -/
def State.graftLine (s : State) (w : Nat) : State :=
  let s1 :=
    if s.graft.planned && s.jobs.boundary == some w then
      match s.graft.state with
      | 1 => if s.partnerReady then s else s.skipSwap
      | 3 => s.takeover w true
      | 2 => s.skipSwap
      | _ => { s with graft := { s.graft with planned := false } }
    else s
  s1.checkReady

/-- Both parts claim the heads (R793): the SECONDARY, or of two equal roles the part with the higher SERIAL, gives way. -/
def State.conflict (s : State) : State :=
  if s.graft.state != 1 || !s.graft.owner then s
  else
    let s1 := s.event 0x3f 5 0
    let gives := s.graft.pins = 2 || (match s.graft.partner with
      | some p => p.role = s.graft.pins && p.serial < s.fuses.serial
      | none => false)
    if gives then ((s1.setOwner false).setHolding false).toReady else s1

/-- The selected source made a count: the history of R783. -/
def State.noteCount (s : State) (count : Int) : State :=
  { s with graft := { s.graft with
      history := ((count, to4816 s.web.pos, to4816 s.web.hwm) :: s.graft.history).take 1024 } }

end Sys2Proof.Machine
end

