-- ==== Sys2Proof/Machine/Camera.lean ====
section
/-! DEFINITION. The camera pipelines: triggers, settings generations, frames, the pixel path, streams and snapshots
(R556 to R594, R229, R230). -/

namespace Sys2Proof.Machine

def State.cam (s : State) (k : Nat) : Cam := s.cams.getD k .init

def State.updCam (s : State) (k : Nat) (f : Cam → Cam) : State := { s with cams := s.cams.modify k f }

/-- STATE of the pipeline: 0 off, 1 starting, 2 running, 3 stopped, 4 error. -/
def State.camRuns (s : State) (k : Nat) : Bool := s.rd (O.CAM_STATUS_STATE k) = 2

def State.freeRunning (s : State) (k : Nat) : Bool := s.rd (O.CAM_TRIGGER_MODE k) = 1

/-! ### Job sets at the cameras (R229) -/

/-- B + d_cam while a boundary is latched or passing. -/
def State.camSwapPos (s : State) (k : Nat) : Option Nat :=
  if s.jobs.state = .latched || s.jobs.state = .retiring then s.jobs.boundary.map (· + s.camDist k) else none

/-- The set whose parameters a frame triggered at line w carries: from B + d_cam on, the incoming one. -/
def State.camSet (s : State) (k w : Nat) : JobSet :=
  let active := s.jobs.active.getD .empty
  match s.camSwapPos k with
  | some x => if (s.jobs.state = .latched) = (x ≤ w) then s.jobs.shadow else active
  | none => active

/-- A set without its content, as a frame keeps it: its objects and the regions of the pipelines. -/
def JobSet.settings (j : JobSet) : JobSet :=
  { JobSet.empty with vals := j.vals, doms := j.doms.filter fun d => 0x311c ≤ d.1 && d.1 < 0x3120 }

/-! ### Settings generations (R570 to R576) -/

/-- EXPOSURE, GAIN and STROBE_WIDTH of a set. -/
def JobSet.camSettings (j : JobSet) (k : Nat) : Nat × Nat × Nat :=
  (j.rd (O.CAM_EXPOSURE k), j.rd (O.CAM_GAIN k), j.rd (O.CAM_STROBE_WIDTH k))

/-- A generation's values, or those of the active set where none has come yet. -/
def State.genValues (s : State) (k : Nat) (g : Option Gen) : Nat × Nat × Nat :=
  match g with
  | some g => (g.exposure, g.gain, g.strobe)
  | none => (s.jobs.active.getD .empty).camSettings k

/-- The values read at CAM_LIVE_k: the latest applied (R576). -/
def State.liveValues (s : State) (k : Nat) : Nat × Nat × Nat := s.genValues k (s.cam k).applied

/-- The values that a new change builds on: those of the latest admitted change (DEDUCED, log 30). -/
def State.newestValues (s : State) (k : Nat) : Nat × Nat × Nat :=
  s.genValues k ((s.cam k).gens.getLast? <|> (s.cam k).applied)

/-- R573, R574: the host or the loop may make a further change. -/
def State.mayAdmit (s : State) (k : Nat) : Bool :=
  let held := (s.camSwapPos k).isSome && !s.jobs.camsDone.contains k
  (s.cam k).gens.length < (if held then 3 else 4)

/-- A change is admitted as the next generation. -/
def State.takeSettings (s : State) (k : Nat) (v : Nat × Nat × Nat) (swap : Bool) : State :=
  let no := (s.rd (O.CAM_GENERATION k) + 1) % 65536
  let g : Gen := ⟨no, v.1, v.2.1, v.2.2, swap, none, false, none⟩
  (s.updCam k fun c => { c with gens := c.gens ++ [g], swapGen := if swap then some no else c.swapGen }).wr
    (O.CAM_GENERATION k) no

/-- The entries of a section of CCI_SCRIPT_k (R560), with these EXPOSURE and GAIN. -/
def State.cciEntries (s : State) (k sect exposure gain : Nat) : List (Nat × Nat × Nat × Nat) :=
  let at' (o n : Nat) : List Byte := s.domRead (0x300c + k) o n
  (List.range (u16At (at' (10 + 4 * sect) 2) 0)).map fun i =>
    let b := at' (24 + 8 * (u16At (at' (8 + 4 * sect) 2) 0 + i)) 8
    let value := match u8At b 0 with
      | 1 => u16At b 4 % 256
      | 3 => exposure / 2 ^ u8At b 6 % 65536
      | 4 => exposure / 2 ^ u8At b 6 % 256
      | 5 => gain
      | _ => u16At b 4
    (u8At b 0, u8At b 1, u16At b 2, value)

/-- A section of the script starts, on the values v of EXPOSURE and GAIN. -/
def State.runScript (s : State) (k sect : Nat) (v : Nat × Nat × Nat) : State :=
  s.emit (.cciScript k sect (s.cciEntries k sect v.1 v.2.1))

/-- A SETTINGS script is running. -/
def Cam.scripting (c : Cam) : Bool := c.gens.any fun g => g.started.isSome && g.effect.isNone

/-- At a trigger or frame start of frame f the oldest waiting script starts; one that still runs is late (R571). -/
def State.startScript (s : State) (k f : Nat) : State :=
  let c := s.cam k
  if c.scripting then
    s.updCam k fun c => { c with gens := c.gens.map fun g =>
      if g.started.isSome && g.effect.isNone then { g with late := true } else g }
  else
    match c.gens.find? (·.started.isNone) with
    | some g => (s.updCam k fun c => { c with gens := c.gens.map fun h =>
        if h.no = g.no then { h with started := some f } else h }).runScript k 3 (s.genValues k (some g))
    | none => s

/-- SETTINGS_SCRIPT_DONE (R571, R575). -/
def State.settingsDone (s : State) (k : Nat) (ok : Bool) : State :=
  match (s.cam k).gens.find? fun g => g.started.isSome && g.effect.isNone with
  | none => s
  | some g =>
    if ok then
      let f := g.started.getD 0 + b2n g.late + s.rd (O.SETTING_LATENCY k)
      let done : Gen := { g with effect := some f }
      let s1 := (s.updCam k fun c => { c with
        gens := c.gens.map fun h => if h.no = g.no then done else h
        applied := some done }).wrs [(O.CAM_APPLIED k, g.no), (O.LIVE_RESULT k, 1)]
      if g.late then s1.event (0x38 + k) 7 0 else s1
    else
      ((s.updCam k fun c => { c with gens := c.gens.filter (·.no != g.no) }).wr (O.LIVE_RESULT k) 2).event (0x38 + k) 6 0

/-- Frame number f arrives: the changes whose effect frame is not later take effect (R572). -/
def State.takeEffect (s : State) (k f : Nat) : State :=
  s.updCam k fun c =>
    let now := c.gens.filter fun g => match g.effect with | some e => e ≤ f | none => false
    { c with
      gens := c.gens.filter fun g => match g.effect with | some e => f < e | none => true
      cur := now.getLast? <|> c.cur }

/-! ### Triggers and strobes (R563, R567) -/

/-- R229, R574: at this match of its trigger unit the pipeline starts its swap change: the frame SETTING_LATENCY triggers
later, or an earlier one, is the first at or after B + d_cam. -/
def State.swapDue (s : State) (k pos48 : Nat) : Bool :=
  match s.camSwapPos k with
  | some x =>
    let u := s.rd (O.TRIGGER_CMP k)
    let taken := (s.unit u).taken
    (s.cam k).swapGen.isNone && !s.jobs.camsDone.contains k && (s.cam k).gens.length < 4 &&
    (x * 65536 ≤ pos48 ||
      (List.range (s.rd (O.SETTING_LATENCY k))).any fun i =>
        match s.cmpMatch u (taken + i) with
        | some p => x * 65536 ≤ p
        | none => false)
  | none => false

/-- The swap change of pipeline k: the incoming set's settings (R576). -/
def State.admitSwap (s : State) (k : Nat) : State :=
  let x := (s.camSwapPos k).getD 0
  s.takeSettings k ((s.camSet k x).camSettings k) true

/-- A match of the trigger unit gave a pulse: a pending trigger, and the camera's switch (R563, R229). -/
def State.camTrigger (s : State) (k : Nat) : State :=
  if s.freeRunning k || !s.camRuns k then s
  else
    let pos := to4816 s.web.hwm
    let s1 := if s.swapDue k pos then s.admitSwap k else s
    let s2 := s1.updCam k fun c =>
      { c with pending := c.pending ++ [(⟨pos, s.time.ptpAt s.now, s.now, (s.camSet k (pos / 65536)).settings⟩ : Trigger)] }
    let f := s2.rd (O.CAM_STATUS_FRAMES k) + (s2.cam k).pending.length
    let s3 := (s2.updCam k fun c => { c with lastFrame := f }).startScript k f
    match s3.camSwapPos k with
    | some x => if x * 65536 ≤ pos then s3.camSwitched k else s3
    | none => s3

/-- A pulse of the strobe unit: STROBE_WIDTH of the generation that tags the frame of the latest trigger (R567). -/
def State.camStrobe (s : State) (k : Nat) : State :=
  if !s.camRuns k || s.safe.active then s
  else
    let c := s.cam k
    let due := c.gens.filter fun g => match g.effect with | some e => e ≤ c.lastFrame | none => false
    let w := (s.genValues k (due.getLast? <|> c.cur)).2.2
    if w = 0 then s
    else (s.updCam k fun c => { c with strobeEnd := s.now + w * 1000 }).emit (.camStrobe k w)

/-- R31: a strobe pulse that runs when safe state is entered is switched off. -/
def State.camDark (s : State) (k : Nat) : State :=
  if s.now < (s.cam k).strobeEnd then (s.updCam k fun c => { c with strobeEnd := s.now }).emit (.camStrobe k 0) else s

/-- The units that gave a pulse trigger and light the cameras: triggers before strobes. -/
def State.camMatches (s : State) (units : List Nat) : State :=
  let s1 := (List.range 4).foldl (fun s k => if units.contains (s.rd (O.TRIGGER_CMP k)) then s.camTrigger k else s) s
  (List.range 4).foldl (fun s k => if units.contains (s.rd (O.STROBE_CMP k)) then s.camStrobe k else s) s1

/-- The high-water mark has reached B + d_cam of a pipeline that takes no triggered frames: it counts as switched, and a
free-running one admits its change (R233, R566). -/
def State.camPassed (s : State) (k : Nat) : State :=
  match s.camSwapPos k with
  | some x =>
    if x ≤ s.hwmLine && !s.camTriggered k && !s.jobs.camsDone.contains k then
      let s1 := if s.rdB (O.CAM_PORT_ENABLE k) then s.admitSwap k
        else s.updCam k fun c => { c with cur := none, applied := none }
      s1.camSwitched k
    else s
  | none => s

/-- A boundary latches: pipeline k awaits its swap change (R574). -/
def State.camLatch (s : State) : State :=
  (List.range 4).foldl (fun s k => s.updCam k fun c =>
    { c with swapAt := s.camSwapPos k, swapGen := none }) s

/-- The set was swapped in with mode 0: every pipeline takes its settings (R221). -/
def State.camSwapNow (s : State) : State :=
  (List.range 4).foldl (fun s k =>
    if s.rdB (O.CAM_PORT_ENABLE k) then s.takeSettings k ((s.jobs.active.getD .empty).camSettings k) true
    else s.updCam k fun c => { c with cur := none, applied := none }) s

/-! ### The pixel path (R580 to R586) -/

/-- Side of a mosaic's cell, and its colours, rows top to bottom (*Mosaics*). -/
def mosaicCell (m : Nat) : Nat × List Nat :=
  match m with
  | 1 => (2, [0, 0, 0, 1])
  | 2 => (2, [0, 1, 3, 2])
  | 3 => (4, [2, 1, 0, 1, 1, 3, 1, 3, 0, 1, 2, 1, 1, 3, 1, 3])
  | _ => (1, [0])

/-- A pixel of a data type as 12 bits (R557). -/
def promote (dataType v : Nat) : Nat := if dataType = 0x2a then v * 16 else if dataType = 0x2b then v * 4 else v

/-- Corner (i, j) of the flat-field table: GAIN and DARK (R581, R582). -/
def State.flatCorner (s : State) (k i j : Nat) : Int × Int :=
  if s.rdB (O.FLAT_VALID k) then
    let bs := s.domRead (0x3030 + k) 0 2
    let e := s.domRead (0x3030 + k) (8 + 4 * (j * u16At bs 0 + i)) 4
    ((u16At e 0 : Nat), toInt 16 (u16At e 2))
  else (4096, 0)

/-- Bilinear interpolation in a 16 × 16 cell, to the nearest integer (log 31). -/
def bilinear (x y : Nat) (c00 c10 c01 c11 : Int) : Int :=
  let fx : Int := (x % 16 : Nat)
  let fy : Int := (y % 16 : Nat)
  (c00 * (16 - fx) * (16 - fy) + c10 * fx * (16 - fy) + c01 * (16 - fx) * fy + c11 * fx * fy + 128) / 256

/-- Stage 1: the flat-fielded value of a raw pixel (R581). -/
def State.flatField (s : State) (k x y raw : Nat) : Nat :=
  let c (i j : Nat) := s.flatCorner k (x / 16 + i) (y / 16 + j)
  let g := bilinear x y (c 0 0).1 (c 1 0).1 (c 0 1).1 (c 1 1).1
  let d := bilinear x y (c 0 0).2 (c 1 0).2 (c 0 1).2 (c 1 1).2
  (clampI 0 4095 ((((raw : Int) - (s.rd (O.BLACK_LEVEL k) : Nat) - d) * g + 2048) / 4096)).toNat

/-- An image as rows of pixels. -/
abbrev Image := Array (Array Nat)

/-- Pixel (x, y) of an image. -/
def Image.at (im : Image) (x y : Nat) : Nat := (im.getD y #[]).getD x 0

/-- i mirrored into 0 to n − 1 about the edge pixels (R583). -/
def mirrored (n : Nat) (i : Int) : Nat :=
  if n ≤ 1 then 0
  else
    let m := (i.natAbs) % (2 * (n - 1))
    if m < n then m else 2 * (n - 1) - m

/-- Stage 2: channel c at (x, y) (R583). -/
def demosaic (m cx cy w h : Nat) (im : Image) (c x y : Nat) : Nat :=
  let n := (mosaicCell m).1
  let colour (x y : Nat) : Nat := (mosaicCell m).2.getD ((y + cy) % n * n + (x + cx) % n) 0
  let window (r : Int) : List Nat :=
    (List.range (2 * r.toNat + 1)).flatMap fun (dy : Nat) => (List.range (2 * r.toNat + 1)).filterMap fun (dx : Nat) =>
      let px := mirrored w ((x : Int) + (dx : Int) - r)
      let py := mirrored h ((y : Int) + (dy : Int) - r)
      if colour px py = c then some (im.at px py) else none
  if colour x y = c then im.at x y
  else
    let near := window 1
    let set := if near.isEmpty then window 2 else near
    (set.foldl (· + ·) 0 + set.length / 2) / max 1 set.length

/-- Stages 1 to 3 of a frame: one image per channel (R580 to R584). -/
def State.channels (s : State) (k : Nat) (lines : List (List Nat)) : List Image :=
  let m := s.rd (O.MOSAIC k)
  let flat : Image := ((indexed lines).map fun r =>
    ((indexed r.2).map fun p => s.flatField k p.1 r.1 p.2).toArray).toArray
  let h := lines.length
  let w := s.rd (O.CAM_PORT_WIDTH k)
  let image (f : Nat → Nat → Nat) : Image := (Array.range h).map fun y => (Array.range w).map fun x => f x y
  let raw := (List.range (mosaicChannels m)).map fun c =>
    image fun x y => demosaic m (s.rd (O.CFA_X k)) (s.rd (O.CFA_Y k)) w h flat c x y
  if m = 3 then
    let ir := raw.getD 3 #[]
    (indexed raw).map fun c =>
      if c.1 < 3 then image fun x y => c.2.at x y - ir.at x y * s.rd (O.IR_SUB k c.1) / 256 else c.2
  else raw

/-! ### Statistics and the exposure loop (R577, R585, R586) -/

/-- The mean of some values, rounded. -/
def meanRounded (xs : List Nat) : Nat := (xs.foldl (· + ·) 0 + xs.length / 2) / max 1 xs.length

/-- Pixels of the statistics window that were received. -/
def State.statsWindow (s : State) (k h : Nat) : List (Nat × Nat) :=
  let x0 := s.rd (O.WIN_X k)
  let y0 := s.rd (O.WIN_Y k)
  ((List.range (s.rd (O.WIN_H k))).filter fun y => y0 + y < h).flatMap fun y =>
    ((List.range (s.rd (O.WIN_W k))).filter fun x => x0 + x < s.rd (O.CAM_PORT_WIDTH k)).map fun x => (x0 + x, y0 + y)

/-- FLAGS bits of *Frame record*. -/
def flagShort : Nat := 1
def flagLong : Nat := 2
def flagErrored : Nat := 4
def flagExcluded : Nat := 8
def flagInvalid : Nat := 16
def flagStale : Nat := 32
def flagFree : Nat := 64

/-- R586: the statistics of a frame are valid. -/
def State.statsValid (s : State) (k : Nat) (f : CamFrame) : Bool :=
  let y0 := s.rd (O.WIN_Y k)
  let y1 := y0 + s.rd (O.WIN_H k)
  !bit f.info.flags 0 && !bit f.info.flags 4 && !(f.errors.any fun y => y0 ≤ y && y < y1) &&
  s.rd (O.WIN_X k) + s.rd (O.WIN_W k) ≤ s.rd (O.CAM_PORT_WIDTH k) && y1 ≤ s.rd (O.CAM_PORT_HEIGHT k)

/-- The statistics of a frame are published (R585). -/
def State.publishStats (s : State) (k : Nat) (f : CamFrame) (chans : List Image) : State :=
  let win := s.statsWindow k f.lines.length
  let raw : Image := (f.lines.map List.toArray).toArray
  let values (c : Nat) : List Nat := win.map fun p => (chans.getD c #[]).at p.1 p.2
  let hist := if s.rd (O.HIST_CHANNEL k) < chans.length then values (s.rd (O.HIST_CHANNEL k)) else []
  s.wrs [(O.CAM_FRAME_NO k, f.info.no), (O.CAM_TAG k, f.info.tag),
    (O.CAM_STATS_VALID k, b2n (s.statsValid k f)),
    (O.CAM_MEANS k, octOf 2 ((List.range 4).map fun c =>
      if c < chans.length then meanRounded (values c) else 0)),
    (O.CAM_SATURATED k, (win.filter fun p => s.rd (O.SAT_LEVEL k) ≤ raw.at p.1 p.2).length),
    (O.CAM_HISTOGRAM k, octOf 4 ((List.range 256).map fun b => (hist.filter (· / 16 == b)).length))]

/-- The exposure that R577 computes from mean m; none when it makes no change. -/
def nextExposure (j : JobSet) (k exposure m deadband maxStep : Nat) : Option Nat :=
  let target := j.rd (O.AE_TARGET k)
  let diff := max (m - target) (target - m)
  if m != 0 && diff ≤ target * deadband / 100 then none
  else
    let e :=
      if m = 0 then j.rd (O.EXP_MAX k)
      else
        let e0 := (exposure * target + m / 2) / m
        let e1 := clampN (exposure * (100 - maxStep) / 100) (exposure * (100 + maxStep) / 100) e0
        clampN (j.rd (O.EXP_MIN k)) (j.rd (O.EXP_MAX k)) e1
    if e = exposure then none else some e

/-- EXPOSURE_LOOP (R577): valid statistics of the latest applied generation may make a new exposure. -/
def State.exposureLoop (s : State) (k : Nat) (f : CamFrame) : State :=
  if f.set.rd (O.AE_ENABLE k) = 1 && s.rdB (O.CAM_STATS_VALID k) && f.info.tag = s.rd (O.CAM_APPLIED k) && s.mayAdmit k
  then
    let m := octAt 2 (s.rd (O.CAM_MEANS k)) (s.rd (O.HIST_CHANNEL k))
    match nextExposure f.set k f.info.exposure m (s.rd (O.AE_DEADBAND k)) (s.rd (O.AE_MAX_STEP k)) with
    | some e => let v := s.newestValues k; s.takeSettings k (e, v.2) false
    | none => s
  else s

/-! ### Streams (R587 to R590) -/

/-- *Frame record* of a stream frame. -/
def StreamFrame.record (f : StreamFrame) : List Byte :=
  let i := f.info
  natLE 4 i.no ++ natLE 2 i.tag ++ natLE 2 i.flags ++ natLE 8 i.pos ++ natLE 8 (tbNs i.tb) ++ natLE 2 (tbFrac i.tb) ++
  natLE 2 i.lines ++ natLE 4 i.job ++ natLE 2 f.width ++ natLE 2 f.height ++ [toByte f.mask, toByte f.depth] ++
  natLE 2 i.gain ++ natLE 4 i.exposure ++ natLE 4 i.strobe ++ List.replicate 16 0#8

/-- The pixels as they are stored (R587). -/
def StreamFrame.bytes (f : StreamFrame) : List Byte :=
  if f.depth = 12 then f.pixels.flatMap (natLE 2) else f.pixels.map toByte

/-- The frame of stream st of a received frame (R587). A short frame has the stream lines that it received whole. -/
def State.streamFrame (s : State) (k st : Nat) (f : CamFrame) (chans : List Image) (start : Nat) : StreamFrame :=
  let n := 4 * k + st
  let v (o : Nat → Nat) : Nat := f.set.rd (o n)
  let sx := f.set.rd (O.STREAM_SCALE n 0)
  let sy := f.set.rd (O.STREAM_SCALE n 1)
  let mask := v O.STREAM_CHANNELS
  let w := v O.STREAM_WIDTH / sx
  let h := min (v O.STREAM_HEIGHT / sy) ((f.lines.length - v O.STREAM_Y) / sy)
  let depth := v O.STREAM_DEPTH
  let cs := (List.range 4).filter (bit mask)
  let block (c x y : Nat) : Nat := meanRounded <|
    (List.range sy).flatMap fun dy => (List.range sx).map fun dx =>
      (chans.getD c #[]).at (v O.STREAM_X + x * sx + dx) (v O.STREAM_Y + y * sy + dy)
  let stored (v : Nat) : Nat := if depth = 12 then v else min 255 ((v + 8) / 16)
  let bytes := 64 + w * h * cs.length * (if depth = 12 then 2 else 1)
  { stream := st, sink := v O.STREAM_SINK, snap := (s.cam k).snaps.contains st
    finish := start + bytes * 15625 / 10
    info := f.info, set := f.set, map := f.map, width := w, height := h, mask := mask, depth := depth
    pixels := (List.range h).flatMap fun y => (List.range w).flatMap fun x => cs.map fun c => stored (block c x y)
    arrived := s.now }

/-- A stream frame has been written: the comparator, the preview and CAM_FRAME take it (R588, R590). -/
def State.deliver (s : State) (k : Nat) (f : StreamFrame) : State :=
  let s1 := s.updCam k fun c =>
    { c with
      compare := if f.sink = 1 then c.compare ++ [f] else c.compare
      preview := if f.sink = 2 then some f else c.preview }
  if f.snap then s1.domReplace (0x3051 + 4 * k + f.stream) (f.record ++ f.bytes) else s1

/-- The stream frames whose writing is complete by now are delivered. -/
def State.deliverDone (s : State) (k : Nat) : State :=
  let c := s.cam k
  (c.outs.filter (·.finish ≤ s.now)).foldl (fun s f => s.deliver k f)
    (s.updCam k fun c => { c with outs := c.outs.filter (s.now < ·.finish) })

/-- The stream's next frame begins: a frame that is not complete is dropped (R589). -/
def State.dropStreams (s : State) (k : Nat) : State :=
  let s1 := s.deliverDone k
  let late := (s1.cam k).outs.length
  (List.range late).foldl (fun s _ => s.event (0x38 + k) 9 0) (s1.updCam k fun c => { c with outs := [], busy := min c.busy s.now })

/-! ### Frames (R564 to R566, R578, R579) -/

/-- The frame ends: short handling, statistics, the exposure loop and the streams. A frame that is cut, by the next frame start or by
an overflow, is short whatever it holds (R559, R578). -/
def State.closeFrame (s : State) (k : Nat) (cut : Bool) : State :=
  match (s.cam k).frame with
  | none => s
  | some f0 =>
    let short := cut || f0.lines.length < s.rd (O.CAM_PORT_HEIGHT k)
    let flags := f0.info.flags + (if short then flagShort else 0) + (if f0.errors.isEmpty then 0 else flagErrored)
    let f : CamFrame := { f0 with info := { f0.info with flags := flags, lines := f0.lines.length } }
    let chans := s.channels k f.lines
    let s1 := s.updCam k fun c => { c with frame := none }
    let s2 := if short then (s1.inc (O.SHORT_FRAMES k)).event (0x38 + k) 1 0 else s1
    let s3 := (s2.publishStats k f chans).exposureLoop k f
    let wanted := (List.range 4).filter fun st =>
      f.set.rd (O.STREAM_SINK (4 * k + st)) != 0 || (s3.cam k).snaps.contains st
    let s4 := wanted.foldl (fun s st =>
      let out := s.streamFrame k st f chans (max f.since (s.cam k).busy)
      s.updCam k fun c => { c with outs := c.outs ++ [out], busy := out.finish }) s3
    (s4.updCam k fun c => { c with snaps := [] }).deliverDone k

/-- A frame start is accepted (R564, R566, R569, R572, R230): position, TB_CAM, moment, and the set of its trigger. -/
def State.openFrame (s : State) (k pos : Nat) (free : Bool) (set : JobSet) : State :=
  let no := min (2 ^ 32 - 1) (s.rd (O.CAM_STATUS_FRAMES k) + 1)
  let s1 := (s.wr (O.CAM_STATUS_FRAMES k) no).takeEffect k no
  let s2 := if free then s1.startScript k no else s1
  let c := s2.cam k
  let g := s2.genValues k c.cur
  let tag := (c.cur.map Gen.no).getD 0
  let stale := !free && (match c.swapAt with
    | some x => x * 65536 ≤ pos && (match c.swapGen with
      | some n => seqLater 16 n tag
      | none => true)
    | none => false)
  let excluded := c.exclude != 0 || free
  let info : FrameInfo :=
    { no := no, tag := tag
      flags := (if excluded then flagExcluded else 0) + (if c.exclude != 0 then flagInvalid else 0) +
        (if stale then flagStale else 0) + (if free then flagFree else 0)
      pos := pos, tb := s2.time.ptpAt s2.now, lines := 0, job := set.rd O.JOB_ID, exposure := g.1, gain := g.2.1
      strobe := g.2.2 }
  let map : CamMap := ⟨s2.rdI 32 (O.MAP_X0 k), s2.rd (O.MAP_DX k), s2.rdI 32 (O.MAP_Y0 k), s2.rdI 32 (O.MAP_DY k)⟩
  let s3 := s2.updCam k fun c =>
    { c with frame := some ⟨info, set, map, [], [], s2.now⟩, exclude := c.exclude - 1,
             lastFrame := max c.lastFrame no }
  if stale then s3.event (0x38 + k) 8 0 else s3

/-- R565: the next SETTING_LATENCY frames are EXCLUDED and STATS_INVALID. -/
def State.camUncertain (s : State) (k : Nat) : State :=
  s.updCam k fun c => { c with exclude := s.rd (O.SETTING_LATENCY k) }

/-- FRAME_START (R564, R566, R578). -/
def State.frameStart (s : State) (k : Nat) : State :=
  if !s.camRuns k then s
  else
    let s1 := s.closeFrame k true
    if s1.freeRunning k then (s1.dropStreams k).openFrame k (to4816 s1.web.hwm) true (s1.camSet k s1.hwmLine).settings
    else
      match (s1.cam k).pending with
      | [] => (s1.camUncertain k).event (0x38 + k) 4 0
      | t :: _ => ((s1.dropStreams k).updCam k fun c => { c with pending := c.pending.drop 1 }).openFrame k t.pos false t.set

/-- FRAME_END (R578). -/
def State.frameEnd (s : State) (k : Nat) : State := s.closeFrame k false

/-- CSI_PACKET (R556 to R559, R579). -/
def State.csiPacket (s : State) (k : Nat) (p : CsiPacket) : State :=
  if !s.camRuns k then s
  else if p.eccBad then s.event (0x38 + k) 5 0
  else if p.vc != s.rd (O.CAM_VC k) || p.dataType != s.rd (O.DATA_TYPE k) then s
  else
    match (s.cam k).frame with
    | none => s
    | some f =>
      if p.overflow then (s.closeFrame k true).event (0x38 + k) 0xa 0
      else if s.rd (O.CAM_PORT_HEIGHT k) ≤ f.lines.length then
        if bit f.info.flags 1 then s
        else ((s.updCam k fun c => { c with frame := some { f with
          info := { f.info with flags := f.info.flags + flagLong } } }).inc (O.LONG_FRAMES k)).event (0x38 + k) 2 0
      else
        let w := s.rd (O.CAM_PORT_WIDTH k)
        let line := ((p.pixels ++ List.replicate w 0).take w).map (promote p.dataType)
        let s1 := s.updCam k fun c => { c with frame := some { f with
          lines := f.lines ++ [line], errors := if p.crcBad then f.errors ++ [f.lines.length] else f.errors } }
        if p.crcBad && f.errors.isEmpty then s1.event (0x38 + k) 5 0 else s1

/-- TRIGGER_TIMEOUT (R564, R565). -/
def State.triggerTimeout (s : State) (k : Nat) : State :=
  match (s.cam k).pending with
  | t :: _ =>
    if s.due t.since (s.rd (O.TRIGGER_TIMEOUT k) * ms) then
      (((s.updCam k fun c => { c with pending := c.pending.drop 1 }).camUncertain k).inc (O.MISSED_FRAMES k)).event
        (0x38 + k) 3 0
    else s
  | [] => s

/-! ### The port and its scripts (R560 to R562, R582, R593) -/

/-- R560, R8: a CCI script is valid, and its reserved bytes are 0. -/
def cciScriptOk (bs : List Byte) : Bool :=
  let n := (bs.length - 24) / 8
  24 ≤ bs.length && (bs.length - 24) % 8 == 0 && n ≤ 1024 &&
  ((List.range 4).all fun i => u16At bs (8 + 4 * i) + u16At bs (10 + 4 * i) ≤ n) &&
  ((bs.drop 2).take 6).all (· == 0#8) &&
  (List.range n).all fun e => 1 ≤ u8At bs (24 + 8 * e) && u8At bs (24 + 8 * e) ≤ 7 && u8At bs (31 + 8 * e) == 0

/-- R582, R8: a flat-field table fits the sensor, and its reserved bytes are 0. -/
def State.flatOk (s : State) (k : Nat) (bs : List Byte) : Bool :=
  u16At bs 0 == ceilDiv (s.rd (O.CAM_PORT_WIDTH k)) 16 + 1 &&
  u16At bs 2 == ceilDiv (s.rd (O.CAM_PORT_HEIGHT k)) 16 + 1 &&
  u32At bs 4 == 0 && bs.length == 8 + 4 * (u16At bs 0 * u16At bs 2)

/-- FLAT_VALID after a write of the table or of the sensor size. -/
def State.checkFlat (s : State) (k : Nat) : State :=
  s.wr (O.FLAT_VALID k) (b2n (s.flatOk k (s.domAll (0x3030 + k))))

/-- The port is brought up: INIT and then START run (R561). -/
def State.camStart (s : State) (k sect : Nat) : State :=
  if s.rdB (O.CAM_PORT_ENABLE k) then (s.wr (O.CAM_STATUS_STATE k) 1).runScript k sect (s.liveValues k) else s

/-- STOP runs (R561). -/
def State.camStop (s : State) (k : Nat) : State :=
  if s.rd (O.CAM_STATUS_STATE k) = 1 || s.rd (O.CAM_STATUS_STATE k) = 2 then
    ((s.wr (O.CAM_STATUS_STATE k) 3).updCam k fun c => { c with frame := none, pending := [] }).runScript k 2 (s.liveValues k)
  else s

/-- CCI_SCRIPT_DONE (R561, R562): script 0 INIT, 1 START, 2 STOP. -/
def State.cciDone (s : State) (k script : Nat) (ok : Bool) : State :=
  let st := s.rd (O.CAM_STATUS_STATE k)
  if script ≤ 1 then
    if st != 1 then s
    else if !ok then (s.wr (O.CAM_STATUS_STATE k) 4).event (0x38 + k) 6 0
    else if script = 0 then s.runScript k 1 (s.liveValues k)
    else s.wr (O.CAM_STATUS_STATE k) 2
  else if script = 2 then
    let s1 := if st = 3 && !s.rdB (O.CAM_PORT_ENABLE k) then s.wr (O.CAM_STATUS_STATE k) 0 else s
    if ok then s1 else s1.event (0x38 + k) 6 0
  else s

/-- The checks of CAM_PORT_k's values: the size and its multiples of the mosaic's cell (*Camera objects*). -/
def State.camPortOk (s : State) (k : Nat) : Bool :=
  let n := (mosaicCell (s.rd (O.MOSAIC k))).1
  let w := s.rd (O.CAM_PORT_WIDTH k)
  let h := s.rd (O.CAM_PORT_HEIGHT k)
  w % n == 0 && h % n == 0 && w * h ≤ 16777216 && s.rd (O.CFA_X k) < n && s.rd (O.CFA_Y k) < n

/-- The values of CAM_PORT_k are in effect: the pipeline is reconfigured (R561, R582). -/
def State.camPortApplied (s : State) (k : Nat) : State :=
  let s1 := (s.updCam k fun c => { c with frame := none, pending := [], outs := [], exclude := 0 }).checkFlat k
  if s1.rdB (O.CAM_PORT_ENABLE k) then s1.camStart k 0
  else
    let was := s1.rd (O.CAM_STATUS_STATE k)
    if was = 1 || was = 2 then (s1.wr (O.CAM_STATUS_STATE k) 3).runScript k 2 (s1.liveValues k)
    else s1.wr (O.CAM_STATUS_STATE k) 0

/-- An APPLY of CAM_LIVE_k admits a change with these values (R570, R573, R574). -/
def State.camLive (s : State) (k : Nat) (v : Nat × Nat × Nat) : Reply :=
  if s.mayAdmit k then .of Status.ok (s.takeSettings k v false) else .of Status.busy s

/-- SNAPSHOT (R590). -/
def State.snapshot (s : State) (v : Nat) : Reply :=
  if v = 0 then .of Status.empty s
  else .of Status.ok ((List.range 4).foldl (fun s k => s.updCam k fun c =>
    { c with snaps := (List.range 4).filter fun j => bit v (4 * k + j) || c.snaps.contains j }) s)

end Sys2Proof.Machine
end

