-- ==== Sys2Proof/Machine/Nozzle.lean ====
section
/-! DEFINITION. The nozzle maps and the alignment objects as they are written, coverage, fire counts, head binding and
test pages (R326 to R373, R616, R633). -/

namespace Sys2Proof.Machine

/-- The part itself changed an object marked P: an automatic store becomes pending (R130). -/
def State.autoStore (s : State) : State := { s with bank := { s.bank with pendingAuto := true } }

/-- Coverage is to be recomputed (R340). -/
def State.nozzleChanged (s : State) : State := { s with nozzle := { s.nozzle with changed := true } }

/-- What an object concerns in a test page's result (R370): 0 nozzle maps, 1 X_SHIFT, 2 ROW_POS. -/
def concerns (pattern what : Nat) : Bool :=
  match pattern with
  | 1 => what = 0
  | 3 => what = 1
  | 4 => what = 1 || what = 2
  | _ => false

/-- An object that the test page's result concerns was written since its composition began (R370). -/
def State.touched (s : State) (what : Nat) : State :=
  match s.nozzle.test with
  | some (pat, _, _) =>
    if s.nozzle.begun && concerns pat what then { s with nozzle := { s.nozzle with written := true } } else s
  | none => s

/-- The changed items of an OCT value, with their old values. -/
def changedItems (w n old new : Nat) : List (Nat × Nat) :=
  ((List.range n).filter fun i => octAt w old i != octAt w new i).map fun i => (i, octAt w old i)

/-- The journal of alignment changes gains the changed items (R611, R619). -/
def State.logItems (s : State) (key w n new : Nat) : State :=
  let old := s.rd key
  { s with inspect := { s.inspect with
      changes := (changedItems w n old new).map (fun e => AlignChange.item s.compose.next key w e.1 e.2) ++
        s.inspect.changes } }

/-- An open suspicion entry of the nozzle is closed (R616). -/
def State.closeSuspect (s : State) (seg row n : Nat) : State :=
  { s with inspect := { s.inspect with
      suspects := s.inspect.suspects.filter fun x => !(x.seg == seg && x.row == row && x.nozzle == n) } }

/-- A nozzle's entry is written: journal, suspicion and coverage follow (R293, R335, R616, R619). -/
def State.writeEntry (s : State) (seg row n e : Nat) : State :=
  let old := s.nozzleEntry seg row n
  let s1 := (s.setEntry seg row n e).closeSuspect seg row n
  ({ s1 with inspect := { s1.inspect with
      changes := .entry s.compose.next seg row n old :: s1.inspect.changes } } : State).nozzleChanged.touched 0

/-- X_SHIFT and STITCH_POS take values (R293). -/
def State.writeXShift (s : State) (v : Nat) : State :=
  (((s.logItems O.X_SHIFT 1 96 v).wr O.X_SHIFT v).nozzleChanged).touched 1

def State.writeStitch (s : State) (v : Nat) : State :=
  ((s.logItems O.STITCH_POS 1 15 v).wr O.STITCH_POS v).nozzleChanged

/-- R354: ROW_POS may take the value. -/
def State.rowPosOk (s : State) (v : Nat) : Bool :=
  (changedItems 4 96 (s.rd O.ROW_POS) v).all fun e => s.depthOk (e.1 % 6) (rowDelay (octAt 4 v e.1) s.pitch)

/-- A position fixed for the row in the lead is superseded before its fire instant: the row's lines from there on are assembled
and sent again with the position in effect (R359; DEDUCED, log 154). -/
def State.supersede (s : State) (seg row : Nat) : State :=
  match (s.row seg row).adopt with
  | none => s
  | some (w0, d) =>
    let s1 := s.updRow seg row fun r => { r with adopt := none }
    if rowDelay d s.pitch = rowDelay (s.row seg row).eff s.pitch then s1
    else
      let s2 := (s1.updRow seg row fun r => { r with lines := r.lines.filter (·.w < w0) }).moveRow seg row s.hwmLine
      (List.range (s.fire.nextAsm - w0)).foldl (fun s i => s.assembleRow seg row (w0 + i)) s2

/-- ROW_POS takes a value: each changed row holds its new position as pending (R351, R359). A row that is not fitted
fires nothing and adopts it at once (DEDUCED, log 32). -/
def State.writeRowPos (s : State) (v : Nat) : State :=
  let changed := changedItems 4 96 (s.rd O.ROW_POS) v
  let s1 := ((s.logItems O.ROW_POS 4 96 v).wr O.ROW_POS v).touched 2
  changed.foldl (fun (s : State) e =>
    let seg := e.1 / 6
    let row := e.1 % 6
    let d := octAt 4 v e.1
    if s.fitted seg row then
      (s.updRow seg row fun r => { r with pending := if d = r.eff then none else some (d, s.compose.next) }).supersede seg row
    else s.updRow seg row fun r => { r with eff := d, pending := none, adopt := none }) s1

/-! ### Host writes and the loops (R633) -/

/-- The update concerns one of these rows (by 6 × s + p) or a nozzle of them. -/
def LoopUpdate.rowKey : LoopUpdate → Nat
  | .state seg row _ _ => 6 * seg + row
  | .gain seg row _ _ => 6 * seg + row
  | .density seg row _ => 6 * seg + row
  | .register seg row _ _ => 6 * seg + row

/-- The nozzle of an update, none for a row's. -/
def LoopUpdate.nozzle? : LoopUpdate → Option Nat
  | .state _ _ n _ => some n
  | .gain _ _ n _ => some n
  | .density _ _ _ => none
  | .register _ _ _ _ => none

/-- R633: a host write to these rows, or to nozzles lo ≤ n < hi of them, discards their queued updates and resets the
rows' counts. -/
def State.hostTouch (s : State) (keys : List Nat) (nozzles : Option (Nat × Nat)) : State :=
  let hit (u : LoopUpdate) : Bool :=
    keys.contains u.rowKey && match u.nozzle?, nozzles with
      | some n, some (lo, hi) => lo ≤ n && n < hi
      | _, _ => true
  let gone := s.inspect.queue.filter hit
  let s1 := ({ s with inspect := { s.inspect with queue := s.inspect.queue.filter (!hit ·) } } : State).add
    O.UPDATES_DISCARDED gone.length
  keys.foldl (fun s k => s.updLoopRow k fun r => { r with errors := [] }) s1

/-! ### Maps (R330 to R337) -/

/-- R331: a nozzle map is valid. -/
def nozzleMapOk (bs : List Byte) : Bool :=
  bs.length == 41504 && u16At bs 0 == 1 && u16At bs 2 == 6 && u16At bs 4 == 3456 && u16At bs 6 == 0 &&
  ((bs.drop 16).take 16).all (· == 0#8) &&
  (List.range 20736).all fun i => nozzleEntryOk (u16At bs (32 + 2 * i))

/-- The entries of a map that differ from the one in effect: row, nozzle, old entry. -/
def State.mapDiff (s : State) (seg : Nat) (bs : List Byte) : List (Nat × Nat × Nat) :=
  (List.range 20736).filterMap fun i =>
    let old := s.nozzleEntry seg (i / 3456) (i % 3456)
    if old = u16At bs (32 + 2 * i) then none else some (i / 3456, i % 3456, old)

/-- R332: a map replaces the one in effect in one step. -/
def State.replaceMap (s : State) (seg : Nat) (bs : List Byte) : State :=
  let diff := s.mapDiff seg bs
  let s1 := (diff.foldl (fun (s : State) e => s.closeSuspect seg e.1 e.2.1) s).domReplace (0x2510 + seg) bs
  ({ s1 with inspect := { s1.inspect with
      changes := diff.map (fun e => AlignChange.entry s.compose.next seg e.1 e.2.1 e.2.2) ++ s1.inspect.changes } }
    : State).nozzleChanged.touched 0

/-- NOZZLE_EDIT with its values (R335 to R337). -/
def State.nozzleEdit (s : State) (seg row first count entry : Nat) : Reply :=
  if 3456 < first + count || !nozzleEntryOk entry then .of Status.range s
  else if count = 0 then .of Status.empty s
  else
    let gen := (s.dom (0x2510 + seg)).gen
    let s1 := (List.range count).foldl (fun s i => s.writeEntry seg row (first + i) entry) s
    let d := s1.dom (0x2510 + seg)
    .of Status.ok ((s1.setDom (0x2510 + seg) { d with gen := (gen + 1) % 2 ^ 32 }).hostTouch [6 * seg + row]
      (some (first, first + count)))

/-- The default map carrying a serial number. -/
def defaultMap (serial : Nat) : List Byte :=
  (List.range 41504).map fun i => if 8 ≤ i && i < 16 then toByte (serial / 256 ^ (i - 8)) else nozzleFill i

/-- HEAD_SERIAL of a segment's map. -/
def State.mapSerial (s : State) (seg : Nat) : Nat := leNat (s.domRead (0x2510 + seg) 8 8)

/-- The fire counts of a segment and their remainders go to 0. -/
def State.zeroCounts (s : State) (seg : Nat) : State :=
  let s1 := s.domReplace (0x2520 + seg) (List.replicate 82944 0#8)
  { s1 with nozzle := { s1.nozzle with
      remainders := s1.nozzle.remainders.filter fun e => e.1 / 20736 != seg } }

/-- R333, R334: the serial number of the head module that came up. -/
def State.bindHead (s : State) (seg serial : Nat) : State :=
  let had := s.mapSerial seg
  if had = serial then s
  else if had = 0 then ((s.domPatch (0x2510 + seg) 8 (natLE 8 serial)).touched 0).autoStore
  else (((s.replaceMap seg (defaultMap serial)).zeroCounts seg).warn (0x20 + seg) 0x20 (0x2510 + seg) 0 []).autoStore

/-! ### Coverage (R338 to R341) -/

/-- Column x of row p prints after stitch selection: the nozzle that must print it is GOOD or WEAK, or in an overlap either of
the two (R315, R339, R349). -/
def State.columnPrints (s : State) (row x : Nat) : Bool :=
  let good (a : Nat × Nat) : Bool := entryPrints (s.nozzleEntry a.1 row a.2)
  match s.reaching row x with
  | [] => false
  | [a] => good a
  | a :: b :: _ => good b || (s.inOverlap b.1 row x && good a)

/-- R339. -/
def State.uncoverableAt (s : State) (row x : Nat) : Bool :=
  let p (y : Nat) : Bool := y < barColumns && s.columnPrints row y
  !p x && (!((1 ≤ x && p (x - 1)) || (2 ≤ x && p (x - 2))) || !(p (x + 1) || p (x + 2)))

/-- The segment that an uncoverable column counts for: the highest that reaches it, else the nearest. -/
def State.columnSegment (s : State) (row x : Nat) : Nat :=
  match (s.reaching row x).getLast? with
  | some a => a.1
  | none => min 15 (x / 3328)

/-- Nozzles of every map with a state. -/
def State.countState (s : State) (st : Nat) : Nat :=
  (List.range 16).foldl (fun n seg =>
    n + ((List.range 20736).filter fun i => entryState (s.nozzleEntry seg (i / 3456) (i % 3456)) == st).length) 0

/-- COVERAGE_RECOMPUTE (R340). FIRST_* names the lowest segment, then row, then column (log 33). -/
def State.recomputeCoverage (s : State) : State :=
  if !s.nozzle.changed then s
  else
    let found := (List.range 6).flatMap fun row => ((List.range barColumns).filter (s.uncoverableAt row)).map fun x =>
      (row, x, s.columnSegment row x)
    let isNew (e : Nat × Nat × Nat) : Bool := !s.nozzle.uncoverable.contains (e.1 * 65536 + e.2.1)
    let s1 := (found.filter isNew).foldl (fun (s : State) e =>
      s.warn (0x10 + e.2.2) 0x10 0x2502 1 ([toByte e.1, 0#8] ++ natLE 2 e.2.1)) s
    let less (a b : Nat × Nat × Nat) : Bool :=
      a.2.2 < b.2.2 || (a.2.2 == b.2.2 && (a.1 < b.1 || (a.1 == b.1 && a.2.1 < b.2.1)))
    let first := found.foldl (fun (m : Option (Nat × Nat × Nat)) e =>
      match m with
      | some x => if less e x then some e else m
      | none => some e) none
    let f := first.getD (0xff, 0, 0xff)
    ({ s1 with nozzle := { s1.nozzle with
        changed := false, uncoverable := found.map fun e => e.1 * 65536 + e.2.1 } } : State).wrs
      [(O.UNCOVERABLE, found.length), (O.FIRST_SEGMENT, f.2.2), (O.FIRST_ROW, f.1), (O.FIRST_COLUMN, f.2.1),
       (O.COVERAGE_DEAD, s.countState 2), (O.COVERAGE_WEAK, s.countState 1), (O.COVERAGE_MASKED, s.countState 3)]

/-! ### Fire counts (R342 to R345) -/

/-- FIRE_COUNT_UPDATE (R344): whole units of 65 536 drops go into FIRE_COUNTS. -/
def State.addCounts (s : State) : State :=
  let full := s.nozzle.remainders.filter fun e => 65536 ≤ e.2
  let s1 := full.foldl (fun (s : State) e =>
    let idx := 0x2520 + e.1 / 20736
    let o := 4 * (e.1 % 20736)
    s.domPatch idx o (natLE 4 (min (2 ^ 32 - 1) (leNat (s.domRead idx o 4) + e.2 / 65536)))) s
  { s1 with nozzle := { s1.nozzle with
      remainders := full.foldl (fun m e => mapSet m e.1 (e.2 % 65536) 0) s1.nozzle.remainders } }

/-! ### Test pages (R360 to R371) -/

/-- A test page of the active set has no final outcome. -/
def State.testOpen (s : State) : Bool :=
  match s.jobs.active with
  | some a => a.pages.any fun p => p.test.isSome && p.outcome.isNone
  | none => false

/-- TEST_PAGE_APPLY with the values of the record (R363, R364). Test pages take numbers above every PAGE_SEQ inside the
model; they have no PAGE_SEQ. -/
def State.placeTest (s : State) (pattern rows level flags rep : Nat) : Reply :=
  if rows = 0 || (bit flags 0 && (pattern = 2 || pattern = 5 || pattern = 6)) then .of Status.range s
  else
    match s.jobs.active with
    | none => .of Status.state s
    | some a =>
      if a.closed then .of Status.state s
      else if s.testOpen then .of Status.busy s
      else
        let start := a.nextStart
        let len := rep * patternLines pattern rows
        let n := 2 ^ 32 + (a.pages.filter (·.test.isSome)).length
        let pg : Page :=
          { seq := n, length := len, useBg := false, bgLine := 0, tag := 0, desc := [], objs := [], start := some start
            stored := true, test := some (pattern, rows, level, flags), spoil := ⟨[], []⟩, composed := 0, fired := false
            freed := false, outcome := none, unmirrored := false }
        let s1 := s.updSet true fun j => { j with pages := j.pages ++ [pg], begun := true }
        .of Status.ok (({ s1 with nozzle := { s1.nozzle with
            test := some (pattern, rows, flags), begun := false, written := false } } : State).wrs
          [(O.TEST_STATUS_STATE, 1), (O.TEST_STATUS_START, start * 65536), (O.TEST_LENGTH, len), (O.TEST_OUTCOME, 0),
           (O.TEST_RESULT, 0)])

/-- The state that a dash shows (*Test pattern results*, pattern 1). -/
def State.dashState (s : State) (d : Bool × Nat × Nat) : Nat :=
  if !d.1 then 2 else if s.rd O.WEAK_OFFSET < d.2.1 || d.2.2 < s.rd O.WEAK_DENSITY then 1 else 0

/-- The nozzle states of a result of pattern 1 are accepted (R369, R328, R329). -/
def State.acceptStates (s : State) : State :=
  let bs := s.domAll 0x2544
  let moves := (indexed bs).filterMap fun e =>
    let seg := e.1 / 20736
    let row := e.1 % 20736 / 3456
    let n := e.1 % 3456
    let old := s.nozzleEntry seg row n
    let st := e.2.toNat
    if st = 255 || entryState old = 3 || entryState old = st then none
    else some (seg, row, n, movedEntry (s.rd O.DEFAULT_WEIGHT) old st)
  (moves.foldl (fun (s : State) m => s.writeEntry m.1 m.2.1 m.2.2.1 m.2.2.2) s).wr O.CHANGED_NOZZLES moves.length

/-- ACCEPT (R369, R370). -/
def State.accept (s : State) : Reply :=
  if s.rd O.TEST_RESULT != 1 then .of Status.state s
  else if s.nozzle.written then .of Status.state (s.wr O.TEST_RESULT 4)
  else
    let pat := match s.nozzle.test with | some t => t.1 | none => 0
    let done (s : State) : Reply := .of Status.ok ((s.wr O.TEST_RESULT 2).autoStore)
    let plain (s : State) : State := s.wr O.CHANGED_NOZZLES 0
    match pat with
    | 1 => done s.acceptStates
    | 3 => done ((plain s).writeXShift (s.rd O.MEASURED_X_SHIFT))
    | 4 =>
      if !s.rowPosOk (s.rd O.MEASURED_ROW_POS) then .of Status.state s
      else done (((plain s).writeRowPos (s.rd O.MEASURED_ROW_POS)).writeXShift (s.rd O.MEASURED_X_SHIFT))
    | _ => done (plain s)

/-- R366: the pattern determines X_SHIFT of the row with key 6 × s + p, of those in ROWS; row 0 of segment 0 is the anchor. -/
def shiftDetermined (pattern rows key : Nat) : Bool :=
  key < 96 && bit rows (key % 6) && (if pattern = 3 then 6 ≤ key else pattern = 4 && key != 0)

/-- R366: the pattern determines ROW_POS of the row; row 0 of each segment is the anchor. -/
def positionDetermined (pattern rows key : Nat) : Bool :=
  key < 96 && bit rows (key % 6) && pattern = 4 && key % 6 != 0

/-- TEST_RESULT_READY (R366 to R368, R371). What the pattern does not determine keeps the value in effect. -/
def State.testResult (s : State) (m : TestMeasurement) : State :=
  match s.nozzle.test with
  | none => s
  | some (pat, rows, flags) =>
    if s.rd O.TEST_STATUS_STATE != 3 then s
    else
      let shifts := m.shifts.filter fun e => shiftDetermined pat rows e.1
      let positions := m.positions.filter fun e => positionDetermined pat rows e.1
      let bad := !m.covered || s.rd O.TEST_OUTCOME = 2 ||
        (shifts.any fun e => e.2 < -32 || 32 < e.2) || (positions.any fun e => e.2 < 0 || 16776960 < e.2)
      let s1 := s.wr O.TEST_STATUS_STATE 4
      if bad then s1.wr O.TEST_RESULT 3
      else
        let s2 := s1.wrs
          [(O.MEASURED_X_SHIFT, shifts.foldl (fun v e => octSet 1 v e.1 (ofInt 8 e.2)) (s.rd O.X_SHIFT)),
           (O.MEASURED_ROW_POS, positions.foldl (fun v e => octSet 4 v e.1 (ofInt 32 e.2)) (s.rd O.ROW_POS))]
        let s3 := if pat = 1 then
            s2.setDom 0x2544 { s2.dom 0x2544 with
              gen := ((s2.dom 0x2544).gen + 1) % 2 ^ 32
              cells := (m.dashes.filter fun d => bit rows (d.1 % 20736 / 3456)).foldl
                (fun c d => mapSet c d.1 (toByte (s.dashState d.2)) 0xff#8) [] }
          else s2
        let s4 := s3.wr O.TEST_RESULT 1
        if bit flags 1 then s4.accept.state else s4

end Sys2Proof.Machine
end

