-- ==== Sys2Proof/Machine/Inspect.lean ====
section
/-! DEFINITION. The comparator: what it compares, the prediction, and the streaks, spots, density and register errors
that it finds (R595 to R625). Positions inside a frame are in 1/65 536 column and 1/65 536 line. -/

namespace Sys2Proof.Machine

/-! ### The reference store (R598) -/

/-- Reference lines that the store holds. -/
def State.refDepth (s : State) : Nat :=
  match s.jobs.reserved with
  | some r => r.refLines
  | none => s.refLinesNeeded

/-- Web line w lies in the reference store. -/
def State.refHas (s : State) (w : Int) : Bool :=
  let next := s.compose.next / 4
  0 ≤ w && w.toNat / 4 < next && next ≤ w.toNat / 4 + s.refDepth

/-- Reference pixel (i, m) of plane k. -/
def State.refPixel (s : State) (k i m : Nat) : Nat :=
  match s.compose.refs.find? (·.index == m) with
  | some r => mapGet r.pixels (k * 13344 + i) 0
  | none => 0

/-! ### Pages and regions (R596, R597) -/

/-- The page that a web line belongs to. -/
def State.spanAt (s : State) (w : Nat) : Option Span :=
  s.inspect.spans.find? fun p => p.start ≤ w && w < p.start + p.length

/-- R597: page line l, column x is covered by REGIONS_k of the set. -/
def JobSet.covers (j : JobSet) (k l x : Nat) : Bool :=
  let d := j.dom (0x311c + k)
  let n := d.size / 16
  let hit (mode : Nat) : Bool := (List.range n).any fun e =>
    let bs := d.read (domFill (0x311c + k)) (16 * e) 16
    u8At bs 12 == mode && u16At bs 0 ≤ x && x < u16At bs 0 + u16At bs 2 && u32At bs 4 ≤ l && l < u32At bs 4 + u32At bs 8
  n = 0 || (hit 0 && !hit 1)

/-- A REGIONS table is valid: 0 to 16 entries of 16 bytes, fields in range and reserved bytes 0 (R8, R597). -/
def regionsOk (bs : List Byte) : Bool :=
  bs.length % 16 == 0 && bs.length ≤ 256 && (List.range (bs.length / 16)).all fun e =>
    let b := (bs.drop (16 * e)).take 16
    u16At b 0 ≤ 53375 && 1 ≤ u16At b 2 && u16At b 2 ≤ 53376 && 1 ≤ u32At b 8 && u8At b 12 ≤ 1 &&
    (b.drop 13).all (· == 0#8)

/-! ### Footprints (R600) -/

/-- A frame with the moments that the footprints need: its trigger line less d_cam. -/
structure Shot where
  f : StreamFrame
  base : Int
  /-- RESP_k and WHITE_c of its pipeline -/
  camera : Nat
  channels : List Nat

/-- Left edge of stream column u, and upper edge of stream line r. -/
def Shot.x (t : Shot) (u : Int) : Int := t.f.map.x0 * 256 + u * (t.f.map.dx : Nat)
def Shot.y (t : Shot) (r : Int) : Int := t.base * 65536 + t.f.map.y0 * 256 + r * t.f.map.dy

/-- The web line of the centre of stream line r, and the column of the centre of stream column u. -/
def Shot.line (t : Shot) (r : Nat) : Int := (t.y r + t.y (r + 1)) / 131072
def Shot.column (t : Shot) (u : Nat) : Int := (t.x u + t.x (u + 1)) / 131072

/-- The web lines of the frame: least and greatest. -/
def Shot.span (t : Shot) : Int × Int :=
  let a := t.y 0
  let b := t.y t.f.height
  (min a b / 65536, (max a b - 1) / 65536)

/-- The observed value of channel c at (u, r), in 12 bits (R605). -/
def Shot.observed (t : Shot) (c u r : Nat) : Int :=
  let n := t.channels.length
  let v := t.f.pixels.getD ((r * t.f.width + u) * n + (t.channels.findIdx (· == c))) 0
  if t.f.depth = 12 then (v : Nat) else (16 * v + 8 : Nat)

/-! ### The prediction (R602 to R604) -/

/-- A plane shifted against the others, in 1/65 536 column and line (R622). -/
structure PlaneShift where
  plane : Nat
  dx : Int
  dy : Int

/-- The transmittance resp(c, k, a). -/
def State.resp (s : State) (cam c k a : Nat) : Nat :=
  leNat (s.domRead (0x3110 + cam) (2 * (1536 * c + 256 * k + a)) 2)

/-- The planes that some row of the set prints. -/
def JobSet.printed (j : JobSet) : List Nat := (List.range 6).filter fun k => (List.range 6).any fun p => j.plane p == k

/-- R602: the predicted value of channel c at reference pixel (i, m). -/
def State.predictRef (s : State) (cam c : Nat) (i m : Nat) (sh : Option PlaneShift) : Nat :=
  let planes := match s.spanAt (4 * m + 2) with
    | some p => p.set.printed
    | none => []
  planes.foldl (fun v k =>
    let at' : Nat × Nat := match sh with
      | some x =>
        if x.plane = k then
          ((((4 * i + 2 : Nat) : Int) * 65536 - x.dx) / 262144 |>.toNat, (((4 * m + 2 : Nat) : Int) * 65536 - x.dy) / 262144 |>.toNat)
        else (i, m)
      | none => (i, m)
    (v * s.resp cam c k (s.refPixel k at'.1 at'.2) + 32768) / 65536) (s.rd (O.WHITE cam c))

/-- Indices n whose centre 4n + 2 lies in lo ≤ · < hi. -/
def centres (lo hi : Int) (top : Nat) : List Nat :=
  let a := (lo / 262144 - 1).toNat
  let b := (hi / 262144 + 1).toNat
  (List.range (b + 1 - a)).filterMap fun j =>
    let n := a + j
    let c : Int := ((4 * n + 2 : Nat) : Int) * 65536
    if n < top && lo ≤ c && c < hi then some n else none

/-- R604: the predicted value of channel c at (u, r), its footprint moved by (ax, ay). -/
def State.predict (s : State) (t : Shot) (c u r : Nat) (ax ay : Int) (sh : Option PlaneShift) : Int :=
  let x0 := t.x u + ax
  let x1 := t.x (u + 1) + ax
  let ya := t.y r + ay
  let yb := t.y (r + 1) + ay
  let is := centres x0 x1 13344
  let js := centres (min ya yb) (max ya yb) (2 ^ 62)
  let one (i m : Nat) : Nat := s.predictRef t.camera c i m sh
  if is.isEmpty || js.isEmpty then
    let i := (clampI 0 13343 ((x0 + x1) / 2 / 262144)).toNat
    let m := ((ya + yb) / 2 / 262144).toNat
    (one i m : Nat)
  else
    (meanRounded (is.flatMap fun i => js.map fun m => one i m) : Nat)

/-- R605: darkness of a value v of channel c; where it is negative the quotient is truncated (log 131). -/
def darkness (white : Nat) (v : Int) : Int := (((white : Int) - v) * 4096).tdiv (max 1 white : Nat)

/-! ### Attribution (R606 to R608) -/

/-- The rows that print plane k alone, when it is attributable (R606). -/
def JobSet.attributable (j : JobSet) (k : Nat) : Option (List Nat) :=
  match (List.range 6).filter fun p => j.plane p == k with
  | [p] => if j.paired p then none else some [p]
  | [p, q] => if j.paired p && q = p + 1 && p % 2 = 0 then some [p, q] else none
  | _ => none

/-- Channel c is attributed to plane k (R606). -/
def State.attributed (s : State) (cam c k : Nat) : Bool := bit (octAt 1 (s.rd (O.ATTRIB cam)) c) k

/-- The rows to which channel c gives findings; none when they feed no loop (R607). -/
def State.rowsOfChannel (s : State) (cam c : Nat) (j : JobSet) : List (Option Nat) :=
  let rows := ((List.range 6).filter (s.attributed cam c)).flatMap fun k => (j.attributable k).getD []
  if rows.isEmpty then [none] else rows.map some

/-- Row p owns web line w (R312, R608). -/
def ownsLine (j : JobSet) (p : Option Nat) (w : Nat) : Bool :=
  match p with
  | some p => !j.skips p w
  | none => true

/-- The rows with an attributable plane: row, plane and the channel that is attributed to it. -/
def State.attributableRows (s : State) (t : Shot) (j : JobSet) : List (Nat × Nat × Nat) :=
  (List.range 6).flatMap fun k =>
    match j.attributable k, t.channels.find? fun c => s.attributed t.camera c k with
    | some rows, some c => rows.map fun p => (p, k, c)
    | _, _ => []

/-! ### The alignment in effect for a line (R611, R619) -/

/-- The line from which the change holds. -/
def AlignChange.from' : AlignChange → Nat
  | .item line _ _ _ _ => line
  | .entry line _ _ _ _ => line
  | .adopted line _ => line

/-- The change undone. -/
def State.undo (s : State) (c : AlignChange) : State :=
  match c with
  | .item _ key w i old => s.wr key (octSet w (s.rd key) i old)
  | .entry _ seg row n old => s.setEntry seg row n old
  | .adopted _ _ => s

/-- The state with the alignment objects as they were for the composition of web line w. -/
def State.alignAt (s : State) (w : Nat) : State :=
  (s.inspect.changes.filter fun c => w < c.from').foldl State.undo s

/-- R619: the change touches the print of nozzle n of row p of segment s. A ROW_POS touches it as it is written and as the row
adopts it (log 168). -/
def AlignChange.touches (c : AlignChange) (seg row n : Nat) : Bool :=
  match c with
  | .entry _ s r m _ => s == seg && r == row && m == n
  | .item _ key _ i _ =>
    if key = O.STITCH_POS then (i == seg && 3328 ≤ n) || (i + 1 == seg && n < 128)
    else i == 6 * seg + row
  | .adopted _ key => key == 6 * seg + row

/-- The first line composed after the last change that touches the nozzle. -/
def State.judgedFrom (s : State) (seg row n : Nat) : Nat :=
  ((s.inspect.changes.filter (·.touches seg row n)).map AlignChange.from').foldl max 0

/-! ### Streaks (R609 to R612) -/

/-- The median of some numbers; the mean of the middle two of an even count, rounded down. -/
def median (xs : List Int) : Int :=
  let ys := xs.mergeSort (· ≤ ·)
  let n := ys.length
  if n = 0 then 0
  else if n % 2 = 1 then ys.getD (n / 2) 0
  else (ys.getD (n / 2 - 1) 0 + ys.getD (n / 2) 0) / 2

/-- S(u) for every column with a mean (R609). -/
def streakValues (means : List (Option Int)) : List Int :=
  (List.range means.length).map fun u =>
    match means.getD u none with
    | none => 0
    | some m =>
      let near := (List.range 8).flatMap fun d =>
        (if d + 2 ≤ u then [means.getD (u - d - 2) none] else []) ++ [means.getD (u + d + 2) none]
      m - median (near.filterMap id)

/-- R610: column u is a streak. -/
def isStreak (sv : List Int) (tol u : Nat) : Bool :=
  let a (i : Nat) : Nat := (sv.getD i 0).natAbs
  tol ≤ a u && (u = 0 || a (u - 1) < a u) && a (u + 1) < a u

/-- R610: the centre column of streak u, moved by the anchor offset ax. -/
def streakColumn (t : Shot) (sv : List Int) (u : Nat) (ax : Int) : Int :=
  let v (i : Int) : Int := if 0 ≤ i then sv.getD i.toNat 0 else 0
  let b : Int := ((v (u - 1)).natAbs + (v u).natAbs + (v (u + 1)).natAbs : Nat)
  let num := (2 * (u : Int) + 1) * b + 2 * (v (u + 1) - v (u - 1))
  ((t.f.map.x0 * 256 + ax) * 2 * b + num * (t.f.map.dx : Nat)) / (65536 * 2 * b)

/-! ### Spots (R613) -/

/-- Pixels of rest that touch comp, and the others; fuel bounds the growth. -/
def growSpot : Nat → List (Nat × Nat) → List (Nat × Nat) → List (Nat × Nat) × List (Nat × Nat)
  | 0, comp, rest => (comp, rest)
  | fuel + 1, comp, rest =>
    let near (a b : Nat × Nat) : Bool :=
      (a.1 == b.1 && (a.2 + 1 == b.2 || b.2 + 1 == a.2)) || (a.2 == b.2 && (a.1 + 1 == b.1 || b.1 + 1 == a.1))
    let add := rest.filter fun x => comp.any (near x)
    if add.isEmpty then (comp, rest) else growSpot fuel (comp ++ add) (rest.filter fun x => !add.contains x)

/-- The connected areas of a set of pixels. -/
def spotAreas : Nat → List (Nat × Nat) → List (List (Nat × Nat))
  | 0, _ => []
  | _, [] => []
  | fuel + 1, x :: rest =>
    let r := growSpot rest.length [x] rest
    r.1 :: spotAreas fuel r.2

/-! ### Register (R622 to R625) -/

/-- The place of the least cost on the grid −n to n, first in ascending order. -/
def leastAt (n : Nat) (cost : Int → Int → Nat) : Int × Int :=
  let grid : List Int := (List.range (2 * n + 1)).map fun (i : Nat) => (i : Int) - (n : Int)
  let all := grid.flatMap fun dy => grid.map fun dx => (dx, dy)
  all.foldl (fun best p => if cost p.1 p.2 < cost best.1 best.2 then p else best) (-(n : Int), -(n : Int))

/-- The parabola through three costs: the offset of its least point from the middle one, in quarters of the step. -/
def parabola (a b c : Nat) : Int :=
  let den : Int := 2 * ((a : Int) - 2 * b + c)
  if den ≤ 0 then 0 else (2 * 4 * ((a : Int) - c) + den) / (2 * den)

/-- R622: the shift of a plane in 1/16 pixel, and whether it lies at the edge of the search range. -/
def shiftOf (search : Nat) (cost : Int → Int → Nat) : (Int × Int) × Bool :=
  let n := 4 * search
  let p := leastAt n cost
  let edge := p.1.natAbs = n || p.2.natAbs = n
  let fx := if p.1.natAbs = n then 0 else parabola (cost (p.1 - 1) p.2) (cost p.1 p.2) (cost (p.1 + 1) p.2)
  let fy := if p.2.natAbs = n then 0 else parabola (cost p.1 (p.2 - 1)) (cost p.1 p.2) (cost p.1 (p.2 + 1))
  ((4 * p.1 + fx, 4 * p.2 + fy), edge)

/-- An offset of so many 1/16 pixels along x, in 1/65 536 column; along y, in 1/65 536 line. -/
def Shot.dx16 (t : Shot) (n : Int) : Int := n * (t.f.map.dx : Nat) / 16
def Shot.dy16 (t : Shot) (n : Int) : Int := n * t.f.map.dy / 16

/-- Pixel (u, r) is compared on a page: its centre lies on the page and in the regions (R596). -/
def comparedAt (t : Shot) (p : Span) (u r : Nat) : Bool :=
  let l := t.line r
  let x := t.column u
  0 ≤ l && 0 ≤ x && x < 53376 && !p.test && p.start ≤ l.toNat && l.toNat < p.start + p.length &&
  p.set.covers t.camera (l.toNat - p.start) x.toNat

/-- The segment whose columns hold the centre of stream column u. -/
def Shot.segment (t : Shot) (u : Nat) : Nat := min 15 ((t.column u).toNat / 3328)

/-- The compared pixels of a page, in line order. -/
def pixelsOf (t : Shot) (p : Span) : List (Nat × Nat) :=
  (List.range t.f.height).flatMap fun r => ((List.range t.f.width).filter fun u => comparedAt t p u r).map fun u => (u, r)

/-- R622: the shift of row p (plane k, channel c) of segment seg on the page; none when nothing of it is compared. -/
def State.rowShift (s : State) (t : Shot) (p : Span) (px : List (Nat × Nat)) (seg row k c : Nat) :
    Option ((Int × Int) × Bool) :=
  let own := px.filter fun e => t.segment e.1 == seg && ownsLine p.set (some row) (t.line e.2).toNat
  if own.isEmpty then none
  else some <| shiftOf (t.f.set.rd (O.REG_SEARCH t.camera)) fun dx dy =>
    own.foldl (fun n e =>
      let d := t.observed c e.1 e.2 - s.predict t c e.1 e.2 0 0 (some ⟨k, t.dx16 (4 * dx), t.dy16 (4 * dy)⟩)
      n + (d * d).toNat) 0

/-! ### One frame on one page -/

/-- The anchor offsets of the segments, in 1/16 pixel (R623); none where the search of row 0 ended at the edge (R624). -/
def State.anchors (s : State) (t : Shot) (p : Span) (px : List (Nat × Nat)) : List (Option (Int × Int)) :=
  let row0 := (s.attributableRows t p.set).find? (·.1 == 0)
  (List.range 16).map fun seg =>
    if !bit (t.f.set.rd (O.FINDINGS t.camera)) 3 then some (0, 0)
    else match row0 with
    | some e => match s.rowShift t p px seg 0 e.2.1 e.2.2 with
      | some (sh, edge) => if edge then none else some sh
      | none => some (0, 0)
    | none => some (0, 0)

/-- What a frame finds on a page. -/
def State.findOn (s : State) (t : Shot) (p : Span) : FrameFindings × Nat :=
  let all := pixelsOf t p
  let anchors := s.anchors t p all
  let anchor (u : Nat) : Option (Int × Int) := anchors.getD (t.segment u) none
  let px := all.filter fun e => (anchor e.1).isSome
  let lost := ((List.range 16).filter fun g => (anchors.getD g none).isNone).length
  let set := t.f.set
  let v (o : Nat → Nat) : Nat := set.rd (o t.camera)
  let on (i : Nat) : Bool := bit (v O.FINDINGS) i
  let off (u : Nat) : Int × Int := let a := (anchor u).getD (0, 0); (t.dx16 a.1, t.dy16 a.2)
  let pred (c u r : Nat) : Int := s.predict t c u r (off u).1 (off u).2 none
  let res (c u r : Nat) : Int := t.observed c u r - pred c u r
  let dark (c u r : Nat) : Int := darkness (s.rd (O.WHITE t.camera c)) (pred c u r)
  let inRange (c u r : Nat) : Bool := (v O.DENS_LO : Nat) ≤ dark c u r && dark c u r ≤ (v O.DENS_HI : Nat)
  let lineOf (r : Nat) : Nat := (t.line r).toNat
  let groups : List (Nat × Option Nat) := t.channels.flatMap fun c => (s.rowsOfChannel t.camera c p.set).map fun g => (c, g)
  let column (g : Option Nat) (u : Nat) : List (Nat × Nat) :=
    px.filter fun e => e.1 == u && ownsLine p.set g (lineOf e.2)
  let values (c : Nat) (g : Option Nat) : List Int :=
    streakValues <| (List.range t.f.width).map fun u =>
      let es := column g u
      if es.isEmpty then none
      else some (roundDivAway (es.foldl (fun n e => n + res c e.1 e.2) 0) es.length)
  let streakCols (c : Nat) (g : Option Nat) : List Nat :=
    if on 0 then (List.range t.f.width).filter (isStreak (values c g) (v O.STREAK_TOL)) else []
  let streaks : List Streak := groups.flatMap fun cg =>
    (streakCols cg.1 cg.2).filterMap fun u =>
      let sv := values cg.1 cg.2
      let x := streakColumn t sv u (off u).1
      let es := column cg.2 u
      match es with
      | [] => none
      | e :: _ =>
        let first := lineOf e.2
        let lines := es.map fun e => lineOf e.2
        let col := match cg.2 with
          | some row => if 0 ≤ x && x < 53376 then
              (s.alignAt first).column p.set false row (p.set.plane row) (first - p.start) x.toNat
            else ⟨none, false, 0, 0, 0⟩
          | none => ⟨none, false, 0, 0, 0⟩
        some { camera := t.camera, row := cg.2, nozzle := if col.prints then col.nozzle else none
               column := x.toNat, value := sv.getD u 0
               dead := (v O.DEAD_DEPTH : Nat) ≤ sv.getD u 0, frame := t.f.info.no, tb := t.f.info.tb
               first := lines.foldl min first, last := lines.foldl max first }
  let spotSets : List (Nat × List (Nat × Nat)) := if !on 1 then [] else t.channels.flatMap fun c =>
    let cols := (s.rowsOfChannel t.camera c p.set).flatMap (streakCols c)
    let out (sign : Int) : List (Nat × Nat) :=
      px.filter fun e => !cols.contains e.1 && (v O.SPOT_TOL : Nat) < sign * res c e.1 e.2
    ([1, -1].flatMap fun sign => let o := out sign; (spotAreas o.length o).filter fun a => v O.SPOT_AREA ≤ a.length).map
      fun a => (c, a)
  let spots : List Spot := spotSets.map fun ca =>
    let c := ca.1
    let a := ca.2
    let peak := a.foldl (fun (m : Int) e => if m.natAbs < (res c e.1 e.2).natAbs then res c e.1 e.2 else m) 0
    let us := a.map fun e => (t.column e.1).toNat
    let ls := a.map fun e => lineOf e.2
    let lo := us.foldl min (us.headD 0)
    { camera := t.camera, value := peak, column := lo, columns := us.foldl max 0 + 1 - lo, tb := t.f.info.tb
      first := ls.foldl min (ls.headD 0), last := ls.foldl max 0 }
  let rows := s.attributableRows t p.set
  let density : List (Nat × Int × Int × Nat) := if !on 2 then [] else rows.flatMap fun e =>
    let c := e.2.2
    let bad := (s.rowsOfChannel t.camera c p.set).flatMap (streakCols c)
    let spotted := (spotSets.filter (·.1 == c)).flatMap (·.2)
    (List.range 16).filterMap fun seg =>
      let mine := px.filter fun q => (s.reaching e.1 (t.column q.1).toNat).map (·.1) == [seg] &&
        ownsLine p.set (some e.1) (lineOf q.2) && !bad.contains q.1 && !spotted.contains q && inRange c q.1 q.2
      if mine.isEmpty then none
      else some (6 * seg + e.1,
        mine.foldl (fun n q => n + darkness (s.rd (O.WHITE t.camera c)) (t.observed c q.1 q.2)) 0,
        mine.foldl (fun n q => n + dark c q.1 q.2) 0, mine.length)
  let register : List (Nat × Int × Int) := if !on 3 then [] else (List.range 16).flatMap fun seg =>
    match anchors.getD seg none with
    | none => []
    | some a => (rows.filter (·.1 != 0)).filterMap fun e =>
      (s.rowShift t p all seg e.1 e.2.1 e.2.2).map fun r =>
        (6 * seg + e.1, (r.1.2 - a.2) * t.f.map.dy, (r.1.1 - a.1) * (t.f.map.dx : Nat))
  let coverage : List Coverage := groups.filterMap fun cg => cg.2.map fun row =>
    { row := row, x0 := t.f.map.x0 * 256, dx := t.f.map.dx
      columns := (List.range t.f.width).map fun u =>
        (u, ((column (some row) u).filter fun e => inRange cg.1 e.1 e.2).map fun e => lineOf e.2) }
  let ls := px.map fun e => lineOf e.2
  ({ job := p.job, page := p.page, camera := t.camera, coverage := coverage, streaks := streaks, spots := spots
     density := density, register := register, tb := t.f.info.tb, first := ls.foldl min (ls.headD 0)
     last := ls.foldl max 0 }, lost)

/-! ### FRAME_COMPARE and REFERENCE_LATE (R595, R599) -/

/-- The frame is excluded and counted. -/
def State.excludeFrame (s : State) : State := s.inc O.FRAMES_EXCLUDED

/-- The pages whose lines a frame shows. -/
def State.spansOf (s : State) (t : Shot) : List Span :=
  s.inspect.spans.filter fun p => (List.range t.f.height).any fun r =>
    let l := t.line r
    0 ≤ l && p.start ≤ l.toNat && l.toNat < p.start + p.length

/-- A frame is compared with the prediction. -/
def State.compareShot (s : State) (t : Shot) : State :=
  (s.spansOf t).foldl (fun (s : State) p =>
    let r := s.findOn t p
    (List.range r.2).foldl (fun s _ => s.event 0x3c 1 0)
      { s with inspect := { s.inspect with found := s.inspect.found ++ [r.1] } }) (s.inc O.FRAMES_COMPARED)

/-- FRAME_COMPARE: the oldest waiting comparator frame of pipeline k. -/
def State.frameCompare (s : State) (k : Nat) : State :=
  let s0 := s.deliverDone k
  match (s0.cam k).compare with
  | [] => s0
  | f :: rest =>
    let s1 := s0.updCam k fun c => { c with compare := rest }
    let t : Shot := ⟨f, ((f.info.pos / 65536 : Nat) : Int) - (s1.camDist k : Nat), k, (List.range 4).filter (bit f.mask)⟩
    let flags := f.info.flags
    let span := t.span
    if bit flags 0 || bit flags 2 || bit flags 3 || bit flags 5 || (s1.dom (0x3110 + k)).size = 0 then s1.excludeFrame
    else if !s1.refHas span.1 || !s1.refHas span.2 then s1.excludeFrame.event 0x3c 2 0
    else s1.compareShot t

/-- REFERENCE_LATE: 10 ms after its last line the oldest frame of pipeline k has not been compared. -/
def State.referenceLate (s : State) (k : Nat) : State :=
  let s0 := s.deliverDone k
  match (s0.cam k).compare with
  | [] => s0
  | f :: rest =>
    if s0.due f.arrived (10 * ms) then
      ((s0.updCam k fun c => { c with compare := rest }).excludeFrame).event 0x3c 6 0
    else s0

end Sys2Proof.Machine
end

