-- ==== Sys2Proof/Machine/InspectLoops.lean ====
section
/-! DEFINITION. What the findings of a page lead to: observations and confirmations, density ratios, register errors,
defect records, and the updates that the loops write at page boundaries (R614 to R638). -/

namespace Sys2Proof.Machine

/-! ### The suspicion table (R614 to R618) -/

/-- The bytes of an open entry (R638). -/
def Suspect.bytes (x : Suspect) (m n : Nat) : List Byte :=
  let seen := x.history.take n
  let hits := (seen.filter (0 < ·)).length
  let dead := m ≤ (seen.filter (· == 2)).length
  let kind := if x.recover.isSome then 3 else if dead then 1 else 2
  [toByte x.seg, toByte x.row] ++ natLE 2 x.nozzle ++ [toByte kind, toByte hits, toByte seen.length, 0#8] ++
    natLE 4 ((indexed (seen.take 32)).foldl (fun v e => setBit v e.1 (0 < e.2)) 0)

/-- SUSPECTS and SUSPECT_TABLE show the open entries. -/
def State.showSuspects (s : State) : State :=
  let bs := s.inspect.suspects.flatMap fun x => x.bytes (s.rd O.SUSPECT_M) (s.rd O.SUSPECT_N)
  let s1 := s.wr O.SUSPECTS s.inspect.suspects.length
  if s1.domAll 0x3121 = bs then s1 else s1.domReplace 0x3121 bs

/-- The entry is of this nozzle. -/
def Suspect.is (x : Suspect) (seg row n : Nat) : Bool := x.seg == seg && x.row == row && x.nozzle == n

def State.suspect? (s : State) (seg row n : Nat) : Option Suspect := s.inspect.suspects.find? (·.is seg row n)

/-- An entry is opened, where the table has room (R615, R617). -/
def State.openSuspect (s : State) (x : Suspect) : State :=
  { s with inspect := { s.inspect with suspects := s.inspect.suspects ++ [x] } }

/-- An update is queued (R628). -/
def State.queueUpdate (s : State) (u : LoopUpdate) : State :=
  { s with inspect := { s.inspect with queue := s.inspect.queue ++ [u] } }

/-- A nozzle is confirmed (R615, *Loop update order* 1 and 2). -/
def State.confirm (s : State) (x : Suspect) (dead : Bool) : State :=
  let s1 := s.closeSuspect x.seg x.row x.nozzle
  let st := entryState (s.nozzleEntry x.seg x.row x.nozzle)
  if 2 ≤ st then s1
  else if dead then if s.loops 0 then s1.queueUpdate (.state x.seg x.row x.nozzle 2) else s1
  else if st = 0 then if s.loops 0 then s1.queueUpdate (.state x.seg x.row x.nozzle 1) else s1
  else if s.loops 1 then s1.queueUpdate (.gain x.seg x.row x.nozzle x.light) else s1

/-- One observation of a nozzle: 0 a miss, 1 a WEAK hit, 2 a DEAD hit (R614 to R618). Answers whether it confirmed the
nozzle. -/
def State.observe (s : State) (seg row n kind : Nat) (light : Bool) : Bool × State :=
  let old := s.suspect? seg row n
  match old with
  | none =>
    if kind = 0 then (false, s)
    else if 4096 ≤ s.inspect.suspects.length then (false, (s.inc O.SUSPECT_DROPS).event 0x3c 3 0)
    else
      let x : Suspect := ⟨seg, row, n, [kind], light, none⟩
      let s1 := s.openSuspect x
      if s.rd O.SUSPECT_M ≤ 1 then (true, s1.confirm x (kind == 2)) else (false, s1)
  | some x0 =>
    let count := s.rd O.SUSPECT_N
    let x : Suspect :=
      { x0 with
        history := (kind :: x0.history).take 32
        light := if kind = 0 then x0.light else light
        recover := x0.recover.map fun c => if kind = 0 then c + 1 else 0 }
    let seen := x.history.take count
    let hits := (seen.filter (0 < ·)).length
    let m := s.rd O.SUSPECT_M
    let s1 : State :=
      { s with inspect := { s.inspect with
          suspects := s.inspect.suspects.map fun y => if y.is seg row n then x else y } }
    if 0 < hits && m ≤ hits then (true, s1.confirm x (m ≤ (seen.filter (· == 2)).length))
    else
      match x.recover with
      | some c =>
        if s.rd O.RECOVER_N ≤ c then
          let s2 := s1.closeSuspect seg row n
          (false, if s.loops 0 then s2.queueUpdate (.state seg row n 0) else s2)
        else (false, s1)
      | none => (false, if hits = 0 then s1.closeSuspect seg row n else s1)

/-- The lines of a frame that cover the nozzle's column and follow the last change that touches it (R614, R619). -/
def State.observedLines (s : State) (f : FrameFindings) (seg row n : Nat) : Nat :=
  match s.columnOf seg row n, f.coverage.find? (·.row == row) with
  | some x, some c =>
    let u := (((x * 65536 + 32768 : Nat) : Int) - c.x0) / (max 1 c.dx : Nat)
    if u < 0 then 0
    else ((mapGet c.columns u.toNat []).filter (s.judgedFrom seg row n ≤ ·)).length
  | _, _ => 0

/-- The observations of one frame: every nozzle that it hit or that has an open entry, once. Answers the nozzles that it
confirmed. -/
def State.observeFrame (s : State) (f : FrameFindings) : List (Nat × Nat × Nat) × State :=
  let hit (seg row n : Nat) : Option Streak := f.streaks.find? fun k => k.row == some row && k.nozzle == some (seg, n)
  let named := f.streaks.filterMap fun k => match k.row, k.nozzle with
    | some row, some a => some (a.1, row, a.2)
    | _, _ => none
  let all := (s.inspect.suspects.map (fun x => (x.seg, x.row, x.nozzle)) ++ named).eraseDups
  all.foldl (fun (r : List (Nat × Nat × Nat) × State) e =>
    if r.2.observedLines f e.1 e.2.1 e.2.2 < 16 then r
    else
      let k := hit e.1 e.2.1 e.2.2
      let kind := match k with | some k => if k.dead then 2 else 1 | none => 0
      let light := match k with | some k => 0 < k.value | none => false
      let x := r.2.observe e.1 e.2.1 e.2.2 kind light
      (if x.1 then r.1 ++ [e] else r.1, x.2)) ([], s)

/-! ### Density and register (R620 to R625, R630, R631) -/

/-- ρ of a row over the frames of a page, with 100 000 pixels or more (R621). -/
def densityRatio (fs : List FrameFindings) (key : Nat) : Option Int :=
  let xs := (fs.flatMap FrameFindings.density).filter (·.1 == key)
  let obs := xs.foldl (fun n x => n + x.2.1) 0
  let pred := xs.foldl (fun n x => n + x.2.2.1) 0
  let px := xs.foldl (fun n x => n + x.2.2.2) 0
  if 100000 ≤ px && 0 < pred then some ((4096 * obs).tdiv pred) else none

/-- The register error of a row averaged over the frames of a page: along-web in PU, cross-web in 1/256 dot (R625). -/
def State.registerMean (s : State) (fs : List FrameFindings) (key : Nat) : Option (Int × Int) :=
  let xs := (fs.flatMap FrameFindings.register).filter (·.1 == key)
  let n := xs.length
  if n = 0 then none
  else some (roundDivAway (xs.foldl (fun a x => a + x.2.1) 0 * 614400) (2 ^ 20 * s.pitch * n),
             roundDivAway (xs.foldl (fun a x => a + x.2.2) 0 * 256) (2 ^ 20 * n))

/-- A density ratio of a committed page: DENSITY_ERROR, and a queued step when the loop may take one (R621, R630). The ratio of the
latest committed page stands: what an earlier one queued goes. -/
def State.commitDensity (s : State) (p : Span) (key : Nat) (rho : Int) : State :=
  let s1 := s.wr O.DENSITY_ERROR (octSet 2 (s.rd O.DENSITY_ERROR) key (ofInt 16 (rho - 4096)))
  let older : State := { s1 with inspect := { s1.inspect with queue := s1.inspect.queue.filter fun u =>
    match u with
    | .density seg row _ => rowKey seg row != key
    | _ => true } }
  if s.rd O.DENS_DEADBAND < (rho - 4096).natAbs && s.loops 2 && (s.loopRow key).densityFrom ≤ p.start then
    older.queueUpdate (.density (key / 6) (key % 6) rho)
  else older

/-- A register error of a committed page (R625, R631). -/
def State.commitRegister (s : State) (key : Nat) (e : Option (Int × Int)) : State :=
  match e with
  | none => s.updLoopRow key fun r => { r with errors := [] }
  | some (a, c) =>
    let v := octSet 4 (octSet 4 (s.rd O.REGISTER_ERROR) (2 * key) (ofInt 32 a)) (2 * key + 1) (ofInt 32 c)
    let s1 := s.wr O.REGISTER_ERROR v
    let n := s.rd O.REG_PAGES
    if s.rd O.REG_DEADBAND < a.natAbs || s.rd O.REG_X_DEADBAND < c.natAbs then
      let errors := (((s.loopRow key).errors ++ [(a, c)]).reverse.take n).reverse
      if n ≤ errors.length && s.loops 3 then
        (s1.queueUpdate (.register (key / 6) (key % 6) (roundDivAway (errors.foldl (fun t x => t + x.1) 0) n)
          (roundDivAway (errors.foldl (fun t x => t + x.2) 0) (256 * n)))).updLoopRow key fun r => { r with errors := [] }
      else s1.updLoopRow key fun r => { r with errors := errors }
    else s1.updLoopRow key fun r => { r with errors := [] }

/-! ### Defect records (R634 to R636) -/

/-- A defect record but NUMBER (*Defect record*). -/
structure Defect where
  kind : Nat
  camera : Nat
  seg : Nat
  row : Nat
  first : Nat
  last : Nat
  column : Nat
  columns : Nat
  nozzle : Nat
  value : Int
  value2 : Int
  tb : Nat
  flags : Nat

def Defect.bytes (d : Defect) (number : Nat) (p : Span) : List Byte :=
  natLE 4 number ++ [toByte d.kind, toByte d.camera, toByte d.seg, toByte d.row] ++ natLE 4 p.job ++ natLE 4 p.page ++
  natLE 8 (d.first * 65536) ++ natLE 4 (d.first - p.start) ++ natLE 4 (d.last + 1 - d.first) ++ natLE 2 d.column ++
  natLE 2 d.columns ++ natLE 2 d.nozzle ++ natLE 2 0 ++ natLE 4 (ofInt 32 d.value) ++ natLE 4 (ofInt 32 d.value2) ++
  natLE 8 (tbNs d.tb % 2 ^ 64) ++ natLE 2 (tbFrac d.tb) ++ natLE 2 d.flags ++ natLE 4 0

/-- A record is numbered, logged and reported; DEFECTS saturates (R638). -/
def State.defect (s : State) (p : Span) (d : Defect) : State :=
  let n := min (s.rd O.DEFECT_COUNT + 1) 4294967295
  ((s.wr O.DEFECT_COUNT n).domPatch 0x3122 (64 * (n % 1024)) (d.bytes n p)).notice 0xa 0x3c d.kind 0x3122 0
    (natLE 4 n ++ [toByte d.camera, toByte d.seg, toByte d.row, 0#8] ++ natLE 4 p.page ++ natLE 2 d.nozzle)

/-- Two streaks that make one record: consecutive frames, the same nozzle or, unattributed, the same column (R635). -/
def Streak.joins (a b : Streak) : Bool :=
  a.camera == b.camera && a.row == b.row && b.frame == a.frame + 1 && a.nozzle == b.nozzle &&
  (a.nozzle.isSome || a.column == b.column)

/-- The streaks of a page gathered into records, each with its last streak: the larger |S| gives VALUE. -/
def gatherStreaks (ks : List Streak) : List (Streak × Streak) :=
  ks.foldl (fun acc k =>
    match acc.find? fun g => g.2.joins k with
    | some g => acc.map fun h =>
        if h.2 = g.2 then
          ({ h.1 with value := if h.1.value.natAbs < k.value.natAbs then k.value else h.1.value
                      first := min h.1.first k.first, last := max h.1.last k.last }, k)
        else h
    | none => acc ++ [(k, k)]) []

/-- The columns of a segment outside both overlaps. -/
def ownColumns (seg : Nat) : Nat × Nat :=
  let a := if seg = 0 then 0 else 3328 * seg + 128
  let b := if seg = 15 then 53376 else 3328 * (seg + 1)
  (a, b - a)

/-- The defect records of a page. fed tells whether its findings were committed; confirmed are the nozzles that they
confirmed, as (segment, row, nozzle); the update queue before the commit tells which rows fed a loop. -/
def State.defects (s : State) (fs : List FrameFindings) (fed : Bool) (confirmed : List (Nat × Nat × Nat)) :
    List Defect :=
  let ks := (gatherStreaks (fs.flatMap FrameFindings.streaks)).map (·.1)
  let streaks : List Defect := ks.map fun k =>
    let hit : Option (Nat × Nat × Nat) := match k.row, k.nozzle with
      | some row, some a => some (a.1, row, a.2)
      | _, _ => none
    { kind := if (0 : Int) < k.value then 1 else 2, camera := k.camera, seg := (hit.map (·.1)).getD 0xff
      row := k.row.getD 0xff, first := k.first, last := k.last, column := k.column, columns := 1
      nozzle := (hit.map (·.2.2)).getD 0xffff, value := k.value, value2 := 0, tb := k.tb
      flags := match hit with
        | some h => 1 + 2 * b2n fed + 4 * b2n (confirmed.contains h)
        | none => 0 }
  let spots : List Defect := (fs.flatMap FrameFindings.spots).map fun k =>
    { kind := 3, camera := k.camera, seg := 0xff, row := 0xff, first := k.first, last := k.last, column := k.column
      columns := k.columns, nozzle := 0xffff, value := k.value, value2 := 0, tb := k.tb, flags := 0 }
  let whole (kind key : Nat) (col : Nat × Nat) (v v2 : Int) (gs : List FrameFindings) (loop : Nat) : Option Defect :=
    gs.head?.map fun f =>
      { kind := kind, camera := f.camera, seg := key / 6, row := key % 6
        first := gs.foldl (fun a g => min a g.first) f.first, last := gs.foldl (fun a g => max a g.last) f.last
        column := col.1, columns := col.2, nozzle := 0xffff, value := v, value2 := v2, tb := f.tb
        flags := 1 + 2 * b2n (fed && s.loops loop) }
  let density := (List.range 96).filterMap fun key =>
    match densityRatio fs key with
    | some rho =>
      if s.rd O.DENS_DEADBAND < (rho - 4096).natAbs then
        whole 4 key (ownColumns (key / 6)) (rho - 4096) 0 (fs.filter fun f => f.density.any (·.1 == key)) 2
      else none
    | none => none
  let register := (List.range 96).filterMap fun key =>
    match s.registerMean fs key with
    | some (a, c) =>
      if s.rd O.REG_DEADBAND < a.natAbs || s.rd O.REG_X_DEADBAND < c.natAbs then
        let seg := key / 6
        whole 5 key (3328 * seg, if seg = 15 then 3456 else 3328) a c (fs.filter fun f => f.register.any (·.1 == key)) 3
      else none
    | none => none
  streaks ++ spots ++ density ++ register

/-! ### FINDINGS_COMMIT (R626, R627) -/

/-- The findings of a page enter the loops. -/
def State.commitFindings (s : State) (p : Span) (fs : List FrameFindings) : List (Nat × Nat × Nat) × State :=
  let r := fs.foldl (fun (r : List (Nat × Nat × Nat) × State) f =>
    let x := r.2.observeFrame f
    (r.1 ++ x.1, x.2)) ([], s.inc O.PAGES_COMMITTED)
  let s1 := (List.range 96).foldl (fun (s : State) key =>
    match densityRatio fs key with
    | some rho => s.commitDensity p key rho
    | none => s) r.2
  (r.1, (List.range 96).foldl (fun (s : State) key =>
    if key % 6 = 0 then s else s.commitRegister key (s.registerMean fs key)) s1)

/-- FINDINGS_COMMIT of a page whose outcome is final: its findings count when it was PRINTED; its defect records are made
in either case (log 34). -/
def State.findingsCommit (s : State) (job page : Nat) : State :=
  match s.inspect.spans.find? fun p => p.job == job && p.page == page && p.outcome.isSome with
  | none => s
  | some p =>
    let fs := s.inspect.found.filter fun f => f.job == job && f.page == page
    let fed := p.outcome == some 2
    let r := if fed then s.commitFindings p fs else ([], s)
    let s1 := (s.defects fs fed r.1).foldl (fun (s : State) d => s.defect p d) r.2
    ({ s1 with inspect := { s1.inspect with
        found := s1.inspect.found.filter fun f => !(f.job == job && f.page == page)
        spans := s1.inspect.spans.filter fun q => !(q.job == job && q.page == page) } } : State).showSuspects

/-! ### LOOP_UPDATE (R628 to R632) -/

/-- An update was written, or dropped. -/
def State.applied (s : State) : State := s.inc O.UPDATES_APPLIED
def State.refusedUpdate (s : State) : State := (s.inc O.UPDATES_DISCARDED).event 0x3c 4 0

/-- A gain clamped to 2 048 to 8 191, with the event when the clamp acts (R632). -/
def State.clampGain (s : State) (g : Int) : Nat × State :=
  ((clampI 2048 8191 g).toNat, if g < 2048 || 8191 < g then s.event 0x3c 5 0 else s)

/-- The recovery count of a WEAK nozzle opens (R618). -/
def State.openRecovery (s : State) (seg row n : Nat) : State :=
  if 4096 ≤ s.inspect.suspects.length || (s.suspect? seg row n).isSome then s
  else s.openSuspect ⟨seg, row, n, [], false, some 0⟩

/-- Order 1. -/
def State.applyState (s : State) (seg row n st : Nat) : State :=
  let e := s.nozzleEntry seg row n
  if entryState e = 3 then s
  else
    let s1 := (s.writeEntry seg row n (movedEntry (s.rd O.DEFAULT_WEIGHT) e st)).applied
    if st = 1 then s1.openRecovery seg row n else s1

/-- Order 2. -/
def State.applyGain (s : State) (seg row n : Nat) (up : Bool) : State :=
  let e := s.nozzleEntry seg row n
  if 2 ≤ entryState e then s
  else
    let step : Int := s.rd O.NOZZLE_GAIN_STEP
    let r := s.clampGain ((entryGain e : Nat) + (if up then step else -step))
    let s1 := (r.2.writeEntry seg row n (entryState e * 16384 + r.1)).applied
    if entryState e = 1 then s1.openRecovery seg row n else s1

/-- The step of R630. -/
def State.densityStepOf (s : State) (rho : Int) : Int :=
  let lim : Int := s.rd O.GAIN_STEP
  clampI (-lim) lim (((4096 - rho) * (s.rd O.DENS_LOOP_GAIN : Nat)).tdiv 256)

/-- Order 3: every GOOD and WEAK nozzle of the row but those just changed (R629, R630). -/
def State.applyDensity (s : State) (changed : List (Nat × Nat × Nat)) (seg row : Nat) (rho : Int) : State :=
  let step := s.densityStepOf rho
  let gen := (s.dom (0x2510 + seg)).gen
  let s1 := (List.range 3456).foldl (fun (s : State) n =>
    let e := s.nozzleEntry seg row n
    if 2 ≤ entryState e || changed.contains (seg, row, n) then s
    else
      let r := s.clampGain (((entryGain e : Nat) * (4096 + step) + 2048).tdiv 4096)
      r.2.writeEntry seg row n (entryState e * 16384 + r.1)) s
  let d := s1.dom (0x2510 + seg)
  ((s1.setDom (0x2510 + seg) { d with gen := (gen + 1) % 2 ^ 32 }).applied).updLoopRow (rowKey seg row) fun r =>
    { r with densityFrom := s.compose.next }

/-- Order 4 (R631, R632): ROW_POS less the along-web error, X_SHIFT less the cross-web error in whole dots. -/
def State.applyRegister (s : State) (seg row : Nat) (along dots : Int) : State :=
  let key := rowKey seg row
  let pos : Int := toInt 32 (octAt 4 (s.rd O.ROW_POS) key) - along
  let v := octSet 4 (s.rd O.ROW_POS) key (ofInt 32 pos)
  let ok := 0 ≤ pos && pos ≤ 16776960 && s.rowPosOk v
  let s1 := if along = 0 then s else if ok then s.writeRowPos v else s.refusedUpdate
  let shift := s1.xShift seg row - dots
  let s2 :=
    if dots = 0 then s1
    else if -32 ≤ shift && shift ≤ 32 then s1.writeXShift (octSet 1 (s1.rd O.X_SHIFT) key (ofInt 8 shift))
    else s1.refusedUpdate
  (if s2.rd O.ROW_POS = s.rd O.ROW_POS && s2.rd O.X_SHIFT = s.rd O.X_SHIFT then s2 else s2.applied).updLoopRow key
    fun r => { r with errors := [] }

/-- The nozzles that orders 1 and 2 of the queue change. -/
def loopNozzles (q : List LoopUpdate) : List (Nat × Nat × Nat) :=
  q.filterMap fun u => match u with
    | .state seg row n _ => some (seg, row, n)
    | .gain seg row n _ => some (seg, row, n)
    | .density _ _ _ => none
    | .register _ _ _ _ => none

/-- One queued update is written. -/
def State.applyUpdate (s : State) (changed : List (Nat × Nat × Nat)) (u : LoopUpdate) : State :=
  match u with
  | .state seg row n st => s.applyState seg row n st
  | .gain seg row n up => s.applyGain seg row n up
  | .density seg row rho => s.applyDensity changed seg row rho
  | .register seg row along dots => s.applyRegister seg row along dots

/-- Its place in *Loop update order*. -/
def LoopUpdate.order : LoopUpdate → Nat
  | .state _ _ _ _ => 1
  | .gain _ _ _ _ => 2
  | .density _ _ _ => 3
  | .register _ _ _ _ => 4

/-- LOOP_UPDATE: the queued updates are written in order, a store becomes pending (R130, R633), and the partner hears of
the changes (R781). A part without control authority writes none (R772). -/
def State.loopUpdates (s : State) : State :=
  let q := s.inspect.queue
  if q.isEmpty then s
  else
    let s0 : State := { s with inspect := { s.inspect with queue := [] } }
    if !s.control then s0
    else
      let sorted := [1, 2, 3, 4].flatMap fun o => q.filter (·.order == o)
      let s1 := sorted.foldl (fun (s : State) u => s.applyUpdate (loopNozzles q) u) s0
      let maps := (List.range 16).filter fun seg => (s1.dom (0x2510 + seg)).gen != (s.dom (0x2510 + seg)).gen
      let keys := maps.map (fun seg => (0x2510 + seg) * 256) ++
        (if s1.rd O.ROW_POS = s.rd O.ROW_POS then [] else [O.ROW_POS]) ++
        (if s1.rd O.X_SHIFT = s.rd O.X_SHIFT then [] else [O.X_SHIFT])
      (s1.showSuspects.forwardAll keys).autoStore

end Sys2Proof.Machine
end

