-- ==== Sys2Proof/Machine/Web.lean ====
section
/-! DEFINITION. The web position and what it carries with it: counting, direction, speed, index and cross-check, and
at each whole line that the high-water mark reaches the latch, the exchange, composition, assembly and the fire
comparator (R374 to R409, R209, R226, R290 to R295, R424, R452, R453, R598). -/

namespace Sys2Proof.Machine

/-! ### Speed (R392 to R398) -/

/-- The ratio of a source in 2⁻³² lines per count. -/
def State.sourceRatio (s : State) (source : Nat) : Nat := if source = 0 then s.rd O.ENC_RATIO else s.rd O.STEP_RATIO

/-- The largest reported speed (R396). -/
def speedTop : Nat := 0x7fffffff

/-- ratio × n per dt ps in 1/256 line/s. -/
def speedOver (ratio n dt : Nat) : Nat := if dt = 0 then speedTop else ratio * n * sec * 256 / (2 ^ 32 * dt)

/-- Moments since which the run is over (R394, R397). -/
def State.standstillPs (s : State) : Nat := s.rd O.STANDSTILL_TIMEOUT * 1000

/-- The magnitude of SPEED (R392 to R398). -/
def State.speedMag (s : State) : Nat :=
  if s.rd O.WEB_SOURCE = 2 then min speedTop (s.web.virtual / 1000000000)
  else
    match s.web.run with
    | te :: t1 :: rest =>
      if s.due te s.standstillPs then 0
      else
        let run := te :: t1 :: rest
        let n := min (s.rd O.SPEED_AVG) (run.length - 1)
        let ratio := s.sourceRatio (s.rd O.WEB_SOURCE)
        let est := speedOver ratio n (te - run.getD n 0)
        let lim := if te < s.now then speedOver ratio 1 (s.now - te) else speedTop
        min speedTop (min est lim)
    | [_] => 0
    | [] => 0

/-- SPEED, with the sign of the direction; the virtual web only moves forward (R396, R398, R408). -/
def State.speed (s : State) : Int :=
  if s.web.reverse && s.rd O.WEB_SOURCE != 2 then -(s.speedMag : Int) else s.speedMag

/-! ### Composition of one line -/

/-- The reference pixels gain a page line's composed values; at every fourth web line a reference line is complete
(R295, R598). -/
def State.refStore (s : State) (w job page : Nat) (contone : List (Nat × Nat)) : State :=
  let sums := contone.foldl (fun m e =>
    let k := e.1 / barColumns * 13344 + e.1 % barColumns / 4
    mapSet m k (mapGet m k 0 + e.2) 0) (if s.compose.partialOf = w / 4 then s.compose.partialRef else [])
  let s : State := { s with compose := { s.compose with partialRef := sums, partialOf := w / 4 } }
  if w % 4 = 3 then
    let px := (sums.map fun e => (e.1, (e.2 + 8) / 16)).filter fun e => e.2 != 0
    let keep := s.compose.refs.filter fun r => w / 4 < r.index + s.refDepth && r.index != w / 4
    { s with compose := { s.compose with refs := if px.isEmpty then keep else keep ++ [⟨w / 4, job, page, px⟩] } }
  else s

/-- R277: the page's first line is due and the page is not STORED. -/
def State.ingestLate (s : State) (job : Nat) (pg : Page) : State :=
  let rows := s.fittedRows
  (s.updPage job pg.seq fun p =>
    { p with spoil := rows.foldl (fun x e => x.count (rowKey e.1 e.2) p.length) (p.spoil.mark .ingestLate 0) }).inc
    O.LATE_PAGES

/-- The first line of a page is due: the page boundary (R628, R277, R365). -/
def State.beginPage (s : State) (set : JobSet) (pg : Page) : State :=
  let job := set.jobId
  let s1 := s.loopUpdates
  let s2 := if !pg.stored then s1.ingestLate job pg else s1
  let span : Span := ⟨job, pg.seq, pg.start.getD 0, pg.length, pg.test.isSome, set.settings, none⟩
  let s3 : State := { s2 with inspect := { s2.inspect with spans := s2.inspect.spans ++ [span] } }
  if pg.test.isSome then
    ({ s3 with nozzle := { s3.nozzle with begun := true } } : State).wr O.TEST_STATUS_STATE 2
  else s3

/-- The page ended INGEST_LATE: its lines carry no drops (R294). -/
def Page.late (p : Page) : Bool := p.spoil.marks.any (·.1 == .ingestLate)

/-- The line rate is above COMPOSE_RATE_MAX of the set (R291, R308). -/
def State.hurries (s : State) (set : JobSet) : Bool := set.composeRate * 256 < s.speedMag

/-- Page line l of a page is composed at web line w (R290 to R295, R275). -/
def State.composePageLine (s : State) (set : JobSet) (pg : Page) (w l : Nat) : State :=
  let job := set.jobId
  let r : LineResult := if pg.late then ⟨blankRows set w, 0, 0, []⟩ else s.composePage set pg w l
  let line : Composed := ⟨w, job, pg.seq, l, r.rows, s.hurries set⟩
  let s1 : State := { s with compose := { s.compose with lines := s.compose.lines ++ [line] } }
  let s2 := ((s1.inc O.LINES_COMPOSED).add O.LOST_TONE_DOTS r.lost).add O.SATURATED_DOTS r.saturated
  (s2.updPage job pg.seq fun p =>
    { p with composed := p.composed + 1, freed := p.freed || l + 1 == p.length }).refStore w job pg.seq r.contone

/-- The page that web line w is composed for: it has no outcome, and it is not held (R170, R173, R275, R294). -/
def State.pageToCompose (s : State) (w : Nat) : Option (JobSet × Page) :=
  let set := s.lineSet w
  match set.owner w with
  | some pg =>
    let held := s.power.state != 0 || match s.compose.hold with
      | some h => h ≤ pg.start.getD 0 || (pg.composed == 0 && !pg.spoiled)
      | none => false
    if held || pg.outcome.isSome || pg.freed then none else some (set, pg)
  | none => none

/-- The deepest line that a row may still fire. -/
def State.keepDepth (s : State) : Nat := ((List.range 6).map s.largestDelay).foldl max 0 + 512

/-- Web line w is composed. A blank line keeps nothing (R294). -/
def State.composeLine (s : State) (w : Nat) : State :=
  let s0 : State := { s with compose := { s.compose with
    lines := s.compose.lines.filter fun c => w ≤ c.line + s.keepDepth } }
  let s1 := match s0.pageToCompose w with
    | some (set, pg) =>
      let l := w - pg.start.getD 0
      let s2 := if l = 0 then s0.beginPage set pg else s0
      s2.composePageLine set ((s2.page? set.jobId pg.seq).getD pg) w l
    | none => s0.refStore w 0 0 []
  { s1 with compose := { s1.compose with next := w + 1 } }

/-- Lines up to web line w are composed (R291); fuel bounds them. -/
def State.composeTo (s : State) (w : Nat) : Nat → State
  | 0 => s
  | fuel + 1 => if s.compose.next ≤ w then (s.composeLine s.compose.next).composeTo w fuel else s

/-! ### The web reaches a line -/

/-- R486: at the latch each fitted row's other slot takes the incoming set's descriptor. -/
def State.latchDescriptors (s : State) : State :=
  let s : State := { s with fire := { s.fire with rows := s.fire.rows.map fun r => { r with swapped := false } } }
  s.fittedRows.foldl (fun (s : State) e => s.sendDescriptor e.1 e.2 (1 - (s.row e.1 e.2).slot) s.jobs.shadow) s

/-- R209, R216: the boundary latches. A line at or past B that was composed for the outgoing set is composed again. -/
def State.latchAt (s : State) (w : Nat) : State :=
  match s.jobs.boundary with
  | some b =>
    if s.jobs.state = .armed && s.power.state = 0 && b ≤ w + 256 then
      let s1 := s.latch.latchDescriptors.camLatch
      { s1 with compose := { s1.compose with
          next := min s1.compose.next b, lines := s1.compose.lines.filter fun c => c.line < b } }
    else s
  | none => s

/-- R209, R226: composition reaches B, at the moment line B reaches the reference line (worked example of spec/05, step 3; log 124). -/
def State.exchangeAt (s : State) (w : Nat) : State :=
  match s.jobs.boundary with
  | some b => if s.jobs.state = .latched && b ≤ w then s.exchange else s
  | none => s

/-! ### The overspeed warning -/

/-- R451: the overspeed warning. -/
def State.checkSpeed (s : State) : State :=
  let v := s.speedMag * 100
  let warn := s.rd O.OVERSPEED_WARN
  let limit := s.rateLimit
  if !s.web.warned && warn * limit * 256 < v then
    ({ s with web := { s.web with warned := true } } : State).warn 0xd 0x30 0x2731 0
      (natLE 4 (ofInt 32 s.speed) ++ natLE 4 limit)
  else if s.web.warned && v < (warn - 2) * limit * 256 then { s with web := { s.web with warned := false } }
  else s

/-! ### Moving the position -/

/-- The high-water mark reaches whole line w. -/
def State.lineReached (s : State) (w : Nat) : State :=
  let s1 := ((((s.latchAt w).exchangeAt w).composeTo (w + 256) 1024).moveRows w).assembleTo (w + 32) 1024
  let s2 : State := { s1 with fire := { s1.fire with crossings := s1.fire.crossings ++ [(w, s1.speed, s1.now)] } }
  (((List.range 4).foldl State.camPassed s2).graftLine w).checkRelease

/-- REVERSE_GAP on the fire lines of the first position beyond the high-water mark (R453). -/
def State.reverseGap (s : State) : State :=
  let w := s.hwmLine + 1
  let s1 := s.fittedRows.foldl (fun (s : State) e =>
    let owners := match (s.row e.1 e.2).lines.find? (·.w == w) with
      | some f => f.owners
      | none => s.ownersOf w (s.delay e.1 e.2) (s.fineDelays e.1 e.2)
    s.spoilOwners owners .reverseGap (rowKey e.1 e.2)) s
  (({ s1 with web := { s1.web with spoiled := true } } : State).inc O.REVERSE_SPOILS).event 0xd 7 0

/-- R453: a reversal deeper than REVERSE_SPOIL. -/
def State.checkReversal (s : State) : State :=
  if s.web.reverse && !s.web.spoiled && s.rd O.REVERSE_SPOIL * 65536 < to4816 s.web.hwm - to4816 s.web.pos then s.reverseGap
  else s

/-- A flag of 2600h.06 is set (R420). -/
def State.webFlag (s : State) (i : Nat) : State :=
  s.wr O.POSITION_STATUS_FLAGS (setBit (s.rd O.POSITION_STATUS_FLAGS) i true)

/-- A cross-check window begins here (R407). -/
def State.newWindow (s : State) : State :=
  { s with web := { s.web with winPos := s.web.pos, winEnc := s.web.encCount, winStep := s.web.stepCount } }

/-- R405, R406: the window ends when the position has moved CHECK_WINDOW lines. -/
def State.crossCheck (s : State) : State :=
  let check := s.rd O.CHECK_SOURCE
  let moved : Int := (s.web.pos : Int) - (s.web.winPos : Nat)
  if check = 0 || s.rd O.WEB_SOURCE = 2 || moved.natAbs < s.rd O.CHECK_WINDOW * 2 ^ 32 then s
  else
    let other : Int :=
      if check = 1 then (s.web.encCount - s.web.winEnc) * (s.sourceRatio 0 : Nat)
      else (s.web.stepCount - s.web.winStep) * (s.sourceRatio 1 : Nat)
    let s1 := s.newWindow
    if s.rd O.CHECK_TOL * 2 ^ 24 < (moved - other).natAbs then
      ((s1.webFlag 2).inc O.CROSSCHECK_ERRORS).event 0xd 3 0
    else s1

/-- The position becomes p; new ground raises the high-water mark (R390, R410). -/
def State.setPos (s : State) (p : Nat) : State :=
  let old := s.hwmLine
  let s1 : State := { s with web := { s.web with pos := p, hwm := max s.web.hwm p } }
  let s2 :=
    if s.web.hwm < p then
      let s2 := (List.range (p / 2 ^ 32 - old)).foldl (fun (s : State) i => s.lineReached (old + 1 + i)) s1
      let r := s2.cmpTakeAll
      r.2.camMatches r.1
    else s1
  s2.crossCheck.checkReversal

/-- The distance of a forward count and what is left of the index correction (R402, R404). -/
def State.forwardUnit (s : State) (ratio : Nat) : Nat × State :=
  if s.rd O.WEB_SOURCE = 0 && 0 < s.web.fixLeft then
    let step := if s.web.fixLeft = 1 then s.web.fixRest else s.web.fixStep
    (((ratio : Int) + step).toNat, { s with web := { s.web with
      fixLeft := s.web.fixLeft - 1, fixRest := s.web.fixRest - step } })
  else (ratio, s)

/-- The position follows one count in a direction; count is the source count that it makes (R383, R385). It stands while it is
not VALID (R386). -/
def State.moveUnit (s : State) (forward : Bool) (count : Int) : State :=
  let ratio := s.sourceRatio (s.rd O.WEB_SOURCE)
  if !s.web.valid then s
  else match s.web.hold with
  | some c =>
    if forward && c < count then
      let r := ({ s with web := { s.web with hold := none } } : State).forwardUnit ratio
      r.2.setPos r.1
    else s
  | none =>
    if forward then
      let r := s.forwardUnit ratio
      r.2.setPos (s.web.pos + r.1)
    else if s.web.pos < ratio then
      ((({ s with web := { s.web with hold := some count } } : State).setPos 0).webFlag 3).event 0xd 4 0
    else s.setPos (s.web.pos - ratio)

/-- An edge joins the run; an edge after the timeout begins one (R392, R394, R397). -/
def State.joinRun (s : State) : State :=
  let old := match s.web.run with
    | t :: rest => if s.due t s.standstillPs then [] else t :: rest
    | [] => []
  { s with web := { s.web with run := (s.now :: old).take 65 } }

/-- R389: the direction reverses. Pulses placed before wait (R452). -/
def State.turn (s : State) : State :=
  let w := s.web
  let s1 : State := { s with web := { w with reverse := !w.reverse, slack := false, run := [s.now], spoiled := false } }
  let s2 := s1.inc O.REVERSALS
  if s2.web.reverse && s2.web.valid then ({ s2 with fire := { s2.fire with held := true } } : State).inc O.REVERSE_HOLDS else s2

/-- The selected source made a count; the count is in place already (R388, R389, R395). Up to it, SPEED has fallen (R396), and
may have made the warning ready again (R451). -/
def State.followCount (s0 : State) (forward : Bool) (count : Int) : State :=
  let s := s0.checkSpeed
  let along := forward != s.web.reverse
  let unit : Int := if forward then 1 else -1
  let s1 :=
    if along then
      if s.web.slack then { s with web := { s.web with slack := false } }
      else s.joinRun.moveUnit forward count
    else if s.web.slack then (s.turn.moveUnit forward (count - unit)).moveUnit forward count
    else { s with web := { s.web with slack := true } }
  (s1.noteCount count).checkSpeed

/-- The position inputs are counted: from step 10 of the boot, and not while the PLLs are off (R379). -/
def State.counting (s : State) : Bool :=
  (s.boot.phase == .applied || s.boot.phase == .ready) && s.power.state < 3

/-- Place of (A, B) in the forward sequence 00, 10, 11, 01 (R376). -/
def grayPlace (a b : Bool) : Nat :=
  match a, b with
  | false, false => 0
  | true, false => 1
  | true, true => 2
  | false, true => 3

/-- ENC_A and ENC_B are accepted at levels a and b (R376, R377). Before step 10 the levels are followed and nothing is
counted (R379). -/
def State.encEdge (s : State) (a b : Bool) : State :=
  if !s.counting then { s with web := { s.web with a := a, b := b } }
  else if a == s.web.a && b == s.web.b then s
  else
    let before := grayPlace s.web.a s.web.b
    let both := a != s.web.a && b != s.web.b
    let s1 : State := { s with web := { s.web with a := a, b := b } }
    if both then ((s1.webFlag 0).inc O.ILLEGAL_COUNT).event 0xd 1 0
    else
      let forward := ((grayPlace a b + 4 - before) % 4 == 1) != (s.rd O.ENC_SENSE == 1)
      let n := s.web.encCount + (if forward then 1 else -1)
      let s2 : State := { s1 with web := { s1.web with encCount := n } }
      if s2.rd O.WEB_SOURCE = 0 then s2.followCount forward n else s2

/-- A rising edge of STEP_IN with STEP_DIR at a level (R378). -/
def State.stepEdge (s : State) (dir : Bool) : State :=
  if !s.counting then s
  else
    let forward := dir == s.rdB O.STEP_SENSE
    let n := s.web.stepCount + (if forward then 1 else -1)
    let s2 : State := { s with web := { s.web with stepCount := n } }
    if s2.rd O.WEB_SOURCE = 1 then s2.followCount forward n else s2

/-- A rising edge of ENC_IDX (R399 to R403). -/
def State.indexCheck (s : State) : State :=
  let period := s.rd O.INDEX_PERIOD
  if !s.counting || s.rd O.WEB_SOURCE != 0 || !s.web.valid || s.web.pos != s.web.hwm || period = 0 then s
  else
    let c := s.web.encCount
    match s.web.cRef with
    | none => { s with web := { s.web with cRef := some c } }
    | some r =>
      let e := c - (r + (period : Nat))
      if e.natAbs ≤ s.rd O.INDEX_TOL then
        let whole := -e * (s.rd O.ENC_RATIO : Nat)
        let w := if s.rdB O.INDEX_CORRECT then
            { s.web with cRef := some c, fixLeft := 256, fixRest := whole, fixStep := whole.tdiv 256 }
          else { s.web with cRef := some c }
        ({ s with web := w } : State).inc O.INDEX_CHECKS
      else
        (((({ s with web := { s.web with cRef := some (r + (period : Nat)) } } : State).webFlag 1).wrI 32
          O.LAST_INDEX_ERROR e).inc O.INDEX_ERRORS).event 0xd 2 0

/-- STANDSTILL (R397). -/
def State.standstill (s : State) : State :=
  match s.web.run with
  | t :: _ =>
    if s.due t s.standstillPs then
      (({ s with web := { s.web with run := [] } } : State).webFlag 4).checkSpeed
    else s
  | [] => s

/-- The virtual web's speed after one POS cycle (R408), in 1/(256 × 10⁹) line/s. -/
def virtualNext (v target accel : Nat) : Nat :=
  let step := 1280 * accel
  if v < target then min target (v + step) else max target (v - step)

/-- One POS cycle of the virtual web (R386, R387, R408). -/
def State.virtualAdvance (s : State) : State :=
  if !s.counting || s.rd O.WEB_SOURCE != 2 then s
  else
    let v := virtualNext s.web.virtual (s.rd O.VIRTUAL_SPEED * 1000000000) (s.rd O.VIRTUAL_ACCEL)
    let s1 : State := { s with web := { s.web with virtual := v } }
    if !s.web.valid then s1.checkSpeed
    else
      let total := s.web.rest + v * 5 * 2 ^ 24
      let adv := total / 10 ^ 18
      let s2 : State := { s1 with web := { s1.web with
        rest := total % 10 ^ 18, reverse := s1.web.reverse && adv == 0, hold := if adv = 0 then s1.web.hold else none } }
      (if adv = 0 then s2 else s2.setPos (s.web.pos + adv)).checkSpeed

/-! ### Writes (R381, R382, R387, R407, R415, R420, R422) -/

/-- A row without lines; an adoption that was fixed is in effect. -/
def RowState.cleared (r : RowState) : RowState :=
  { r with lines := [], placed := [], adopt := none, eff := match r.adopt with | some (_, d) => d | none => r.eff }

/-- A row whose delay is recomputed from ROW_POS (R355): a pending position is in effect (log 106). -/
def RowState.settled (r : RowState) : RowState :=
  match r.pending with
  | some (d, _) => { r.cleared with eff := d, pending := none }
  | none => r.cleared

/-- R382: the position and the high-water mark are scaled, truncated to 48.16. -/
def State.rescale (s : State) (old new : Nat) : State :=
  let f (x : Nat) : Nat := x * new / old / 65536 * 65536
  let s1 : State :=
    { s with
      web := { s.web with pos := f s.web.pos, hwm := f s.web.hwm }
      compose := { s.compose with lines := [], refs := [], partialRef := [] }
      fire := { s.fire with rows := s.fire.rows.map RowState.settled, crossings := [] } }
  let w := s1.hwmLine
  let s2 : State :=
    { s1 with
      compose := { s1.compose with next := w + 1 }
      fire := { s1.fire with nextAsm := w + 1, resume := w + 1, seen := none } }
  (((List.range 16).foldl State.cmpRestart s2).newWindow).unflush

/-- WEB_SCALE may be applied (R381, R355). -/
def State.scaleOk (s : State) (pitch : Nat) : Bool :=
  !s.unfinishedPages && s.jobs.state != .armed && s.jobs.state != .latched && s.jobs.state != .retiring &&
  (List.range 96).all fun i => s.depthOk (i % 6) (rowDelay (octAt 4 (s.rd O.ROW_POS) i) pitch)

/-- The speed reads 0, and so does the virtual web's where it is left or entered (R387). -/
def State.stopped (s : State) : Bool := s.speedMag = 0 && s.web.virtual = 0

/-- A change of SOURCE (R385, R387, R400, R407); with source 2 or 3 the part is not READY (R787). -/
def State.changeSource (s : State) : State :=
  ({ s with web := { s.web with
      run := [], slack := false, hold := none, virtual := 0, rest := 0, cRef := none, fixLeft := 0, fixRest := 0 }
            graft := { s.graft with
              history := [], state := if s.graft.state = 3 && 2 ≤ s.rd O.WEB_SOURCE then 2 else s.graft.state } } : State).newWindow

/-- FLAGS written v (R420). -/
def State.flagsWrite (s : State) (v : Nat) : Reply :=
  if 32 ≤ v then .of Status.range s
  else .of Status.ok (s.wr O.POSITION_STATUS_FLAGS (Nat.land (s.rd O.POSITION_STATUS_FLAGS) v))

/-- VALIDATE written v (R386, R400, R422). -/
def State.validate (s : State) (v : Nat) : Reply :=
  if v != 1 then .of Status.range s
  else if s.web.valid then .of Status.empty s
  else .of Status.ok { s with web := { s.web with valid := true, cRef := none } }

end Sys2Proof.Machine
end

