-- ==== Sys2Proof/Machine/Ingest.lean ====
section
/-! DEFINITION. The page link: credits, loss and resend, content as it is stored, the page queue, acknowledgements and
mirroring (R240 to R289). -/

namespace Sys2Proof.Machine

/-- *TPL status codes*. -/
inductive Tpl where
  | noSet | closed | queueFull | outOfOrder | length | limit | mismatch | offset | inflate | late | unknownObject | type
deriving DecidableEq, Repr

def Tpl.code : Tpl → Nat
  | .noSet => 1 | .closed => 2 | .queueFull => 3 | .outOfOrder => 4 | .length => 5 | .limit => 6 | .mismatch => 7
  | .offset => 8 | .inflate => 9 | .late => 0xa | .unknownObject => 0xb | .type => 0xc

/-! ### Sending -/

/-- A packet to the page server (R246). -/
def State.tplSend (s : State) (ty job page flags : Nat) (body : List Byte) : State :=
  if s.ingest.link != 2 then s
  else
    let seq := s.ingest.txSeq
    ({ s with ingest := { s.ingest with txSeq := (seq + 1) % 2 ^ 32 } } : State).emit
      (.tpl 0 (sentPacket seq ⟨ty, job, page, 0, 0, flags, body.length, body, 0⟩))

/-- Credits are to be withdrawn (R31, R254, R772). -/
def State.wantsWithdraw (s : State) : Bool :=
  s.safe.active || !s.rdB O.INGEST_ENABLE || s.power.state = 2 || !s.control

/-- The freed credits join CREDIT_LIMIT, or wait while credits are withdrawn (R250, R254). -/
def State.grant (s : State) : State :=
  let n := s.ingest.held + s.ingest.freed
  if s.ingest.withdrawn then { s with ingest := { s.ingest with held := n, freed := 0 } }
  else { s with ingest := { s.ingest with limit := (s.ingest.limit + n) % 2 ^ 32, held := 0, freed := 0 } }

/-- CREDIT (*CREDIT body*, R250 to R254). -/
def State.sendCredit (s : State) : State :=
  let s1 := s.grant
  let i := s1.ingest
  ({ s1 with ingest := { i with lastCredit := s.now } } : State).tplSend 0x10 0 0 (2 * b2n i.withdrawn)
    (natLE 4 i.limit ++ natLE 4 i.consumed ++ natLE 2 4096 ++ [toByte i.width, toByte i.grade] ++ natLE 4 0)

/-- Withdrawal follows its causes, with a CREDIT at each change (R254). -/
def State.updateCredits (s : State) : State :=
  if s.ingest.link = 2 && s.ingest.withdrawn != s.wantsWithdraw then
    ({ s with ingest := { s.ingest with withdrawn := s.wantsWithdraw } } : State).sendCredit
  else s

/-- A CREDIT on the mirror bond for what the partner sends (R250, R252). -/
def State.mirrorCreditSend (s : State) : State :=
  let m := s.mirror
  let limit := (m.granted + m.freed) % 2 ^ 32
  ({ s with mirror := { m with granted := limit, freed := 0, lastCredit := s.now } } : State).mirrorAnswer 0x10 0 0
    (natLE 4 limit ++ natLE 4 ((m.expect + 2 ^ 32 - 1) % 2 ^ 32) ++ natLE 2 4096 ++ [toByte m.width, toByte m.grade] ++ natLE 4 0)

/-- CREDIT: 64 credits or more were freed, or 100 µs have passed (R252). -/
def State.creditDue (s : State) : State :=
  let due (freed last : Nat) : Bool := 64 ≤ freed || s.due last 100000000
  let s1 := if s.ingest.link = 2 && due s.ingest.freed s.ingest.lastCredit then s.sendCredit else s
  if s1.mirror.link = 2 && due s1.mirror.freed s1.mirror.lastCredit then s1.mirrorCreditSend else s1

/-! ### The link -/

/-- Usable throughput of a lane at a grade, Mb/s (*Speed grades*). -/
def laneRate (grade : Nat) : Nat := [1515, 5725, 11450, 22900, 48650].getD grade 0

/-- The lanes of a bond: lanes at one grade that give the greatest throughput (R240 to R242). -/
def bondOf (up : List (Nat × Nat)) (minWidth : Nat) : Option (List Nat × Nat) :=
  let sets : List (List Nat) := [[0, 1, 2, 3], [0, 1], [2, 3], [0], [1], [2], [3]]
  let ok := (sets.filter (minWidth ≤ ·.length)).flatMap fun ls =>
    ((List.range 5).filter fun g => ls.all fun l => up.contains (l, g)).map fun g => (ls, g)
  ok.foldl (fun best x =>
    match best with
    | some b => if b.1.length * laneRate b.2 < x.1.length * laneRate x.2
        then some x else best
    | none => some x) none

/-- The lanes from `first` on that are UP, by their place in the bond, with their grades. -/
def State.lanesUp (s : State) (first : Nat) : List (Nat × Nat) :=
  (List.range 4).filterMap fun i =>
    let l := s.lane (first + i)
    if l.state = 3 then some (i, l.grade) else none

/-- INGEST_BOND_FORM (R242, R250). -/
def State.bondForm (s : State) : State :=
  if s.ingest.link = 2 then s
  else
    match bondOf (s.lanesUp 16) (s.rd O.MIN_BOND_WIDTH) with
    | none => s
    | some (ls, g) =>
      ({ s with ingest := { s.ingest with
        link := 2, width := ls.length, grade := g, lanes := ls.foldl (fun n l => setBit n l true) 0, txSeq := 0
        expect := 0, limit := 4096, spent := 0, consumed := 0xffffffff, freed := 0, held := 0, gap := none, resyncs := []
        withdrawn := s.wantsWithdraw, acks := s.ingest.acks } } : State).sendCredit

/-- Received bytes of what is not complete are discarded (R260). -/
def JobSet.dropPartial (j : JobSet) : JobSet :=
  let size := j.rd O.BG_WIDTH * j.rd O.BG_HEIGHT
  { j with
    planes := j.planes.filter fun p => p.2.length == size
    pages := j.pages.map fun p => { p with objs := p.objs.map fun o =>
      if o.data.length = o.size then o else { o with data := [] } } }

/-- Received bytes of what is not complete go, of both sets (R260). -/
def State.discardPartial (s : State) : State :=
  ((({ s with ingest := { s.ingest with descs := [] } } : State).updSet true JobSet.dropPartial).updSet false JobSet.dropPartial)

/-- INGEST_LINK_DOWN (R245, R260). -/
def State.ingestDown (s : State) : State :=
  if s.ingest.link != 2 then s
  else ({ s with ingest := { s.ingest with
    link := 0, width := 0, grade := 0, lanes := 0, limit := 0, spent := 0, freed := 0, held := 0 } } : State).discardPartial

/-- The packet's credits are free again (R251). -/
def State.freeCredits (s : State) (n : Nat) : State :=
  { s with ingest := { s.ingest with freed := s.ingest.freed + n } }

/-- RESYNC (R255, R258). `gap` is the latest LINK_SEQ discarded. -/
def State.resync (s : State) (gap : Nat) : State :=
  let s1 := ({ s with ingest := { s.ingest with gap := some gap } } : State).inc O.RESYNCS
  let s2 := s1.tplSend 0x11 0 0 0 (natLE 4 s1.ingest.expect ++ natLE 4 s1.ingest.limit)
  let recent := s.now :: s2.ingest.resyncs.filter fun t => s.now ≤ t + 10 * ms
  let s3 : State := { s2 with ingest := { s2.ingest with resyncs := recent } }
  if 16 < recent.length then
    ((List.range 4).filter (bit s3.ingest.lanes)).foldl (fun s i => s.laneDetect (16 + i) false) (s3.event 5 2 0).ingestDown
  else s3

/-- A packet with LINK_SEQ seq later than the one expected is discarded. One RESYNC goes out for a gap; a LINK_SEQ that does
not go on from those discarded shows that the packets are being sent again and that the expected one was lost again (R255;
DEDUCED, log 39). -/
def newGap (gap : Option Nat) (seq : Nat) : Bool :=
  match gap with
  | some g => !seqLater 32 seq g
  | none => true

/-- R255 on the ingest bond, for a later LINK_SEQ. -/
def State.gapped (s : State) (seq : Nat) : State :=
  if newGap s.ingest.gap seq then s.resync seq else { s with ingest := { s.ingest with gap := some seq } }

/-! ### Content -/

/-- A discarded or refused packet stores nothing; a refusal is answered with REFUSE and counted (*REFUSE body*). -/
def State.refuse (s : State) (mirror : Bool) (p : TplPacket) (why : Tpl) : State :=
  let body := natLE 2 why.code ++ natLE 2 0 ++ natLE 4 p.linkSeq ++ [toByte p.ty, 0#8] ++ natLE 2 p.object ++ natLE 8 p.offset
  let s1 := (s.inc O.REFUSALS).wr O.LAST_REFUSAL why.code
  if mirror then s1.mirrorAnswer 0x13 0 0 body else s1.tplSend 0x13 p.job p.page 0 body

/-- The bytes after inflation (R246, R247). -/
def packetContent (p : TplPacket) : Option (List Byte) :=
  if 65536 < p.inflated then none
  else if bit p.flags 0 then
    match inflate p.payload with
    | some (out, used) => if out.length = p.inflated && used = p.payload.length then some out else none
    | none => none
  else if p.length = p.inflated then some p.payload
  else none

/-- The engine that a DEFLATE payload takes: an invalid stream counts against it (R270, R710). -/
def State.inflateJob (s : State) (p : TplPacket) : State :=
  if !bit p.flags 0 then s
  else match inflate p.payload with
    | some (out, _) => s.engineJob p.payload.length out.length
    | none => ((s.inc O.COMPRESS_JOBS).inc O.COMPRESS_INVALID).event 7 1 0

/-- Bytes put into a sparse content at an offset; they replace what is there. -/
def putBytes (cells : List (Nat × Byte)) (o : Nat) (bs : List Byte) : List (Nat × Byte) :=
  (cells.filter fun c => c.1 < o) ++ ((indexed bs).map fun e => (o + e.1, e.2)) ++
    cells.filter fun c => o + bs.length ≤ c.1

/-- The range meets bytes that are there. -/
def overlaps (cells : List (Nat × Byte)) (o n : Nat) : Bool := cells.any fun c => o ≤ c.1 && c.1 < o + n

/-- Bytes of one plane of the background (R296). -/
def JobSet.planeSize (j : JobSet) : Nat := j.rd O.BG_WIDTH * j.rd O.BG_HEIGHT

/-- The set's background is complete. -/
def JobSet.bgDone (j : JobSet) : Bool :=
  (planesOf (j.rd O.BG_PLANES)).all fun k => (mapGet j.planes k []).length == j.planeSize

/-- An object is complete (R271). -/
def PageObj.done (o : PageObj) : Bool := o.data.length == o.size

/-- A page is STORED (R272). -/
def JobSet.pageDone (j : JobSet) (p : Page) : Bool := p.objs.all PageObj.done && (!p.useBg || j.bgDone)

/-- *ACK body*. -/
def ackBody (j : Option JobSet) (p : Option Page) (kind : Nat) (notMirrored : Bool) : List Byte :=
  let cause := if kind = 3 then ((p.bind fun p => p.spoil.cause).map SpoilCause.code).getD 0 else 0
  let held := match p with | some p => !p.accepted | none => false
  [toByte kind, toByte cause, toByte (b2n held + 2 * b2n notMirrored), 0#8] ++ natLE 4 0 ++
  natLE 8 (((p.bind (·.start)).getD 0) * 65536) ++ natLE 8 ((p.map (·.tag)).getD 0) ++
  natLE 8 ((j.map JobSet.queueFree).getD 0)

/-- The set of this JOB_ID, with page and background. -/
def State.setOf (s : State) (job : Nat) : Option JobSet := do
  let act ← s.setFor job
  s.getSet act

/-- The partner did not get the page, or with number 0 the background, in time (R285). -/
def State.isUnmirrored (s : State) (job page : Nat) : Bool :=
  if page = 0 then ((s.setOf job).map (·.bgUnmirrored)).getD false else ((s.page? job page).map (·.unmirrored)).getD false

/-- The partner has the page, or the background, or did not get it in time. -/
def State.setUnmirrored (s : State) (job page : Nat) (on : Bool) : State :=
  if page = 0 then
    match s.setFor job with
    | some act => s.updSet act fun j => { j with bgUnmirrored := on }
    | none => s
  else s.updPage job page fun p => { p with unmirrored := on }

/-- An ACK for a page to the page server. -/
def State.ack (s : State) (job page kind : Nat) : State :=
  s.tplSend 0x12 job page 0 (ackBody (s.setOf job) (s.page? job page) kind (s.isUnmirrored job page))

/-- R280, R284, R285: a page, or with number 0 a background, became STORED. An ACTIVE part waits for its partner. -/
def State.storedAck (s : State) (mirror : Bool) (job page : Nat) : State :=
  if mirror then s.mirrorAnswer 0x14 job page (ackBody (s.setOf job) (s.page? job page) 1 false)
  else if s.graft.state = 1 then
    { s with ingest := { s.ingest with acks := s.ingest.acks ++ [⟨job, page, s.now⟩] } }
  else s.ack job page 1

/-- R279: the page became STORED close to its due position. -/
def State.warnLate (s : State) (job : Nat) (p : Page) : State :=
  let lines := s.rd O.INGEST_WARN_LINES
  match p.start with
  | some a =>
    if lines != 0 && a * 65536 < to4816 s.web.hwm + (lines + 256) * 65536 then s.warn 5 1 0x2103 0 (natLE 4 job ++ natLE 4 p.seq) else s
  | none => s

/-- The pages of a set that are complete by now become STORED (R272, R279, R280). -/
def State.checkStored (s : State) (mirror : Bool) (act : Bool) : State :=
  match s.getSet act with
  | none => s
  | some j =>
    (j.pages.filter fun p => !p.stored && p.outcome.isNone && p.test.isNone && j.pageDone p).foldl (fun (s : State) p =>
      let s1 := s.updSet act fun j => j.updPage p.seq fun p => { p with stored := true }
      (s1.warnLate j.jobId p).storedAck mirror j.jobId p.seq) s

/-- R212, R263, R268: where content of a kind (1 background, 2 descriptor, 3 object) goes. The queue of the active set once
closed takes no content: a descriptor is answered CLOSED, any other NO_SET (log 152). -/
def State.takeSet (s : State) (job kind : Nat) : Except Tpl Bool :=
  if job != 0 && s.jobs.active.isSome && s.activeJob = job then
    let closed := match s.jobs.active with | some a => a.closed | none => false
    if kind = 1 || (kind = 2 && closed) then .error .closed else if closed then .error .noSet else .ok true
  else if job != 0 && s.jobs.shadow.jobId = job &&
      (s.jobs.state = .committed || s.jobs.state = .armed || s.jobs.state = .latched) then
    if kind = 1 && s.jobs.state = .latched then .error .closed else .ok false
  else .error .noSet

/-- The packet's bytes belong to a plane or an object that is complete (R261). -/
def State.inComplete (s : State) (p : TplPacket) : Bool :=
  match s.setOf p.job with
  | none => false
  | some j =>
    if p.ty = 1 then
      bit (j.rd O.BG_PLANES) p.object && p.object < 6 && p.offset + p.inflated ≤ j.planeSize &&
        (mapGet j.planes p.object []).length == j.planeSize
    else match (j.page? p.page).bind fun g => g.objs.find? (·.num == p.object) with
      | some o => o.done && p.offset + p.inflated ≤ o.size
      | none => false

/-- A DESCRIPTOR identical to one already taken (R261). -/
def State.descTaken (s : State) (p : TplPacket) : Bool :=
  match (s.setOf p.job).bind fun j => j.page? p.page, packetContent p with
  | some g, some bs => g.test.isNone && (g.desc.drop p.offset).take p.inflated == bs && bs.length == p.inflated
  | _, _ => false

/-- R286: the payload as the mirror bond carries it. -/
def State.mirrorForm (s : State) (p : TplPacket) : List Byte × Nat × State :=
  if s.mirror.width < s.ingest.width && s.rdB O.MIRROR_RECOMPRESS && !bit p.flags 0 then
    let z := deflateOf p.payload
    (z, 1, (s.engineJob p.payload.length z.length).add O.RECOMPRESSED_BYTES p.payload.length)
  else (p.payload, p.flags % 2, s)

/-- The packet is stored: n bytes; it goes to the partner, and its credits are free once it has (R251, R283). -/
def State.stored (s : State) (mirror : Bool) (p : TplPacket) (n : Nat) : State :=
  let s1 := s.add O.BYTES_STORED n
  let cost := packetCost p.length
  if !mirror && s.graft.state = 1 && s.graft.paired then
    let f := s1.mirrorForm p
    f.2.2.mirrorSend ⟨p.ty, p.job, p.page, p.offset, p.object, f.2.1 + 4, p.inflated, f.1, cost⟩
  else if mirror then { s1 with mirror := { s1.mirror with freed := s1.mirror.freed + cost } }
  else s1.freeCredits cost

/-- A packet that stores nothing: its credits are free. -/
def State.unstored (s : State) (mirror : Bool) (p : TplPacket) : State :=
  let cost := packetCost p.length
  if mirror then { s with mirror := { s.mirror with freed := s.mirror.freed + cost } } else s.freeCredits cost

/-- A refused, or silently discarded (R261), packet. -/
def State.refused (s : State) (mirror : Bool) (p : TplPacket) (why : Tpl) : State := (s.unstored mirror p).refuse mirror p why
def State.ignored (s : State) (mirror : Bool) (p : TplPacket) : State := (s.unstored mirror p).inc O.REFUSALS

/-- A BACKGROUND packet (R261 to R263, R280). Bytes that overlap are written again. -/
def State.takeBackground (s : State) (mirror : Bool) (p : TplPacket) : State :=
  if s.inComplete p then s.ignored mirror p
  else
  match s.takeSet p.job 1 with
  | .error e => s.refused mirror p e
  | .ok act =>
    match s.getSet act with
    | none => s.refused mirror p .noSet
    | some j =>
      if 5 < p.object || !bit (j.rd O.BG_PLANES) p.object || j.planeSize < p.offset + p.inflated then s.refused mirror p .mismatch
      else
        let s := s.inflateJob p
        match packetContent p with
        | none => s.refused mirror p .inflate
        | some bs =>
          let s1 := (s.updSet act fun j => { j with
            planes := mapSet j.planes p.object (putBytes (mapGet j.planes p.object []) p.offset bs) [] }).stored mirror p bs.length
          match s1.getSet act with
          | some j1 => if j1.bgDone then (s1.storedAck mirror p.job 0).checkStored mirror act else s1
          | none => s1

/-- A page taken from a complete descriptor. -/
def pageOf (seq : Nat) (d : List Byte) : Page :=
  { seq := seq, length := u32At d 0, useBg := bit (u16At d 6) 0, bgLine := u32At d 8, tag := u64At d 16, desc := d
    objs := (descEntries d).map fun e => ⟨e.num, e.size, e.place, []⟩
    start := none, stored := false, test := none, spoil := ⟨[], []⟩, composed := 0, fired := false, freed := false
    outcome := none, unmirrored := false }

/-- R277 for a page that was accepted when its first line was already due, and its composition otherwise: lines that the
web has not reached are composed (R276, R291). -/
def State.acceptedNow (s : State) (job seq : Nat) : State :=
  match s.page? job seq with
  | some p =>
    match p.start with
    | some a =>
      if s.power.state != 0 then s
      else if a < s.hwmLine + 256 then if s.compose.hold.isSome then s else s.ingestLate job p
      else if a < s.compose.next then
        ({ s with compose := { s.compose with next := a } } : State).composeTo (s.hwmLine + 256) 1024
      else s
    | none => s
  | none => s

/-- R265 to R267, R274: why a complete descriptor is not taken, with the subindices of the limit that fails. -/
def State.pageRefusal (s : State) (j : JobSet) (seq : Nat) (d : List Byte) : Option (Tpl × List (Nat × Nat)) :=
  let pg := pageOf seq d
  if pg.length = 0 || 2097152 < pg.length then some (.length, [])
  else if seq != j.lastSeq + 1 then some (.outOfOrder, [])
  else
    match j.limitFail s.pitch d with
    | some (why, num) => some (.limit, [(O.LAST_LIMIT_REASON, why), (O.LAST_LIMIT_OBJECT, num)])
    | none => if j.queueFree < pg.reserve then some (.queueFull, []) else none

/-- R273, R276: the page of a complete descriptor is taken. A page that is STORED at once, with its first line due, is not
late (R277). -/
def State.takePage (s : State) (mirror act : Bool) (job seq : Nat) (d : List Byte) : State :=
  let put (j : JobSet) : JobSet := { j with pages := j.pages ++ [pageOf seq d], lastSeq := seq }
  let s1 := s.updSet act fun j => if act || s.jobs.state = .latched then (put j).accept seq else put j
  (s1.checkStored mirror act).acceptedNow job seq

/-- What has come of an incomplete descriptor. -/
def State.setDesc (s : State) (job page : Nat) (cells : Option (List (Nat × Byte))) : State :=
  let rest := s.ingest.descs.filter fun r => !(r.job == job && r.page == page)
  { s with ingest := { s.ingest with descs := match cells with
      | some c => rest ++ [⟨job, page, c⟩]
      | none => rest } }

/-- The size that the first bytes of a descriptor announce (R264). -/
def descSize (cells : List (Nat × Byte)) : Nat :=
  32 + 64 * ((mapGet cells 4 0#8).toNat + 256 * (mapGet cells 5 0#8).toNat)

/-- A DESCRIPTOR packet (R261, R264, R267, R278). One with OFFSET 0 begins the descriptor; a last packet that is refused
leaves what came before it (R282; log 101). -/
def State.takeDescriptor (s : State) (mirror : Bool) (p : TplPacket) : State :=
  if s.descTaken p then s.ignored mirror p
  else
  match s.takeSet p.job 2 with
  | .error e => s.refused mirror p e
  | .ok act =>
    match s.getSet act with
    | none => s.refused mirror p .noSet
    | some j =>
      if ((j.page? p.page).bind (·.outcome)).isSome then s.refused mirror p .late
      else
        let old := if p.offset = 0 then none else s.ingest.descs.find? fun r => r.job == p.job && r.page == p.page
        let cells := (old.map (·.data)).getD []
        if old.isNone && (p.offset != 0 || p.inflated < 32) then s.refused mirror p .offset
        else if old.isSome && (descSize cells < p.offset + p.inflated || overlaps cells p.offset p.inflated) then
          s.refused mirror p .offset
        else
          let s := s.inflateJob p
          match packetContent p with
          | none => s.refused mirror p .inflate
          | some bs =>
            let cells1 := putBytes cells p.offset bs
            let d := cells1.map (·.2)
            if descSize cells1 < cells1.length then s.refused mirror p .offset
            else if cells1.length < descSize cells1 then
              (s.setDesc p.job p.page (some cells1)).stored mirror p bs.length
            else
              match s.pageRefusal j p.page d with
              | some (why, limits) => (s.wrs limits).refused mirror p why
              | none => ((s.setDesc p.job p.page none).stored mirror p bs.length).takePage mirror act p.job p.page d

/-- An OBJECT packet (R261, R270, R278). -/
def State.takeObject (s : State) (mirror : Bool) (p : TplPacket) : State :=
  if s.inComplete p then s.ignored mirror p
  else
  match s.takeSet p.job 3 with
  | .error e => s.refused mirror p e
  | .ok act =>
    match (s.getSet act).bind fun j => j.page? p.page with
    | none => s.refused mirror p .unknownObject
    | some pg =>
      match pg.objs.find? (·.num == p.object) with
      | none => s.refused mirror p .unknownObject
      | some o =>
        if pg.outcome.isSome then s.refused mirror p .late
        else if o.size < p.offset + p.inflated || overlaps o.data p.offset p.inflated then s.refused mirror p .offset
        else
          let s := s.inflateJob p
          match packetContent p with
          | none => s.refused mirror p .inflate
          | some bs =>
            let s1 := s.updSet act fun j => j.updPage p.page fun g => { g with objs := g.objs.map fun x =>
              if x.num = p.object then { x with data := putBytes x.data p.offset bs } else x }
            (s1.stored mirror p bs.length).checkStored mirror act

/-- An ACK of the page, or with number 0 of the background, waits for MIRROR_ACK (R285). -/
def State.ackWaits (s : State) (job page : Nat) : Bool := s.ingest.acks.any fun a => a.job == job && a.page == page

/-- PAGE_QUERY (R280, R281); PAGE_SEQ 0 asks for the background, and a page whose STORED ACK waits for the partner is
answered RECEIVING (R285; DEDUCED, log 39). -/
def State.answerQuery (s : State) (job page : Nat) : State :=
  let storedKind (done : Bool) : Nat := if done && !s.ackWaits job page then 1 else 4
  match s.setOf job with
  | none => s.ack job page 5
  | some j =>
    if page = 0 then s.ack job 0 (storedKind j.bgDone)
    else
      match j.page? page with
      | none => s.ack job page 5
      | some p => s.ack job page (p.outcome.getD (storedKind p.stored))

/-! ### Receiving (R246 to R259) -/

/-- R248: a data packet that carries nothing. -/
def State.takeEmpty (s : State) (mirror : Bool) (p : TplPacket) : State := (s.unstored mirror p).inc O.EMPTY_PACKETS

/-- The packet that came in its turn is consumed (R259). Types that only the part sends, and a LENGTH above 16 384, are not
recognised from the page server. -/
def State.consume (s : State) (p : TplPacket) (take : State → State) : State :=
  if p.magic != 0x5054 || p.version != 1 || 16384 < p.length || !([1, 2, 3, 5].contains p.ty) then s.refused false p .type
  else if p.ty != 5 && p.inflated = 0 then s.takeEmpty false p
  else take s

/-- A packet arrives on the ingest bond. -/
def State.receive (s : State) (p : TplPacket) (take : State → State) : State :=
  if s.ingest.link != 2 then s
  else
    let cost := packetCost p.length
    let s0 := s.capture (packetHead p ++ natLE 4 p.headerCrc ++ p.payload)
    let s1 := ({ s0 with ingest := { s0.ingest with spent := (s0.ingest.spent + cost) % 2 ^ 32 } } : State).inc O.PACKETS_RX
    if seqLater 32 s1.ingest.spent s1.ingest.limit then ((s1.freeCredits cost).event 5 1 0).resync s1.ingest.expect
    else if !packetOk p then (s1.freeCredits cost).resync s1.ingest.expect
    else if p.linkSeq != s1.ingest.expect then
      let s2 := s1.freeCredits cost
      if seqLater 32 p.linkSeq s1.ingest.expect then s2.gapped p.linkSeq else s2
    else
      ({ s1 with ingest := { s1.ingest with
        gap := none, expect := (p.linkSeq + 1) % 2 ^ 32, consumed := p.linkSeq } } : State).consume p take

/-- The mirror bond goes down; the pair stays formed, and what waits goes on waiting (R251, R786). What a standby part has
not whole goes (R260). -/
def State.mirrorDown (s : State) : State :=
  if s.mirror.link != 2 then s
  else
    let s1 : State := { s with mirror := { s.mirror with
      link := 0, width := 0, grade := 0, lanes := 0, sent := [], again := [], gap := none } }
    if s.graft.state < 2 then s1 else s1.discardPartial

/-- RESYNC on the mirror bond; more than 16 within 10 ms take the bond down and retrain its lanes (R255, R258). -/
def State.mirrorLost (s : State) (gap : Nat) : State :=
  let recent := s.now :: s.mirror.resyncs.filter fun t => s.now ≤ t + 10 * ms
  let s1 := ({ s with mirror := { s.mirror with gap := some gap, resyncs := recent } } : State).mirrorAnswer 0x11 0 0
    (natLE 4 s.mirror.expect ++ natLE 4 s.mirror.granted)
  if 16 < recent.length then
    ((List.range 4).filter (bit s1.mirror.lanes)).foldl (fun s i => s.laneDetect (20 + i) false) (s1.event 5 2 0).mirrorDown
  else s1

/-- R255 on the mirror bond, for a later LINK_SEQ. -/
def State.mirrorGapped (s : State) (seq : Nat) : State :=
  if newGap s.mirror.gap seq then s.mirrorLost seq else { s with mirror := { s.mirror with gap := some seq } }

/-- A packet of the partner arrives on a standby part (R253, R255 to R258, R284). -/
def State.mirrorReceive (s : State) (p : TplPacket) : State :=
  if s.mirror.link != 2 || s.graft.state < 2 then s
  else
    let m := s.mirror
    let s0 : State := { s with mirror := { m with used := (m.used + packetCost p.length) % 2 ^ 32 } }
    if seqLater 32 s0.mirror.used m.granted then ((s0.unstored true p).event 5 1 0).mirrorLost m.expect
    else if !packetOk p then (s0.unstored true p).mirrorLost m.expect
    else if p.linkSeq != m.expect then
      let s2 := s0.unstored true p
      if seqLater 32 p.linkSeq m.expect then s2.mirrorGapped p.linkSeq else s2
    else
      let s1 : State := { s0 with mirror := { s0.mirror with expect := (m.expect + 1) % 2 ^ 32, gap := none } }
      if p.magic != 0x5054 || p.version != 1 || 16394 < p.length || !([1, 2, 3].contains p.ty) then s1.refused true p .type
      else if p.inflated = 0 then s1.takeEmpty true p
      else if p.ty = 1 then s1.takeBackground true p
      else if p.ty = 2 then s1.takeDescriptor true p
      else s1.takeObject true p

/-! ### The mirror bond (R283 to R286, R250, R256) -/

/-- The STORED ACK of a page, or with number 0 of the background, waits no longer. -/
def State.ackTaken (s : State) (job page : Nat) : State :=
  { s with ingest := { s.ingest with acks := s.ingest.acks.filter fun a => !(a.job == job && a.page == page) } }

/-- MIRROR_ACK: the partner has the page (R285). -/
def State.mirrorAck (s : State) (job page : Nat) : State :=
  let s1 := s.setUnmirrored job page false
  if s1.ackWaits job page then (s1.ackTaken job page).ack job page 1 else s1

/-- MIRROR_TIMEOUT of a page (R285). -/
def State.mirrorTimeout (s : State) (job page : Nat) : State :=
  match s.ingest.acks.find? fun a => a.job == job && a.page == page with
  | some a =>
    if s.due a.since (s.rd O.MIRROR_TIMEOUT * ms) then
      (((((s.ackTaken job page).setUnmirrored job page true).ack job page 1).inc O.UNMIRRORED_PAGES)).event 6 1 0
    else s
  | none => s

/-- A CREDIT of the partner (R250): a limit that is the one known, or later (R11). -/
def State.mirrorCredit (s : State) (limit : Nat) : State :=
  if s.mirror.link != 2 || !(limit = s.mirror.limit || seqLater 32 limit s.mirror.limit) then s
  else ({ s with mirror := { s.mirror with limit := limit % 2 ^ 32 } } : State).mirrorFlow

/-- A RESYNC of the partner (R256): every packet from seq on is sent again, in order, within the credits (R250); those before
it were consumed. -/
def State.mirrorResync (s : State) (seq : Nat) : State :=
  if s.mirror.link != 2 then s
  else
    let keep := s.mirror.sent.filter fun e => !seqLater 32 seq e.1
    ({ s with mirror := { s.mirror with sent := keep, again := keep } } : State).mirrorFlow

/-- BACKLOG: credits of the packets that wait. -/
def State.backlogCredits (s : State) : Nat := (s.mirror.backlog.map fun p => packetCost p.payload.length).foldl (· + ·) 0

/-- MIN_BOND_WIDTH takes a value (R287): above the width in use the link goes down. -/
def State.minWidth (s : State) : State :=
  if s.ingest.link = 2 && s.ingest.width < s.rd O.MIN_BOND_WIDTH then s.ingestDown else s

end Sys2Proof.Machine
end

