-- ==== Sys2Proof/Machine/Coils.lean ====
section
/-! DEFINITION. The coils of a bar axis: the gates of its bridges and their dead time (R803), target currents, thresholds and the
codes of the threshold DACs (R804, R815, R832), the chopper (R815), and what a full step measures (R816). -/

namespace Sys2Proof.Machine

def State.axis (s : State) (a : Nat) : Axis := s.axes.getD a .init

def State.updAxis (s : State) (a : Nat) (f : Axis → Axis) : State := { s with axes := s.axes.modify a f }

/-! ### Coefficients in effect -/

/-- A pair (GAIN, OFFSET) at place i of an OCT object of 8-byte items. -/
def coeffAt (v i : Nat) : Int × Int := ((octAt 4 v (2 * i) : Nat), toInt 32 (octAt 4 v (2 * i + 1)))
def coeffSet (v i : Nat) (c : Int × Int) : Nat := octSet 4 (octSet 4 v (2 * i) (ofInt 32 c.1)) (2 * i + 1) (ofInt 32 c.2)

/-- SLOPE of sensor k in effect; 0 in the object stands for the nominal value. -/
def State.slope (s : State) (k : Nat) : Nat :=
  let v := octAt 4 (s.rd O.TEMP_COEFF) (2 * k)
  if v = 0 then (Config.nominalSlope k).toNat else v

/-- The coefficients of an item in effect (*What is calibrated*). -/
def State.coeff (s : State) (i : Nat) : Int × Int :=
  if i < 32 then coeffAt (s.rd O.ADC_COEFF) i
  else if i < 48 then coeffAt (s.rd O.DAC_COEFF) (i - 32)
  else if i < 56 then ((s.slope (i - 48) : Nat), 0)
  else ((octAt 2 (s.rd O.TRIM_CODES) (i - 56) : Nat), 0)

/-- R831: µV of code c under a GAIN and an OFFSET. -/
def microvolts (k : Int × Int) (c : Nat) : Int := ((c : Int) * k.1).tdiv 65536 + k.2

/-- R831: µV of code c on channel i. -/
def State.adcMicrovolts (s : State) (i c : Nat) : Int := microvolts (s.coeff i) c

/-- R833: what temperature sensor k reports for ΔVBE code c, in 1/16 °C: OFFSET is held in fuses. -/
def State.sensorReading (s : State) (k c : Nat) : Int :=
  ((c * s.slope k / 65536 : Nat) : Int) + toInt 16 (s.fuses.tempOffset.getD k 0)

/-! ### Gates (R803) -/

/-- All gates of a phase off, both low sides on, and a drive of one sign: high side 1, low side 1, high side 2, low side 2. -/
def gatesOff : List Bool := [false, false, false, false]
def gatesLow : List Bool := [false, true, false, true]
def gatesDrive (negative : Bool) : List Bool := [!negative, negative, negative, !negative]

/-- The other gate of a half-bridge. -/
def partnerGate (g : Nat) : Nat := if g % 2 = 0 then g + 1 else g - 1

/-- No half-bridge has both its gates on. -/
def apart (on : List Bool) : Bool := !(on.getD 0 false && on.getD 1 false) && !(on.getD 2 false && on.getD 3 false)

/-- Gates that were waiting for their dead time are on from its end: the phase, and what it showed and when. -/
def CoilPhase.settle (p : CoilPhase) (now : Nat) : CoilPhase × List (List Bool × Nat) :=
  match p.next with
  | some (g, t) => if t ≤ now then ({ p with on := g, next := none }, [(g, t)]) else (p, [])
  | none => (p, [])

/-- When each gate was last turned off, once only those of want stay on. -/
def CoilPhase.offTimes (p : CoilPhase) (want : List Bool) (now : Nat) : List Nat :=
  (List.range 4).map fun g => if p.on.getD g false && !want.getD g false then now else p.offAt.getD g 0

/-- The moment from which every gate of want may be on: DEAD_TIME after the other gate of its half-bridge was turned off. -/
def CoilPhase.readyAt (p : CoilPhase) (want : List Bool) (dead now : Nat) : Nat :=
  (List.range 4).foldl (fun t g =>
    if want.getD g false && !p.on.getD g false then max t ((p.offTimes want now).getD (partnerGate g) 0 + dead) else t) now

/-- R803: the gates that are not wanted go off at once; the wanted ones come on once the dead time has passed. -/
def CoilPhase.drive (p : CoilPhase) (want : List Bool) (dead now : Nat) : CoilPhase × List (List Bool × Nat) :=
  let kept := p.on.zipWith (· && ·) want
  let q : CoilPhase := { p with on := kept, offAt := p.offTimes want now, next := none }
  let first := if kept = p.on then [] else [(kept, now)]
  if kept = want then (q, first)
  else if p.readyAt want dead now ≤ now then ({ q with on := want }, first ++ [(want, now)])
  else ({ q with next := some (want, p.readyAt want dead now) }, first)

def Axis.coilsOf (x : Axis) (p : Nat) : CoilPhase := x.coils.getD p .init

/-- The gates of phase p of axis a are to be these from the moment t on. -/
def State.setGates (s : State) (a p : Nat) (want : List Bool) (t : Nat) : State :=
  let c := ((s.axis a).coilsOf p).settle t
  let d := c.1.drive want (s.rd (O.DEAD_TIME a) * 1000) t
  (c.2 ++ d.2).foldl (fun (s : State) e => s.emit (.gates a p e.1 e.2))
    (s.updAxis a fun x => { x with coils := x.coils.set p d.1 })

/-! ### Target currents and thresholds -/

/-- cos and sin of k/1024 of a turn, in 2⁻⁶⁴. -/
def turn : Nat → Int × Int
  | 0 => (2 ^ 64, 0)
  | k + 1 =>
    let p := turn k
    ((p.1 * 18446396818965434987 - p.2 * 113187093788755730) / 2 ^ 64, (p.1 * 113187093788755730 + p.2 * 18446396818965434987) / 2 ^ 64)

/-- The entry of the sine table at an electrical angle, in 1/32768; which of the two neighbours an entry between them takes is a
free value (*Current regulation*, log 162). -/
def sineEntry (angle : Nat) : Int :=
  let q := angle % 1024
  let h := q % 512
  let m := if h ≤ 256 then h else 512 - h
  let v : Int := if m = 0 then 0 else if m = 256 then 32768 else (turn m).2 / 2 ^ 49 + (Config.sineRound m).toNat
  if q < 512 then v else -v

/-- IRUN while the axis steps, IHOLD at standstill, in mA. -/
def State.coilCurrent (s : State) (a : Nat) : Nat :=
  let x := s.axis a
  if x.coil == .run && x.dwellSince.isNone && x.phase != some .waiting then s.rd (O.IRUN a) else s.rd (O.IHOLD a)

/-- I_t of phase p (0 A, 1 B) in µA; phase B leads phase A by a quarter of the electrical cycle (DEDUCED, log 162). -/
def State.targetCurrent (s : State) (a p : Nat) : Int :=
  ((s.coilCurrent a : Nat) * 1000 * sineEntry ((s.axis a).coilAngle + 256 * p)).tdiv 32768

/-- The upper and lower threshold of phase p, in µA (R815). -/
def State.threshold (s : State) (a p : Nat) (upper : Bool) : Int :=
  let x := s.axis a
  let half : Int := (s.rd (O.HYST a) * 500 : Nat)
  (s.targetCurrent a p).natAbs + (if upper then half else -half) + (if p = 0 then x.offsetA else x.offsetB) * 1000

/-- R832: the code nearest to a current in µA through a sense resistor in mΩ, for a DAC with these coefficients. -/
def dacCode (current : Int) (sense : Nat) (c : Int × Int) : Nat :=
  let num := (current * sense - 1000 * c.2) * 65536
  let den := 1000 * c.1
  (clampI 0 1023 ((2 * num + den) / (2 * den))).toNat

/-- The level in µV that code c of a DAC item stands for (*What is calibrated*). -/
def State.dacLevel (s : State) (i c : Nat) : Int :=
  let k := s.coeff i
  ((c : Int) * k.1).tdiv 65536 + k.2

/-- The item of the threshold DAC of axis a, phase p (*What is calibrated*). -/
def dacItem (a p : Nat) (upper : Bool) : Nat := 32 + 4 * a + 2 * p + (if upper then 0 else 1)

/-- The codes of the four threshold DACs of axis a: upper and lower of phase A, then of phase B (R832). -/
def State.setDacs (s : State) (a : Nat) : State :=
  s.updAxis a fun x => { x with
    dacs := [(0, true), (0, false), (1, true), (1, false)].map fun e =>
      dacCode (s.threshold a e.1 e.2) (s.rd (O.SENSE_R a)) (s.coeff (dacItem a e.1 e.2)) }

/-! ### The chopper (R815) -/

/-- The coils of the axis are regulated: HOLD at standstill, or the axis runs. -/
def Axis.regulated (x : Axis) : Bool := x.coil == .hold || x.coil == .run

/-- A drive in the sign of I_t, or a decay, of phase p begins at t. -/
def State.beginPart (s : State) (a p : Nat) (driving : Bool) (t : Nat) : State :=
  (s.setGates a p (if driving then gatesDrive (s.targetCurrent a p < 0) else gatesLow) t).updAxis a fun x =>
    { x with coils := x.coils.modify p fun c => { c with stage := some driving, since := t } }

/-- What a phase does within the last µs: once BLANK has passed, a drive ends when the sense voltage reaches the upper threshold,
and a decay when it falls to the lower one. When that is, and the sense voltage, are free values (log 163). -/
def State.chop (s : State) (a p : Nat) : Nat → State
  | 0 => s
  | n + 1 =>
    let c := (s.axis a).coilsOf p
    let driving := c.stage == some true
    let start := max (c.since + s.rd (O.BLANK a) * 1000) (s.now - 1000000)
    if s.now < start then s
    else
      let d := s.draw
      let v := (Config.free d.1).toNat
      let level := s.dacLevel (dacItem a p driving) ((s.axis a).dacs.getD (2 * p + if driving then 0 else 1) 0)
      let sense : Int := (bits v 19 0 : Nat)
      let t := start + bits v 63 32 % (s.now - start + 1)
      if (if driving then level ≤ sense else sense ≤ level) then (d.2.beginPart a p (!driving) t).chop a p n else d.2

/-- The gates of phase p stand as its part calls for, in the present sign of I_t. -/
def State.holdGates (s : State) (a p : Nat) : State :=
  match ((s.axis a).coilsOf p).stage with
  | some driving => s.setGates a p (if driving then gatesDrive (s.targetCurrent a p < 0) else gatesLow) s.now
  | none => s

/-- The choppers of axis a over the last µs, at the thresholds of its present target currents (R815, R832). -/
def State.chopAxis (s : State) (a : Nat) : State :=
  if !(s.axis a).regulated then s
  else [0, 1].foldl (fun (s : State) p => (s.chop a p 11).holdGates a p) (s.setDacs a)

/-- The gates of both phases follow what the coils of axis a now are (R815, R818, R819). -/
def State.gateCoils (s : State) (a : Nat) : State :=
  let rest (s : State) (p : Nat) (want : List Bool) : State :=
    (s.setGates a p want s.now).updAxis a fun x => { x with coils := x.coils.modify p fun c => { c with stage := none } }
  match (s.axis a).coil with
  | .off => rest (rest s 0 gatesOff) 1 gatesOff
  | .short => rest (rest s 0 gatesLow) 1 gatesLow
  | _ => [0, 1].foldl (fun (s : State) p =>
      if ((s.axis a).coilsOf p).stage.isSome then s else s.beginPart a p true s.now) (s.setDacs a)

/-! ### Microsteps -/

/-- The electrical angle one unit further in a direction of the position (R802, DIR_INVERT). -/
def State.nextAngle (s : State) (a : Nat) (up : Bool) : Nat :=
  ((s.axis a).angle + (if up != s.rdB (O.DIR_INVERT a) then 1 else 1023)) % 1024

/-- The mean current of phase p that a full step measures, in mA, in the sign of I_t: the mean ADC code is a free value, taken in
mV, truncated (R816, R831, log 163). -/
def State.meanCurrent (s : State) (a p code : Nat) : Int :=
  let i := ((s.adcMicrovolts (2 * a + p) code).tdiv 1000 * 1000).tdiv (s.rd (O.SENSE_R a))
  if s.targetCurrent a p < 0 then -i else i

/-- R816: the offset of a phase moves by 1 mA toward the difference of |I_t| and the measured mean, within ±OFFSET_MAX. -/
def State.nextOffset (s : State) (a p : Nat) (mean offset : Int) : Int :=
  let lim : Int := s.rd (O.OFFSET_MAX a)
  let want : Int := (s.targetCurrent a p).natAbs
  let got : Int := mean.natAbs * 1000
  clampI (-lim) lim (offset + if got < want then 1 else if want < got then -1 else 0)

/-- What a full step measures (R816). -/
def State.measure (s : State) (a : Nat) : State :=
  let d := s.draw
  let v := (Config.free d.1).toNat
  let ia := s.meanCurrent a 0 (bits v 11 0)
  let ib := s.meanCurrent a 1 (bits v 27 16)
  d.2.updAxis a fun x => { x with
    currentA := ia, currentB := ib, offsetA := s.nextOffset a 0 ia x.offsetA, offsetB := s.nextOffset a 1 ib x.offsetB }

end Sys2Proof.Machine
end

