-- ==== Sys2Proof/Machine/Motion.lean ====
section
/-! DEFINITION. The bar axes: the ramp generator, moves, reversals, stops, homing, the linked lift and what the
coils take (R805 to R830). Speeds are in 10⁻⁶ of 1/256 step/s, distances left in 10⁻¹² of 1/256 step. -/

namespace Sys2Proof.Machine

/-- The pending ramp: the values of RAMP_a (R807). -/
def State.rampOf (s : State) (a : Nat) : Ramp :=
  ⟨s.rd (O.VSTART a), s.rd (O.A1 a), s.rd (O.V1 a), s.rd (O.AMAX a), s.rd (O.VMAX a), s.rd (O.DMAX a), s.rd (O.D1 a),
   s.rd (O.VSTOP a), s.rd (O.REVERSE_DWELL a)⟩

/-- R812. -/
def Ramp.ok (r : Ramp) : Bool :=
  r.vstart ≤ r.v1 && r.vstop ≤ r.v1 && r.v1 ≤ r.vmax && 1 ≤ r.a1 && 1 ≤ r.amax && 1 ≤ r.dmax && 1 ≤ r.d1

/-- A speed of the dictionary in the axis's unit. -/
def speedUnit (v : Nat) : Nat := v * 1000000

/-- The stopping distance of R805 from speed v, as a numerator over 512 × DMAX × D1, in 10⁻¹² of a unit. -/
def Ramp.stopNum (r : Ramp) (v : Nat) : Nat :=
  let v1 := speedUnit r.v1
  let v0 := speedUnit r.vstop
  if v1 < v then (v * v - v1 * v1) * r.d1 + (v1 * v1 - v0 * v0) * r.dmax
  else if v0 < v then (v * v - v0 * v0) * r.dmax
  else 0

def Ramp.stopDen (r : Ramp) : Nat := 512 * max 1 r.dmax * max 1 r.d1

/-- Whole units of the stopping distance. -/
def Ramp.stopUnits (r : Ramp) (v : Nat) : Nat := r.stopNum v / (r.stopDen * 10 ^ 12)

/-- R805: the speed after 1 µs, with s12 left in 10⁻¹² of a unit. -/
def Ramp.next (r : Ramp) (v s12 : Nat) : Nat :=
  let v1 := speedUnit r.v1
  if s12 * r.stopDen ≤ r.stopNum v then
    if v1 < v then max (v - 256 * r.dmax) v1 else max (v - 256 * r.d1) (speedUnit r.vstop)
  else if v < speedUnit r.vmax then
    if v < v1 then min (v + 256 * r.a1) v1 else min (v + 256 * r.amax) (speedUnit r.vmax)
  else v

/-- The resolutions, finest first (R813). -/
def resolutions : List Nat := [256, 128, 64, 32, 16, 8, 4, 2, 1]

/-- r × |v| ≤ MSTEP_RATE_MAX × num / 10. -/
def stepRateOk (limit r v num : Nat) : Bool := r * v * 10 ≤ limit * 256000000 * num

/-- R813: the resolution that a speed calls for. -/
def nextResolution (limit r v : Nat) : Nat :=
  if !stepRateOk limit r v 10 then (resolutions.find? fun q => q < r && stepRateOk limit q v 10).getD 1
  else if r < 256 && stepRateOk limit (2 * r) v 9 then 2 * r
  else r

/-- The resolution at the start of a move (R813). -/
def startResolution (limit v : Nat) : Nat := (resolutions.find? fun q => stepRateOk limit q v 10).getD 1

/-- The axis moves. -/
def Axis.moving (x : Axis) : Bool := 2 ≤ x.state && x.state ≤ 5

/-- STANDSTILL_MODE and SAFE_MODE codes (R819). -/
def coilMode (m : Nat) : Coil := match m with | 0 => .hold | 1 => .off | _ => .short

/-- The coils take a mode; OFF and SHORT set DEENERGISED (R819). -/
def Axis.takeCoil (x : Axis) (m : Nat) : Axis :=
  { x with coil := coilMode m, flags := if m = 0 then x.flags else setBit x.flags 1 true, endedAt := none }

/-- The lift axes are linked, and axis 1 follows the ramp generator of axis 0 (R822). -/
def State.linked (s : State) : Bool := s.rdB O.LIFT_LINK

/-- Axis 1 takes the steps of axis 0 now. -/
def State.slaved (s : State) : Bool := s.linked && (s.axis 0).moving && (s.axis 0).state != 5

/-- Axis 1 shows what axis 0 does (R822): all but its position, target, offsets and flags. -/
def State.followLift (s : State) : State :=
  if !s.linked then s
  else
    let x := s.axis 0
    s.updAxis 1 fun y => { y with
      state := x.state, speed := x.speed, part := x.part, up := x.up, goal := y.pos + (x.goal - x.pos), ramp := x.ramp
      resolution := x.resolution, ending := x.ending, dwellSince := x.dwellSince, lastResult := x.lastResult
      target := x.target + s.rdI 32 O.LEVEL_OFFSET, endedAt := x.endedAt, coil := x.coil, safeStop := x.safeStop }

/-- After a change of axis a: where the lift is linked and the change is of axis 0 outside homing, axis 1 follows; the gates follow
the coils. -/
def State.sync (s : State) (a : Nat) : State :=
  if a = 0 && (s.axis 0).state != 5 && (s.axis 1).state != 5 && (s.axis 1).state != 6 then (s.followLift.gateCoils 1).gateCoils a
  else s.gateCoils a

/-- A new move starts toward t on the pending ramp (R805, R807, R813). -/
def State.startMove (s : State) (a : Nat) (t : Int) : State :=
  let r := s.rampOf a
  (s.updAxis a fun x => { x with
    state := 2, goal := t, target := t, up := decide (x.pos < t), speed := speedUnit r.vstart, part := 0, ramp := r
    resolution := startResolution (s.rd (O.MSTEP_RATE_MAX a)) (speedUnit r.vstart), dwellSince := none, endedAt := none
    coil := .run, safeStop := false }).sync a

/-- The end of a move at standstill: the coils keep IHOLD until HOLD_DELAY, or take the mode of safe state or STANDBY at
once (R819, R826). -/
def State.endMove (s : State) (a res : Nat) : State :=
  let s1 := s.updAxis a fun x => { x with
    state := 1, speed := 0, part := 0, lastResult := res, phase := none, dwellSince := none, endedAt := some s.now
    coil := .hold }
  (if s.safe.active then s1.updAxis a fun x => x.takeCoil (s.rd (O.SAFE_MODE a))
   else if s.power.state = 2 then s1.updAxis a fun x => x.takeCoil (s.rd (O.STANDSTILL_MODE a))
   else s1).sync a

/-- The axis runs to its stopping point (R810, R825). -/
def State.runOut (s : State) (a st ending : Nat) : State :=
  let x := s.axis a
  let n : Int := x.ramp.stopUnits x.speed
  (s.updAxis a fun x => { x with state := st, goal := if x.up then x.pos + n else x.pos - n, ending := ending, phase := none }).sync a

/-- The linked axes have parted by more than LEVEL_TOL (R824). -/
def State.offLevel (s : State) : Bool :=
  s.linked && s.rd O.LEVEL_TOL < ((s.axis 1).pos - (s.axis 0).pos - s.rdI 32 O.LEVEL_OFFSET).natAbs

/-- R824: both axes stop on the ramp. -/
def State.levelError (s : State) : State :=
  let mark (x : Axis) : Axis := { x with flags := setBit x.flags 3 true }
  let s1 := ((s.updAxis 0 mark).updAxis 1 mark).event 0xe 3 0
  if (s1.axis 0).state = 2 || (s1.axis 0).state = 3 then s1.runOut 0 4 3 else s1

/-- R824 wherever the axes may have parted; not while they home (log 40). -/
def State.checkLevel (s : State) : State :=
  if s.offLevel && (s.axis 0).state != 5 && (s.axis 1).state != 5 && !bit (s.axis 0).flags 3 then s.levelError else s

/-- A reversal begins (R810). -/
def State.reverseMove (s : State) (a : Nat) : State := s.runOut a 3 0

/-- A running axis can stop at a distance of d units ahead of its last whole unit: d is not less than the stopping distance of
R805. -/
def Axis.canStop (x : Axis) (d : Int) : Bool :=
  0 < d && x.ramp.stopNum x.speed ≤ (d.toNat * 10 ^ 12 - x.part) * x.ramp.stopDen

/-- R809: a running move with a new target, or on a new ramp. -/
def State.testMove (s : State) (a : Nat) : State :=
  let x := s.axis a
  let d : Int := if x.up then x.target - x.pos else x.pos - x.target
  if x.canStop d then (s.updAxis a fun x => { x with goal := x.target }).sync a
  else s.reverseMove a

/-- What a homing axis does when it reaches the end of a leg (R820, R823). -/
def State.homeLeg (s : State) (a : Nat) : State :=
  let x := s.axis a
  let b := if s.linked && a ≤ 1 then 0 else a
  match x.phase with
  | some .found =>
    let v := s.rd (O.HOME_SLOW b)
    s.updAxis a fun x => { x with
      phase := some .slow, up := !x.up, goal := if x.up then x.pos - 2 ^ 40 else x.pos + 2 ^ 40, part := 0
      speed := speedUnit (min x.ramp.vstart v)
      ramp := { x.ramp with vmax := v, v1 := min x.ramp.v1 v, vstart := min x.ramp.vstart v, vstop := min x.ramp.vstop v } }
  | some .edge =>
    let homed (s : State) (a : Nat) : State :=
      (s.updAxis a fun x => { x with flags := setBit (setBit x.flags 0 true) 1 false }).endMove a 1
    if s.linked && a ≤ 1 then
      let other := 1 - a
      if (s.axis other).phase == some .waiting then (homed (homed s other) a).checkLevel
      else s.updAxis a fun x => { x with phase := some .waiting, speed := 0, part := 0 }
    else homed s a
  | _ => s

/-- The ramp of axis a has reached its goal (R805, R810, R825). -/
def State.reached (s : State) (a : Nat) : State :=
  let x := s.axis a
  let s1 := s.updAxis a fun x => { x with speed := 0, part := 0 }
  match x.state with
  | 2 => s1.endMove a 1
  | 3 => if x.pos = x.target then s1.endMove a 1 else (s1.updAxis a fun x => { x with dwellSince := some s.now }).sync a
  | 4 => s1.endMove a x.ending
  | 5 => s1.homeLeg a
  | _ => s1

/-- One unit of the position: a microstep where the electrical angle lies on the grid, a change of resolution where it lies on
both grids (R814). A slaved axis 1 takes the same microsteps (R822). -/
def State.unitStep (s : State) (a : Nat) : State :=
  let x := s.axis a
  let want := nextResolution (s.rd (O.MSTEP_RATE_MAX a)) x.resolution x.speed
  let onGrid (r : Nat) : Bool := s.nextAngle a x.up % (256 / r) == 0
  let unit (s : State) (b : Nat) : State :=
    let g := s.nextAngle b x.up
    let s1 := s.updAxis b fun y => { y with
      pos := if x.up then y.pos + 1 else y.pos - 1, angle := g, coilAngle := if onGrid x.resolution then g else y.coilAngle }
    let s2 := if onGrid x.resolution then s1.emit (.microstep b (x.up != s.rdB (O.DIR_INVERT b))) else s1
    if g % 256 = 0 then s2.measure b else s2
  let s1 := (unit s a).updAxis a fun y => { y with
    travelled := y.travelled + 1
    resolution := if want != x.resolution && onGrid (min want x.resolution) then want else x.resolution }
  if a = 0 && s1.slaved && (s1.axis 1).state != 6 then unit s1 1 else s1

/-- n units at most. -/
def State.unitSteps (s : State) (a : Nat) : Nat → State
  | 0 => s
  | n + 1 => if (s.axis a).pos = (s.axis a).goal then s else (s.unitStep a).unitSteps a n

/-- R821: a homing went beyond HOME_MAX_DIST. -/
def State.checkHome (s : State) (a : Nat) : State :=
  let x := s.axis a
  if x.state = 5 && (x.phase == some .search || x.phase == some .slow) && s.rd (O.HOME_MAX_DIST a) < x.travelled then
    (s.runOut a 4 5).event 0xe 2 a
  else s

/-- The ramp generator of axis a over 1 µs (R805, R806). -/
def State.rampMove (s : State) (a : Nat) : State :=
  let x := s.axis a
  if !x.moving || x.dwellSince.isSome || x.phase == some .waiting || (a = 1 && s.slaved) then s
  else
    let left := (x.goal - x.pos).natAbs
    let v := x.ramp.next x.speed (left * 10 ^ 12 - x.part)
    let part := x.part + v
    let s1 := s.updAxis a fun x => { x with speed := v, part := part % 10 ^ 12 }
    let s2 := (s1.unitSteps a (part / 10 ^ 12)).sync a
    let s3 := if (s2.axis a).pos = (s2.axis a).goal then s2.reached a else s2.checkHome a
    if a = 0 then s3.checkLevel else s3

/-- RAMP_TICK of axis a: the ramp generator, and the choppers of its phases (R805, R815). -/
def State.rampTick (s : State) (a : Nat) : State := (s.rampMove a).chopAxis a

/-! ### Writes -/

/-- Moves and homing are refused: safe state, STANDBY and SLEEP, and in RUN for an axis without RUN_MOVES (R826). -/
def State.motionBarred (s : State) (a : Nat) : Bool :=
  s.safe.active || 2 ≤ s.power.state || (s.power.state = 0 && !s.rdB (O.RUN_MOVES a))

/-- A linked lift axis that may not be moved (R822, R824). -/
def State.liftBarred (s : State) (a : Nat) : Bool :=
  s.linked && (a = 1 || (a = 0 && (bit (s.axis 0).flags 3 || (s.axis 1).state != (s.axis 0).state || s.motionBarred 1)))

/-- MOVE_APPLY (R809, R811, R822, R825): TARGET and RELATIVE are in place. A target beyond an I32 is refused RANGE with subindex 1,
TARGET (log 164). -/
def State.moveApply (s : State) (a : Nat) : Reply :=
  let x := s.axis a
  let t := if s.rdB (O.MOVE_RELATIVE a) then x.pos + s.rdI 32 (O.MOVE_TARGET a) else s.rdI 32 (O.MOVE_TARGET a)
  if t < -(2 ^ 31) || 2 ^ 31 ≤ t then ⟨Status.range, [1#8, 0#8, 0#8, 0#8], s⟩
  else if s.motionBarred a || s.liftBarred a then .of Status.state s
  else
    let s0 := if a = 0 then s.checkLevel else s
    if s0.linked && a = 0 && bit (s0.axis 0).flags 3 then .of Status.state s0
    else
      match x.state with
      | 1 =>
        if t = x.pos then .of Status.empty (s0.updAxis a fun x => { x with lastResult := 1 })
        else .of Status.ok ((s0.inc (O.AXIS_MOVES a)).startMove a t)
      | 2 => .of Status.ok ((s0.updAxis a fun x => { x with target := t }).testMove a)
      | 3 => .of Status.ok ((s0.updAxis a fun x => { x with target := t }).sync a)
      | _ => .of Status.state s

/-- One axis of MOVE_STOP (R825). -/
def State.stopAxis (s : State) (a : Nat) : State :=
  let x := s.axis a
  match x.state with
  | 2 => s.runOut a 4 2
  | 3 => if x.dwellSince.isSome then s.endMove a 2 else s.runOut a 4 2
  | 5 => s.runOut a 4 2
  | _ => s

/-- The axes that a mask names; a linked LIFT_DR stands for LIFT_OP (R822). -/
def State.namedAxes (s : State) (v : Nat) : List Nat :=
  (((List.range 4).filter (bit v)).map fun a => if a = 1 && s.slaved then 0 else a).eraseDups

/-- MOVE_STOP. -/
def State.moveStop (s : State) (v : Nat) : Reply :=
  let axes := s.namedAxes v
  if 16 ≤ v then .of Status.range s
  else if axes.all fun a => !(s.axis a).moving then .of Status.empty s
  else
    let all := if s.linked && axes.contains 0 && (s.axis 0).state = 5 then (axes ++ [1]).eraseDups else axes
    .of Status.ok (all.foldl State.stopAxis s)

/-- A running axis takes the pending ramp (R808, R809). -/
def State.replanAxis (s : State) (a : Nat) : State :=
  let s1 := (s.updAxis a fun x => { x with ramp := s.rampOf a }).sync a
  match (s.axis a).state with
  | 2 => s1.testMove a
  | 3 => if (s.axis a).dwellSince.isSome then s1 else s1.runOut a 3 0
  | 4 => s1.runOut a 4 (s.axis a).ending
  | _ => s1

/-- The pending ramp of axis a differs from the running one (R807). -/
def State.rampPending (s : State) (a : Nat) : Bool := (s.axis a).moving && s.rampOf a != (s.axis a).ramp

/-- One axis starts to home, at the speeds and in the direction of axis b (R820, R823). -/
def State.startHome (s : State) (a b : Nat) : State :=
  let v := s.rd (O.HOME_SPEED b)
  let r := s.rampOf b
  let dir := s.rdB (O.HOME_DIR b)
  (s.updAxis a fun x => { x with
    state := 5, phase := some .search, up := dir, goal := if dir then x.pos + 2 ^ 40 else x.pos - 2 ^ 40, travelled := 0
    speed := speedUnit (min r.vstart v), part := 0, dwellSince := none, endedAt := none, coil := .run, safeStop := false
    ramp := { r with vmax := v, v1 := min r.v1 v, vstart := min r.vstart v, vstop := min r.vstop v }
    resolution := startResolution (s.rd (O.MSTEP_RATE_MAX a)) (speedUnit (min r.vstart v)) }).gateCoils a

/-- HOME (R820, R822, R823, R825, R826). -/
def State.homeAxes (s : State) (v : Nat) : Reply :=
  let axes := (List.range 4).filter (bit v)
  let own (a : Nat) : Bool := a = 1 && s.linked && axes.contains 0
  if 16 ≤ v then .of Status.range s
  else if axes.isEmpty then .of Status.empty s
  else if axes.any fun a => s.motionBarred a || (s.axis a).state != 1 || (s.linked && a = 1 && !own a) ||
      (s.linked && a = 0 && ((s.axis 1).state != 1 || s.motionBarred 1)) then .of Status.state s
  else .of Status.ok (axes.foldl (fun (s : State) a =>
    if own a then s
    else if s.linked && a = 0 then (s.startHome 0 0).startHome 1 0
    else s.startHome a a) s)

/-- R829: the values of AXIS_CONFIG_a fit. -/
def State.axisOk (s : State) (a : Nat) : Bool :=
  let r := s.rd (O.SENSE_R a)
  s.rd (O.IRUN a) * r ≤ 512000 && s.rd (O.IHOLD a) * r ≤ 512000 && s.rd (O.OC_LIMIT a) * r ≤ 512000 &&
  s.rd (O.IHOLD a) ≤ s.rd (O.IRUN a)

/-- AXIS_CONFIG_APPLY with its values in place (R825, R829). -/
def State.axisApply (s : State) (a : Nat) : Reply :=
  let x := s.axis a
  let enable := s.rdB (O.AXIS_ENABLE a)
  let off (s : State) : State :=
    (s.updAxis a fun x => { x with state := 0, coil := .off, flags := setBit x.flags 2 false, endedAt := none }).gateCoils a
  if !s.axisOk a then .of Status.range s
  else if x.state ≤ 1 then
    if enable then
      .of Status.ok ((if x.state = 0 then s.updAxis a fun x => { x.takeCoil (s.rd (O.STANDSTILL_MODE a)) with state := 1 } else s).gateCoils a)
    else .of Status.ok (off s)
  else if x.state = 6 && !enable then .of Status.ok (off s)
  else .of Status.state s

/-- LEVEL_APPLY with its values in place (R824, R830). Setting LIFT_LINK clears LEVEL_ERROR, and axes that lie too far apart
raise it again at once. -/
def State.levelApply (s : State) : Reply :=
  if 1 < (s.axis 0).state || 1 < (s.axis 1).state then .of Status.state s
  else
    let clear (x : Axis) : Axis := { x with flags := setBit x.flags 3 false }
    .of Status.ok (if s.linked then ((s.updAxis 0 clear).updAxis 1 clear).checkLevel else s)

/-- HOME_CONFIG_APPLY with its values in place (R830). -/
def State.homeConfigApply (s : State) (a : Nat) : Reply :=
  if (s.axis a).state = 5 then .of Status.state s else .of Status.ok s

/-! ### Events of the axes -/

/-- HOME_SWITCH_FOUND (R820). -/
def State.homeFound (s : State) (a : Nat) : State :=
  let x := s.axis a
  if x.state = 5 && x.phase == some .search then
    (s.runOut a 5 0).updAxis a fun x => { x with phase := some .found }
  else s

/-- HOME_EDGE (R820, R823). -/
def State.homeEdge (s : State) (a : Nat) : State :=
  let x := s.axis a
  if x.state = 5 && x.phase == some .slow then
    ((s.updAxis a fun x => { x with pos := s.rdI 32 (O.HOME_POS a), part := 0 }).runOut a 5 0).updAxis a fun x =>
      { x with phase := some .edge }
  else s

/-- OVERCURRENT (R818, R824). -/
def State.overcurrent (s : State) (a : Nat) : State :=
  if (s.axis a).state = 0 || (s.axis a).state = 6 then s
  else
    let mate := if s.slaved && a ≤ 1 then some (1 - a) else none
    let s1 := ((s.updAxis a fun x => { x with
      state := 6, coil := .off, speed := 0, part := 0, phase := none, dwellSince := none, endedAt := none, lastResult := 4
      flags := setBit (setBit x.flags 2 true) 0 false }).gateCoils a).event 0xe 1 a
    match mate with
    | some b => s1.runOut b 4 3
    | none => s1

/-- A drive of phase p has lasted 100 µs without reaching its upper threshold (R817). -/
def State.driveStuck (s : State) (a p : Nat) : Bool :=
  let c := (s.axis a).coilsOf p
  (s.axis a).regulated && c.stage == some true && s.due c.since 100000000

/-- DRIVE_SATURATED (R817): each such drive ends, and its phase decays. -/
def State.saturated (s : State) (a : Nat) : State :=
  let ps := [0, 1].filter (s.driveStuck a)
  if ps.isEmpty then s
  else (ps.foldl (fun (s : State) p => s.beginPart a p false s.now)
    (s.updAxis a fun x => { x with flags := setBit x.flags 4 true })).event 0xe 5 a

/-- HOLD_DELAY (R819). -/
def State.holdDelay (s : State) (a : Nat) : State :=
  match (s.axis a).endedAt with
  | some t =>
    if (s.axis a).state = 1 && s.due t (s.rd (O.HOLD_DELAY a) * ms) then
      (s.updAxis a fun x => x.takeCoil (s.rd (O.STANDSTILL_MODE a))).gateCoils a
    else s
  | none => s

/-- REVERSE_DWELL (R810). -/
def State.reverseDwell (s : State) (a : Nat) : State :=
  match (s.axis a).dwellSince with
  | some t =>
    if (s.axis a).state = 3 && s.due t ((s.axis a).ramp.dwell * ms) && !(a = 1 && s.slaved) then
      if (s.axis a).pos = (s.axis a).target then s.endMove a 1 else s.startMove a (s.axis a).target
    else s
  | none => s

/-- Safe state, or entry to STANDBY, at axis a (R825, R826). -/
def State.abortAxis (s : State) (mode : Nat → Nat) (a : Nat) : State :=
  match (s.axis a).state with
  | 1 => (s.updAxis a fun x => x.takeCoil (s.rd (mode a))).gateCoils a
  | 2 => (s.runOut a 4 3).event 0xe 4 a
  | 3 => if (s.axis a).dwellSince.isSome then (s.endMove a 3).event 0xe 4 a else (s.runOut a 4 3).event 0xe 4 a
  | 5 => (s.runOut a 4 3).event 0xe 4 a
  | _ => s

def State.abortAxes (s : State) (mode : Nat → Nat) : State :=
  [0, 1, 2, 3].foldl (fun (s : State) a => if a = 1 && s.slaved then s.event 0xe 4 1 else s.abortAxis mode a) s

/-- At boot step 10 and at wake: an enabled axis is IDLE in STANDSTILL_MODE at position 0 (R827). -/
def State.bootAxis (s : State) (a : Nat) : State :=
  (s.updAxis a fun x =>
    let y : Axis := { Axis.init with ramp := s.rampOf a, coils := x.coils }
    if s.rdB (O.AXIS_ENABLE a) then { y.takeCoil (s.rd (O.STANDSTILL_MODE a)) with state := 1 } else y).gateCoils a

end Sys2Proof.Machine
end

