-- ==== Sys2Proof/Machine/Outcome.lean ====
section
/-! DEFINITION. When a page has passed, its outcome, entering and leaving RUN, safe state, and the actions that end a
step (R31 to R40, R173 to R177, R217, R498, R747, R748, R752 to R756, R775 to R777, R913). -/

namespace Sys2Proof.Machine

/-! ### Passing (R36, R498) -/

/-- The last fire position that carries web line w on a row (R36, R423). -/
def State.lastFire (s : State) (seg row w : Nat) : Nat := w + s.delay seg row + s.fineMax seg row

/-- Web line w has passed row p of segment s: every nozzle has reached its fire position, its instants are done, and each
pulse is confirmed by a STATUS or STALE_TIME old (R36, R498). -/
def State.linePassed (s : State) (seg row w : Nat) : Bool :=
  let last := s.lastFire seg row w
  let reached := match s.fire.seen with | some x => last ≤ x | none => false
  reached && last ≤ s.hwmLine && ((s.row seg row).placed.all fun p => last < p.w) &&
  ((s.head seg).unconfirmed.all fun u => u.row != row || last < u.w || u.time + s.rd O.STALE_TIME * ms ≤ s.now)

/-- The page has passed every fitted row. -/
def State.rowsPassed (s : State) (p : Page) : Bool :=
  s.fittedRows.all fun e => s.linePassed e.1 e.2 (p.stop - 1)

/-- Pipeline k inspects the pages of a set: it is enabled and has a comparator stream there (log 37). -/
def State.inspects (s : State) (k : Nat) (j : JobSet) : Bool :=
  s.rdB (O.CAM_PORT_ENABLE k) && (List.range 4).any fun st => j.rd (O.STREAM_SINK (4 * k + st)) = 1

/-- R36: the page has passed every fitted row and every camera that inspects it. A page that the web carried past while it was
held was neither composed nor fired, and has not passed (R217; DEDUCED, log 67). -/
def State.pagePassed (s : State) (j : JobSet) (p : Page) : Bool :=
  (p.composed == p.length || p.spoiled) && p.stop ≤ s.hwmLine + 1 && s.rowsPassed p &&
  (List.range 4).all fun k => !s.inspects k j || p.stop + s.camDist k ≤ s.hwmLine + 1

/-- The outcome of an accepted page is final, and reported (R36, R275, R280, R365, R797). -/
def State.reportOutcome (s : State) (job page : Nat) : State :=
  match s.page? job page with
  | some p =>
    if !p.accepted || p.outcome.isSome then s
    else
      let kind := if p.spoiled then 3 else 2
      let cause := ((p.spoil.cause).map SpoilCause.code).getD 0
      let s1 := s.updPage job page fun p => { p with outcome := some kind, freed := true }
      let s2 : State :=
        { s1 with
          under := { s1.under with printed := s1.under.printed + b2n (kind == 2), spoiled := s1.under.spoiled + b2n (kind == 3) }
          inspect := { s1.inspect with spans := s1.inspect.spans.map fun q =>
            if q.job = job ∧ q.page = page then { q with outcome := some kind } else q } }
      match p.test with
      | some (pat, _, _, flags) =>
        (s2.wrs [(O.TEST_OUTCOME, kind - 1), (O.TEST_STATUS_STATE, if bit flags 0 then 3 else 4)]).notice 6 4
          (0x100 + pat) 0x2541 4 (natLE 4 job ++ natLE 4 0 ++ [toByte kind, toByte cause])
      | none =>
        if s2.graft.owner then
          (s2.ack job page kind).notice 6 4 kind 0x2001 8 (natLE 4 job ++ natLE 4 page ++ [toByte kind, toByte cause])
        else s2
  | none => s

/-- PAGE_OUTCOME_FINAL (R36). -/
def State.outcomeFinal (s : State) (job page : Nat) : State :=
  match s.setOf job, s.page? job page with
  | some j, some p => if s.pagePassed j p then s.reportOutcome job page else s
  | _, _ => s

/-! ### Orderly pause (R173 to R176) -/

/-- The page has begun: its first line has reached the reference line, and before pages were held (R173). -/
def State.begun (s : State) (p : Page) : Bool :=
  match p.start, s.compose.hold with
  | some a, some h => a < h && (p.composed != 0 || p.spoiled)
  | some a, none => a ≤ s.hwmLine
  | none, _ => false

/-- A page that has not begun is composed again from its first line later on. -/
def State.uncompose (s : State) (act : Bool) : State :=
  s.updSet act fun j => { j with pages := j.pages.map fun p =>
    if p.outcome.isNone && !s.begun p then { p with composed := 0, freed := false } else p }

/-- Pages whose first line has not reached the reference line are held (R173). -/
def State.holdPages (s : State) : State :=
  let h := s.hwmLine + 1
  let gone (job page : Nat) : Bool := match s.page? job page with | some p => !s.begun p | none => false
  ({ s with
    compose := { s.compose with hold := some h, lines := s.compose.lines.filter fun c => !gone c.job c.page
                                refs := s.compose.refs.filter fun r => !gone r.job r.page }
    inspect := { s.inspect with spans := s.inspect.spans.filter fun q => q.start ≤ s.hwmLine } } : State).uncompose true
    |>.uncompose false

/-- An entry to RUN runs: it was accepted, and firing is not enabled yet (R913). -/
def State.enteringRun (s : State) : Bool := s.power.state = 1 && s.power.target = 0

/-- An entry to RUN is taken back (R913). -/
def State.takeBackRun (s : State) : State :=
  if s.enteringRun then { s with power := { s.power with target := 0xff } } else s

/-- An orderly pause toward a power state begins (R173, R175), or an entry to RUN is taken back (R913). -/
def State.pausePrint (s : State) (target : Nat) : State :=
  if s.power.state != 0 || s.power.pausing then s.takeBackRun
  else { s.holdPages with power := { s.power with pausing := true, target := target, since := s.now } }

/-- Every begun page has passed every fitted row (R174). -/
def State.pauseDone (s : State) : Bool :=
  s.sets.all fun j => j.pages.all fun p => !p.accepted || p.outcome.isSome || !s.begun p || s.rowsPassed p

/-! ### Entry to RUN (R176, R177, R217) -/

/-- X of R217. -/
def State.firstDue (s : State) : Option Nat :=
  let page := match s.jobs.active with
    | some a => (a.pages.find? fun p => p.accepted && p.waits).bind (·.start)
    | none => none
  let b := if s.jobs.state = .armed then s.jobs.boundary else none
  match page, b with
  | some x, some y => some (min x y)
  | some x, none => some x
  | none, y => y

/-- R217: pages without outcome and an armed boundary move behind the web. -/
def State.shiftPages (s : State) : State :=
  let need := s.hwmLine + 256
  match s.firstDue with
  | some x =>
    if x < need then
      let d := need - x
      let s1 := (s.updSet true fun j => j.shift d).updSet false fun j => j.shift d
      if s.jobs.state = .armed then
        { s1 with jobs := { s1.jobs with boundary := s1.jobs.boundary.map (· + d), armStart := s1.jobs.armStart + d } }
      else s1
    else s
  | none => s

/-- RUN is entered: firing is enabled (R177). Beyond the reference line nothing is composed any more. -/
def State.enterRun (s : State) : State :=
  let s1 := s.shiftPages
  let w := s1.hwmLine
  let s2 : State :=
    { s1 with
      power := { s1.power with state := 0, target := 0xff, pausing := false }
      compose := { s1.compose with hold := none, lines := [], next := w + 256, partialRef := []
                                   refs := s1.compose.refs.filter fun r => 4 * r.index ≤ w }
      fire := { s1.fire with rows := s1.fire.rows.map RowState.cleared, nextAsm := w + 1, resume := w + 1, crossings := [] } }
  (((s2.unflush.latchAt w).composeTo (w + 256) 1024).moveRows w).assembleTo (w + 32) 1024

/-- Firing is enabled once its moment has come, when the active set is still there and the debug level is not FULL; otherwise
the entry is taken back (R177, R913). -/
def State.checkRun (s : State) : State :=
  if !s.enteringRun then s
  else if s.jobs.active.isNone || s.access.level = 2 then s.takeBackRun
  else if s.power.enableAt ≤ s.now then
    s.enterRun.wr O.LAST_TRANSITION ((s.power.enableAt - s.power.since) / 1000000)
  else s

/-! ### Safe state (R31 to R40, R752 to R756) -/

/-- The first position that row p of segment s will not fire any more once safe state is entered now: pulses within 200 ns are
still sent (R32). -/
def State.nextUnfired (s : State) (seg row : Nat) : Nat :=
  match (s.row seg row).placed.find? fun q => s.time.fireAt s.now + fireNs 200 < q.target with
  | some q => q.w
  | none => match s.fire.crossings with
    | c :: _ => c.1
    | [] => s.hwmLine + 1

/-- The lines of a page that row p of segment s has not fired whole, fine delays included (R36, R37). -/
def State.unfiredOn (s : State) (p : Page) (seg row : Nat) : Nat :=
  p.length - min p.length (s.nextUnfired seg row - (s.delay seg row + s.fineMax seg row) - p.start.getD 0)

/-- The first page line of a page that has not fired on every fitted row (R38). -/
def State.firstUnfired (s : State) (p : Page) : Nat :=
  p.length - (s.fittedRows.map fun e => s.unfiredOn p e.1 e.2).foldl max 0

/-- Some line of the page has not fired on some fitted row. -/
def State.unfired (s : State) (p : Page) : Bool := s.fittedRows.any fun e => s.unfiredOn p e.1 e.2 != 0

/-- The lines that a page loses to safe state, on each row (R37). -/
def State.countUnfired (s : State) (p : Page) (x : Spoil) : Spoil :=
  s.fittedRows.foldl (fun x e => x.count (rowKey e.1 e.2) (s.unfiredOn p e.1 e.2)) x

/-- R40 ends the page SPOILED: it has no outcome, and has not fired all of its lines. -/
def State.pageCut (s : State) (p : Page) : Bool := p.accepted && p.outcome.isNone && (!p.fired || s.unfired p)

/-- The pages that safe state cuts short, by job and page (R40). -/
def State.cutPages (s : State) : List (Nat × Nat) :=
  s.sets.flatMap fun j => (j.pages.filter s.pageCut).map fun p => (j.jobId, p.seq)

/-- R40: the page ends SPOILED at once, for no pulse of it can follow that R36 and R498 could wait for (DEDUCED, log 70). -/
def State.cutPage (s : State) (e : Nat × Nat) : State :=
  (s.updPage e.1 e.2 fun p =>
    { p with spoil := s.countUnfired p (p.spoil.mark .fault (s.firstUnfired p)), freed := true }).reportOutcome e.1 e.2

/-- A cause is recorded (R753). -/
def State.recordCause (s : State) (c : Cause) : State :=
  { s with safe := { s.safe with causes := if s.safe.causes.length < 16 then s.safe.causes ++ [c] else s.safe.causes } }

/-- The Graft state after a cause of safe state (*Graft role transitions*, R776, R777, R798). -/
def State.graftSafe (s : State) (yield : Bool) : State :=
  match s.graft.state with
  | 1 =>
    if yield then
      let ready := s.partnerReady
      let s1 := ((s.setHolding false).setOwner false).graftState 4
      if ready then s1
      else
        let number := s1.graft.number + 1
        let c := s.safe.first.getD ⟨0xff, 0, 0⟩
        let s2 : State := { s1 with graft := { s1.graft with number := number } }
        (s2.event 0x3f 6 0).storeRecord (takeoverRecord number 4 c.block c.code s.hwmLine 0 s.ptp s.takenPages)
    else s
  | 2 => s.graftState 4
  | 3 => s.graftState 4
  | _ => s

/-- A cause of safe state arrives (R35, R40, R177, R417, R752, R753, R756, R775, R825, R913). -/
def State.enterSafe (s : State) (c : Cause) (yield : Bool) : State :=
  if s.safe.active then s.recordCause c
  else
    let s1 : State :=
      { s with
        safe := { s.safe with active := true, rose := s.time.fireAt s.now, causes := [c], first := some c
                              entryTime := s.mono, entries := min (2 ^ 32 - 1) (s.safe.entries + 1), clearing := false }
        power := if s.power.state = 0 || s.enteringRun then
            { s.power with state := 1, target := 0xff, pausing := false, wakeHeld := none } else s.power
        compose := { s.compose with hold := some 0 } }
    let s2 := ((((List.range 16).foldl State.cmpStop s1).abortAxes O.SAFE_MODE).graftSafe yield)
    let s2 := (List.range 4).foldl State.camDark s2
    s2.notice 3 c.block c.code 0x1600 0 ([toByte c.block, toByte c.kind] ++ natLE 2 c.code)

/-- A cause of safe state arrives, and the pages that it cuts short end (R40). -/
def State.safeCause (s : State) (c : Cause) (yield : Bool) : State :=
  if s.safe.active then s.enterSafe c yield else s.cutPages.foldl State.cutPage (s.enterSafe c yield)

/-! ### The end of a step (R739, R747, R748) -/

/-- The order of R748. -/
def Act.rank : Act → Nat
  | .safe _ true => 0
  | .safe _ false => 1
  | .pausePrint => 2
  | .spoilPage => 3

def State.runAct (s : State) (a : Act) : State :=
  match a with
  | .safe c yield => s.safeCause c yield
  | .pausePrint => s.pausePrint 1
  | .spoilPage => if s.power.state = 0 then { s with fire := { s.fire with voidNext := true } } else s

/-- The actions that the step called for, those that they call for in turn included; fuel bounds the rounds. -/
def State.runActs (s : State) : Nat → State
  | 0 => { s with acts := [] }
  | fuel + 1 =>
    if s.acts.isEmpty then s
    else
      let todo := [0, 1, 2, 3].flatMap fun r => s.acts.filter (·.rank == r)
      (todo.foldl State.runAct { s with acts := [] }).runActs fuel

/-- The end of every step: the actions of classes that became SEVERE and of direct causes, and the withdrawal of
credits. -/
def State.settle (s : State) : State := (s.runActs 8).updateCredits

end Sys2Proof.Machine
end

