-- ==== Sys2Proof/Machine/Lanes.lean ====
section
/-! DEFINITION. The serial lanes: what each event of *Lane states* does in each state, training, low power, equaliser state
and the eye (R528 to R555). -/

namespace Sys2Proof.Machine

/-- What runs on lane n goes down with it (R245, R480, R488). -/
def State.laneLinkDown (s : State) (n : Nat) : State :=
  if n < 16 then s.headDown n
  else if n < 20 then (if bit s.ingest.lanes (n - 16) then s.ingestDown else s)
  else if bit s.mirror.lanes (n - 20) then s.mirrorDown else s

/-- Events of *Lane states* that take the lane back to DETECT with its link down. -/
def State.laneFail (s : State) (n : Nat) (restore : Bool) : State := (s.laneLinkDown n).laneDetect n restore

/-- A training that ended under R539. A head lane begins again at step 1 of *Head link-up* (R512). -/
def State.trainFailed (s : State) (n : Nat) : State :=
  let failed := (s.lane n).grade
  ((((s.laneLinkDown n).updLane n fun l => { l with limit := min l.limit (failed - 1) }).inc (O.FALLBACKS n)).laneDetect n false).event
    (laneBlock n) 0x404 0

/-- The low-power handshake begins (R543). -/
def State.lpAsk (s : State) (n level : Nat) : State :=
  let s1 := s.updLane n fun l => { l with lp := some (level, s.now), lpHeld := 0, eqOwn := s.eqValid n }
  (List.range 8).foldl (fun (s : State) _ => s.laneWord n level 0 0) s1

/-- L1 or L2 is entered (R543 to R545). In L2 what ran on the lane is down (DEDUCED, log 45). -/
def State.lpEnter (s : State) (n level : Nat) : State :=
  let s1 := s.updLane n fun l => { l with state := 5 + level, lp := none }
  if level = 2 then (s1.laneLinkDown n).laneSends n 0 else s1

/-- The lane is UP: what was held takes place (R542). -/
def State.laneUp (s : State) (n : Nat) : State :=
  let held := (s.lane n).lpHeld
  if held != 0 then s.lpAsk n held else s

/-- Lane enabled or disabled: ENABLE or SEGMENT_ENABLE changed, or bring-up begins (R516, R540, R553). -/
def State.laneEnableChanged (s : State) (n : Nat) : State :=
  let l := s.lane n
  if s.laneEnabled n then
    if l.state = 0 then s.laneDetect n true else s
  else if l.state = 0 then s
  else
    let s1 := (s.laneLinkDown n).updLane n fun l =>
      { l with state := 0, grade := 0, limit := s.laneMax n, stepHeld := false, lpHeld := 0, lp := none }
    if l.state = 7 then s1 else s1.laneSends n 0

/-- SIGNAL_PRESENT. -/
def State.signalPresent (s : State) (n : Nat) : State :=
  if (s.lane n).state = 1 then s.updLane n fun l => { l with state := 2, entered := s.now } else s

/-- BLOCK_LOCK (R530, R532, R551): the link is up at G0. An ingest or mirror lane asks for its step-up at once. -/
def State.blockLock (s : State) (n : Nat) (inverted : Bool) : State :=
  let mode := (s.lane n).rxMode
  if (s.lane n).state != 2 || (mode != 0 && inverted != (mode == 2)) then s
  else
    let s1 := (s.updLane n fun l => { l with state := 3, grade := 0, inverted := inverted, entered := s.now }).laneLinkUp n
    let s2 := if 16 ≤ n || (s.lane n).stepHeld then s1.negotiate n else s1
    if (s2.lane n).state = 3 then s2.laneUp n else s2

/-- STEP_UP_REQUEST. -/
def State.stepUpRequest (s : State) (n : Nat) : State :=
  let st := (s.lane n).state
  if st = 1 || st = 2 then s.updLane n fun l => { l with stepHeld := true }
  else s.negotiate n

/-- Switch word 0 has passed: the grade changes and training begins (R533, R535). -/
def State.startTraining (s : State) (n grade : Nat) : State :=
  let s1 := if n < 16 && (s.head n).link = 2 then s else s.laneLinkDown n
  ((s1.updLane n fun l => { l with state := 5, grade := grade, entered := s.now, matched := 0, count := 0 }).inc
    (O.TRAININGS n)).laneSends n 2

/-- The lane ends negotiation UP at G0 (R534), or as a timeout leaves it (*Lane states*). -/
def State.upAtG0 (s : State) (n : Nat) : State :=
  let s1 := s.updLane n fun l => { l with state := 3, proposed := 0, matched := 0, count := 0 }
  let s2 := if n < 16 && (s1.head n).link = 2 then s1.headReady n else s1
  s2.laneUp n

/-- R529: the part leads lane n. Before HELLO, the low eight bits of the two serial numbers decide on a mirror lane
(DEDUCED, log 46). -/
def State.leads (s : State) (n peer : Nat) : Bool :=
  if n < 20 then true
  else match s.graft.partner with
    | some p => s.fuses.serial < p.serial
    | none => s.fuses.serial % 256 < peer

/-- A tap after a request in 1/64 (R536): coded 1 increase, 2 decrease; a request at a limit is held. -/
def tapStep (req : Nat) (v lo hi : Int) : Int :=
  if req = 1 then min hi (v + 1) else if req = 2 then max lo (v - 1) else v

/-- The tap requests of a training frame. -/
def Lane.taps (l : Lane) (w : Nat) : Lane :=
  let ok (pre main post : Int) : Bool := pre.natAbs + main.natAbs + post.natAbs ≤ 64
  let pre := tapStep (bits w 23 22) l.pre (-16) 0
  let l1 := if ok pre l.main l.post then { l with pre := pre } else l
  let main := tapStep (bits w 21 20) l1.main 32 64
  let l2 := if ok l1.pre main l1.post then { l1 with main := main } else l1
  let post := tapStep (bits w 19 18) l2.post (-24) 0
  if ok l2.pre l2.main post then { l2 with post := post } else l2

/-- A word in negotiation (R533, R534). -/
def State.negotiationWord (s : State) (n w : Nat) : State :=
  let l := s.lane n
  let proposed := min l.limit (bits w 47 45)
  let matched := if bits w 44 42 = proposed then l.matched + 1 else 0
  let count := bits w 31 24
  let s1 := s.updLane n fun l => { l with proposed := proposed, matched := matched, count := count }
  if s.leads n (bits w 15 8) then
    if matched < 8 then s1.laneWord n 0 0 0
    else if proposed = 0 then s1.upAtG0 n
    else ((List.range 16).foldl (fun (s : State) i => s.laneWord n 0 0 (15 - i)) s1).startTraining n proposed
  else
    let s2 := s1.laneWord n 0 0 count
    if 8 ≤ matched && proposed = 0 then s2.upAtG0 n
    else if l.count = 1 && count = 0 && proposed != 0 then s2.startTraining n proposed
    else s2

/-- A word while a handshake of this part waits for LP_ACK (R543), or one by which the partner enters or leaves low power
on a mirror lane. -/
def State.lowPowerWord (s : State) (n w : Nat) : State :=
  let l := s.lane n
  let ask := bits w 38 37
  match l.lp with
  | some (level, _) => if l.state != 3 && l.state != 6 then s else if bit w 36 then s.lpEnter n level else s
  | none =>
    if n < 20 then s
    else if (l.state = 3 || l.state = 6) && (ask = 1 || ask = 2) && l.state != 5 + ask then
      ((s.updLane n fun l => { l with eqOwn := s.eqValid n }).laneWord n 0 1 0).lpEnter n ask
    else if l.state = 6 && ask = 0 then (s.updLane n fun l => { l with state := 3 }).laneUp n
    else s

/-- LANE_CONTROL_WORD (R528, R533, R536, R543). -/
def State.laneControlWord (s : State) (n w : Nat) : State :=
  let st := (s.lane n).state
  if bits w 55 48 != 2 || st < 3 || st = 7 then s
  else
    let s1 := s.updLane n fun l => { l with peer := bits w 15 8, eqPeer := bit w 41 }
    if st = 4 then s1.negotiationWord n w
    else if st = 5 then s1.updLane n fun l => l.taps w
    else s1.lowPowerWord n w

/-- VERIFICATION_PASSED at both ends: what the part sent on the way, and its equaliser state is stored (R537, R546). -/
def State.verificationPassed (s : State) (n : Nat) : State :=
  if (s.lane n).state != 5 then s
  else
    let s1 := (((s.laneReadyWords n).laneSends n 3).laneVerifiedWords n).updLane n fun l =>
      { l with state := 3, entered := s.now, eq := some ⟨l.grade, l.peer, s.dieTemp, s.now, (l.pre, l.main, l.post)⟩ }
    (s1.laneLinkUp n).laneUp n

/-- TRAIN_FALLBACK: training failed, or TRAIN_TIME has passed (R539). -/
def State.trainFallback (s : State) (n : Nat) : State := if (s.lane n).state = 5 then s.trainFailed n else s

/-- NEGOTIATION_TIMEOUT: 1 ms in G0_LOCK or NEGOTIATE (R542). -/
def State.negotiationTimeout (s : State) (n : Nat) : State :=
  let l := s.lane n
  if !s.due l.entered ms then s
  else if l.state = 2 then s.laneDetect n false
  else if l.state = 4 then
    ((s.updLane n fun l => { l with limit := 0 }).event (laneBlock n) 0x402 0).upAtG0 n
  else s

/-- LOCK_LOST: lock lost, or the error limit passed (R530, R531, R542). -/
def State.lockLost (s : State) (n : Nat) : State :=
  let s1 := s.inc (O.LOCK_LOSSES n)
  match (s.lane n).state with
  | 2 => s1.laneDetect n false
  | 3 => (s1.laneFail n false).event (laneBlock n) 0x401 0
  | 4 => s1.laneFail n false
  | 5 => s1.trainFailed n
  | 6 => (s1.laneFail n false).event (laneBlock n) 0x401 0
  | _ => s

/-- A retrain request on lane n; from RETRAIN it restores the limit, from R258 or R505 it does not (R540, R542). -/
def State.retrainLane (s : State) (n : Nat) (restore : Bool) : State :=
  if (s.lane n).state = 0 then s else s.laneFail n restore

/-- RETRAIN (R555). -/
def State.retrain (s : State) (v : Nat) : Reply :=
  let named := (List.range 24).filter (bit v)
  if 2 ^ 24 ≤ v then .of Status.range s
  else if v = 0 then .of Status.empty s
  else if named.any fun n => !s.rdB (O.LANE_CONFIG_ENABLE n) then .of Status.state s
  else .of Status.ok (named.foldl (fun (s : State) n => s.retrainLane n true) s)

/-- LP_ENTRY on lane n toward L1 (level 1) or L2 (level 2) (R542, R543). -/
def State.laneLpEntry (s : State) (n level : Nat) : State :=
  let st := (s.lane n).state
  if level != 1 && level != 2 then s
  else if st = 1 || st = 2 || st = 4 || st = 5 then s.updLane n fun l => { l with lpHeld := level }
  else if st = 3 || (st = 6 && level = 2) then s.lpAsk n level
  else s

/-- LP_NO_ACK: 10 µs without LP_ACK (R543). -/
def State.lpNoAck (s : State) (n : Nat) : State :=
  match (s.lane n).lp with
  | some (level, since) =>
    if s.due since 10000000 then (s.event (laneBlock n) 0x403 0).lpEnter n level else s
  | none => s

/-- LP_EXIT (R542, R544, R548). -/
def State.laneLpExit (s : State) (n : Nat) : State :=
  let l := s.lane n
  match l.state with
  | 6 => (s.laneWord n 0 0 0).updLane n fun l => { l with state := 3, lp := none }
  | 7 =>
    if l.eqPeer && l.eqOwn && s.eqValid n then
      let e := (l.eq.map (·.taps)).getD (l.pre, l.main, l.post)
      (s.updLane n fun l => { l with pre := e.1, main := e.2.1, post := e.2.2 }).startTraining n l.grade
    else s.laneDetect n false
  | _ => s.updLane n fun l => { l with lpHeld := 0, lp := none }

/-- EYE_MEASURE (R550). -/
def State.eyeMeasure (s : State) (n height width : Nat) : State :=
  let l := s.lane n
  if l.state != 3 || l.grade = 0 then s
  else
    let limit := s.rd O.EYE_WARN
    let s1 := s.wrs [(O.EYE_HEIGHT n, min 65535 height), (O.EYE_WIDTH n, min 65535 width)]
    if limit != 0 && height < limit then
      let s2 := s1.event (laneBlock n) 0x405 0
      if l.eyeLow then s2
      else (s2.warn (laneBlock n) 0x405 (0x2900 + n) 0xc []).updLane n fun l => { l with eyeLow := true }
    else if limit < height then s1.updLane n fun l => { l with eyeLow := false }
    else s1

end Sys2Proof.Machine
end

