-- ==== Sys2Proof/Machine/Heads.lean ====
section
/-! DEFINITION. What arrives from the head modules, and what the part sends again (R487 to R518). -/

namespace Sys2Proof.Machine

/-- The standard area is accepted (R510). -/
def identityOk (b : List Byte) : Bool :=
  u32At b 252 == (crc32c (b.take 252)) && u16At b 0 == 1 && u8At b 2 == 1 &&
  (List.range 6).all fun p => u8At b (56 + p) < u8At b 62

/-- What the part keeps of an accepted identity (R513). -/
def Head.identify (h : Head) (b : List Byte) : Head :=
  { h with link := 2, rowsFitted := u8At b 3 % 64, rowDie := (List.range 6).map fun p => u8At b (56 + p)
           minPeriod := (List.range 6).map fun p => u32At b (32 + 4 * p), maxGrade := u8At b 63, serial := u64At b 8
           commands := h.commands.filter (·.cmd != 2) }

/-- HEAD_LINK_UP: the lane of segment s is up and its module has answered IDENT_READ with these 512 bytes (R510, R512,
R532). A lane that is in DETECT or G0_LOCK comes up first. -/
def State.headLinkUp (s : State) (seg : Nat) (ident : List Byte) : State :=
  let st := (s.lane seg).state
  let s0 := if st = 1 || st = 2 then
      ((s.updLane seg fun l => { l with state := 3, grade := 0, entered := s.now }).readIdentity seg) else s
  if 16 ≤ seg || (s0.lane seg).state != 3 || !s0.laneEnabled seg || ident.length != 512 then s
  else
    let s1 := s0.domReplace (0x2810 + seg) ident
    if !identityOk ident then
      (s1.updHead seg fun h => { h with link := 4, rowsFitted := 0, commands := [] }).event (0x20 + seg) 0x312 0
    else
      let s2 := ((s1.updHead seg fun h => h.identify ident).updLane seg fun l =>
        { l with limit := min l.limit (min 3 (u8At ident 63)) }).bindHead seg (u64At ident 8)
      let s3 := s2.negotiate seg
      if (s3.lane seg).state = 3 then s3.headReady seg else s3

/-- Lines of a segment's rows that were reported not driven (R497). -/
def State.notDriven (s : State) (seg row : Nat) (owners : List Owner) (reason : Nat) : State :=
  let c := if reason = 5 then SpoilCause.interlock else .fault
  (s.inc (if reason = 5 then O.INTERLOCK_LINES else O.FAULT_LINES)).spoilOwners owners c (rowKey seg row)

/-- The STATUS was sent after the pulse of a line: its NEXT_POS lies behind it (R11, R490, R498). -/
def Unconfirmed.confirmedBy (u : Unconfirmed) (st : HeadReport) : Bool :=
  let d := (st.nextPos.getD u.row 0 + (2 ^ 32 - u.w % 2 ^ 32)) % 2 ^ 32
  0 < d && d < 2 ^ 31

/-- What the part keeps of a STATUS (R446, R498 to R500). -/
def Head.report (h : Head) (st : HeadReport) (now : Nat) : Head :=
  let owning := st.ownerState = 1
  { h with ownerState := st.ownerState, flags := st.flags % 32, voltage := st.voltage % 2 ^ 16
           temps := (List.range 6).map fun i => st.temps.getD i 0
           reported := some now, stale := List.replicate 6 false
           flushed := h.flushed && (h.ownerState = 1 || !owning)
           notDriven := st.notDriven, ndEvents := 0
           unconfirmed := if owning then h.unconfirmed.filter fun u => !u.confirmedBy st else h.unconfirmed }

/-- A head module reports a contention (R793). -/
def State.headContends (s : State) (seg : Nat) : State := (s.inc (O.HEAD_CONTENTIONS seg)).conflict

/-- HEAD_STATUS (R441, R446, R498 to R500, R788, R793). A STATUS from the owning port confirms the lines pulsed before it was
sent; one whose count has advanced by more than the events makes those since the previous STATUS not driven. -/
def State.headStatus (s : State) (seg : Nat) (st : HeadReport) : State :=
  let h := s.head seg
  if h.link = 0 || 16 ≤ seg then s
  else
    let lost := st.ownerState = 1 && h.reported.isSome && h.notDriven + h.ndEvents < st.notDriven
    let s1 := s.updHead seg fun h => h.report st s.now
    let s2 := if lost then
        (h.unconfirmed.filter (·.confirmedBy st)).foldl (fun (s : State) u => s.notDriven seg u.row u.owners 0)
          (s1.event (0x20 + seg) 0x314 0)
      else s1
    let s3 := s2.updHead seg fun h => { h with contention := bit st.flags 0 }
    (if bit st.flags 0 && !h.contention then s3.headContends seg else s3).takeoverHead seg

/-- A packet goes out again with RETRANSMIT (R506, R507). -/
def State.sendAgain (s : State) (seg : Nat) (p : SentPacket) : State :=
  (((s.sendIdle seg).updHead seg fun h =>
    { h with sent := h.sent.map fun q => if q.seq = p.seq then { q with again := q.again + 1 } else q }).inc
    (O.RETRANSMISSIONS seg)).emit (.thl seg (thlBytes p.ty p.row p.seq (p.flags + thlRetransmit) p.pwId p.firePos p.payload))

/-- HEAD_NAK (R504 to R507). Each named packet that is no longer held counts in STALE_NAKS (DEDUCED, log 47). -/
def State.headNak (s : State) (seg first count : Nat) : State :=
  if (s.head seg).link = 0 || 16 ≤ seg then s
  else if 64 < count then (s.event (0x20 + seg) 0x311 0).retrainLane seg false
  else
    let s0 := s.updHead seg fun h => h.prune s.now
    (List.range count).foldl (fun (s : State) i =>
      match (s.head seg).packet? ((first + i) % 65536) with
      | some p => if p.again < s.rd O.RETX_LIMIT then s.sendAgain seg p else s
      | none => s.inc (O.STALE_NAKS seg)) s0

/-- HEAD_RESPONSE but for the host that waits for it: the command is answered; a module that answered HEAD_RESET begins
again at step 1 of *Head link-up* (R487, R517). -/
def State.headAnswered (s : State) (seg cmd tag status : Nat) : State :=
  let s1 := s.updHead seg fun h => { h with commands := h.commands.filter fun c => !(c.cmd == cmd && c.tag == tag) }
  if cmd = 5 && status = 0 then (s1.updHead seg fun h => { h with sent := [], flushed := false, events := [] }).readIdentity seg else s1

/-- The moments of the events that may still have a second copy on the way: it comes 10 µs after the first (R502, log 156). -/
def Head.lateCopies (h : Head) (now : Nat) : List (Nat × Nat) := h.events.filter fun e => now < e.2 + ms

/-- HEAD_EVENT (R497, R502, R503): of two copies the first that arrives counts. -/
def State.headEvent (s : State) (seg seq code row pos data : Nat) : State :=
  let h := s.head seg
  let known := h.lateCopies s.now
  if h.link = 0 || 16 ≤ seg || code = 0 || 6 < code then s
  else if known.any fun e => e.1 = seq then s.updHead seg fun h => { h with events := known.filter fun e => e.1 != seq }
  else
    let s1 := (s.updHead seg fun h => { h with events := (seq, s.now) :: known }).event (0x20 + seg) (0x300 + code) data
    match code with
    | 1 =>
      let hit := h.unconfirmed.find? fun u => u.row == row && u.w % 2 ^ 32 == pos
      let s2 := (s1.updHead seg fun h =>
        { h with ndEvents := h.ndEvents + 1
                 unconfirmed := h.unconfirmed.filter fun u => !(u.row == row && u.w % 2 ^ 32 == pos) }).inc
        (O.LINES_NOT_DRIVEN seg)
      s2.notDriven seg row ((hit.map (·.owners)).getD []) data
    | 2 => if h.ownerState = 1 then s1.updHead seg fun h => { h with flushed := false } else s1
    | 3 => (s1.updHead seg fun h => { h with contention := true }).headContends seg
    | 4 =>
      (s1.updHead seg fun h =>
        { h with ownerState := data % 256, flushed := h.flushed && (h.ownerState = 1 || data != 1) }).takeoverHead seg
    | _ => s1

/-- COMMAND_RESEND (R488): the oldest command without an answer for 1 ms. -/
def State.commandResend (s : State) (seg : Nat) : State :=
  match (s.head seg).commands with
  | c :: rest =>
    if !s.due c.last ms then s
    else if 3 ≤ c.sendings then (s.event (0x20 + seg) 0x313 0).headDown seg
    else
      (s.updHead seg fun h => { h with commands := rest ++ [{ c with sendings := c.sendings + 1, last := s.now }] }).thlSend
        seg 4 255 0 0 0 ([toByte c.cmd, toByte c.tag, 0#8, 0#8] ++ c.args)
  | [] => s

/-- HEAD_RESET (R517). -/
def State.headReset (s : State) (v : Nat) : Reply :=
  let named := (List.range 16).filter (bit v)
  if named.any fun seg => (s.head seg).link != 3 then .of Status.range s
  else if s.power.state = 0 then .of Status.state s
  else .of Status.ok (named.foldl (fun (s : State) seg => s.headCommand seg 5 []) s)

/-- SEGMENT_ENABLE has changed (R516). -/
def State.segmentsChanged (s : State) : State :=
  (List.range 16).foldl (fun (s : State) seg =>
    (s.updHead seg fun h => { h with claimed := s.graft.owner && s.segEnabled seg }).laneEnableChanged seg) s

/-- REPORT_INTERVAL has changed (R518). -/
def State.intervalChanged (s : State) : State :=
  (List.range 16).foldl (fun (s : State) seg => if (s.head seg).link = 3 then s.setReport seg else s) s

end Sys2Proof.Machine
end

