-- ==== Sys2Proof/Machine/Dram.lean ====
section
/-! DEFINITION. The memory channels: freeze and its record, refresh, mode register 4, patrol scrub (R650 to R672). -/

namespace Sys2Proof.Machine

/-- STATE of channel c: 0 training, 1 filling, 2 running, 3 frozen, 4 failed, 5 retraining. -/
def State.channel (s : State) (c : Nat) : Nat := s.rd (O.CHANNEL_STATUS_STATE c)

/-- The block ID of channel c. -/
def dramBlock (c : Nat) : Nat := 9 + c

/-- R643: the channel of a part address, and the byte address there: 1 KiB blocks lie on the four channels in turn. -/
def channelOf (a : Nat) : Nat := a / 1024 % 4
def channelByte (a : Nat) : Nat := a / 4096 * 1024 + a % 1024

/-- R643: the bank group and the bank of a part address, of so many bank groups and banks in each: consecutive blocks of a
channel fall in successive bank groups, then in successive banks. -/
def bankGroupOf (groups a : Nat) : Nat := a / 4096 % groups
def bankOf (groups banks a : Nat) : Nat := a / 4096 / groups % banks

/-- Bank groups of the fitted devices, 1 to 8, and banks of each, 1 to 4: the manual leaves the devices' width open. -/
def fittedGroups : Nat := Config.bankGroups.toNat + 1
def fittedBanks : Nat := Config.banks.toNat + 1

/-- *Freeze record* of channel c, for the first error (R662); the bank follows from the address (R643). -/
def State.freezeRecord (s : State) (c kind : Nat) (r : FreezeReport) : State :=
  s.wrs [(O.FREEZE_KIND c, kind), (O.FREEZE_ADDRESS c, r.address % 2 ^ 64), (O.FREEZE_BANK_GROUP c, bankGroupOf fittedGroups r.address),
    (O.FREEZE_BANK c, bankOf fittedGroups fittedBanks r.address), (O.FREEZE_ROW c, r.row % 2 ^ 32), (O.FREEZE_COLUMN c, r.column % 2 ^ 16),
    (O.FREEZE_SYNDROME c, if kind = 2 then 0 else r.syndrome % 256), (O.FREEZE_COMMAND c, r.command % 256),
    (O.FREEZE_PORT c, r.port % 256), (O.FREEZE_TIME c, s.mono)]

/-- An uncorrectable error (kind 1) or a low level on ALERT_N (kind 2) at channel c (R661 to R664). A word that
does not lie on the channel is no word of its (R643). -/
def State.freeze (s : State) (c kind : Nat) (r : FreezeReport) : State :=
  if 4 ≤ c || s.channel c = 0 || channelOf r.address != c then s
  else
    let code := kind + 1
    let s0 := if kind = 1 then s.inc (O.CHANNEL_STATUS_UNCORRECTABLE c) else s
    if s.channel c = 1 || s.channel c = 2 then
      let s1 := ((s0.freezeRecord c kind r).wr (O.CHANNEL_STATUS_STATE c) 3).wr O.DRAM_FROZEN
        (setBit (s.rd O.DRAM_FROZEN) c true)
      let s2 := s1.event (dramBlock c) code 0
      { s2 with
        acts := s2.acts ++ [.safe ⟨dramBlock c, 3, code⟩ true]
        fire := { s2.fire with voidNext := true } }
    else s0.event (dramBlock c) code 0

/-- The refresh debt of a channel. -/
def State.updDram (s : State) (c : Nat) (f : DramChannel → DramChannel) : State := { s with dram := s.dram.modify c f }

/-- A refresh of bank index b falls due; needed tells that a queued request needs the index (R650 to R653). Where none
does, the postponed refreshes are made too (DEDUCED, log 48). -/
def State.refreshDue (s : State) (c b : Nat) (needed : Bool) : State :=
  if 4 ≤ c || s.channel c = 0 || s.channel c = 4 || s.channel c = 5 then s
  else
    let debt := (((s.dram.getD c ⟨[], [], []⟩).debt.getD b 0) + 1)
    if !needed then s.updDram c fun d => { d with debt := d.debt.set b 0 }
    else if debt < 4 then s.updDram c fun d => { d with debt := d.debt.set b debt }
    else (s.updDram c fun d => { d with debt := d.debt.set b 3 }).inc (O.FORCED_REFRESHES c)

/-- MR4_READ (R651). -/
def State.mr4Read (s : State) (c : Nat) (doubled : Bool) : State :=
  if 4 ≤ c || s.channel c = 0 || s.channel c = 4 then s
  else s.wr (O.REFRESH_RATE c) (if doubled then 2 else 1)

/-- A word that the scrub corrected (R657, R659). -/
def State.scrubCorrect (s : State) (c addr : Nat) : State :=
  let d := s.dram.getD c ⟨[], [], []⟩
  let s1 := ((((s.inc (O.DRAM_CORRECTED c)).wr (O.LAST_CORRECTED c) (addr % 2 ^ 64)).updDram c fun d =>
    { d with thisPass := addr :: d.thisPass.filter (· != addr) })).event (dramBlock c) 1 0
  if d.lastPass.contains addr then (s1.inc (O.DRAM_STICKY c)).event (dramBlock c) 4 0 else s1

/-- A task of *Understorey tasks* has completed a run. -/
def State.taskDone (s : State) (i : Nat) : State := (s.inc (O.TASK_RUNS i)).wr (O.TASK_LAST_DONE i) s.mono

/-- Scrub passes that every channel has completed. -/
def State.allPasses (s : State) : Nat :=
  (List.range 4).foldl (fun n c => min n (s.rd (O.SCRUB_PASSES c))) (s.rd (O.SCRUB_PASSES 0))

/-- PATROL_SCRUB of channel c (R657 to R659, R661). -/
def State.patrolScrub (s : State) (c : Nat) (r : ScrubResult) : State :=
  if 4 ≤ c || s.channel c != 2 then s
  else
    let s1 := r.corrected.foldl (fun (s : State) a => s.scrubCorrect c a) (s.wr (O.SCRUB_POSITION c) (r.position % 2 ^ 64))
    let s2 := if r.passDone then
        (s1.inc (O.SCRUB_PASSES c)).updDram c fun d => { d with lastPass := d.thisPass, thisPass := [] }
      else s1
    let s3 := if s.allPasses < s2.allPasses then s2.taskDone 0 else s2
    match r.uncorrectable with
    | some e => s3.freeze c 1 e
    | none => s3

end Sys2Proof.Machine
end

