-- ==== Sys2Proof/Machine/Understorey.lean ====
section
/-! DEFINITION. The background work: die temperatures, the SRAM scrub, telemetry and the flash log (R757 to R764, R886). -/

namespace Sys2Proof.Machine

/-- THERMAL_READ of the eight on-die sensors, 1/16 °C (R886). -/
def State.thermalRead (s : State) (codes : List Nat) : State :=
  let readings := (List.range 8).map fun k => clampI (-32768) 32767 (s.sensorReading k (codes.getD k 0))
  let high := (indexed readings).foldl (fun best e =>
    match best with
    | some b => if b.1 < e.2 then some (e.2, e.1) else best
    | none => some (e.2, e.1)) s.under.hottest
  let runs := (List.range 8).map fun k => if 2080 < readings.getD k 0 then s.safe.hotReads.getD k 0 + 1 else 0
  let s1 : State :=
    { s.wr O.TEMP_READINGS (octOf 2 (readings.map (ofInt 16))) with
      under := { s.under with hottest := high }
      safe := { s.safe with hotReads := runs, hot := s.safe.hot && !readings.all (· < 1920) } }
  if !s1.safe.hot && runs.any (10 ≤ ·) then
    let s2 := ({ s1 with safe := { s1.safe with hot := true } } : State).inc O.THERMAL_TRIPS
    (s2.event 1 0x10 0).requestSafe 1 6 0x10
  else s1

/-- SRAM_SCRUB: a pass with its corrected and uncorrectable words (R759). -/
def State.sramScrub (s : State) (corrected bad : Nat) : State :=
  let s1 := (List.range corrected).foldl (fun (s : State) _ => s.event 0x41 3 0) s
  ((List.range bad).foldl (fun (s : State) _ => s.event 0x41 4 0) s1).taskDone 1

/-- What a telemetry record counts since the previous one: fire pulses, pages PRINTED and SPOILED, DRAM words
corrected. -/
def State.telemetryCounts (s : State) : List Nat :=
  [s.rd O.FIRED_LINES, s.under.printed, s.under.spoiled,
   ((List.range 4).map fun c => s.rd (O.DRAM_CORRECTED c)).foldl (· + ·) 0]

/-- *Telemetry record*; the lane errors since the previous one are given. -/
def State.telemetryRecord (s : State) (sense : List Nat) (laneErrors : Nat) : List Byte :=
  let now := s.telemetryCounts
  let since (i : Nat) : Nat := now.getD i 0 - s.under.last.getD i 0
  natLE 8 s.mono ++ natLE 8 s.ptp ++ [toByte s.power.state, toByte (b2n s.safe.active + 2 * b2n (s.time.servo == 2))] ++
  natLE 2 0 ++ natLE 16 (s.rd O.TEMP_READINGS) ++ ((List.range 32).flatMap fun i => natLE 2 (sense.getD i 0)) ++
  natLE 4 (ofInt 32 s.speed) ++ ((List.range 4).flatMap fun i => natLE 4 (since i)) ++ natLE 4 laneErrors ++ List.replicate 132 0#8

/-- TELEMETRY_SAMPLE (R760). What the lanes could not correct is a free value, as their counters are. -/
def State.telemetrySample (s : State) (sense : List Nat) : State :=
  if !s.rdB O.TELEMETRY_ENABLE then s
  else
    let d := s.draw
    let s := d.2
    let r := s.telemetryRecord sense (Config.free d.1).toNat
    (({ s with under := { s.under with
      last := s.telemetryCounts, records := (r :: s.under.records).take 3600, unlogged := min 3600 (s.under.unlogged + 1) } }
      : State).wr O.TELEMETRY (leNat r)).taskDone 5

/-- Bytes of the chunk ring, and of its sectors. -/
def ringBytes : Nat := 16646144
def ringSector : Nat := 65536

/-- A sector of the ring is erased. -/
def Flash.eraseSector (f : Flash) (i : Nat) : Flash :=
  { f with ring := f.ring.filter fun c => c.1 / ringSector != i
           erases := f.erases.modify i (· + 1) }

/-- Bytes are written to the ring from its next offset on; each sector that they enter is erased first (R763). -/
def Flash.ringWrite (f : Flash) : List Byte → Flash
  | [] => f
  | b :: bs =>
    let o := f.ringNext
    let f1 := if o % ringSector = 0 then f.eraseSector (o / ringSector) else f
    ({ f1 with ring := mapSet f1.ring o b 0xff#8, ringNext := (o + 1) % ringBytes } : Flash).ringWrite bs

/-- A chunk of the records not logged yet and of the SEVERE entries (R761, R762); FLASH_LOG changes, so its generation advances
(R90, log 171). -/
def State.writeChunk (s : State) : State :=
  let s := s.setDom 0x1712 { s.dom 0x1712 with gen := ((s.dom 0x1712).gen + 1) % 2 ^ 32 }
  let entries := s.under.severe.take 64
  let body := (s.under.records.take s.under.unlogged).reverse.flatten ++ entries.flatMap LogEntry.bytes
  let packed := deflateOf body
  let small := packed.length < body.length
  let data := if small then packed else body
  let seq := (s.flash.chunkSeq + 1) % 2 ^ 32
  let head := natLE 2 0x474c ++ [toByte (b2n small), toByte entries.length] ++ natLE 4 seq ++ natLE 4 data.length ++
    natLE 4 (crc32c data)
  ({ s with
    under := { s.under with unlogged := 0, severe := [] }
    flash := { s.flash.ringWrite (head ++ data) with chunkSeq := seq } } : State).add O.DROPPED_ENTRIES
      (s.under.severe.length - 64) |>.engineJob body.length (min packed.length body.length)
    |>.add O.COMPRESS_NO_SHRINK (b2n !small)

/-- LOG_CHUNK (R761). -/
def State.logChunk (s : State) : State :=
  if s.rdB O.TELEMETRY_ENABLE && !s.boot.railFallen then s.writeChunk.taskDone 6 else s

/-- MAX_ERASES. -/
def State.maxErases (s : State) : Nat := s.flash.erases.foldl max 0

/-- The block that a task's events count against is its own; a late task counts against 41h (R758). -/
def State.taskLate (s : State) (task : Nat) : State :=
  if 7 ≤ task then s else (s.inc (O.TASK_LATE task)).event 0x41 1 task

end Sys2Proof.Machine
end

