-- ==== Sys2Proof/Machine/SafeOps.lean ====
section
/-! DEFINITION. Leaving safe state (R33, R34, R665, R666, R754, R755). -/

namespace Sys2Proof.Machine

/-- Some cause of *Safe causes* is present and not cleared: a SEVERE class, a register fault, FULL debug, and of kind 6 a
die above its limit, a pending reset (R103) and a channel that failed its training at boot (R669). -/
def State.causePresent (s : State) : Bool :=
  ((List.range 0x42).any fun b => s.safeClassSevere b || bit (s.faultRec b).flags 3) || s.access.level = 2 || s.safe.hot ||
  s.boot.pendingReset.isSome || s.boot.code = 0x85

/-- The Graft state after SAFE_CLEAR (*Graft role transitions*). A part that enters SYNC rejoins from its partner's snapshot: with the
mirror bond up it forms the pair anew (log 174). -/
def State.graftClear (s : State) : State :=
  match s.graft.state with
  | 0 => s.setOwner true
  | 4 =>
    if !s.graft.yieldIn || s.graft.pins != 1 then
      let s1 : State := { s with graft := { s.graft with state := 2, syncPos := none, mismatch := false, seeded := false } }
      if s1.mirror.link = 2 && s1.graft.pins != 0 then s1.startForming else s1
    else
      let s1 := ((s.setHolding true).graftState 1).setOwner true
      (List.range 16).foldl (fun (s : State) seg =>
        if (s.head seg).link = 3 && (s.head seg).claimed then s.flush seg else s) s1
  | _ => s

/-- Safe state is left (R755). -/
def State.leaveSafe (s : State) : State :=
  let c := s.safe.first.getD ⟨0xff, 0, 0⟩
  let s1 : State := { s with safe := { s.safe with active := false, causes := [], clearing := false } }
  s1.graftClear.notice 4 1 0 0x1601 0 ([toByte c.block, toByte c.kind] ++ natLE 2 c.code)

/-- Both sets are lost, and what was composed of them. -/
def State.dropSets (s : State) : State :=
  let s1 := s.loseSets
  { s1 with
    compose := { s1.compose with lines := [], refs := [], partialRef := [] }
    inspect := { s1.inspect with spans := [], found := [] }
    fire := { s1.fire with rows := s1.fire.rows.map fun r => { r with lines := [], placed := [] } } }

/-- SAFE_CLEAR. -/
def State.safeClear (s : State) (v : Nat) : Reply :=
  if v != 1 then .of Status.range s
  else if !s.safe.active then .of Status.empty s
  else if s.safe.clearing then .of Status.busy s
  else if s.causePresent then .of Status.state s
  else if s.rd O.DRAM_FROZEN != 0 then
    let s1 := s.dropSets
    let s2 := ((List.range 4).filter (bit (s.rd O.DRAM_FROZEN))).foldl (fun (s : State) c =>
      s.wr (O.CHANNEL_STATUS_STATE c) 5) s1
    .of Status.ok { s2 with safe := { s2.safe with causes := [], clearing := true } }
  else .of Status.ok s.leaveSafe

/-- A frozen channel trains or fills again (R665). -/
def State.retraining (s : State) : Bool :=
  (List.range 4).any fun c => s.channel c = 5 || (s.channel c = 1 && bit (s.rd O.DRAM_FROZEN) c)

/-- When the retraining of R665 has ended on every channel, the part leaves safe state if all of them run and no cause has arisen
since (R665, R666). -/
def State.checkCleared (s : State) : State :=
  if s.safe.active && s.safe.clearing && !s.retraining then
    if s.safe.causes.isEmpty && s.rd O.DRAM_FROZEN = 0 then s.leaveSafe else { s with safe := { s.safe with clearing := false } }
  else s

/-- DRAM_RETRAIN_DONE: the channel fills again, or has failed (R665, R666). -/
def State.retrainDone (s : State) (c : Nat) (ok : Bool) : State :=
  if 4 ≤ c || s.channel c != 5 then s
  else if ok then s.wr (O.CHANNEL_STATUS_STATE c) 1
  else ((s.wr (O.CHANNEL_STATUS_STATE c) 4).event (dramBlock c) 5 0).checkCleared

/-- DRAM_FILL_DONE (R670, R671). -/
def State.fillDone (s : State) (c : Nat) : State :=
  if 4 ≤ c || s.channel c != 1 then s
  else
    let s1 := (s.wr (O.CHANNEL_STATUS_STATE c) 2).wr O.DRAM_FROZEN (setBit (s.rd O.DRAM_FROZEN) c false)
    let s2 := if (List.range 4).all fun c => s1.channel c = 2 then s1.wr O.DRAM_FILL_DONE 1 else s1
    s2.checkCleared

end Sys2Proof.Machine
end

