-- ==== Sys2Proof/Machine/Movers.lean ====
section
/-! DEFINITION. Host moves: the checks of their chains, what a descriptor does, and how it ends (R678 to R714). -/

namespace Sys2Proof.Machine

/-- A DMA descriptor (*DMA descriptor*). -/
structure Descriptor where
  src : Nat
  dst : Nat
  srcLine : Nat
  srcStride : Nat
  srcCount : Nat
  dstLine : Nat
  dstStride : Nat
  dstCount : Nat
  op : Nat
  flags : Nat
  clean : Bool
deriving DecidableEq, Repr

/-- The descriptor that 64 bytes spell. -/
def descriptorOf (b : List Byte) : Descriptor :=
  { src := u64At b 0, dst := u64At b 8, srcLine := u32At b 16, srcStride := u32At b 20, srcCount := u32At b 24
    dstLine := u32At b 28, dstStride := u32At b 32, dstCount := u32At b 36, op := u8At b 40, flags := u8At b 41
    clean := u8At b 41 < 32 && ((b.drop 42).take 22).all (· == 0#8) }

/-- The chain of move m: its descriptors up to LAST or the end of its store (R681). -/
def State.chain (s : State) (m : Nat) : List Descriptor :=
  let bs := s.domAll (0x3338 + m)
  let all := (List.range (bs.length / 64)).map fun i => descriptorOf ((bs.drop (64 * i)).take 64)
  match all.findIdx? fun d => bit d.flags 0 with
  | some i => all.take (i + 1)
  | none => all

/-- The host buffers in the address space. -/
def bufferBase : Nat := 0x1000000000
def bufferSize : Nat := 0x4000000

/-- A range of addresses lies in the host buffers, or in DRAM. -/
def inBuffers (a n : Nat) : Bool := bufferBase ≤ a && a + n ≤ bufferBase + 8 * bufferSize
def State.inDram (s : State) (a n : Nat) : Bool := a + n ≤ s.capacity

/-- The descriptor moves nothing (*Descriptor checks*, 1). -/
def Descriptor.empty (d : Descriptor) : Bool := d.srcLine = 0 || d.srcCount = 0 || d.dstLine = 0 || d.dstCount = 0

/-- Addresses from the first line to the end of the last one. -/
def srcSpan (d : Descriptor) : Nat := d.srcStride * (d.srcCount - 1) + d.srcLine
def dstSpan (d : Descriptor) : Nat := d.dstStride * (d.dstCount - 1) + d.dstLine

/-- R692: the descriptor may be started by the host. -/
def State.descriptorOk (s : State) (d : Descriptor) : Bool :=
  d.op ≤ 2 && d.clean && (!bit d.flags 4 || d.op = 1) &&
  (d.empty || ((inBuffers d.dst (dstSpan d)) &&
    (inBuffers d.src (srcSpan d) || s.inDram d.src (srcSpan d) ||
      (List.range d.srcCount).all fun i =>
        inBuffers (d.src + i * d.srcStride) d.srcLine || s.inDram (d.src + i * d.srcStride) d.srcLine)))

/-- A side is one-dimensional (R684). -/
def Descriptor.flat (d : Descriptor) : Bool :=
  (d.srcCount = 1 || d.srcStride = d.srcLine) && (d.dstCount = 1 || d.dstStride = d.dstLine)

/-- *Descriptor checks*: the status with which the descriptor ends before any traffic. -/
def Descriptor.check (d : Descriptor) : Option Nat :=
  if d.empty then some 2
  else if d.op = 0 && d.srcLine * d.srcCount != d.dstLine * d.dstCount then some 4
  else if d.op != 0 && (d.srcCount != 1 || d.dstCount != 1) then some 4
  else if d.op = 0 && !d.flat && d.src < d.dst + dstSpan d && d.dst < d.src + srcSpan d then some 3
  else none

/-- Addresses of a side, byte by byte. -/
def sideAt (a line stride k : Nat) : Nat := a + k / line * stride + k % line

/-- CAPTURE_BASE: the ring lies somewhere in the fitted DRAM. -/
def State.captureBase (s : State) : Nat := Config.captureBase.toNat % (s.capacity - s.rd O.CAPTURE_SIZE + 1)

/-- The byte at an address: a host buffer's, or of the capture ring; other DRAM content is a free value of draw d. -/
def State.memByte (s : State) (d a : Nat) : Byte :=
  if inBuffers a 1 then (s.dom (0x3348 + (a - bufferBase) / bufferSize)).byte (domFill 0x3348) ((a - bufferBase) % bufferSize)
  else
    let base := s.captureBase
    if base ≤ a && a < base + s.rd O.CAPTURE_SIZE then mapGet s.movers.ring (a - base) 0#8
    else (Config.free d).setWidth 8

/-- n bytes of a side, and the state after the free values they draw. -/
def State.memRead (s : State) (a line stride n : Nat) : List Byte × State :=
  ((List.range n).map fun k => s.memByte (s.draws + k) (sideAt a line stride k), { s with draws := s.draws + n })

/-- A byte of a host buffer is written; an address outside the buffers takes none. -/
def State.memPut (s : State) (a : Nat) (b : Byte) : State :=
  if inBuffers a 1 then
    let idx := 0x3348 + (a - bufferBase) / bufferSize
    s.setDom idx ((s.dom idx).set (domFill idx) ((a - bufferBase) % bufferSize) b)
  else s

/-- The generation of each buffer that a range touches advances (R695). -/
def State.touchBuffers (s : State) (a n : Nat) : State :=
  (List.range 8).foldl (fun (s : State) m =>
    let lo := bufferBase + m * bufferSize
    if a < lo + bufferSize && lo < a + n then
      let d := s.dom (0x3348 + m)
      s.setDom (0x3348 + m) { d with gen := (d.gen + 1) % 2 ^ 32 }
    else s) s

/-- Bytes are written to a side, in ascending order (R686). -/
def State.memWrite (s : State) (a line stride : Nat) (bs : List Byte) : State :=
  let s1 := (indexed bs).foldl (fun (s : State) e => s.memPut (sideAt a line stride e.1) e.2) s
  if bs.isEmpty then s1 else s1.touchBuffers a ((bs.length - 1) / line * stride + line)

/-- n free values are written to a side: content that the manual leaves undefined. -/
def State.memLost (s : State) (a line stride n : Nat) : State :=
  ({ s with draws := s.draws + n } : State).memWrite a line stride
    ((List.range n).map fun k => (Config.free (s.draws + k)).setWidth 8)

/-! ### Bursts (R678) -/

/-- A burst: where it reads, where it writes, and its bytes. One of a compression job reads or writes. -/
structure Burst where
  src : Option Nat
  dst : Option Nat
  len : Nat
deriving DecidableEq, Repr

/-- Bytes from address a to the next 128-byte boundary. -/
def toBoundary (a : Nat) : Nat := 128 - a % 128

/-- The burst of a COPY that begins at byte k: at most 128 bytes, within one line and one aligned block of either side. -/
def Descriptor.burstAt (d : Descriptor) (k : Nat) : Burst :=
  let a := sideAt d.src d.srcLine d.srcStride k
  let b := sideAt d.dst d.dstLine d.dstStride k
  ⟨some a, some b, min (min (d.srcLine - k % d.srcLine) (d.dstLine - k % d.dstLine)) (min (toBoundary a) (toBoundary b))⟩

/-- The bursts of a COPY from byte k on; fuel bounds them. -/
def Descriptor.burstsFrom (d : Descriptor) : Nat → Nat → List Burst
  | 0, _ => []
  | fuel + 1, k =>
    if k < d.srcLine * d.srcCount then
      let b := d.burstAt k
      b :: d.burstsFrom fuel (k + b.len)
    else []

/-- n bytes from address a in bursts; fuel bounds them. -/
def segments : Nat → Nat → Nat → List (Nat × Nat)
  | 0, _, _ => []
  | fuel + 1, a, n =>
    if n = 0 then []
    else
      let k := min n (toBoundary a)
      (a, k) :: segments fuel (a + k) (n - k)

/-- The COPY goes down from its last byte (R684). -/
def Descriptor.descends (d : Descriptor) : Bool :=
  d.flat && d.src < d.dst && d.dst < d.src + d.srcLine * d.srcCount

/-- The bursts of a descriptor in their order: of a COPY, or the reads of a compression job and the writes that fill its window. -/
def Descriptor.bursts (d : Descriptor) (w : Nat × Nat) : List Burst :=
  if d.op = 0 then
    let bs := d.burstsFrom (d.srcLine * d.srcCount) 0
    if d.descends then bs.reverse else bs
  else (segments d.srcLine d.src d.srcLine).map (fun e => (⟨some e.1, none, e.2⟩ : Burst)) ++
    (segments w.2 w.1 w.2).map fun e => ⟨none, some e.1, e.2⟩

/-- The bytes of bursts. -/
def burstBytes (bs : List Burst) : Nat := (bs.map (·.len)).foldl (· + ·) 0

/-- The address of the burst that an address lies in, on the side where it does. -/
def Burst.addressOf (b : Burst) (a : Nat) : Option Nat :=
  let on (x : Option Nat) : Option Nat := x.bind fun y => if y ≤ a && a < y + b.len then some y else none
  match on b.src with
  | some y => some y
  | none => on b.dst

/-- The burst meets a channel of the mask: its address there. -/
def Burst.barred (b : Burst) (mask : Nat) : Option Nat :=
  let on (x : Option Nat) : Option Nat := x.bind fun y => if bit mask (channelOf y) then some y else none
  match on b.src with
  | some y => some y
  | none => on b.dst

/-- Bursts of a host move are counted (3300h.03). -/
def State.countBursts (s : State) (n : Nat) : State := s.add O.DMA_BURSTS n

/-! ### The course of a move -/

def State.move (s : State) (m : Nat) : HostMove := s.movers.moves.getD m .init

def State.updMove (s : State) (m : Nat) (f : HostMove → HostMove) : State :=
  { s with movers := { s.movers with moves := s.movers.moves.modify m f } }

/-- STATE of channel n: 0 idle, 1 running, 2 suspended, 3 halted. -/
def State.dmaState (s : State) (n : Nat) : Nat := s.rd (O.DMA_STATE n)

/-- A descriptor of channel n ends with a status: OVERLAP and BUS_ERROR are counted (R687, R691). -/
def State.dmaStatus (s : State) (n status : Nat) : State :=
  let s1 := s.wr (O.DMA_LAST_STATUS n) status
  if status = 3 then (s1.inc O.OVERLAP_REJECTS).event 8 2 0
  else if status = 5 then (s1.inc O.DMA_BUS_ERRORS).event 8 1 0
  else s1

/-- The channel halts: what its streams hold is discarded. -/
def State.dmaHalt (s : State) (m status : Nat) : State :=
  ((s.dmaStatus (24 + m) status).wr (O.DMA_STATE (24 + m)) 3).updMove m fun _ => .init

/-- The channel fetches descriptors from index i of the chain on, up to one that has traffic (R682, R687). -/
def State.dmaFetch (s : State) (m i : Nat) : List Descriptor → State
  | [] => (s.wr (O.DMA_STATE (24 + m)) 0).updMove m fun _ => .init
  | d :: rest =>
    let s1 := s.wr (O.DMA_DESCRIPTOR (24 + m)) i
    match d.check with
    | some 2 => ((s1.dmaStatus (24 + m) 2).wr (O.DMA_REMAINING (24 + m)) 0).dmaFetch m (i + 1) rest
    | some st => s1.dmaHalt m st
    | none => (s1.wrs [(O.DMA_STATE (24 + m), 1), (O.DMA_REMAINING (24 + m), d.srcLine * d.srcCount),
        (O.INPUT_CONSUMED (24 + m), 0), (O.OUTPUT_PRODUCED (24 + m), 0)]).updMove m fun h => { h with barred := s1.rd O.DRAM_FROZEN }

/-- The descriptor under way is DONE: the next one is fetched. -/
def State.dmaDone (s : State) (m : Nat) : State :=
  let i := s.rd (O.DMA_DESCRIPTOR (24 + m)) + 1
  let s1 := ((s.dmaStatus (24 + m) 1).wr (O.DMA_REMAINING (24 + m)) 0).updMove m fun h => { h with resume := none }
  s1.dmaFetch m i ((s1.chain m).drop i)

/-- The output window of a DEFLATE or INFLATE descriptor: its destination, or what a resume named (R694). -/
def State.window (s : State) (m : Nat) (d : Descriptor) : Nat × Nat := (s.move m).resume.getD (d.dst, d.dstLine)

/-- The output of an engine goes to the window: out is the whole output of the descriptor, of which OUTPUT_PRODUCED is
written. At the window's end the channel is suspended (R706). consumed gives INPUT_CONSUMED for so many bytes of it (R707). -/
def State.engineOut (s : State) (m : Nat) (d : Descriptor) (consumed : Nat → Nat) (out : List Byte) (ended : State → State) : State :=
  let n := 24 + m
  let w := s.window m d
  let done := s.rd (O.OUTPUT_PRODUCED n)
  let now := (out.drop done).take w.2
  let reads := if done = 0 then (segments d.srcLine d.src d.srcLine).length else 0
  let s1 := ((s.memWrite w.1 w.2 w.2 now).wrs [(O.OUTPUT_PRODUCED n, done + now.length),
    (O.INPUT_CONSUMED n, consumed (done + now.length))]).countBursts (reads + (segments now.length w.1 now.length).length)
  if done + w.2 < out.length then ((s1.wr (O.DMA_STATE n) 2).dmaStatus n 8).inc O.COMPRESS_OUT_OF_SPACE else ended s1

/-- R707: the bytes of a DEFLATE descriptor's input whose encoding lies wholly within the stream z; before are the inputs of the
descriptors that the stream began with. -/
def deflateConsumed (before : List (Nat × List Byte)) (n : Nat) (z : List Byte) : Nat :=
  min n ((inflateSoFar z).1.length - ((before.map (·.2)).flatten).length)

/-- R707: the bytes of an INFLATE descriptor's input that have made no more than so many bytes of the stream's output; before is the
stream's earlier input. What follows the end of the stream is none of it. -/
def inflateConsumed (before input : List Byte) (made : Nat) : Nat :=
  ((List.range (input.length + 1)).reverse.find? fun k =>
    (inflateSoFar (before ++ input.take k)).1.length ≤ made &&
      (k = 0 || (inflateSoFar (before ++ input.take (k - 1))).2.isSome)).getD 0

/-- A DEFLATE descriptor ends (R700 to R706). -/
def State.deflateEnd (s : State) (m : Nat) (d : Descriptor) : State :=
  let n := 24 + m
  let r := s.memRead d.src d.srcLine d.srcStride (d.srcLine * d.srcCount)
  let input := r.1
  let old := (s.move m).deflating
  let all := (d.flags, input) :: old
  let out := (streamOf all).drop (streamOf old).length
  let w := s.window m d
  let done := s.rd (O.OUTPUT_PRODUCED n)
  if !bit d.flags 4 && input.length ≤ out.length && input.length ≤ done + w.2 then
    let s1 := ((r.2.memLost w.1 w.2 w.2 (input.length - done)).wr (O.OUTPUT_PRODUCED n) input.length).countBursts
      ((if done = 0 then (segments d.srcLine d.src d.srcLine).length else 0) +
        (segments (input.length - done) w.1 (input.length - done)).length)
    ((s1.engineJob input.length input.length).inc O.COMPRESS_NO_SHRINK).dmaHalt m 7
  else
    r.2.engineOut m d (fun k => deflateConsumed old input.length (streamOf old ++ out.take k)) out fun s =>
      ((s.engineJob input.length out.length).updMove m fun h =>
        { h with deflating := if bit d.flags 3 then [] else all, inflating := [], inflated := 0 }).dmaDone m

/-- An INFLATE descriptor ends (R701, R710). -/
def State.inflateEnd (s : State) (m : Nat) (d : Descriptor) : State :=
  let r := s.memRead d.src d.srcLine d.srcStride (d.srcLine * d.srcCount)
  let h := s.move m
  let all := h.inflating ++ r.1
  let z := inflateSoFar all
  let out := z.1.drop h.inflated
  r.2.engineOut m d (fun k => inflateConsumed h.inflating r.1 (h.inflated + k)) out fun s =>
    if z.2 = some false then (((s.inc O.COMPRESS_JOBS).inc O.COMPRESS_INVALID).event 7 1 0).dmaHalt m 9
    else
      ((s.engineJob r.1.length out.length).updMove m fun h =>
        if z.2.isNone then { h with deflating := [], inflating := [], inflated := 0 }
        else { h with deflating := [], inflating := all, inflated := z.1.length }).dmaDone m

/-- A COPY descriptor ends: the whole source is read before the destination is written, which is what R684 asks of
overlapping one-dimensional sides; other sides do not overlap. Only consecutive DEFLATE or INFLATE descriptors go on with a stream
(R701, log 169). -/
def State.copyEnd (s : State) (m : Nat) (d : Descriptor) : State :=
  let r := s.memRead d.src d.srcLine d.srcStride (d.srcLine * d.srcCount)
  (((r.2.memWrite d.dst d.dstLine d.dstStride r.1).countBursts (d.bursts (0, 0)).length).updMove m fun h =>
    { h with deflating := [], inflating := [], inflated := 0 }).dmaDone m

/-- A descriptor under way is cut short: what it may have written is undefined, and how many of its bursts were issued is a
free value (R689, R697). -/
def State.cutShort (s : State) (m : Nat) (d : Descriptor) : State :=
  let w := s.window m d
  let x := s.draw
  let s1 := x.2.countBursts ((Config.free x.1).toNat % ((d.bursts w).length + 1))
  if d.op = 0 then s1.memLost d.dst d.dstLine d.dstStride (d.dstLine * d.dstCount) else s1.memLost w.1 w.2 w.2 w.2

/-- The descriptor that move m is at. -/
def State.moveAt (s : State) (m : Nat) : Option Descriptor := (s.chain m)[s.rd (O.DMA_DESCRIPTOR (24 + m))]?

/-- The bytes of the bursts after the first n of a COPY; a compression job has as many of its input left as were given. -/
def Descriptor.remaining (d : Descriptor) (n given : Nat) : Nat :=
  if d.op = 0 then burstBytes ((d.bursts (0, 0)).drop n) else min given d.srcLine

/-- The descriptor of move m ends BUS_ERROR (R689 to R691). -/
def State.moveError (s : State) (m : Nat) (d : Descriptor) (remaining address : Nat) : State :=
  ((s.cutShort m d).wrs [(O.DMA_REMAINING (24 + m), remaining), (O.DMA_FAULT_ADDR (24 + m), address)]).dmaHalt m 5

/-- A burst of the descriptor of move m that a channel refused, frozen since before the descriptor was fetched (R663): its
place among the bursts and its address. -/
def State.refusedBurst (s : State) (m : Nat) (d : Descriptor) : Option (Nat × Nat) :=
  if (s.move m).barred = 0 then none
  else (indexed (d.bursts (s.window m d))).findSome? fun e => (e.2.barred (s.move m).barred).map fun a => (e.1, a)

/-- DESCRIPTOR_END of channel n; the channels below 24 are the internal users', whose descriptors the manual does not give. An
error is one of a burst: FAULT_ADDR is its address, and REMAINING is that of whole bursts, so many as were not issued when it
returned. -/
def State.descriptorEnd (s : State) (n : Nat) (e : Option BusError) : State :=
  if 32 ≤ n then s
  else if n < 24 then
    match e with
    | some x => ((s.wrs [(O.DMA_REMAINING n, x.remaining % 2 ^ 64), (O.DMA_FAULT_ADDR n, x.address % 2 ^ 64)]).dmaStatus n 5).wr
        (O.DMA_STATE n) 3
    | none => (s.dmaStatus n 1).wrs [(O.DMA_REMAINING n, 0), (O.DMA_STATE n, 0)]
  else if s.dmaState n != 1 then s
  else
    let m := n - 24
    match s.moveAt m with
    | none => s
    | some d =>
      let all := d.bursts (s.window m d)
      match e with
      | some x =>
        match all.findSome? (·.addressOf x.address) with
        | some a =>
          let unissued := (List.range all.length).findIdx fun k => burstBytes (all.drop k) ≤ x.remaining
          s.moveError m d (d.remaining unissued x.remaining) a
        | none => s
      | none =>
        match s.refusedBurst m d with
        | some (k, a) =>
          let x := s.draw
          let f := (Config.free x.1).toNat
          x.2.moveError m d (d.remaining (k + f % (all.length - k + 1)) (f % (d.srcLine + 1))) a
        | none => if d.op = 0 then s.copyEnd m d else if d.op = 1 then s.deflateEnd m d else s.inflateEnd m d

/-- The first descriptor of a named move that R692 refuses. -/
def State.chainFail (s : State) (m : Nat) : Option Nat := (s.chain m).findIdx? fun d => !s.descriptorOk d

/-- MOVE_START (R692 to R694): the checks of the chains, which are of range, before BUSY (R49). -/
def State.moveStart (s : State) (v : Nat) : Reply :=
  let named := (List.range 8).filter (bit v)
  let fails := named.findSome? fun m =>
    if s.dmaState (24 + m) = 2 then
      (if inBuffers (s.rd (O.RESUME_ADDR m)) 1 then none else some (m, s.rd (O.DMA_DESCRIPTOR (24 + m))))
    else if s.dmaState (24 + m) = 1 then none
    else (s.chainFail m).map fun i => (m, i)
  if v = 0 then .of Status.empty s
  else match fails with
  | some (m, i) => ⟨Status.range, [toByte m, 0#8] ++ natLE 2 i, s⟩
  | none =>
    if named.any fun m => s.dmaState (24 + m) = 1 then .of Status.busy s
    else .of Status.ok <| named.foldl (fun (s : State) m =>
      if s.dmaState (24 + m) = 2 then
        (s.wr (O.DMA_STATE (24 + m)) 1).updMove m fun h =>
          { h with resume := some (s.rd (O.RESUME_ADDR m), s.rd (O.RESUME_LENGTH m)) }
      else if (s.chain m).isEmpty then s.wrs [(O.DMA_LAST_STATUS (24 + m), 2), (O.DMA_STATE (24 + m), 0)]
      else
        ((s.wrs [(O.DMA_LAST_STATUS (24 + m), 0), (O.DMA_FAULT_ADDR (24 + m), 0)]).updMove m fun _ => .init).dmaFetch m 0
          (s.chain m)) s

/-- A running or suspended move is aborted (R697). -/
def State.abortMove (s : State) (m : Nat) : State :=
  let st := s.dmaState (24 + m)
  if st = 1 then
    match s.moveAt m with
    | some d => (s.cutShort m d).dmaHalt m 6
    | none => s.dmaHalt m 6
  else if st = 2 then s.dmaHalt m 6
  else s

/-- MOVE_ABORT. -/
def State.moveAbort (s : State) (v : Nat) : Reply :=
  .of Status.ok (((List.range 8).filter (bit v)).foldl State.abortMove s)

/-- Every host move is aborted: entry to SLEEP or OFF (R698). -/
def State.abortMoves (s : State) : State := (List.range 8).foldl State.abortMove s

/-- A running or suspended move names this DOM: its chain, or a host buffer that a descriptor of its chain reads or writes
(R696). -/
def State.domInUse (s : State) (idx : Nat) : Bool :=
  (List.range 8).any fun m =>
    (s.dmaState (24 + m) = 1 || s.dmaState (24 + m) = 2) &&
    (idx == 0x3338 + m ||
      (0x3348 ≤ idx && idx ≤ 0x334f &&
        let lo := bufferBase + (idx - 0x3348) * bufferSize
        let meets (a n : Nat) : Bool := a < lo + bufferSize && lo < a + n
        (((s.chain m).any fun d => meets d.src (srcSpan d) || meets d.dst (dstSpan d)) ||
          match (s.move m).resume with | some w => meets w.1 w.2 | none => false)))

/-! ### The engines (R699, R709) -/

/-- Who asks for an engine, first come those of *Ingest inflate*. -/
inductive EngineUser where
  | inflate
  | reframe
  | passThrough
  | understorey
  | host (m : Nat)
deriving DecidableEq, Repr

/-- Host moves and the Understorey. -/
def EngineUser.low (u : EngineUser) : Bool :=
  match u with
  | .understorey => true
  | .host _ => true
  | _ => false

/-- R709: the requester that a free engine serves at a block boundary, of those that wait in their order: host moves and the
Understorey together hold at most one engine. -/
def nextUser (held waiting : List EngineUser) : Option EngineUser :=
  waiting.find? fun u => !(u.low && held.any EngineUser.low)

/-- So many free engines serve those that wait: who holds an engine then. -/
def serveEngines (held waiting : List EngineUser) : Nat → List EngineUser
  | 0 => held
  | n + 1 =>
    match nextUser held waiting with
    | some u => serveEngines (held ++ [u]) (waiting.erase u) n
    | none => held

/-- Who waits for an engine or holds one, in the order of R709. How many blocks of the page link and of the Understorey are
under way is a matter of time: f leaves it free (log 126). -/
def State.engineQueue (s : State) (f : Nat) : List EngineUser :=
  let link (up : Bool) (k : Nat) (u : EngineUser) : List EngineUser := if up then List.replicate (f / 5 ^ k % 5) u else []
  link (s.ingest.link = 2) 0 .inflate ++ link (s.mirror.link = 2) 1 .reframe ++
  link (s.ingest.link = 2 && s.rdB O.CAPTURE_ENABLE) 2 .passThrough ++
  (if s.rdB O.TELEMETRY_ENABLE && f / 125 % 2 = 1 then [.understorey] else []) ++
  ((List.range 8).filter fun m => s.dmaState (24 + m) = 1 && ((s.moveAt m).map (·.op != 0)).getD false).map .host

/-- ENGINES_BUSY: as many engines as are held; which of the four they are is free. -/
def State.enginesBusy (s : State) (f : Nat) : Nat :=
  let n := (serveEngines [] (s.engineQueue f) 4).length
  let masks := (List.range 16).filter fun v => ((List.range 4).filter (bit v)).length = n
  masks.getD (f / 250 % masks.length) 0

/-- ACTIVE and SUSPENDED. -/
def State.channelsIn (s : State) (st : Nat) : Nat :=
  (List.range 32).foldl (fun n c => if s.dmaState c = st then setBit n c true else n) 0

end Sys2Proof.Machine
end

