-- ==== Sys2Proof/Machine/Cal.lean ====
section
/-! DEFINITION. The calibration unit: what a pass makes of its measurements, the decision over two passes, slewing, and the run
states (R831 to R856). -/

namespace Sys2Proof.Machine

/-- STATE: 0 IDLE, 1 PASS_1, 2 PASS_2, 3 HOLDOFF. -/
def State.calState (s : State) : Nat := s.rd O.CAL_STATUS_STATE

/-- The coefficients of an item set; a TRIM_CODES entry that changes makes a store pending (R130). -/
def State.setCoeff (s : State) (i : Nat) (c : Int × Int) : State :=
  if i < 32 then s.wr O.ADC_COEFF (coeffSet (s.rd O.ADC_COEFF) i c)
  else if i < 48 then s.wr O.DAC_COEFF (coeffSet (s.rd O.DAC_COEFF) (i - 32) c)
  else if i < 56 then s.wr O.TEMP_COEFF (octSet 4 (s.rd O.TEMP_COEFF) (2 * (i - 48)) c.1.toNat)
  else
    let v := octSet 2 (s.rd O.TRIM_CODES) (i - 56) c.1.toNat
    if v = s.rd O.TRIM_CODES then s else (s.wr O.TRIM_CODES v).autoStore

/-- TEMP_COEFF as it is read: SLOPE, fuse OFFSET, reserved (R833). -/
def State.tempCoeffValue (s : State) : Nat :=
  octOf 8 ((List.range 8).map fun k => s.slope k + 2 ^ 32 * (s.fuses.tempOffset.getD k 0 % 65536))

/-- R840: GAIN and OFFSET from Z16, R16 and V_R. -/
def adcResult (vr : Int) (z r : Nat) : Int × Int :=
  let gain : Int := (vr * 1048576).tdiv ((r : Int) - (z : Int))
  (gain, -((z : Int) * gain + 524288).tdiv 1048576)

/-- GAIN and OFFSET of a DAC from its levels at codes 64 and 960, as R832 uses them (DEDUCED, log 50). -/
def dacResult (a b : Int) : Int × Int :=
  let gain := ((b - a) * 65536).tdiv 896
  (gain, a - (64 * gain).tdiv 65536)

/-- The mean delay of output i in a pass whose 64 edges lie so many bins after their fire instants, as a numerator over 64 × bins,
in ps: a bin is 2 500 ps over the bins of one FIRE cycle (R839). -/
def binDelay (sum : Nat) : Nat := 2500 * sum

/-- R834, R839, R842: the CODE that puts the edge of output i at 10.0 ns and its trim after the fire instant: the CODE in effect and
the missing delay in steps of 10 ps, truncated (DEDUCED, log 165). -/
def State.strobeCode (s : State) (i bins sum : Nat) : Int :=
  let want : Int := (10000 + s.fire.trims.getD i 0) * 64 * bins
  (s.coeff (56 + i)).1 + (want - binDelay sum).tdiv (640 * bins)

/-- R841: the DACs of an axis can be measured. -/
def State.dacMeasurable (s : State) (a : Nat) : Bool :=
  match s.axes[a]? with
  | some x => x.state = 0 || (x.state = 1 && (x.coil == .off || x.coil == .short))
  | none => false

/-- R840: µV of a mean that is carried in 1/16 code. -/
def fineMicrovolts (k : Int × Int) (c : Nat) : Int := ((c : Int) * k.1).tdiv 1048576 + k.2

/-- The results of the 72 items of a pass (R837, R840 to R842). CAL_REF is divided for channels 0 to 7, and its ratio is measured on
channel 8; a DAC is measured on the channel of its phase; each with what this pass made of that channel (log 175). -/
def State.passResults (s : State) (r : CalPass) : List (Option (Int × Int)) :=
  let ref : Int := (s.cal.refValue : Nat)
  let high (i : Nat) (v : Int) : Int × Int := ((r.adc.getD i none).map fun x => adcResult v x.1 x.2).getD (s.coeff i)
  let low := fineMicrovolts (high 8 ref) r.divided
  (List.range 72).map fun i =>
    if i < 32 then (r.adc.getD i none).map fun x => adcResult (if i < 8 then low else ref) x.1 x.2
    else if i < 48 then
      let k := high ((i - 32) / 2) low
      if s.dacMeasurable ((i - 32) / 4) then
        (r.dac.getD (i - 32) none).map fun x => dacResult (fineMicrovolts k x.1) (fineMicrovolts k x.2)
      else none
    else if i < 56 then (r.slopes.getD (i - 48) none).map fun x => ((x : Int), 0)
    else if 64 ≤ s.cal.edges.getD (i - 56) 0 then
      (r.strobes.getD (i - 56) none).map fun x => (s.strobeCode (i - 56) r.bins x, 0)
    else none

/-- The nominal GAIN or SLOPE of an item. -/
def nominal (i : Nat) : Int :=
  if i < 8 then 10240000 else if i < 32 then 40960000 else if i < 48 then 32768000 else ((Config.nominalSlope (i - 48)).toNat : Nat)

/-- *Acceptance limits*: a result is plausible. -/
def plausible (i : Nat) (c : Int × Int) : Bool :=
  if i < 56 then (c.1 - nominal i).natAbs * 50 ≤ (nominal i).natAbs && c.2.natAbs ≤ 20000
  else 0 ≤ c.1 && c.1 ≤ 511

/-- *Acceptance limits*: two results agree. Parts per million are of the first result, and a slope's equivalent at 85 °C is
taken at the code that the nominal slope gives there (DEDUCED, log 49). -/
def State.agree (s : State) (i : Nat) (a b : Int × Int) : Bool :=
  let d := (a.1 - b.1).natAbs
  if i < 48 then
    d * 1000000 ≤ s.rd O.TOL_GAIN * a.1.natAbs && (a.2 - b.2).natAbs ≤ s.rd O.TOL_OFFSET
  else if i < 56 then
    let off := toInt 16 (s.fuses.tempOffset.getD (i - 48) 0)
    d * (1360 - off).natAbs ≤ s.rd O.TOL_TEMP * (nominal i).natAbs
  else d ≤ s.rd O.TOL_TRIM

/-- The outcome of an item (ITEM_RESULTS): 1 accepted, 2 disagreed, 3 out of limits, 4 not measured (R844, R845). -/
def State.itemOutcome (s : State) (i : Nat) (a b : Option (Int × Int)) : Nat :=
  match a, b with
  | some x, some y => if !plausible i x || !plausible i y then 3 else if s.agree i x y then 1 else 2
  | _, _ => 4

/-- A pass starts: the coefficients of channel 8 now decide on CAL_REF, and the edges of the strobe outputs are counted (R838,
R842). -/
def State.startPass (s : State) : State :=
  { s with cal := { s.cal with since := s.now, edges := List.replicate 16 0, refCoeff := s.coeff 8
                               refValue := s.rd O.CAL_REF_VALUE } }

/-- A run starts (R850, R854). -/
def State.calRun (s : State) : State :=
  let temps := (List.range 8).map fun k => toInt 16 (octAt 2 (s.rd O.TEMP_READINGS) k)
  ({ s with cal := { s.cal with first := [], startTemps := temps } } : State).startPass.wrs
    [(O.CAL_STATUS_STATE, 1), (O.LAST_RUN, s.mono)]

/-- The pending trigger causes a run (R852). -/
def State.pendingRun (s : State) : State := ({ s with cal := { s.cal with pending := false } } : State).calRun

/-- HOLDOFF is entered (R851). -/
def State.calHoldoff (s : State) : State :=
  ({ s with cal := { s.cal with first := [], since := s.now } } : State).wr O.CAL_STATUS_STATE 3

/-- An item is accepted (R845, R847 to R849). -/
def State.acceptItem (s : State) (i : Nat) (c : Int × Int) : State :=
  let span := s.rd O.CAL_SLEW_TIME
  let old := s.coeff i
  let s1 := if i < 32 then s.wr O.ADC_ACCEPTED (coeffSet (s.rd O.ADC_ACCEPTED) i c)
    else if i < 48 then s.wr O.DAC_ACCEPTED (coeffSet (s.rd O.DAC_ACCEPTED) (i - 32) c) else s
  let others := s.cal.slews.filter (·.item != i)
  if span = 0 then ({ s1 with cal := { s1.cal with slews := others } } : State).setCoeff i c
  else { s1 with cal := { s1.cal with slews := others ++ [⟨i, old.1, old.2, c.1, c.2, 0, span⟩] } }

/-- The decision after pass 2 (R844 to R846, R854). A not measured item is not rejected (DEDUCED, log 51). -/
def State.calDecide (s : State) (second : List (Option (Int × Int))) : State :=
  let outcome (i : Nat) : Nat := s.itemOutcome i (s.cal.first.getD i none) (second.getD i none)
  let outcomes := (List.range 72).map outcome
  let s1 := (List.range 72).foldl (fun (t : State) i =>
    match outcome i, s.cal.first.getD i none, second.getD i none with
    | 1, some a, some b => t.acceptItem i ((a.1 + b.1).tdiv 2, (a.2 + b.2).tdiv 2)
    | 2, _, _ => t.event 0x3e 1 i
    | 3, _, _ => t.event 0x3e 2 i
    | _, _, _ => t) s
  let rejected := (outcomes.filter fun o => o == 2 || o == 3).length
  let s2 := (s1.wrs [(O.ITEM_RESULTS, octOf 1 outcomes), (O.REJECTED_ITEMS, rejected)]).inc O.CAL_STATUS_RUNS
  let s3 := if outcomes.contains 1 then s2.autoStore else s2
  if rejected = 0 then
    let s4 : State := { s3.wr O.REF_TEMPS (octOf 2 (s3.cal.startTemps.map (ofInt 16))) with
      cal := { s3.cal with referenced := true, first := [] } }
    if s4.cal.pending then s4.pendingRun else s4.wr O.CAL_STATUS_STATE 0
  else s3.calHoldoff

/-- CAL_PASS_DONE (R838, R843, R854). Whether CAL_REF was off is judged by what held at the pass's start; a pass that is abandoned
so brings its command then (log 175). -/
def State.calPassDone (s : State) (r : CalPass) : State :=
  let st := s.calState
  if st != 1 && st != 2 then s
  else
    let ref : Int := (s.cal.refValue : Nat)
    if ref.natAbs < (microvolts s.cal.refCoeff r.refCode - ref).natAbs * 50 then (s.event 0x3e 3 0).calHoldoff
    else
      let results := s.passResults r
      let s1 : State := { s with cal := { s.cal with bins := r.bins } }
      if st = 1 then ({ s1 with cal := { s1.cal with first := results } } : State).startPass.wr O.CAL_STATUS_STATE 2
      else s1.calDecide results

/-- CAL_START (R851, R852). -/
def State.calStart (s : State) (v : Nat) : Reply :=
  if v != 1 then .of Status.range s
  else if s.calState = 1 || s.calState = 2 then .of Status.busy s
  else .of Status.ok s.calRun

/-- CAL_TEMP_TRIGGER: the ΔVBE codes of every 100 ms (R833, R850, R852). While a run goes on, a reading that still lies so far from
REF_TEMPS is a trigger (log 175). -/
def State.calTemp (s : State) (codes : List Nat) : State :=
  let readings := (List.range 8).map fun k => clampI (-32768) 32767 (s.sensorReading k (codes.getD k 0))
  let s1 := (s.wr O.TEMP_READINGS (octOf 2 (readings.map (ofInt 16)))).taskDone 3
  let moved := (indexed readings).any fun e =>
    s.rd O.CAL_DELTA_T < (e.2 - toInt 16 (octAt 2 (s.rd O.REF_TEMPS) e.1)).natAbs
  if s.rdB O.CAL_AUTO && s.cal.referenced && moved then
    if s1.calState = 0 then s1.calRun else { s1 with cal := { s1.cal with pending := true } }
  else s1

/-- HOLDOFF_END (R851, R854). -/
def State.holdoffEnd (s : State) : State :=
  if s.calState != 3 || !s.due s.cal.since (60 * sec) then s
  else if s.cal.pending then s.pendingRun
  else s.wr O.CAL_STATUS_STATE 0

/-- A coefficient after so many ms of its slew; parts of a unit are truncated (DEDUCED, log 49). -/
def Slew.value (x : Slew) : Int × Int :=
  let n : Int := (x.span : Nat)
  let at' (a b : Int) : Int := a + ((b - a) * (x.ms : Nat)).tdiv n
  if x.span ≤ x.ms then (x.to0, x.to1) else (at' x.from0 x.to0, at' x.from1 x.to1)

/-- CAL_SLEW: 1 ms has passed (R847). -/
def State.calSlew (s : State) : State :=
  let moved := s.cal.slews.map fun x => { x with ms := x.ms + 1 }
  moved.foldl (fun (s : State) x => s.setCoeff x.item x.value)
    { s with cal := { s.cal with slews := moved.filter fun x => x.ms < x.span } }

/-- Entry to SLEEP or OFF (R853). -/
def State.calAbandon (s : State) : State :=
  let s1 := if s.calState = 1 || s.calState = 2 then s.event 0x3e 4 0 else s
  let s2 := s1.cal.slews.foldl (fun (s : State) x => s.setCoeff x.item (x.to0, x.to1)) s1
  ({ s2 with cal := { s2.cal with slews := [], pending := false, first := [] } } : State).wr O.CAL_STATUS_STATE 0

end Sys2Proof.Machine
end

