-- ==== Sys2Proof/Machine/Display.lean ====
section
/-! DEFINITION. The display outputs: frames, lines, underrun and reduced refresh (R857 to R871). -/

namespace Sys2Proof.Machine

def State.disp (s : State) (x : Nat) : Disp := s.disps.getD x .init

def State.updDisp (s : State) (x : Nat) (f : Disp → Disp) : State := { s with disps := s.disps.modify x f }

/-- The timing that DISP_TIMING_x holds. -/
def State.timing (s : State) (x : Nat) : DispTiming :=
  { enable := s.rdB (O.DISP_ENABLE x), clock := s.rd (O.PIXEL_CLOCK x), hactive := s.rd (O.HACTIVE x)
    hblank := [s.rd (O.HFP x), s.rd (O.HSYNC x), s.rd (O.HBP x)], vactive := s.rd (O.VACTIVE x), vfp := s.rd (O.VFP x)
    vsync := s.rd (O.VSYNC x), vbp := s.rd (O.VBP x), flags := s.rd (O.DISP_FLAGS x) }

def DispTiming.htotal (t : DispTiming) : Nat := t.hactive + t.hblank.foldl (· + ·) 0
def DispTiming.vtotal (t : DispTiming) : Nat := t.vactive + t.vfp + t.vsync + t.vbp

/-- R860: the frame rate lies within 10 to 120 Hz. -/
def DispTiming.rateOk (t : DispTiming) : Bool :=
  10 * (t.htotal * t.vtotal) ≤ t.clock * 1000 && t.clock * 1000 ≤ 120 * (t.htotal * t.vtotal)

/-- The displays run: from step 10 of the boot, outside SLEEP and OFF (R870). -/
def State.displaysRun (s : State) : Bool := (s.boot.phase == .applied || s.boot.phase == .ready) && s.power.state ≤ 2

/-- A timing changes HACTIVE or VACTIVE (R866). -/
def DispTiming.resizes (t old : DispTiming) : Bool := t.hactive != old.hactive || t.vactive != old.vactive

/-- A new size empties GRAPHICS_x, where it holds anything (R866). -/
def State.emptyGraphics (s : State) (x : Nat) : State :=
  if (s.dom (0x3910 + x)).size = 0 then s else s.domReplace (0x3910 + x) []

/-- The pairs of output x are driven while it runs, and at high impedance otherwise (R859). -/
def State.drivePairs (s : State) (x : Nat) (was : Bool) : State :=
  let now := (s.disp x).running
  if now = was then s else s.emit (.displayPairs x now)

/-- An output that does not run takes the timing that its record holds, and runs when it may; a new size empties GRAPHICS_x
(R859, R866). -/
def State.dispTake (s : State) (x : Nat) : State :=
  let t := s.timing x
  let new := t.resizes (s.disp x).timing
  ((if new then s.emptyGraphics x else s).updDisp x fun d =>
    { d with
      timing := t, running := t.enable && s.displaysRun, next := none, still := 0, reduced := false, frameStart := none
      graphics := if new then [] else d.graphics, waiting := if new then none else d.waiting }).drivePairs x (s.disp x).running

/-- The timing record was applied (R859): at the frame's end while the output runs, else now. -/
def State.dispApply (s : State) (x : Nat) : State :=
  if (s.disp x).running then s.updDisp x fun d => { d with next := some (s.timing x) } else s.dispTake x

/-- The preview that output x shows from a frame start on (R862, R864). -/
def State.previewOf (s : State) (x : Nat) : Option StreamFrame :=
  let k := s.rd (O.PREVIEW_SOURCE x)
  if 4 ≤ k then none
  else
    let has := match s.jobs.active with
      | some a => (List.range 4).any fun st => a.rd (O.STREAM_SINK (4 * k + st)) = 2
      | none => false
    if !has then none
    else if s.power.state = 2 then (s.disp x).preview
    else match s.cams[k]? with
    | some c => c.preview
    | none => none

/-- A change waits for the next frame start of output x. -/
def State.dispChange (s : State) (x : Nat) : Bool :=
  let d := s.disp x
  d.next.isSome || d.waiting.isSome || (s.previewOf x != d.preview)

/-- Lines from the start of a frame of output x to that of the next: a reduced output's front porch is longer by
(STATIC_DIV − 1) × VTOTAL (R868). -/
def State.frameLines (s : State) (x : Nat) : Nat :=
  let d := s.disp x
  d.timing.vtotal + (if d.reduced then (s.rd (O.STATIC_DIV x) - 1) * d.timing.vtotal else 0)

/-- So many lines of the present frame of output x have passed; before its first frame, always. A line takes HTOTAL periods of
PIXEL_CLOCK, in kHz. -/
def State.linesPassed (s : State) (x lines : Nat) : Bool :=
  let d := s.disp x
  match d.frameStart with
  | some t => t * d.timing.clock + lines * d.timing.htotal * ms ≤ s.now * d.timing.clock
  | none => true

/-- *LVDS slots* of a pixel clock: pair p slot k at bit 7 p + k (R858), with hs and vs whether the sync signals are active. -/
def lvdsSlots (flags : Nat) (hs vs de : Bool) (rgb : List Nat) : Nat :=
  let high := bit flags 2
  let cb (c k : Nat) : Nat :=
    let v := rgb.getD c 0
    b2n (bit v (if high then (if k < 6 then k + 2 else k - 6) else k))
  let slots := [cb 0 0, cb 0 1, cb 0 2, cb 0 3, cb 0 4, cb 0 5, cb 1 0,
                cb 1 1, cb 1 2, cb 1 3, cb 1 4, cb 1 5, cb 2 0, cb 2 1,
                cb 2 2, cb 2 3, cb 2 4, cb 2 5, b2n (hs == bit flags 0), b2n (vs == bit flags 1), b2n de,
                cb 0 6, cb 0 7, cb 1 6, cb 1 7, cb 2 6, cb 2 7, 0]
  (indexed slots).foldl (fun n e => n + e.2 * 2 ^ e.1) 0

/-- An active pixel. -/
def lvdsWord (flags : Nat) (rgb : List Nat) : Nat := lvdsSlots flags false false true rgb

/-- A pixel clock outside the active area; the colour slots are a free value (log 176). -/
def blankWord (flags : Nat) (hs vs : Bool) : Nat :=
  let c := Config.blankColour.toNat
  lvdsSlots flags hs vs false [bits c 23 16, bits c 15 8, bits c 7 0]

/-- The rest of a line behind its HACTIVE pixels: HFP, HSYNC and HBP (log 176). -/
def DispTiming.lineEnd (t : DispTiming) (vs : Bool) : List Nat :=
  List.replicate (t.hblank.getD 0 0) (blankWord t.flags false vs) ++
  List.replicate (t.hblank.getD 1 0) (blankWord t.flags true vs) ++
  List.replicate (t.hblank.getD 2 0) (blankWord t.flags false vs)

/-- A line outside the active area. -/
def DispTiming.blankLine (t : DispTiming) (vs : Bool) : List Nat :=
  List.replicate t.hactive (blankWord t.flags false vs) ++ t.lineEnd vs

/-- A frame of output x starts under a timing: the lines of vertical sync and of the back porch (log 176). -/
def State.sendSync (s : State) (x : Nat) (t : DispTiming) : State :=
  (s.emit (.displayBlank x t.vsync (t.blankLine true))).emit (.displayBlank x t.vbp (t.blankLine false))

/-- DISP_FRAME_START (R859, R864, R866, R868). -/
def State.dispFrameStart (s : State) (x : Nat) : State :=
  let d := s.disp x
  if 2 ≤ x || !d.running || !s.displaysRun || !s.linesPassed x (s.frameLines x) then s
  else
    let t := d.next.getD d.timing
    let resized := t.resizes d.timing
    let s1 := if resized then s.emptyGraphics x else s
    if !t.enable then
      (s1.updDisp x fun d =>
        { d with
          running := false, timing := t, next := none, still := 0, reduced := false, frameStart := none
          graphics := if resized then [] else d.graphics, waiting := if resized then none else d.waiting }).emit
        (.displayPairs x false)
    else
      let change := s.dispChange x
      let preview := s.previewOf x
      let still := if change then 0 else d.still + 1
      let limit := s.rd (O.STATIC_FRAMES x)
      let graphics := if resized then [] else d.waiting.getD d.graphics
      ((((s1.updDisp x fun d =>
        { d with timing := t, next := none, preview := preview, graphics := graphics, waiting := none, still := still
                 reduced := limit != 0 && limit ≤ still, frameStart := some s.now }).inc (O.DISP_STATUS_FRAMES x)).wr
        (O.PREVIEW_FRAME x) ((preview.map (·.info.no)).getD 0 % 2 ^ 32))).sendSync x t

/-- R863: R, G and B of a preview pixel. -/
def StreamFrame.rgb (f : StreamFrame) (px py : Nat) : List Nat :=
  let chans := (List.range 4).filter (bit f.mask)
  let at' (c : Nat) : Nat :=
    let i := (chans.findIdx? (· == c)).getD 0
    let v := f.pixels.getD ((py * f.width + px) * chans.length + i) 0
    if 8 < f.depth then v / 16 else v
  if bit f.mask 0 && bit f.mask 1 && bit f.mask 2 then [at' 0, at' 1, at' 2]
  else let g := at' (chans.headD 0); [g, g, g]

/-- R861: R, G and B of active pixel (col, line) of output x. -/
def State.dispPixel (s : State) (x col line : Nat) : List Nat :=
  let d := s.disp x
  let bg := s.rd (O.BG_COLOUR x)
  let base := [bits bg 23 16, bits bg 15 8, bits bg 7 0]
  let zoom := s.rd (O.PREVIEW_ZOOM x)
  let x0 := s.rd (O.PREVIEW_X x)
  let y0 := s.rd (O.PREVIEW_Y x)
  let v := match d.preview with
    | some f =>
      if x0 ≤ col && y0 ≤ line && col < x0 + zoom * f.width && line < y0 + zoom * f.height then
        f.rgb ((col - x0) / zoom) ((line - y0) / zoom)
      else base
    | none => base
  let g := if d.graphics.isEmpty then 0 else u32At d.graphics (4 * (line * d.timing.hactive + col))
  let alpha := bits g 31 24
  (v.zip [bits g 23 16, bits g 15 8, bits g 7 0]).map fun e => (e.2 * alpha + e.1 * (255 - alpha) + 127) / 255

/-- The front porch of the present frame of output x follows its last active line (R868). -/
def State.frontPorch (s : State) (x line : Nat) : State :=
  let t := (s.disp x).timing
  if line + 1 = t.vactive then s.emit (.displayBlank x (t.vfp + (s.frameLines x - t.vtotal)) (t.blankLine false)) else s

/-- DISP_LINE_FETCH: line of output x is sent; from column lateFrom on its data has not arrived (R867). -/
def State.dispLine (s : State) (x line : Nat) (lateFrom : Option Nat) : State :=
  let d := s.disp x
  if 2 ≤ x || !d.running || !s.displaysRun || d.timing.vactive ≤ line then s
  else
    let bg := s.rd (O.BG_COLOUR x)
    let late := match lateFrom with | some c => min c d.timing.hactive | none => d.timing.hactive
    let words := (List.range d.timing.hactive).map fun c =>
      lvdsWord d.timing.flags (if c < late then s.dispPixel x c line else [bits bg 23 16, bits bg 15 8, bits bg 7 0])
    let s1 := (s.emit (.display x line (words ++ d.timing.lineEnd false))).frontPorch x line
    if late < d.timing.hactive then (s1.inc (O.UNDERRUNS x)).event 0x3d 1 x else s1

/-- PORCH_END: a change ends the lengthened front porch once VFP lines of it have passed (R869). -/
def State.porchEnd (s : State) (x : Nat) : State :=
  if (s.disp x).reduced && s.dispChange x && s.linesPassed x (s.disp x).timing.vtotal then s.updDisp x fun d => { d with reduced := false, still := 0 } else s

/-- STATE of an output: 0 off, 1 full rate, 2 reduced. -/
def State.dispState (s : State) (x : Nat) : Nat :=
  let d := s.disp x
  if !d.running || !s.displaysRun then 0 else if d.reduced then 2 else 1

/-- GRAPHICS_x takes bytes (R865, R866). -/
def State.graphicsOk (s : State) (x n : Nat) : Bool := n = 0 || n = 4 * s.rd (O.HACTIVE x) * s.rd (O.VACTIVE x)
def State.graphicsWrite (s : State) (x : Nat) (bs : List Byte) : State :=
  (s.domReplace (0x3910 + x) bs).updDisp x fun d => { d with waiting := some bs }

/-- Both outputs go off at entry to SLEEP or OFF, and restart from their stored timing at wake and at boot (R870). -/
def State.dispsOff (s : State) : State :=
  [0, 1].foldl (fun (s : State) x =>
    (s.updDisp x fun d => { d with running := false, next := none, still := 0, reduced := false, frameStart := none }).drivePairs x
      (s.disp x).running) s
def State.dispsOn (s : State) : State :=
  [0, 1].foldl State.dispTake s

end Sys2Proof.Machine
end

