-- ==== Sys2Proof/Machine/PtpOps.lean ====
section
/-! DEFINITION. Network time: delay exchanges, the servo, steps, the best master, and the rate of TB_FIRE (R715 to R737).
Timestamps are in 1/65 536 ns, rates in 1/65 536 ppb. -/

namespace Sys2Proof.Machine

/-- The place of the link speed among 10, 100 and 1 000 Mb/s (R722). -/
def State.speedPlace (s : State) : Nat := if s.net.speed = 10 then 0 else if s.net.speed = 100 then 1 else 2

/-- PTP runs: from step 10 of the boot, not in SLEEP or OFF, and PTP_ENABLE (R737). -/
def State.ptpRuns (s : State) : Bool :=
  (s.boot.phase == .applied || s.boot.phase == .ready) && s.power.state ≤ 2 && s.rdB O.PTP_ENABLE

/-- TB_PTP now, with its 16 reported fraction bits. -/
def State.ptpStamp (s : State) : Int := (s.time.ptpAt s.now / 2 ^ 24 : Nat)

/-- Receive and transmit timestamps at the SFD on the balls (R722). -/
def State.rxStamp (s : State) : Int := s.ptpStamp - (s.rd (O.PHY_RX_LATENCY s.speedPlace) * 65536 : Nat)
def State.txStamp (s : State) : Int := s.ptpStamp + (s.rd (O.PHY_TX_LATENCY s.speedPlace) * 65536 : Nat)

def msgTime (m : PtpMsg) : Int := (m.stamp * 65536 : Nat)

def State.updTime (s : State) (f : TimeState → TimeState) : State := { s with time := f s.time }

/-- The message concerns the selected master and the domain in use. -/
def State.fromMaster (s : State) (m : PtpMsg) : Bool :=
  s.ptpRuns && m.domain = s.rd O.PTP_DOMAIN && s.time.master == some m.port

/-- sequenceId of the last Sync accepted from a master (R721). -/
def TimeState.lastSeq (t : TimeState) (port : Nat) : Option Nat := (t.lastSeqs.find? (·.1 == port)).map (·.2)

/-- The servo restarts (R730, R732). -/
def State.servoRestart (s : State) (st : Nat) : State := s.updTime fun t => { t with servo := st, sum := 0, inLock := 0 }

/-- The rate of HOLDOVER: the mean of a over the last 64 accepted Syncs (R725). -/
def TimeState.meanRate (t : TimeState) : Int := (t.rates.foldl (· + ·) 0).tdiv (max 1 t.rates.length : Nat)

/-- HOLDOVER is entered (R725, R733, R737). -/
def State.holdover (s : State) : State :=
  if s.time.servo = 3 then s
  else
    let s1 := s.updTime fun t => { t.setRate s.now t.meanRate with servo := 3, inLock := 0 }
    (s1.event 0xf 3 0).warn 0xf 3 0x3500 1 []

/-- A Sync is accepted (R725, R726). -/
def State.syncAccepted (s : State) (m : PtpMsg) : State :=
  s.updTime fun t =>
    { t with lastSeqs := (m.port, m.seq) :: t.lastSeqs.filter (·.1 != m.port), lastSync := s.now
             servo := if t.servo = 0 || t.servo = 3 then 1 else t.servo
             inLock := if t.servo = 0 || t.servo = 3 then 0 else t.inLock }

/-- An offset beyond PTP_STEP_LIMIT: a stays as it is, for this accepted Sync too (R725, R727, R728). -/
def State.refuseOffset (s : State) (off : Int) : State :=
  let ns := off.tdiv 65536
  let s1 := ((s.updTime fun t =>
    { t with
      refused := some off, stepNeeded := true, inLimit := 0, inLock := 0, rates := (t.rate :: t.rates).take 64 }).wrI 64
    O.REFUSED_OFFSET ns).event 0xf 1 0
  if s.time.stepNeeded then s1 else s1.warn 0xf 1 0x3500 5 (natLE 8 (ofInt 64 ns))

/-- The servo takes an offset (R724 to R728). -/
def State.servoStep (s : State) (off : Int) : State :=
  let t := s.time
  let sum := t.sum + off
  let limit : Int := (s.rd O.MAX_RATE_ADJ * 65536 : Nat)
  let a := clampI (-limit) limit ((((s.rd O.KP : Nat) : Int) * off + ((s.rd O.KI : Nat) : Int) * sum).tdiv 65536)
  let threshold := s.rd O.LOCK_THRESHOLD * 65536
  let near := off.natAbs ≤ threshold
  let inLock := if near then t.inLock + 1 else 0
  let lost := t.servo = 2 && 4 * threshold < off.natAbs
  let servo := if lost then 1 else if t.servo = 1 && 16 ≤ inLock then 2 else t.servo
  let inLimit := t.inLimit + 1
  let clear := 16 ≤ inLimit
  let s1 := (s.updTime fun t =>
    { t.setRate s.now a with
      sum := sum, servo := servo, inLock := if lost then 0 else inLock, inLimit := inLimit, offset := some off
      rates := (a :: t.rates).take 64
      stepNeeded := t.stepNeeded && !clear, refused := if clear then none else t.refused }).wrI 64 O.PTP_OFFSET
    (off.tdiv 65536)
  if lost then s1.event 0xf 5 0 else s1

/-- t1 and t2 of a Sync are known: its offset is computed (R723, R724, R727). -/
def State.syncOffset (s : State) (t1 t2 : Int) : State :=
  let off := t2 - t1 - s.time.pathDelay - s.rdI 32 O.DELAY_ASYMMETRY * 65536
  let s1 := s.updTime fun t => { t with sync := some (t1, t2) }
  if s.rd O.PTP_STEP_LIMIT * 65536 < off.natAbs then s1.refuseOffset off else s1.servoStep off

/-- SYNC_RX (R720, R721). -/
def State.syncRx (s : State) (m : PtpMsg) : State :=
  if !s.fromMaster m then s
  else
    let later := match s.time.lastSeq m.port with | some q => seqLater 16 m.seq q | none => true
    if !later then s.inc O.PTP_DISCARDED
    else
      let s1 := s.syncAccepted m
      if m.twoStep then s1.updTime fun t => { t with held := t.held ++ [⟨m.seq, s.rxStamp, m.corr, s.now⟩] }
      else s1.syncOffset ((msgTime m) + m.corr) s.rxStamp

/-- FOLLOW_UP_RX (R720, R721). -/
def State.followUpRx (s : State) (m : PtpMsg) : State :=
  if !s.fromMaster m then s
  else
    let s1 := s.updTime fun t => { t with held := t.held.filter (·.seq != m.seq) }
    match s.time.held.find? (·.seq == m.seq) with
    | some h =>
      if h.since + sec < s.now then s1.inc O.PTP_DISCARDED
      else s1.syncOffset ((msgTime m) + m.corr + h.corr) h.t2
    | none => s.inc O.PTP_DISCARDED

/-- FOLLOW_UP_TIMEOUT: a Sync has waited 1 s for its Follow_Up. -/
def State.followUpTimeout (s : State) (seq : Nat) : State :=
  if s.time.held.any fun h => h.seq == seq && s.due h.since sec then
    (s.updTime fun t => { t with held := t.held.filter (·.seq != seq) }).inc O.PTP_DISCARDED
  else s

/-- The path delay of a complete exchange. -/
def State.setPathDelay (s : State) (d : Int) : State := s.updTime fun t => { t with pathDelay := d, exchange := none }

/-- DELAY_REQ_SEND: Delay_Req, or Pdelay_Req with P2P (R719). -/
def State.delayReqSend (s : State) : State :=
  let p2p := s.rd O.DELAY_MECHANISM = 1
  if !s.ptpRuns || (!p2p && s.time.master.isNone) then s
  else
    let seq := s.time.nextSeq
    (s.updTime fun t => { t with exchange := some ⟨seq, s.txStamp, none⟩, nextSeq := (seq + 1) % 65536 }).emit
      (.ptp (if p2p then 2 else 1) seq s.txStamp)

/-- DELAY_RESP_RX (R724): the mean of both ways. -/
def State.delayRespRx (s : State) (m : PtpMsg) : State :=
  if !s.fromMaster m || s.rd O.DELAY_MECHANISM != 0 then s
  else match s.time.exchange, s.time.sync with
  | some e, some (t1, t2) =>
    if e.seq = m.seq then s.setPathDelay (((t2 - t1) + ((msgTime m) - m.corr - e.sent)).tdiv 2) else s
  | _, _ => s

/-- PDELAY_REQ_RX: answered in two steps (R719). -/
def State.pdelayReqRx (s : State) (m : PtpMsg) : State :=
  if !s.ptpRuns || s.rd O.DELAY_MECHANISM != 1 || m.domain != s.rd O.PTP_DOMAIN then s
  else (s.emit (.ptp 3 m.seq s.rxStamp)).emit (.ptp 4 m.seq s.txStamp)

/-- PDELAY_RESP_RX: a Pdelay_Resp, one-step or two-step, or its Follow_Up (R724). -/
def State.pdelayRespRx (s : State) (m : PtpMsg) : State :=
  if !s.ptpRuns || s.rd O.DELAY_MECHANISM != 1 || m.domain != s.rd O.PTP_DOMAIN then s
  else match s.time.exchange with
  | some e =>
    if e.seq != m.seq then s
    else if !m.followUp then
      if m.twoStep then s.updTime fun t => { t with exchange := some { e with resp := some (s.rxStamp, (msgTime m), m.corr) } }
      else s.setPathDelay ((s.rxStamp - e.sent - m.corr).tdiv 2)
    else match e.resp with
    | some (t4, t2, corr) => s.setPathDelay (((t4 - e.sent) - ((msgTime m) - t2) - corr - m.corr).tdiv 2)
    | none => s
  | none => s

/-- The lexicographic order of ranks, least first. -/
def rankLess : List Nat → List Nat → Bool
  | [], [] => false
  | [], _ :: _ => true
  | _ :: _, [] => false
  | a :: as, b :: bs => a < b || (a == b && rankLess as bs)

/-- The best of the masters. -/
def bestMaster (ms : List Master) : Option Master :=
  ms.foldl (fun best m =>
    match best with
    | some b => if rankLess m.rank b.rank then some m else best
    | none => some m) none

/-- Masters that an Announce has shown within ANNOUNCE_TIMEOUT of their intervals. -/
def State.freshMasters (s : State) : List Master :=
  s.time.masters.filter fun m => s.now < m.heard + s.rd O.PTP_ANNOUNCE_TIMEOUT * m.interval * ms

/-- BMCA selects among the masters; a master or grandmaster other than the last one selected is a change (R732). With none
left the master is lost (R725). -/
def State.selectMaster (s : State) (masters : List Master) : State :=
  let s0 := s.updTime fun t => { t with masters := masters }
  match bestMaster masters with
  | none =>
    let s1 := s0.updTime fun t => { t with master := none, held := [] }
    if s.time.servo = 1 || s.time.servo = 2 then s1.holdover else s1
  | some b =>
    let s1 := (s0.updTime fun t => { t with master := some b.port }).wrs
      [(O.GM_IDENTITY, b.gm % 2 ^ 64), (O.MASTER_PORT, b.port % 2 ^ 80)]
    let other := s.rd O.MASTER_PORT != 0 &&
      (s.rd O.MASTER_PORT != b.port % 2 ^ 80 || s.rd O.GM_IDENTITY != b.gm % 2 ^ 64)
    let s2 := if s.time.master != some b.port then s1.updTime fun t =>
        { t with held := [], exchange := none, sync := none } else s1
    if other then
      ((s2.event 0xf 2 0).warn 0xf 2 0x3500 9 (natLE 8 b.gm)).servoRestart 1
    else s2

/-- ANNOUNCE_RX (R732). -/
def State.announceRx (s : State) (m : PtpMsg) : State :=
  if !s.ptpRuns || m.domain != s.rd O.PTP_DOMAIN then s
  else
    let others := s.freshMasters.filter (·.port != m.port)
    s.selectMaster (others ++ [⟨m.port, m.gm, m.rank, m.interval, s.now⟩])

/-- ANNOUNCE_TIMEOUT (R725, R733): masters that no Announce shows are dropped, and without an accepted Sync for
ANNOUNCE_TIMEOUT Announce intervals of the master the servo enters HOLDOVER. -/
def State.announceTimeout (s : State) : State :=
  let interval := match s.time.masters.find? fun m => s.time.master == some m.port with | some m => m.interval | none => 0
  let quiet := (s.time.servo = 1 || s.time.servo = 2) &&
    s.due s.time.lastSync (s.rd O.PTP_ANNOUNCE_TIMEOUT * interval * ms)
  let s1 := if quiet then s.holdover else s
  if s.freshMasters.length = s.time.masters.length then s1 else s1.selectMaster s.freshMasters

/-- TB_PTP takes a value at the present PTP cycle (R729, R730). -/
def State.stepTo (s : State) (v : Nat) : State :=
  let s1 := s.updTime fun t =>
    let b := t.ptp.roll ptpCycle t.rate s.now
    { t with ptp := { b with val := v % 2 ^ 104 }, exchange := none, held := [], sync := none, stepNeeded := false
             refused := none, inLimit := 0 }
  let s2 := ((s1.inc O.TIME_STATUS_STEP_COUNT).event 0xf 4 0)
  if s.time.master.isSome then s2.servoRestart 1
  else (s2.servoRestart 0).updTime fun t => t.setRate s.now 0

/-- PTP_STEP is applied with MODE and VALUE (R729 to R731); a measured offset is taken as its object shows it, in ns. -/
def State.ptpStep (s : State) (mode value : Nat) : Reply :=
  if mode = 2 then .of Status.ok (s.stepTo (value * 2 ^ 40))
  else
    match (if s.time.stepNeeded then s.time.refused else none) <|> s.time.offset with
    | none => .of Status.empty s
    | some off => .of Status.ok (s.stepTo (((s.time.ptpAt s.now : Nat) : Int) - off.tdiv 65536 * 2 ^ 40).toNat)

/-- 3501h was applied (R737); domain is that in use before. -/
def State.ptpConfig (s : State) (domain : Nat) : State :=
  let s1 := s.updTime fun t => { t with exchange := none }
  let s2 := if s1.rd O.PTP_DOMAIN != domain then (s1.selectMaster []).updTime fun t => { t with lastSeqs := [] } else s1
  if s2.rdB O.PTP_ENABLE then s2 else s2.holdover

/-- FIRE_RATE_SLEW: 1 ms has passed (R734, R735). -/
def State.fireRateSlew (s : State) : State :=
  let step : Int := (s.rd O.FIRE_RATE_SLEW * 1000 : Nat)
  let d := clampI (-step) step (s.time.rate - s.time.fireRate)
  if d = 0 then s else s.updTime fun t => t.setFireRate s.now (t.fireRate + d)

/-- FIRE_OFFSET, ns. -/
def State.fireOffset (s : State) : Int :=
  (((s.time.ptpAt s.now : Nat) : Int) - ((s.time.fireAt s.now : Nat) : Int)).tdiv (2 ^ 40)

end Sys2Proof.Machine
end

