-- ==== Sys2Proof/Machine/Store.lean ====
section
/-! DEFINITION. Firmware images, measurements, quotes, sealed copies and the bank store (R114 to R169 but for the boot
that reads them). -/

namespace Sys2Proof.Machine

/-! ### Firmware images (R141, R142) -/

/-- Entry k of an image's component table: ID, OFFSET, LENGTH, COMP_VERSION. -/
def component (im : List Byte) (k : Nat) : Nat × Nat × Nat × Nat :=
  let o := 32 + 16 * k
  (u8At im o, u32At im (o + 4), u32At im (o + 8), u32At im (o + 12))

/-- The component with this ID: OFFSET, LENGTH, COMP_VERSION. -/
def componentById (im : List Byte) (id : Nat) : Option (Nat × Nat × Nat) :=
  (((List.range 6).map (component im)).find? (·.1 == id)).map (·.2)

/-- MAGIC, FORMAT and HEADER_CRC are right. -/
def imageHeaderOk (im : List Byte) : Bool :=
  128 ≤ im.length && u32At im 0 == 0x49574654 && u16At im 4 == 1 &&
  u32At im 28 == crc32c (im.take 28 ++ (im.drop 32).take 96)

/-- COMPONENTS is 6, and the reserved bytes of the header and of the component table are 0 (R8, log 143). -/
def imageFieldsOk (im : List Byte) : Bool :=
  u16At im 6 == 6 && ((im.drop 20).take 8).all (· == 0#8) &&
  (List.range 6).all fun k => ((im.drop (33 + 16 * k)).take 3).all (· == 0#8)

/-- IMAGE_CRC is right. -/
def imageCrcOk (im : List Byte) : Bool :=
  let n := u32At im 12
  128 ≤ n && n ≤ im.length && u32At im 16 == crc32c ((im.take n).drop 128)

/-- The image passes R142. -/
def imageOk (im : List Byte) : Bool :=
  imageHeaderOk im && imageFieldsOk im && imageCrcOk im && u32At im 12 ≤ 25165824 &&
  ((List.range 6).all fun id => match componentById im id with
    | some (o, n, _) => 128 ≤ o && o + n ≤ u32At im 12 && (id != 0 || n ≤ 262144)
    | none => false)

/-- The CRCs of a slot's image pass (1213h.01, 1213h.02). -/
def imageValid (im : List Byte) : Bool := imageHeaderOk im && imageCrcOk im

/-- The image of slot 0 (A) or 1 (B). -/
def Flash.slot (f : Flash) (k : Nat) : List Byte := if k = 0 then f.slotA else f.slotB

/-- The bytes of a component. -/
def componentBytes (im : List Byte) (id : Nat) : List Byte :=
  match componentById im id with
  | some (o, n, _) => (im.drop o).take n
  | none => []

/-! ### Measurements (R147 to R151) -/

/-- MEASn extended by a digest (R147). -/
def extend (m d : List Byte) : List Byte := sha384 (m ++ d)

/-- 48 zero bytes. -/
def zero48 : List Byte := List.replicate 48 0#8

/-- MEASn. -/
def State.meas (s : State) (n : Nat) : List Byte := natLE 48 (s.rd (O.MEAS n))

def State.setMeas (s : State) (n : Nat) (m : List Byte) : State := s.wr (O.MEAS n) (leNat m)

/-- 0 MANUFACTURE, 1 OWNED, 2 RETURN, from the fuse bits blown (R163). -/
def Fuses.lifecycle (f : Fuses) : Nat := if f.lifecycleBits = 0 then 0 else if f.lifecycleBits % 2 = 1 then 1 else 2

def State.lifecycle (s : State) : Nat := s.fuses.lifecycle

/-- MEAS7 extended by an event record (*Measured items*, R150); time is TB_MONO in ns. -/
def State.measureEvent (s : State) (code time : Nat) : State :=
  let record := [toByte code, toByte s.lifecycle, toByte s.access.level, 0#8] ++ natLE 4 s.flash.bootCount ++ natLE 8 time
  s.setMeas 7 (extend (s.meas 7) (sha384 record))

/-- The measured configuration (R149), ascending. -/
def measuredKeys : List Nat :=
  [O.LEASE_TIME, O.LEASE_LOSS_ACTION, O.ARBITER_KEY, O.NET_MODE, O.STATIC_ADDRESS, O.STATIC_MASK, O.STATIC_GATEWAY,
   O.DHCP_TIMEOUT, O.STORE_MIN_INTERVAL, O.DEBUG_KEY, O.DEBUG_ALLOW, O.GRAFT_ALLOWLIST]

/-- An entry of a body: index, subindex, type, length, and the data padded to 4 bytes (R116). -/
def bodyEntry (idx sub ty : Nat) (data : List Byte) : List Byte :=
  natLE 2 idx ++ [toByte sub, toByte ty] ++ natLE 4 data.length ++ data ++
  List.replicate (4 * ceilDiv data.length 4 - data.length) 0#8

/-- The measured configuration entries of stored values. A key that was never written has no entry. -/
def measuredEntries (objs : List (Nat × Nat)) : List Byte :=
  measuredKeys.flatMap fun k =>
    let v := mapGet objs k (Dict.dflt k)
    match Dict.row? (k / 256) (k % 256) with
    | some r => if v < 256 ^ r.ty.size then bodyEntry (k / 256) (k % 256) r.ty.code (natLE r.ty.size v) else []
    | none => []

/-- MEAS6 of a boot that loads these stored values (R148). -/
def meas6Of (objs : List (Nat × Nat)) : List Byte := extend zero48 (sha384 (measuredEntries objs))

/-! ### Quotes (R152, R153) -/

/-- The image of the booted slot. -/
def State.bootImage (s : State) : List Byte := s.flash.slot s.boot.slot

/-- Bytes 0 to 471 of *Quote*. -/
def State.quoteHead (s : State) (nonce : List Byte) : List Byte :=
  natLE 4 0x45545154 ++ natLE 2 1 ++ natLE 2 (b2n (s.access.level == 2) + 2 * b2n (s.boot.fallback != 0)) ++ nonce ++
  ((List.range 8).flatMap s.meas) ++ [toByte s.lifecycle, toByte s.access.level, toByte s.boot.slot, 0#8] ++
  natLE 4 s.flash.bootCount ++
  ((List.range 6).flatMap fun id => natLE 4 (((componentById s.bootImage id).map (·.2.2)).getD 0)) ++
  natLE 8 s.fuses.serial ++ natLE 8 s.mono

/-- *Quote*. The signature, by the device key or the debug key as FLAGS bit 0 says, is a free value of the bytes. -/
def State.quote (s : State) (nonce : List Byte) : List Byte :=
  let h := s.quoteHead nonce
  h ++ natLE 96 (Config.signature h).toNat

/-- A DER sequence with this content: its tag, its length and the content (R154). -/
def derSequence (content : List Byte) : List Byte :=
  let n := content.length
  [0x30#8] ++ (if n < 128 then [toByte n] else if n < 256 then [0x81#8, toByte n] else 0x82#8 :: natBE 2 n) ++ content

/-- The certificates that the identity area holds: of the device key, of the debug key and of the device CA, in sequence
(R154, *Flash map*). -/
def State.certs (s : State) : List Byte :=
  let content (k : Nat) : List Byte :=
    match s.flash.tapped.find? fun e => e.1 == 12 with
    | some e => Config.certsIn e.2 k
    | none => Config.certContent k
  (List.range 3).flatMap fun k => derSequence ((content k).take 65535)

/-! ### Sealed copies (R156 to R160) -/

/-- The sealing key of measurements M0 to M6 (R156). -/
def sealKey (m : List (List Byte)) : List Byte := (hmac384 Config.sealSecret (ascii "SEAL" ++ m.flatten)).take 32

/-- A key sealed to M0–M5 and M6. -/
def State.sealTo (s : State) (m05 : List (List Byte)) (m6 key : List Byte) : Sealed × State :=
  let d := s.draw
  (⟨m05, gcmSeal (sealKey (m05 ++ [m6])) (natLE 12 (Config.sealIv d.1).toNat) key⟩, d.2)

/-- What a copy opens to under the present measurements. -/
def State.opens (s : State) (c : Option Sealed) : Option (List Byte) :=
  c.bind fun x => gcmOpen (sealKey ((List.range 7).map s.meas)) x.box

/-- R157. -/
def State.unseal (s : State) : State :=
  let b := s.bank
  if s.lifecycle != 1 then { s with bank := { b with unsealResult := 0 } }
  else
    match s.opens b.current, s.opens b.alternate with
    | some k, _ => { s with bank := { b with unsealResult := 1, key := some k } }
    | none, some k => { s with bank := { b with current := b.alternate, alternate := b.current, unsealResult := 2, key := some k } }
    | none, none => { s with bank := { b with unsealResult := 3 } }

/-- K_o: the key under which sessions open (R55, R59, R161). -/
def State.sessionKey (s : State) : Option (List Byte) :=
  if s.lifecycle = 1 then s.bank.key else some (natLE 32 Config.transportKey.toNat)

/-- The key becomes the current copy, sealed to the present measurements, and the only one (R160, R167). -/
def State.sealCurrent (s : State) (key : List Byte) : State :=
  let c := s.sealTo ((List.range 6).map s.meas) (s.meas 6) key
  { c.2 with bank := { c.2.bank with current := some c.1, alternate := none, key := some key } }

/-- The key sealed to M0–M5 with the present MEAS6 becomes the alternate copy (R158). -/
def State.sealAlternate (s : State) (m05 : List (List Byte)) (key : List Byte) : State :=
  let c := s.sealTo m05 (s.meas 6) key
  { c.2 with bank := { c.2.bank with alternate := some c.1 } }

/-! ### The bank store (R116 to R138) -/

/-- The slot is valid (R125). -/
def BankSlot.valid (b : BankSlot) : Bool := b.magic && b.headerCrc

/-- The valid slots by rotation position. -/
def Flash.validSlots (f : Flash) : List (Nat × BankSlot) := (indexed f.bank).filter (·.2.valid)

/-- The latest of some slots, and whether R126 applied; of equal largest sequences the lower rotation position (log 144). -/
def latestOf (xs : List (Nat × BankSlot)) : Option ((Nat × BankSlot) × Bool) :=
  match xs.find? fun a => xs.all fun b => b.1 == a.1 || seqLater 32 a.2.sequence b.2.sequence with
  | some a => some (a, false)
  | none => (xs.foldl (fun (m : Option (Nat × BankSlot)) b => match m with
      | some a => if a.2.sequence < b.2.sequence then some b else some a
      | none => some b) none).map fun a => (a, true)

/-- The slots from the latest on (R127, R129). -/
def slotOrder : Nat → List (Nat × BankSlot) → List (Nat × BankSlot)
  | 0, _ => []
  | n + 1, xs => match latestOf xs with
    | some (a, _) => a :: slotOrder n (xs.filter (·.1 != a.1))
    | none => []

/-- The latest valid slot. -/
def Flash.latest (f : Flash) : Option (Nat × BankSlot) := (latestOf f.validSlots).map (·.1)

/-- The object is held in the bank store (R74). -/
def isStored (key : Nat) : Bool := match Dict.row? (key / 256) (key % 256) with | some r => r.persist | none => false

/-- Bytes that an entry takes in a body. -/
def entrySize (n : Nat) : Nat := 8 + 4 * ceilDiv n 4

/-- LENGTH of a body: an entry for every P object that holds a value, every P DOM, the sealed copies and the fire counts. -/
def Body.size (b : Body) : Nat :=
  let rows := (Dict.all.filter (·.persist)).map fun r =>
    if r.ty == .dom then ((List.range r.n).map fun i =>
      entrySize (mapGet b.doms (r.idx + i) (domDefault (r.idx + i))).size).foldl (· + ·) 0
    else if 256 ^ r.ty.size ≤ r.dflt then
      b2n (b.objs.any fun e => e.1 == 256 * r.idx + r.sub) * entrySize r.ty.size
    else r.n * r.m * entrySize r.ty.size
  let copies := b2n b.current.isSome + b2n b.alternate.isSome
  rows.foldl (· + ·) 0 + copies * entrySize (288 + Config.sealedLength.toNat) +
  (if b.fireCounts.isSome then entrySize 1327104 else 0)

/-- The stored values that the part holds now, as a store would hold them. -/
def State.bodyNow (s : State) : Body :=
  { objs := s.objs.filter fun e => isStored e.1
    doms := s.doms.filter fun e => isStored (256 * e.1)
    current := s.bank.current
    alternate := s.bank.alternate
    fireCounts := if s.rdB O.STORE_FIRE_COUNTS then some (s.doms.filter fun e => 0x2520 ≤ e.1 && e.1 ≤ 0x252f) else none
    misfits := 0 }

/-- The body holds a sealed owner key copy. -/
def Body.sealed (b : Body) : Bool := b.current.isSome || b.alternate.isSome

/-- The slot whose body is loaded (R127, R129). -/
def State.loadSlot (s : State) : Option (Nat × BankSlot) :=
  let order := slotOrder 8 s.flash.validSlots
  let usable := match order with
    | a :: rest => if s.lifecycle = 1 && a.2.cause = 3 && !a.2.body.sealed then rest else order
    | [] => []
  usable.find? (·.2.bodyCrc)

/-- The stored objects that the next boot loads, the defaults where no body passes. -/
def State.storedObjs (s : State) : List (Nat × Nat) := (s.loadSlot.map (·.2.body.objs)).getD []

/-- A copy sealed anew to the MEAS6 of the next boot. -/
def State.resealCopy (s : State) (m6 key : List Byte) (c : Option Sealed) : Option Sealed × State :=
  match c with
  | some x => let r := s.sealTo x.m05 m6 key; (some r.1, r.2)
  | none => (none, s)

/-- R159: a store that changes the measured configuration reseals both copies. -/
def State.reseal (s : State) (b : Body) : Body × State :=
  match s.bank.key with
  | none => (b, s)
  | some key =>
    if measuredEntries b.objs = measuredEntries s.bank.config then (b, s)
    else
      let m := meas6Of b.objs
      let c := s.resealCopy m key b.current
      let a := c.2.resealCopy m key b.alternate
      ({ b with current := c.1, alternate := a.1 }, a.2)

/-- The positions that are not retired. -/
def State.livePositions (s : State) : List Nat := (List.range 8).filter fun p => !bit (s.rd O.STORE_RETIRED) p

/-- The first position from `start` on that a store may take (R118). -/
def State.storePos (s : State) (start : Nat) : Nat :=
  let latest := s.flash.latest.map (·.1)
  (((List.range 8).map fun i => (start + i) % 8).find? fun p =>
    !bit (s.rd O.STORE_RETIRED) p && latest != some p).getD 0

/-- A store has ended with LAST_RESULT r (R136). The manual names no INDEX of the notice (log 55). -/
def State.storeResult (s : State) (r : Nat) : State :=
  (s.wr O.STORE_STATUS_LAST_RESULT r).notice 0xb 3 r 0x1202 2 []

/-- The flash changes by an erase or a program command, which the bank-store guard lets through no more once the I/O rail has
fallen (R123). -/
def State.flashWrite (s : State) (f : Flash → Flash) : State := if s.boot.railFallen then s else { s with flash := f s.flash }

/-- The slot at a position is erased, for a store (`partly`) or whole (R117, R168). -/
def Flash.eraseSlot (f : Flash) (p : Nat) (partly : Bool) : Flash :=
  { f with bank := f.bank.modify p fun b => { BankSlot.erased with cycles := b.cycles + 1, partly := partly }
           tapped := mapErase f.tapped (2 + p) }

/-- A store of a body begins (R117 to R122). TIME_NS is TB_PTP while the servo is not UNSYNCED (log 145). -/
def State.startStore (s : State) (cause bootSlot : Nat) (body : Body) : State :=
  let s0 := if cause ≤ 1 then { s with bank := { s.bank with pendingAuto := false } } else s
  let r := s0.reseal body
  let body := r.1
  let s1 := r.2
  if s1.livePositions.length < 2 then s1.storeResult 3
  else if 4194240 < body.size then s1.storeResult 4
  else
    let last := s1.flash.latest
    let pos := s1.storePos (match last with | some (p, _) => (p + 1) % 8 | none => 0)
    let im : BankSlot :=
      { magic := true, headerCrc := true, bodyCrc := true
        sequence := match last with | some (_, b) => (b.sequence + 1) % 2 ^ 32 | none => 1
        length := body.size, retired := s1.rd O.STORE_RETIRED, cause := cause, bootSlot := bootSlot
        fwVersion := s1.rd O.FW_VERSION, cycles := 0
        timeNs := (if s1.time.servo = 0 then s1.mono else s1.ptp) % 2 ^ 64, body := body, partly := false }
    ({ s1 with bank := { s1.bank with job := some ⟨pos, im, 0, s1.now⟩ } } : State).flashWrite (·.eraseSlot pos true)

/-- A store of what the part holds now begins. -/
def State.storeNow (s : State) (cause : Nat) : State := s.startStore cause (s.rd O.SLOT_SELECT) s.bodyNow

/-- A store or a lifecycle transition runs (R134). -/
def State.storeBusy (s : State) : Bool := s.bank.job.isSome || s.bank.transition.isSome

/-- The body of the store of R168. -/
def State.returnBody (s : State) : Body :=
  let secret := [O.ARBITER_KEY, O.DEBUG_KEY, O.DEBUG_ALLOW, O.GRAFT_ALLOWLIST]
  { s.bodyNow with objs := s.bodyNow.objs.filter (fun e => !secret.contains e.1), current := none, alternate := none }

/-- A reset with a cause takes effect after 10 ms of safe state (R103). -/
def State.resetSoon (s : State) (cause : Nat) : State :=
  ({ s with boot := { s.boot with pendingReset := some (cause, s.now) } } : State).requestSafe 1 6 cause

/-- What follows the store of a lifecycle transition (R167, R168). -/
def State.transit (s : State) (pos : Nat) : State :=
  match s.bank.transition with
  | some goal =>
    let s1 : State := { s with fuses := { s.fuses with lifecycleBits := s.fuses.lifecycleBits + 1 } }
    let s2 := s1.measureEvent 2 s1.mono
    let s2 := if goal = 1 then s2
      else s2.flashWrite fun f => (List.range 8).foldl (fun (f : Flash) p => if p = pos then f else f.eraseSlot p false) f
    s2.resetSoon 4
  | none => s

/-- STORE_COMPLETE (R117, R120, R136): MAGIC is programmed last, and not once the I/O rail has fallen (R123). -/
def State.storeComplete (s : State) (readBackOk : Bool) : State :=
  match s.bank.job with
  | none => s
  | some j =>
    if s.boot.railFallen then s
    else
      let cycles := (s.flash.bank.getD j.pos .erased).cycles
      if readBackOk then
        let s1 : State :=
          { s with
            flash := { s.flash with bank := s.flash.bank.modify j.pos fun _ => { j.image with cycles := cycles }
                                    badReads := s.flash.badReads.modify j.pos fun _ => 0 }
            bank := { s.bank with job := none, lastStore := some s.now, recent := (s.bank.recent ++ [s.now])
                                  current := if j.image.cause = 3 then s.bank.current else j.image.body.current
                                  alternate := if j.image.cause = 3 then s.bank.alternate else j.image.body.alternate
                                  config := j.image.body.objs } }
        let s2 := ((s1.wrs [(O.LAST_STORE_TIME, s1.mono % 2 ^ 64), (O.BODY_SIZE, j.image.length),
          (O.STORE_SEQUENCE, j.image.sequence)]).inc O.STORES_SINCE_RESET).storeResult 1
        s2.transit j.pos
      else
        let bad := s.flash.badReads.getD j.pos 0 + 1
        let s1 : State := { s with flash := { s.flash with badReads := s.flash.badReads.modify j.pos fun _ => bad } }
        let s2 := if 2 ≤ bad then s1.wr O.STORE_RETIRED (setBit (s1.rd O.STORE_RETIRED) j.pos true) else s1
        if j.fails = 0 && 2 ≤ s2.livePositions.length then
          let pos := s2.storePos ((j.pos + 1) % 8)
          ({ s2 with bank := { s2.bank with job := some { j with
              pos := pos, fails := 1, image := { j.image with retired := s2.rd O.STORE_RETIRED } } } } : State).flashWrite
            (·.eraseSlot pos true)
        else ({ s2 with bank := { s2.bank with job := none, transition := none } } : State).storeResult 2

/-- STORE_TIMEOUT (R135). -/
def State.storeTimeout (s : State) : State :=
  match s.bank.job with
  | some j =>
    if s.due j.since (60 * sec) then
      ({ s with bank := { s.bank with job := none, transition := none } } : State).storeResult 5
    else s
  | none => s

/-- AUTO_STORE (R130). -/
def State.autoStoreDue (s : State) : State :=
  let day := 24 * 3600 * sec
  let recent := s.bank.recent.filter fun t => s.now < t + day
  let gap := match s.bank.lastStore with
    | some t => s.due t (s.rd O.STORE_MIN_INTERVAL * sec)
    | none => true
  if s.bank.pendingAuto && !s.storeBusy && gap && recent.length < 72 then
    ({ s with bank := { s.bank with recent := recent } } : State).storeNow 1
  else s

/-- IO_RAIL_FALL (R123). -/
def State.railFall (s : State) : State := { s with boot := { s.boot with railFallen := true } }

/-- STORE written by the host (R121, R131, R134). -/
def State.storeWrite (s : State) (v : Nat) : Reply :=
  if v != 1 then .of Status.range s
  else if s.storeBusy then .of Status.busy s
  else if s.livePositions.length < 2 then .of Status.state s
  else .of Status.ok (s.storeNow 0)

/-! ### Firmware slots (R143 to R146) -/

/-- FW_SLOT_PROGRAMMED (R144). -/
def State.slotProgrammed (s : State) (slot : Nat) (readBackOk : Bool) : State :=
  match s.bank.programming with
  | some p =>
    if p.slot != slot || s.boot.railFallen then s
    else
      let s1 : State := { s with bank := { s.bank with programming := none } }
      if !readBackOk then s1
      else if slot = 0 then { s1 with flash := { s1.flash with slotA := p.image, genA := (s1.flash.genA + 1) % 2 ^ 32 } }
      else { s1 with flash := { s1.flash with slotB := p.image, genB := (s1.flash.genB + 1) % 2 ^ 32 } }
  | none => s

/-- The slot k is being programmed. -/
def State.programmingSlot (s : State) (k : Nat) : Bool := match s.bank.programming with | some p => p.slot == k | none => false

/-- A whole image arrived for slot k (R142 to R144). -/
def State.slotWrite (s : State) (k : Nat) (im : List Byte) : Reply :=
  if im.length < 128 || 25165824 < im.length || !imageOk im then .of Status.range s
  else if s.boot.slot = k || s.bank.programming.isSome then .of Status.state s
  else
    .of Status.ok (({ s with bank := { s.bank with programming := some ⟨k, im⟩ } } : State).flashWrite fun f =>
      if k = 0 then { f with slotA := [] } else { f with slotB := [] })

/-- SLOT_SELECT (R145, R146); BUSY while a store runs (log 54). -/
def State.slotSelect (s : State) (v : Nat) : Reply :=
  if 1 < v then .of Status.range s
  else if s.programmingSlot v || !imageValid (s.flash.slot v) then .of Status.state s
  else if s.storeBusy then .of Status.busy s
  else .of Status.ok ((s.wr O.SLOT_SELECT v).storeNow 4)

/-! ### Sealing and lifecycle (R158 to R168) -/

/-- PRESEAL.FF with 1: the staged measurements, those of the alternate copy where none is staged. -/
def State.preseal (s : State) (staged : List (Nat × Nat)) : Reply :=
  if s.lifecycle != 1 then .of Status.locked s
  else if s.storeBusy then .of Status.busy s
  else
    match s.bank.key with
    | some key =>
      let m05 := (List.range 6).map fun j =>
        match mapGet (staged.map fun e => (e.1, some e.2)) (O.PRESEAL_MEAS j) none with
        | some v => natLE 48 v
        | none => match s.bank.alternate with | some a => a.m05.getD j zero48 | none => zero48
      .of Status.ok ((s.sealAlternate m05 key).storeNow 5)
    | none => .of Status.state s

/-- OWNER_KEY (R160, R162). -/
def State.ownerKeyWrite (s : State) (key : List Byte) : Reply :=
  if s.lifecycle = 1 then
    if s.storeBusy then .of Status.busy s
    else .of Status.ok ((s.sealCurrent key).storeNow 5)
  else
    .of Status.ok { s with tdp := { s.tdp with session := s.tdp.session.map fun x => { x with newKey := some key } } }

/-- LIFECYCLE_REQUEST (R164 to R168). -/
def State.lifecycleRequest (s : State) (v : Nat) : Reply :=
  if v != 1 && v != 2 then .of Status.range s
  else if (v = 1 && s.lifecycle = 1) || (v = 2 && s.lifecycle != 1) || 16 ≤ s.fuses.lifecycleBits then .of Status.locked s
  else if s.openPages then .of Status.state s
  else
    let key := s.tdp.session.bind (·.newKey)
    if v = 1 && key.isNone then .of Status.state s
    else if s.storeBusy || s.boot.pendingReset.isSome then .of Status.busy s
    else if s.livePositions.length < 2 then .of Status.state s
    else
      let s1 : State := { s with bank := { s.bank with transition := some v } }
      let s2 := if v = 1 then (s1.sealCurrent (key.getD [])).storeNow 3
        else s1.startStore 3 (s1.rd O.SLOT_SELECT) s1.returnBody
      .of Status.ok (if s2.bank.job.isNone then { s2 with bank := { s2.bank with transition := none } } else s2)

end Sys2Proof.Machine
end

