-- ==== Sys2Proof/Machine/BankImage.lean ====
section
/-! DEFINITION. The flash as bytes, as the TAP reads and writes it (R112, R114, R116, R761). -/

namespace Sys2Proof.Machine

/-! ### A bank slot as bytes (*Bank slot header*, *Bank store*) -/

/-- The entry of a sealed copy: the M0 to M5 to which it was sealed, its IV, cipher text and tag, and what else the image holds of
it (log 19). -/
def sealedEntry (sub : Nat) (c : Option Sealed) : List Byte :=
  match c with
  | some x => bodyEntry 0 sub (Config.entryType sub).toNat
      (x.m05.flatten ++ x.box ++ List.replicate Config.sealedLength.toNat 0#8)
  | none => []

/-- The entries of one row of the dictionary. -/
def rowEntries (b : Body) (r : ObjRow) : List Byte :=
  if r.ty == .dom then
    (List.range r.n).flatMap fun i =>
      let d := mapGet b.doms (r.idx + i) (domDefault (r.idx + i))
      bodyEntry (r.idx + i) 0 r.ty.code (d.read (domFill (r.idx + i)) 0 d.size)
  else
    (List.range r.n).flatMap fun i => (List.range r.m).flatMap fun k =>
      let v := mapGet b.objs (256 * (r.idx + i) + r.sub + k) r.dflt
      if v < 256 ^ r.ty.size then bodyEntry (r.idx + i) (r.sub + k) r.ty.code (natLE r.ty.size v) else []

/-- The fire counts, in segment, row and nozzle order. -/
def countEntry (c : Option (List (Nat × Dom))) : List Byte :=
  match c with
  | some xs => bodyEntry 0 0x10 (Config.entryType 0x10).toNat ((List.range 16).flatMap fun k =>
      (mapGet xs (0x2520 + k) (domDefault (0x2520 + k))).read (domFill (0x2520 + k)) 0 82944)
  | none => []

/-- A body; the order of its entries is the model's (log 129). -/
def Body.bytes (b : Body) : List Byte :=
  sealedEntry 1 b.current ++ sealedEntry 2 b.alternate ++ countEntry b.fireCounts ++
  (Dict.all.filter (·.persist)).flatMap (rowEntries b)

/-- A slot with a complete image. -/
def BankSlot.bytes (b : BankSlot) : List Byte :=
  let body := b.body.bytes
  let h := natLE 4 b.sequence ++ natLE 4 b.length ++ natLE 4 (crc32c body) ++
    [toByte b.retired, toByte b.cause, toByte b.bootSlot, 0#8] ++ natLE 4 b.fwVersion ++ natLE 4 b.cycles ++ natLE 8 b.timeNs ++
    List.replicate 20 0#8
  let h := natLE 2 1 ++ natLE 2 (b2n b.body.fireCounts.isSome) ++ h
  natLE 4 0x4b4e4254 ++ h ++ natLE 4 (crc32c h) ++ body

/-! ### Bytes as a bank slot -/

/-- An entry of a body as it stands: index, subindex, type and data. -/
structure RawEntry where
  idx : Nat
  sub : Nat
  ty : Nat
  data : List Byte

/-- The entries of a body; fuel bounds their number. -/
def readEntries : Nat → List Byte → List RawEntry
  | 0, _ => []
  | fuel + 1, bs =>
    if bs.length < 8 then []
    else
      let n := u32At bs 4
      ⟨u16At bs 0, u8At bs 2, u8At bs 3, (bs.drop 8).take n⟩ :: readEntries fuel (bs.drop (8 + 4 * ceilDiv n 4))

/-- A sealed copy of these bytes. -/
def readSealed (d : List Byte) : Sealed :=
  ⟨(List.range 6).map fun k => (d.drop (48 * k)).take 48, (d.drop 288).take 60⟩

/-- One entry taken into a body; one whose object does not exist or whose type or length differs only counts (R128). -/
def Body.takeEntry (b : Body) (e : RawEntry) : Body :=
  let misfit : Body := { b with misfits := b.misfits + 1 }
  if e.idx = 0 then
    match e.sub with
    | 1 => { b with current := some (readSealed e.data) }
    | 2 => { b with alternate := some (readSealed e.data) }
    | 0x10 => { b with fireCounts := some ((List.range 16).map fun k =>
        (0x2520 + k, ⟨82944, 0, cellsOf (domFill (0x2520 + k)) 0 ((e.data.drop (82944 * k)).take 82944)⟩)) }
    | _ => misfit
  else
    match Dict.row? e.idx e.sub with
    | some r =>
      if e.ty != r.ty.code then misfit
      else if r.ty == .dom then { b with doms := mapSet b.doms e.idx ⟨e.data.length, 0, cellsOf (domFill e.idx) 0 e.data⟩ (domDefault e.idx) }
      else if e.data.length != r.ty.size then misfit
      else { b with objs := mapSet b.objs (256 * e.idx + e.sub) (leNat e.data) r.dflt }
    | none => misfit

/-- A bank slot that holds these bytes from its start on, and FFh behind them (R116, R125, R127). -/
def BankSlot.read (bs : List Byte) : BankSlot :=
  let at' (i : Nat) : List Byte := (bs ++ List.replicate (64 - bs.length) 0xff#8).drop i
  let u (n i : Nat) : Nat := leNat ((at' i).take n)
  let n := u 4 12
  let body := ((at' 64) ++ List.replicate (n - (bs.length - 64)) 0xff#8).take n
  let whole := n ≤ 4194240
  { magic := u 4 0 == 0x4b4e4254 && u 2 4 == 1
    headerCrc := u 4 60 == crc32c ((at' 4).take 56)
    bodyCrc := whole && u 4 16 == crc32c body
    sequence := u 4 8, length := n, retired := u 1 20, cause := u 1 21, bootSlot := u 1 22, fwVersion := u 4 24
    cycles := u 4 28, timeNs := u 8 32
    body := if whole then (readEntries n body).foldl Body.takeEntry .empty else .empty, partly := false }

/-! ### The areas of *Flash map* -/

/-- The TAP writes an area: the bytes from its start on, FFh behind them. -/
def Flash.tapWrite (f : Flash) (area : Nat) (bs : List Byte) : Flash :=
  let kept := { f with tapped := mapPut (mapErase f.tapped area) area bs }
  if area = 0 then { f with slotA := bs }
  else if area = 1 then { f with slotB := bs }
  else if area < 10 then { kept with bank := f.bank.modify (area - 2) fun _ => .read bs }
  else if area = 10 then { kept with bootCount := (Config.bootCountIn bs).toNat }
  else if area = 11 then { f with ring := cellsOf (fun _ => 0xff#8) 0 (bs.take 16646144) }
  else kept

/-- What the TAP reads of an area, FFh behind it. A bank slot between erasure and MAGIC is a free value. -/
def Flash.tapRead (f : Flash) (area draw : Nat) : List Byte :=
  if area < 2 then f.slot area
  else if area = 11 then (List.range 16646144).map fun i => mapGet f.ring i 0xff#8
  else
    match f.tapped.find? (·.1 == area) with
    | some e => e.2
    | none =>
      if area < 10 then
        let b := f.bank.getD (area - 2) .erased
        if b.partly then Config.slotBytes draw else if b.valid then b.bytes else []
      else if area = 10 then Config.bootRecords f.bootCount
      else if area = 12 then Config.identityArea
      else []

end Sys2Proof.Machine
end

