-- ==== Sys2Proof/Machine/Power.lean ====
section
/-! DEFINITION. The end of a session, the power states, and debug authorisation (R57 to R66, R170 to R202). -/

namespace Sys2Proof.Machine

/-! ### The end of a session (R63, R66) -/

/-- R66: what is staged, an unfinished transfer and the notice queue go with the session. -/
def State.endSession (s : State) : State :=
  match s.tdp.session with
  | some _ => ({ s with tdp := { s.tdp with session := none } } : State).wr O.NOTICE_MASK (Dict.dflt O.NOTICE_MASK)
  | none => s

/-- An address change, entry to SLEEP, or reset: the challenge goes as well (*Session states*). -/
def State.dropTdp (s : State) : State :=
  let s1 := s.endSession
  { s1 with tdp := { s1.tdp with challenge := none } }

/-- LEASE_EXPIRY (R63, R753). -/
def State.leaseExpired (s : State) : State :=
  match s.tdp.session with
  | some x =>
    if x.leaseEnd ≤ s.now then
      let s1 := s.endSession
      match s1.rd O.LEASE_LOSS_ACTION with
      | 2 => { s1 with acts := s1.acts ++ [.pausePrint] }
      | 3 => s1.requestSafe 2 5 2
      | _ => s1
    else s
  | none => s

/-- CHALLENGE_EXPIRY (R57). -/
def State.challengeExpired (s : State) : State :=
  match s.tdp.challenge with
  | some c => if s.due c.issued sec then { s with tdp := { s.tdp with challenge := none } } else s
  | none => s

/-- AUTH_LOCK_EXPIRY (R60). -/
def State.authLockExpired (s : State) : State :=
  if s.tdp.authLockUntil ≤ s.now then { s with tdp := { s.tdp with authLockUntil := 0 } } else s

/-! ### Debug (R189 to R200) -/

/-- The debug level returns to CLOSED (R195). -/
def State.debugClosed (s : State) : State := { s with access := { s.access with level := 0, nonce := none } }

/-- Heartwood runs and the TAP reaches it. -/
def State.debugReachable (s : State) : Bool := (s.boot.phase == .applied || s.boot.phase == .ready) && s.power.state < 3

/-- DEBUG_AUTH may be used for some level of a mask (bit 0 PROBE, bit 1 FULL) (R193, R194). -/
def State.debugOpen (s : State) (mask : Nat) : Bool :=
  s.access.lockUntil ≤ s.now &&
  (s.lifecycle != 1 || (s.rd O.DEBUG_KEY < 2 ^ 256 && Nat.land (s.rd O.DEBUG_ALLOW) mask != 0))

/-- A nonce is issued (R191, R193). -/
def State.debugNonce (s : State) : State :=
  if !s.debugReachable then s
  else if s.debugOpen 3 then
    let d := s.draw
    let n := natLE 16 (Config.debugNonce d.1).toNat
    ({ d.2 with access := { d.2.access with nonce := some (n, s.now) } } : State).emit (.tap 128 (leNat n))
  else s.emit (.tap 16 Status.locked)

/-- K_d (R192). -/
def State.debugKey (s : State) : List Byte :=
  if s.lifecycle = 1 then natLE 32 (s.rd O.DEBUG_KEY) else natLE 32 Config.mirvasDebugKey.toNat

/-- FULL is entered (R196, R201): the SAFE notice is the last that the session is sent. -/
def State.enterFull (s : State) : State :=
  let s1 : State := { s with access := { s.access with level := 2, fullEntries := min (2 ^ 32 - 1) (s.access.fullEntries + 1) } }
  let s2 := s1.measureEvent 3 s1.mono
  if s2.power.state = 0 then s2.cutPages.foldl State.cutPage (s2.enterSafe ⟨0, 4, 0⟩ false).dropTdp
  else (s2.notice 3 0 0 0x1600 0 [0#8, 4#8, 0#8, 0#8]).dropTdp

/-- DEBUG_AUTH: a proof is written (R191 to R194). -/
def State.debugAuth (s : State) (level : Nat) (proof : List Byte) : State :=
  if !s.debugReachable then s
  else if level = 0 then s.debugClosed
  else if 2 < level then s
  else if !s.debugOpen (2 ^ (level - 1)) then s.emit (.tap 16 Status.locked)
  else
    let right := match s.access.nonce with
      | some (n, t) => s.now < t + 10 * sec &&
          proof == (hmac256 s.debugKey (ascii "DBG-LEVEL" ++ [toByte level] ++ n ++ natLE 8 s.fuses.serial)).take 16
      | none => false
    let s1 : State := { s with access := { s.access with nonce := none } }
    if right then
      if level = 2 && s1.access.level != 2 then s1.enterFull
      else { s1 with access := { s1.access with level := max s1.access.level level } }
    else
      let wrong := (s1.access.wrong.filter fun t => s.now < t + 10 * sec) ++ [s.now]
      { s1 with access := { s1.access with
        failures := min 65535 (s1.access.failures + 1)
        wrong := if 3 ≤ wrong.length then [] else wrong
        lockUntil := if 3 ≤ wrong.length then s.now + 60 * sec else s1.access.lockUntil } }

/-- DEBUG_NONCE_EXPIRY (R191). -/
def State.debugNonceExpired (s : State) : State :=
  match s.access.nonce with
  | some (_, t) => if s.due t (10 * sec) then { s with access := { s.access with nonce := none } } else s
  | none => s

/-- DEBUG_LOCK_EXPIRY (R194). -/
def State.debugLockExpired (s : State) : State :=
  if s.access.lockUntil ≤ s.now then { s with access := { s.access with lockUntil := 0, wrong := [] } } else s

/-- DEBUG_STATE.CLOSE written v. -/
def State.debugCloseWrite (s : State) (v : Nat) : Reply := if v = 1 then .of Status.ok s.debugClosed else .of Status.range s

/-! ### Power states (R170 to R188) -/

/-- A transition runs (R172). -/
def State.moving (s : State) : Bool := s.power.pausing || s.power.target != 0xff

/-- The new power state stands; LAST_TRANSITION is in µs. -/
def State.powerNow (s : State) (st : Nat) : State :=
  ({ s with power := { s.power with state := st, target := 0xff, pausing := false } } : State).wr O.LAST_TRANSITION
    (min (2 ^ 32 - 1) ((s.now - s.power.since) / 1000000))

/-- Every camera pipeline runs STOP, or START again (R561). -/
def State.camsStop (s : State) : State := (List.range 4).foldl State.camStop s
def State.camsStart (s : State) : State :=
  (List.range 4).foldl (fun (s : State) k => if s.rd (O.CAM_STATUS_STATE k) = 3 then s.camStart k 1 else s) s

/-- The lanes enter a low-power state, or leave it (R544). -/
def State.lanesLow (s : State) (level : Nat) : State := (List.range 24).foldl (fun (s : State) n => s.laneLpEntry n level) s
def State.lanesOut (s : State) : State := (List.range 24).foldl State.laneLpExit s

/-- PAUSE to STANDBY (R177). -/
def State.enterStandby (s : State) : State :=
  ((s.camsStop.abortAxes O.STANDSTILL_MODE).powerNow 2).lanesLow 1

/-- STANDBY to PAUSE (R177). -/
def State.leaveStandby (s : State) : State := (s.powerNow 1).lanesOut.camsStart

/-- Every motion gate output is driven low (R827). -/
def State.axesOff (s : State) : State :=
  (List.range 4).foldl State.gateCoils { s with axes := s.axes.map fun x =>
    { x with state := 0, coil := .off, speed := 0, part := 0, phase := none, endedAt := none, dwellSince := none } }

/-- The time bases stop at this moment. -/
def TimeState.stop (t : TimeState) (now : Nat) : TimeState :=
  { t with ptp := t.ptp.roll ptpCycle t.rate now, mono := t.mono.roll ptpCycle 0 now, fire := t.fire.roll fireCycle t.fireRate now }

/-- TB_MONO goes on by the AON count, TB_PTP and TB_FIRE where they stood (R185, log 23); the servo starts anew. -/
def TimeState.resume (t : TimeState) (since now : Nat) : TimeState :=
  let ticks := (now - since) * 32768 / sec
  { t with
    ptp := { t.ptp with edge := now }
    mono := ⟨(t.mono.val + ticks * 1000000000 * 2 ^ 40 / 32768) % 2 ^ 104, now⟩
    fire := { t.fire with edge := now }
    servo := 0, sum := 0, inLock := 0, held := [], exchange := none, masters := [], master := none, sync := none }

/-- What SLEEP and OFF end (R66, R195, R343, R698, R764, R827, R853, R870). -/
def State.closeDown (s : State) : State :=
  let s1 := if s.rdB O.TELEMETRY_ENABLE && !s.boot.railFallen then s.writeChunk else s
  let s2 := s1.dropTdp.debugClosed.camsStop.calAbandon.abortMoves.dispsOff.axesOff
  { s2 with nozzle := { s2.nozzle with remainders := [] } }

/-- The wake timer is set by the entry (R188). -/
def State.stampEntry (s : State) : State :=
  { s with power := { s.power with entered := s.now
                                   timerAtEntry := if bit (s.rd O.WAKE_SOURCES) 2 then s.rd O.WAKE_TIMER else 0 } }

/-- SLEEP to PAUSE, for a cause of 1400h.05 (R177, R185, R386). -/
def State.wake (s : State) (cause : Nat) : State :=
  let s1 : State :=
    { s with
      time := s.time.resume s.power.entered s.now
      web := { s.web with valid := false, encCount := 0, stepCount := 0, run := [], slack := false, hold := none, cRef := none
                          virtual := 0, rest := 0, fixLeft := 0, fixRest := 0 }
      graft := { s.graft with history := [] }
      power := { s.power with since := s.now, wakeHeld := none } }
  ((List.range 4).foldl State.bootAxis (((s1.powerNow 1).newWindow).lanesOut.camsStart.dispsOn.encoSettle)).wr O.WAKE_CAUSE cause

/-- PAUSE or STANDBY to SLEEP; a wake event that was held wakes the part at once (R182). -/
def State.enterSleep (s : State) : State :=
  let s1 := ((s.closeDown.powerNow 3).stampEntry).encoSettle.lanesLow 2
  let s2 : State := { s1 with time := s1.time.stop s1.now }
  match s2.power.wakeHeld with
  | some c => s2.wake c
  | none => s2

/-- PAUSE or STANDBY to OFF: SUPPLY_EN goes low (R177, R186). -/
def State.enterOff (s : State) : State :=
  let s1 := (s.closeDown.powerNow 4).stampEntry.encoSettle
  ({ s1 with boot := { s1.boot with phase := .dark } } : State).emit (.pin "SUPPLY_EN" false)

/-- An entry to SLEEP or OFF is complete once no store runs and no axis moves (R140, R827). -/
def State.checkEntry (s : State) : State :=
  if s.power.pausing || (s.power.target != 3 && s.power.target != 4) || s.bank.job.isSome ||
      s.axes.any fun x => x.moving then s
  else if s.power.target = 3 then s.enterSleep else s.enterOff

/-- An entry to SLEEP or OFF begins: every moving axis stops on its ramp (R827). -/
def State.beginEntry (s : State) (target : Nat) : State :=
  (({ s with power := { s.power with target := target } } : State).abortAxes O.STANDSTILL_MODE).checkEntry

/-- R187: some enabled source can wake the part from the state. -/
def State.canWake (s : State) (target : Nat) : Bool :=
  let w := s.rd O.WAKE_SOURCES
  bit w 0 || (target = 3 && bit w 1) || (bit w 2 && s.rd O.WAKE_TIMER != 0)

/-- An entry to RUN begins; firing is enabled after a free time of at most 10 µs (R177, R913). -/
def State.beginRun (s : State) : State :=
  let d := s.draw
  { d.2 with power := { d.2.power with target := 0, enableAt := s.now + (Config.free d.1).toNat % 10000001 } }

/-- REQUEST_RUN (R177). -/
def State.requestRun (s : State) : Reply :=
  if s.moving then .of Status.busy s
  else if s.power.state = 0 then .of Status.ok s
  else if s.jobs.active.isNone || s.safe.active then .of Status.state s
  else if s.access.level = 2 then .of Status.locked s
  else
    let s1 : State := { s with power := { s.power with since := s.now } }
    .of Status.ok (if s1.power.state = 2 then s1.leaveStandby else s1).beginRun

/-- REQUEST_PAUSE (R177). -/
def State.requestPause (s : State) : Reply :=
  if s.moving then .of Status.busy s
  else
    let s1 : State := { s with power := { s.power with since := s.now } }
    match s.power.state with
    | 0 => .of Status.ok (s.pausePrint 1)
    | 2 => .of Status.ok s1.leaveStandby
    | _ => .of Status.ok s

/-- REQUEST_STANDBY (R177, R179). -/
def State.requestStandby (s : State) : Reply :=
  if s.moving then .of Status.busy s
  else if 2 ≤ s.graft.state then .of Status.state s
  else
    let s1 : State := { s with power := { s.power with since := s.now } }
    match s.power.state with
    | 0 => .of Status.ok (s.pausePrint 2)
    | 1 => .of Status.ok s1.enterStandby
    | _ => .of Status.ok s

/-- REQUEST_SLEEP and REQUEST_OFF (R177, R178, R187). -/
def State.requestDown (s : State) (target : Nat) : Reply :=
  if !s.canWake target then .of Status.range s
  else if s.moving then .of Status.busy s
  else if s.openPages || s.graft.state != 0 then .of Status.state s
  else if s.bank.programming.isSome then .of Status.busy s
  else if s.power.state = 0 then .of Status.ok (s.pausePrint target)
  else .of Status.ok (({ s with power := { s.power with since := s.now } } : State).beginEntry target)

/-- POWER_STATE.REQUEST written v (R171). -/
def State.powerRequest (s : State) (v : Nat) : Reply :=
  match v with
  | 0 => s.requestRun
  | 1 => s.requestPause
  | 2 => s.requestStandby
  | 3 => s.requestDown 3
  | 4 => s.requestDown 4
  | _ => .of Status.range s

/-- ORDERLY_PAUSE_END (R174). -/
def State.orderlyPauseEnd (s : State) : State :=
  if s.power.pausing && s.pauseDone then
    let target := s.power.target
    let s1 : State := { s with power := { s.power with state := 1, pausing := false, target := 0xff } }
    match target with
    | 2 => s1.enterStandby
    | 3 => s1.beginEntry 3
    | 4 => s1.beginEntry 4
    | _ => s.powerNow 1
  else s

/-- A wake event of a cause in SLEEP, or during the entry to it, when enabled (R177, R182). -/
def State.wakeEvent (s : State) (cause : Nat) : State :=
  if s.power.state = 3 then s.wake cause
  else if s.power.target = 3 then { s with power := { s.power with wakeHeld := some cause } }
  else s

/-- NETWORK_WAKE (R183): in SLEEP an ARP request for the address in use is answered, and a datagram to port 29170 that
asks for a session or an identification wakes the part, unanswered. -/
def State.networkWake (s : State) (f : WakeFrame) (opcode : Nat) : State :=
  match f with
  | .arp target => if s.power.state = 3 && target != 0 && target = s.net.addr then s.emit (.arp 2 target) else s
  | .udp magic =>
    if bit (s.rd O.WAKE_SOURCES) 1 && magic = 0x4454 && (opcode = 1 || opcode = 0x32) then s.wakeEvent 2 else s

end Sys2Proof.Machine
end

