-- ==== Sys2Proof/Machine/Effects.lean ====
section
/-! DEFINITION. What a change of an object does: the checks that its chapter names, its effect on the block that owns it, and
the actions of the CMD objects (the object tables of spec/02 to spec/23). -/

namespace Sys2Proof.Machine

/-! ### Objects that apply now -/

/-- The repeater takes a new mode: mode 3 starts with no counts owed (R418, R419, log 58). -/
def State.repeaterSet (s : State) : State :=
  (if s.rd O.REPEAT_MODE = 3 then { s with web := { s.web with repCount := s.repTarget, repEdge := s.now } } else s).encoSettle

/-- The effect of a value that an object has taken, on the block that owns it; old is the state before. -/
def State.nowEffect (s : State) (key : Nat) (old : State) : State :=
  let idx := key / 256
  if key = O.MIN_BOND_WIDTH then s.minWidth
  else if key = O.REPORT_INTERVAL then s.intervalChanged
  else if key = O.SEGMENT_ENABLE then s.segmentsChanged
  else if key = O.CMP_FOLLOW || key = O.ENCO_FOLLOW then s.driveFollowed
  else if key = O.REPEAT_MODE then s.repeaterSet
  else if 0x2740 ≤ idx && idx ≤ 0x2743 then s.interlockConfig (idx - 0x2740) (old.tripped (idx - 0x2740))
  else if 0x2920 ≤ idx && idx ≤ 0x2937 && key % 256 = 4 then s.laneEnableChanged (idx - 0x2920)
  else s

/-- A scalar object that applies now, or at boot, takes a value. -/
def State.setNow (s : State) (key v : Nat) : State :=
  if key = O.X_SHIFT then s.writeXShift v
  else if key = O.STITCH_POS then s.writeStitch v
  else if key = O.ROW_POS then s.writeRowPos v
  else if s.rd key = v then s
  else (s.wr key v).nowEffect key s

/-- R219, R354: the plan in effect reserves lines enough for a DELAY_MARGIN of v. -/
def State.marginOk (s : State) (v : Nat) : Bool := (List.range 6).all fun p => s.depthOk p (s.largestDelay p + v)

/-- A refusal of the owning block, beyond the range of the object's row. Where the range of one object names another, neither is
written so that it breaks (R639, R765, log 172). -/
def State.nowRefusal (s : State) (key v : Nat) : Option Nat :=
  let range (b : Bool) : Option Nat := if b then some Status.range else none
  let state (b : Bool) : Option Nat := if b then some Status.state else none
  if key = O.NET_MODE then range (v = 0 && s.rd O.STATIC_ADDRESS = 0)
  else if key = O.STATIC_ADDRESS then range (v = 0 && s.rd O.NET_MODE = 0)
  else if key = O.SUSPECT_M then range (s.rd O.SUSPECT_N < v)
  else if key = O.SUSPECT_N then range (v < s.rd O.SUSPECT_M)
  else if key = O.LOG_INTERVAL then range (v < s.rd O.TELEMETRY_INTERVAL)
  else if key = O.TELEMETRY_INTERVAL then range (s.rd O.LOG_INTERVAL < v)
  else if key = O.DEBUG_KEY || key = O.DEBUG_ALLOW || key = O.GRAFT_ALLOWLIST then
    (if s.lifecycle = 1 then none else some Status.locked)
  else if key = O.ROW_POS then state (!s.rowPosOk v)
  else if key = O.DELAY_MARGIN then state (!s.marginOk v)
  else if key = O.SEGMENT_ENABLE then state (v != s.rd key && s.openPages)
  else none

/-- The rows of a changed alignment object (R633). -/
def State.alignRows (s : State) (key v : Nat) : List Nat :=
  if key = O.X_SHIFT then (changedItems 1 96 (s.rd key) v).map (·.1)
  else if key = O.ROW_POS then (changedItems 4 96 (s.rd key) v).map (·.1)
  else if key = O.STITCH_POS then (changedItems 1 15 (s.rd key) v).flatMap fun e => (List.range 12).map (6 * e.1 + ·)
  else []

/-! ### DOM objects -/

/-- The DOM admits a size of 0 (R89). -/
def admitsZero (idx : Nat) : Bool :=
  (0x2410 ≤ idx && idx ≤ 0x2415) || idx = 0x2420 || (0x2630 ≤ idx && idx ≤ 0x263f) || (0x3110 ≤ idx && idx ≤ 0x3113) ||
  (0x311c ≤ idx && idx ≤ 0x311f) || (0x3338 ≤ idx && idx ≤ 0x333f) || (0x3348 ≤ idx && idx ≤ 0x334f) ||
  idx = 0x3910 || idx = 0x3911 || (0x1610 ≤ idx && idx ≤ 0x1651 && (blockCodes (idx - 0x1610)).isEmpty)

/-- R320: a threshold array. -/
def thresholdOk (bs : List Byte) : Bool :=
  let w := u16At bs 0
  let h := u16At bs 2
  bs.isEmpty || (w % 8 == 0 && 8 ≤ w && w ≤ 512 && 1 ≤ h && h ≤ 512 && bs.length == 8 + 6 * w * h && u32At bs 4 == 0 &&
    (List.range (w * h)).all fun i =>
      let t1 := u16At bs (8 + 6 * i)
      let t2 := u16At bs (10 + 6 * i)
      let t3 := u16At bs (12 + 6 * i)
      t1 ≤ t2 && t2 ≤ t3 && t3 ≤ 4095)

/-- R416: a compare list. -/
def compareListOk (bs : List Byte) : Bool :=
  let n := bs.length / 8
  bs.length % 8 == 0 && bs.length ≤ 32768 && (List.range (n - 1)).all fun i => u64At bs (8 * i) < u64At bs (8 * i + 8)

/-- MOVE_CHAIN: at most 64 descriptors, whose reserved bits and bytes are 0 (R8, R681). -/
def chainOk (bs : List Byte) : Bool :=
  bs.length % 64 == 0 && bs.length ≤ 4096 &&
  (List.range (bs.length / 64)).all fun i => (descriptorOf ((bs.drop (64 * i)).take 64)).clean

/-- The bytes pass the check of the DOM (R87). -/
def State.domOk (s : State) (idx : Nat) (bs : List Byte) : Bool :=
  if 0x1610 ≤ idx && idx ≤ 0x1651 then classTableOk (idx - 0x1610) bs
  else if 0x2410 ≤ idx && idx ≤ 0x2415 then thresholdOk bs
  else if idx = 0x2420 then bs.length == 0 || bs.length == 49152
  else if 0x2510 ≤ idx && idx ≤ 0x251f then nozzleMapOk bs
  else if 0x2520 ≤ idx && idx ≤ 0x252f then bs.length == 82944
  else if 0x2630 ≤ idx && idx ≤ 0x263f then compareListOk bs
  else if 0x2720 ≤ idx && idx ≤ 0x272f then bs.length == 20736 && bs.all fun b => b.toNat ≤ 63
  else if 0x300c ≤ idx && idx ≤ 0x300f then cciScriptOk bs
  else if 0x3030 ≤ idx && idx ≤ 0x3033 then s.flatOk (idx - 0x3030) bs
  else if 0x3110 ≤ idx && idx ≤ 0x3113 then bs.length == 0 || bs.length == 12288
  else if 0x311c ≤ idx && idx ≤ 0x311f then regionsOk bs
  else if 0x3338 ≤ idx && idx ≤ 0x333f then chainOk bs
  else if 0x3348 ≤ idx && idx ≤ 0x334f then bs.length ≤ 67108864
  else if idx = 0x3910 || idx = 0x3911 then s.graphicsOk (idx - 0x3910) bs.length
  else true

/-- A DOM that is not job-scoped takes the bytes. -/
def State.setDomNow (s : State) (idx : Nat) (bs : List Byte) : State :=
  if 0x1610 ≤ idx && idx ≤ 0x1651 then s.replaceClassTable (idx - 0x1610) bs
  else if 0x2510 ≤ idx && idx ≤ 0x251f then s.replaceMap (idx - 0x2510) bs
  else if 0x2520 ≤ idx && idx ≤ 0x252f then
    let seg := idx - 0x2520
    let s1 := s.domReplace idx bs
    { s1 with nozzle := { s1.nozzle with remainders := s1.nozzle.remainders.filter fun e => e.1 / 20736 != seg } }
  else if 0x2630 ≤ idx && idx ≤ 0x263f then (s.domReplace idx bs).cmpRestart (idx - 0x2630)
  else if 0x3030 ≤ idx && idx ≤ 0x3033 then (s.domReplace idx bs).checkFlat (idx - 0x3030)
  else if 0x3348 ≤ idx && idx ≤ 0x334f then s.domPatch idx 0 bs
  else if idx = 0x3910 || idx = 0x3911 then (s.domReplace idx bs).graphicsWrite (idx - 0x3910) bs
  else s.domReplace idx bs

/-- A write of a DOM whose check passed is refused by the block that owns it (R72, R426, R696). -/
def State.domRefused (s : State) (idx : Nat) : Bool :=
  if Dict.jobScoped idx then !s.shadowOpen
  else if 0x2720 ≤ idx && idx ≤ 0x272f then s.openPages
  else if (0x3338 ≤ idx && idx ≤ 0x333f) || (0x3348 ≤ idx && idx ≤ 0x334f) then s.domInUse idx
  else false

/-- A whole DOM arrived for an object without a rule of its own (R87). -/
def State.domWrite (s : State) (idx : Nat) (bs : List Byte) : Reply :=
  if idx = 0x1210 || idx = 0x1211 then s.slotWrite (idx - 0x1210) bs
  else if !s.domOk idx bs then .of Status.range s
  else if isMirrored (256 * idx) && !s.control then .of Status.state s
  else if s.domRefused idx then .of Status.state s
  else if Dict.jobScoped idx then
    let s1 := s.updSet false fun j =>
      { j with doms := mapSet j.doms idx (Dom.replace idx (mapGet j.doms idx (domDefault idx)) bs) (domDefault idx) }
    .of Status.ok (s1.enterSet .building)
  else
    let rows := if 0x2510 ≤ idx && idx ≤ 0x251f then s.mapDiff (idx - 0x2510) bs else []
    let s1 := s.setDomNow idx bs
    .of Status.ok (rows.foldl (fun (s : State) e =>
      s.hostTouch [6 * (idx - 0x2510) + e.1] (some (e.2.1, e.2.1 + 1))) s1)

/-! ### Records (R77 to R80, R908) -/

/-- The subindex of a record's first value that its cross-field rules refuse, the values in place; web is the state before
(log 60). -/
def State.recordFail (s : State) (idx : Nat) : Option Nat :=
  let bad (b : Bool) (sub : Nat) : Option Nat := if b then some sub else none
  if idx = 0x2500 then
    bad (3456 < s.rd O.NOZZLE_EDIT_FIRST + s.rd O.NOZZLE_EDIT_COUNT) 4 <|> bad (!nozzleEntryOk (s.rd O.NOZZLE_EDIT_ENTRY)) 5
  else if idx = 0x2540 then
    let p := s.rd O.TEST_PATTERN
    bad (s.rd O.TEST_ROWS = 0) 2 <|> bad (bit (s.rd O.TEST_FLAGS) 0 && (p = 2 || p = 5 || p = 6)) 4
  else if idx = 0x2602 then bad (s.rd O.CHECK_SOURCE != 0 && s.rd O.CHECK_SOURCE = s.rd O.WEB_SOURCE + 1) 2
  else if 0x2620 ≤ idx && idx ≤ 0x262f then
    bad (s.rd (O.CMP_MODE (idx - 0x2620)) = 2 && s.rd (O.CMP_PERIOD (idx - 0x2620)) = 0) 5
  else if 0x3004 ≤ idx && idx ≤ 0x3007 then
    let k := idx - 0x3004
    let n := (mosaicCell (s.rd (O.MOSAIC k))).1
    bad (s.rd (O.CAM_PORT_WIDTH k) % n != 0) 5 <|> bad (s.rd (O.CAM_PORT_HEIGHT k) % n != 0) 6 <|>
    bad (n ≤ s.rd (O.CFA_X k)) 8 <|> bad (n ≤ s.rd (O.CFA_Y k)) 9 <|> bad (!s.camPortOk k) 6
  else if 0x3700 ≤ idx && idx ≤ 0x3703 then
    let a := idx - 0x3700
    let r := s.rd (O.SENSE_R a)
    bad (512000 < s.rd (O.IRUN a) * r) 3 <|> bad (512000 < s.rd (O.IHOLD a) * r || s.rd (O.IRUN a) < s.rd (O.IHOLD a)) 4 <|>
    bad (512000 < s.rd (O.OC_LIMIT a) * r) 0xc
  else if 0x3710 ≤ idx && idx ≤ 0x3713 then
    let r := s.rampOf (idx - 0x3710)
    bad (r.v1 < r.vstart) 1 <|> bad (r.v1 < r.vstop) 8 <|> bad (r.vmax < r.v1) 3 <|> bad (!r.ok) 3
  else if idx = 0x3900 || idx = 0x3901 then bad (!(s.timing (idx - 0x3900)).rateOk) 2
  else none

/-- R222 and R794: the refusal of an ARM APPLY, with its values in place. -/
def State.armFail (s : State) : Option (Nat × List Byte) :=
  let mode := s.rd O.ARM_MODE
  let b := s.rd O.ARM_BOUNDARY
  let planned := bit (s.rd O.ARM_FLAGS) 0
  let short := planned && mode != 0 && s.armBoundary mode b < s.lastEnd + s.delayMax + 64
  match s.armRefusal mode b (s.rd O.ARM_FLAGS) (s.graft.state = 1) with
  | some (st, d) => if st = Status.state && short then some (Status.range, [2#8, 0#8, 0#8, 0#8]) else some (st, d)
  | none =>
    if short then some (Status.range, [2#8, 0#8, 0#8, 0#8])
    else if planned && !s.partnerReady then some (Status.state, [])
    else none

/-- Mode 0: the rows and cameras take the new active set at once (R221). -/
def State.rowsSwapNow (s : State) : State :=
  let j := s.jobs.active.getD .empty
  (s.fittedRows.foldl (fun (s : State) e =>
    let slot := 1 - (s.row e.1 e.2).slot
    let t := s.pwTargets e.1 e.2 j
    (s.updRow e.1 e.2 fun r => { r with slot := slot, pw := t.1, pwSent := false }).sendDescriptor e.1 e.2 slot j) s).camSwapNow

/-- ARM_APPLY with its values in place; a boundary that the high-water mark has reached latches at once (R209, R221 to R225). -/
def State.armApply (s : State) : Reply :=
  match s.armFail with
  | some (st, d) => ⟨st, d, s⟩
  | none =>
    let mode := s.rd O.ARM_MODE
    let s1 := s.arm mode (s.rd O.ARM_BOUNDARY)
    let s2 := if mode = 0 && s.jobs.state = .committed then s1.rowsSwapNow else (s1.latchAt s1.hwmLine).composeTo (s1.hwmLine + 256) 1024
    .of Status.ok (({ s2 with graft := { s2.graft with planned := mode != 0 && bit (s.rd O.ARM_FLAGS) 0 } } : State).wr
      O.SET_STATUS_LAST_RESULT Status.ok)

/-- The values of a record that holds settings are in effect; old is the state before. -/
def State.recordEffect (s : State) (idx : Nat) (old : State) : State :=
  if idx = 0x2601 then (if s.pitch = old.pitch then s else s.rescale old.pitch s.pitch)
  else if idx = 0x2602 then
    if s.rd O.WEB_SOURCE != old.rd O.WEB_SOURCE then s.changeSource
    else if s.rd O.CHECK_SOURCE != old.rd O.CHECK_SOURCE then s.newWindow else s
  else if idx = 0x2605 then { s with web := { s.web with cRef := none } }
  else if idx = 0x2606 then s.newWindow
  else if 0x2620 ≤ idx && idx ≤ 0x262f then s.cmpRestart (idx - 0x2620)
  else if 0x3004 ≤ idx && idx ≤ 0x3007 then s.camPortApplied (idx - 0x3004)
  else if idx = 0x3501 then s.ptpConfig (old.rd O.PTP_DOMAIN)
  else if idx = 0x3900 || idx = 0x3901 then s.dispApply (idx - 0x3900)
  else s

/-- The block that owns a record refuses its new values in its present state; old is the state before. -/
def State.recordRefusal (s : State) (idx : Nat) (old : State) : Bool :=
  if idx = 0x2601 then !old.scaleOk s.pitch || s.refShort
  else if idx = 0x2602 then s.rd O.WEB_SOURCE != old.rd O.WEB_SOURCE && !old.stopped
  else if 0x3004 ≤ idx && idx ≤ 0x3007 then old.power.state = 0
  else if 0x3008 ≤ idx && idx ≤ 0x300b then
    let k := idx - 0x3008
    s.rd (O.CAM_DIST k) != old.rd (O.CAM_DIST k) &&
    (s.refShort || ((s.jobs.state = .latched || s.jobs.state = .retiring) && !s.jobs.camsDone.contains k))
  else if 0x3330 ≤ idx && idx ≤ 0x3337 then old.dmaState (24 + (idx - 0x3330)) = 1
  else false

/-- A staged value, or the one in effect. -/
def stagedOr (staged : List (Nat × Nat)) (key v : Nat) : Nat := mapGet staged key v

/-- 1 is written to FFh of a record whose staged values are in range (R77, R79, R908): the state answered stands when the
status is OK or EMPTY. -/
def State.recordOp (s : State) (idx : Nat) (staged : List (Nat × Nat)) : Reply :=
  if idx = 0x1321 then s.preseal staged
  else if 0x3014 ≤ idx && idx ≤ 0x3017 then
    let k := idx - 0x3014
    let v := s.liveValues k
    s.camLive k (stagedOr staged (O.LIVE_EXPOSURE k) v.1, stagedOr staged (O.LIVE_GAIN k) v.2.1,
      stagedOr staged (O.LIVE_STROBE_WIDTH k) v.2.2)
  else
    let s1 := s.wrs staged
    match s1.recordFail idx with
    | some sub => ⟨Status.range, [toByte sub, 0#8, 0#8, 0#8], s⟩
    | none =>
      if s1.recordRefusal idx s then .of Status.state s
      else if idx = 0x2003 then s1.armApply
      else if idx = 0x2500 then
        s1.nozzleEdit (s1.rd O.NOZZLE_EDIT_SEGMENT) (s1.rd O.NOZZLE_EDIT_ROW) (s1.rd O.NOZZLE_EDIT_FIRST)
          (s1.rd O.NOZZLE_EDIT_COUNT) (s1.rd O.NOZZLE_EDIT_ENTRY)
      else if idx = 0x2540 then
        s1.placeTest (s1.rd O.TEST_PATTERN) (s1.rd O.TEST_ROWS) (s1.rd O.TEST_LEVEL) (s1.rd O.TEST_FLAGS) (s1.rd O.TEST_REPEAT)
      else if idx = 0x3503 then s1.ptpStep (s1.rd O.PTP_STEP_MODE) (s1.rd O.PTP_STEP_VALUE)
      else if 0x3700 ≤ idx && idx ≤ 0x3703 then s1.axisApply (idx - 0x3700)
      else if 0x3720 ≤ idx && idx ≤ 0x3723 then s1.moveApply (idx - 0x3720)
      else if 0x3730 ≤ idx && idx ≤ 0x3733 then s1.homeConfigApply (idx - 0x3730)
      else if idx = 0x3750 then s1.levelApply
      else .of Status.ok (s1.recordEffect idx s)

/-! ### The stage of a record (R77 to R82) -/

/-- The open session with f applied. -/
def State.updSession (s : State) (f : Session → Session) : State :=
  { s with tdp := { s.tdp with session := s.tdp.session.map f } }

/-- The stage of a record is gone. -/
def State.dropStage (s : State) (idx : Nat) : State :=
  s.updSession fun x => { x with stages := x.stages.filter fun g => g.index != idx }

/-- The values staged in a record. -/
def State.staged (s : State) (idx : Nat) : List (Nat × Nat) :=
  ((s.tdp.session.bind fun x => x.stages.find? fun g => g.index == idx).map (·.vals)).getD []

/-- The value of a whole object passes check 8 of R49. -/
def valueOk (r : ObjRow) (v : Nat) : Bool := (r.ty != Ty.bool || v ≤ 1) && r.rng.ok r.ty v

/-- The first staged value that fails its range (R79). -/
def stageFail (vals : List (Nat × Nat)) : Option Nat :=
  (vals.find? fun v => match Dict.row? (v.1 / 256) (v.1 % 256) with
    | some r => !valueOk r v.2
    | none => true).map fun v => v.1 % 256

/-! ### Defaults (R137, R138) -/

/-- An object keeps its value through RESTORE_DEFAULTS (R137). -/
def keptByRestore (key : Nat) : Bool := key = O.ARBITER_KEY || key = O.GRAFT_ALLOWLIST

/-- The P objects take their defaults: settings records each as one APPLY would, the others one by one. -/
def State.restore (s : State) : State :=
  let keys := (s.objs.map (·.1)).filter fun k => isStored k && !keptByRestore k
  let inRecord (k : Nat) : Bool := Dict.hasApply (k / 256)
  let s1 := (keys.filter fun k => !inRecord k).foldl (fun (s : State) k => s.setNow k (Dict.dflt k)) s
  let recs := ((keys.filter inRecord).map (· / 256)).eraseDups
  let s2 := recs.foldl (fun (s : State) idx =>
    let t := s.wrs ((keys.filter fun k => k / 256 = idx).map fun k => (k, Dict.dflt k))
    if 0x3700 ≤ idx && idx ≤ 0x3703 then (t.axisApply (idx - 0x3700)).state else t.recordEffect idx s) s1
  let doms := (s.doms.map (·.1)).filter fun i => isStored (256 * i)
  doms.foldl (fun (s : State) i => s.setDomNow i ((domDefault i).read (domFill i) 0 (domSize i))) s2

/-- RESTORE_DEFAULTS written v. An open page is answered STATE before a running store is answered BUSY (log 146). -/
def State.restoreDefaults (s : State) (v : Nat) : Reply :=
  if v != 1 then .of Status.range s
  else if s.openPages then .of Status.state s
  else if s.storeBusy then .of Status.busy s
  else if s.livePositions.length < 2 then .of Status.state s
  else .of Status.ok (s.restore.storeNow 2)

/-! ### CMD objects and objects with an effect of their own -/

/-- RESET written v (R139). -/
def State.resetWrite (s : State) (v : Nat) : Reply :=
  if v != 1 then .of Status.range s
  else if s.boot.pendingReset.isSome then .of Status.busy s
  else .of Status.ok (s.resetSoon 3)

/-- CLEAR of a block's fault record written v (R740). -/
def State.faultClear (s : State) (block v : Nat) : Reply :=
  if v != 1 then .of Status.range s else .of Status.ok (s.clearRecord block)

/-- ENTER written v (R766). -/
def State.safeEnter (s : State) (v : Nat) : Reply :=
  if v != 1 then .of Status.range s else .of Status.ok (s.requestSafe 2 5 1)

/-- JOB_CONTROL written v (R239). -/
def State.jobControl (s : State) (v : Nat) : Reply :=
  match v with
  | 1 => s.commitSet
  | 2 => s.cancelArm
  | 3 => s.reopenSet
  | 4 => s.discardSet
  | _ => .of Status.range s

/-- Alignment objects and maps that differ between two states go to the partner (R781). -/
def State.forwardChanged (s old : State) : State :=
  let keys := ([O.X_SHIFT, O.STITCH_POS, O.ROW_POS].filter fun k => s.rd k != old.rd k) ++
    (((List.range 16).filter fun i => s.dom (0x2510 + i) != old.dom (0x2510 + i)).map fun i => 256 * (0x2510 + i))
  s.forwardAll keys

/-- ACCEPT written v (R369, R370, R373). -/
def State.acceptWrite (s : State) (v : Nat) : Reply :=
  if v != 1 then .of Status.range s
  else let r := s.accept; { r with state := r.state.forwardChanged s }

/-- The subindex of the first staged value of RAMP_a that R79 or R812 refuses. -/
def State.rampFail (s : State) (a : Nat) : Option Nat :=
  let vals := s.staged (0x3710 + a)
  if vals.isEmpty then none
  else match stageFail vals with
    | some sub => some sub
    | none => (s.wrs vals).recordFail (0x3710 + a)

/-- Every staged value of RAMP_a is applied (R79), and the running move goes on on the new ramp (R808). -/
def State.replanOn (s : State) (a : Nat) : State :=
  let vals := s.staged (0x3710 + a)
  (if vals.isEmpty then s else (s.wrs vals).dropStage (0x3710 + a)).replanAxis a

/-- MOVE_REPLAN (R808, R812, R822, R825), over the named axes that move: a staged ramp that R79 or R812 refuses is discarded, and
none is applied; with nothing staged or pending for any named axis it is EMPTY (DEDUCED, log 166). -/
def State.replan (s : State) (v : Nat) : Reply :=
  let axes := s.namedAxes v
  let moving := axes.filter fun a => (s.axis a).moving
  if 16 ≤ v then .of Status.range s
  else if s.linked && bit v 1 && !bit v 0 then .of Status.state s
  else match moving.findSome? fun a => (s.rampFail a).map fun sub => (a, sub) with
    | some (a, sub) => ⟨Status.range, [toByte sub, 0#8, 0#8, 0#8], s.dropStage (0x3710 + a)⟩
    | none =>
      if axes.all fun a => (s.staged (0x3710 + a)).isEmpty && !s.rampPending a then .of Status.empty s
      else .of Status.ok (moving.foldl State.replanOn s)

/-- The object is a CMD object, or one whose write has a rule of its own: what a write of v does. -/
def State.commandOp (s : State) (key v : Nat) : Option Reply :=
  let idx := key / 256
  if key = O.STORE then some (s.storeWrite v)
  else if key = O.RESTORE_DEFAULTS then some (s.restoreDefaults v)
  else if key = O.RESET then some (s.resetWrite v)
  else if key = O.SLOT_SELECT then some (s.slotSelect v)
  else if key = O.LIFECYCLE_REQUEST then some (s.lifecycleRequest v)
  else if key = O.OWNER_KEY then some (s.ownerKeyWrite (natLE 32 v))
  else if key = O.POWER_REQUEST then some (s.powerRequest v)
  else if key = O.DEBUG_CLOSE then some (s.debugCloseWrite v)
  else if 0x1500 ≤ idx && idx ≤ 0x1541 && key % 256 = 9 then some (s.faultClear (idx - 0x1500) v)
  else if key = O.SAFE_ENTER then some (s.safeEnter v)
  else if key = O.SAFE_CLEAR then some (s.safeClear v)
  else if key = O.JOB_CONTROL then some (s.jobControl v)
  else if key = O.ACCEPT then some (s.acceptWrite v)
  else if key = O.POSITION_STATUS_FLAGS then some (s.flagsWrite v)
  else if key = O.VALIDATE then some (s.validate v)
  else if key = O.INTERLOCK_CLEAR then some (s.interlockClear v)
  else if key = O.HEAD_RESET then some (s.headReset v)
  else if key = O.RETRAIN then some (s.retrain v)
  else if key = O.SNAPSHOT then some (s.snapshot v)
  else if key = O.MOVE_START then some (s.moveStart v)
  else if key = O.MOVE_ABORT then some (s.moveAbort v)
  else if key = O.MOVE_STOP then some (s.moveStop v)
  else if key = O.MOVE_REPLAN then some (s.replan v)
  else if key = O.HOME then some (s.homeAxes v)
  else if key = O.CAL_START then some (s.calStart v)
  else none

/-- A value in range is written to an object that is no field of a record and no DOM: what the owning block does. -/
def State.objectOp (s : State) (key v : Nat) : Reply :=
  match s.commandOp key v with
  | some r => r
  | none =>
    if Dict.jobScoped (key / 256) then
      if s.shadowOpen then .of Status.ok (s.shadowWrite key v) else .of Status.state s
    else
      match s.nowRefusal key v with
      | some st => .of st s
      | none => .of Status.ok ((s.setNow key v).hostTouch (s.alignRows key v) none)

end Sys2Proof.Machine
end

