-- ==== Sys2Proof/Machine/Graft.lean ====
section
/-! DEFINITION. The Graft pair: the yield input, the role pins, forming, the snapshot, forwarded changes, the position
cross-check and the mirror's loss (R767 to R800). -/

namespace Sys2Proof.Machine

/-! ### The mirror bond -/

/-- A packet of the partner with n payload bytes was taken in its turn; its credits are free (R250, R255). -/
def State.mirrorGot (s : State) (n : Nat) : State :=
  { s with mirror := { s.mirror with
      expect := (s.mirror.expect + 1) % 2 ^ 32, used := (s.mirror.used + packetCost n) % 2 ^ 32
      freed := s.mirror.freed + packetCost n } }

/-- The packets that a partner sends reach the part. -/
def State.mirrorHears (s : State) : Bool := s.mirror.link = 2 && s.graft.pins != 0

/-- MIRROR_BOND_FORM (R242, R779). Content that waited goes out after HELLO (R251, R283); other packets of the bond as it
was are dropped, for the snapshot sends them again. -/
def State.mirrorForming (s : State) : State :=
  if s.mirror.link = 2 || s.graft.pins = 0 then s
  else
    match bondOf (s.lanesUp 20) (s.rd O.MIN_BOND_WIDTH) with
    | none => s
    | some (ls, g) =>
      let waiting := s.mirror.backlog.filter fun p => p.ty = 1 || p.ty = 2 || p.ty = 3
      let s1 : State :=
        { s with
          mirror := { s.mirror with
            link := 2, width := ls.length, grade := g, lanes := ls.foldl (fun n l => setBit n l true) 0, txSeq := 0
            limit := 4096, spent := 0, backlog := [], sent := [], again := [], expect := 0, gap := none, resyncs := []
            granted := 4096, used := 0, freed := 0 }
          graft := { s.graft with partner := none } }
      waiting.foldl State.mirrorSend s1.mirrorCreditSend.startForming

/-! ### The snapshot (R784) -/

/-- The objects of the snapshot, in ascending order: those mirrored objects that hold a value. -/
def mirroredKeys : List Nat :=
  (Dict.all.filter fun r => r.acc == .rw || r.acc == .rws).flatMap fun r =>
    (List.range r.n).flatMap fun i => ((List.range r.m).map fun k => (r.idx + i) * 256 + r.sub + k).filter fun key =>
      isMirrored key && key % 256 != 0xff

/-- Content in runs of consecutive bytes, at most 16 384 in each; rev is the run under way, from its last byte back. -/
def contentRuns : List (Nat × Byte) → Nat → List Byte → List (Nat × List Byte)
  | [], _, [] => []
  | [], o, rev => [(o, rev.reverse)]
  | (k, b) :: rest, _, [] => contentRuns rest k [b]
  | (k, b) :: rest, o, rev =>
    if k = o + rev.length && rev.length < 16384 then contentRuns rest o (b :: rev)
    else (o, rev.reverse) :: contentRuns rest k [b]

/-- A TPL data packet of the snapshot. -/
def State.snapshotData (s : State) (ty job page object : Nat) (cells : List (Nat × Byte)) : State :=
  (contentRuns cells 0 []).foldl (fun (s : State) r =>
    s.mirrorSend ⟨ty, job, page, r.1, object, 4, r.2.length, r.2, 0⟩) s

/-- Step 3 for one set: its background, and every page without outcome. -/
def State.snapshotSet (s : State) (j : JobSet) : State :=
  let s1 := j.planes.foldl (fun (s : State) p => s.snapshotData 1 j.jobId 0 p.1 p.2) s
  (j.pages.filter fun p => p.outcome.isNone && p.test.isNone).foldl (fun (s : State) p =>
    p.objs.foldl (fun (s : State) o => s.snapshotData 3 j.jobId p.seq o.num o.data)
      (s.snapshotData 2 j.jobId p.seq 0 (indexed p.desc))) s1

/-- The snapshot. No packet of *Graft packets* carries its step 2 (log 61). -/
def State.sendSnapshot (s : State) : State :=
  (s.sets.foldl State.snapshotSet (s.forwardAll mirroredKeys)).graftSend 0x24 (natLE 8 0)

/-! ### Forming (R778, R779) -/

/-- HELLO: the partner is known, and its quote is answered. A part that forms no pair at the time begins to: its partner rejoins, or
tries again (R779, log 174). -/
def State.takeHello (s : State) (m : HelloMsg) : State :=
  if !s.mirrorHears then s
  else
    let s1 := if s.graft.forming.isNone then (s.mirrorGot 56).startForming else s.mirrorGot 56
    (({ s1 with graft := { s1.graft with partner := some ⟨m.nonce, m.serial, m.capacity, m.role⟩ } }
      : State).wr O.PARTNER_SERIAL m.serial).graftSend 0x21 (s1.quote m.nonce)

/-- Some entry of GRAFT_ALLOWLIST admits the digest and the serial number (R780). -/
def State.allowed (s : State) (serial : Nat) (digest : List Byte) : Bool :=
  (List.range 8).any fun i =>
    let e := natLE 56 (octAt 56 (s.rd O.GRAFT_ALLOWLIST) i)
    !(e.all fun b => b == 0#8) && e.drop 8 == digest && (leNat (e.take 8) = serial || leNat (e.take 8) = 0)

/-- The first check of R778 that fails, 0 for none. -/
def State.quoteFails (s : State) (p : Partner) (q : QuoteMsg) : Nat :=
  if !q.signed then 1
  else if bit q.flags 0 || q.lifecycle != 1 || q.nonce != s.graft.nonce then 2
  else if !s.allowed p.serial q.digest then 3
  else if p.capacity != s.capacity then 4
  else if (s.graft.pins == 1) == (p.role == 1) then 5
  else 0

/-- The pair is formed. -/
def State.pairFormed (s : State) : State :=
  let s1 : State := { s with graft := { s.graft with paired := true, forming := none, retryAt := none, heard := s.now } }
  if s1.graft.state = 1 then s1.sendSnapshot
  else if s1.graft.state = 2 then { s1 with graft := { s1.graft with syncPos := none, mismatch := false, seeded := false } }
  else s1

/-- GRAFT_QUOTE. -/
def State.takeQuote (s : State) (q : QuoteMsg) : State :=
  if !s.mirrorHears then s
  else
    let s1 := s.mirrorGot 664
    match s1.graft.forming, s1.graft.partner with
    | some t, some p =>
      let f := s1.quoteFails p q
      let s2 : State := { s1 with graft := { s1.graft with failed := f, accepted := f == 0 } }
      if f = 0 && q.partnerAccepts && s.now ≤ t + 50 * ms then s2.pairFormed else s2
    | _, _ => s1

/-- Pairing ends; credits of content that waited for the partner are free (R251). -/
def State.endPairing (s : State) : State :=
  { s.dropWaiting with graft := { s.graft with
      paired := false, partner := none, accepted := false, forming := none, retryAt := none, syncPos := none, seeded := false } }

/-- FORM_REFUSED: 50 ms passed, or 10 s later (R779). -/
def State.formRefused (s : State) : State :=
  match s.graft.forming, s.graft.retryAt with
  | some t, _ =>
    if s.due t (50 * ms) then
      ({ s.dropWaiting with graft := { s.graft with paired := false, forming := none, retryAt := some (s.now + 10 * sec) } }
        : State).event 0x3f 1 s.graft.failed
    else s
  | none, some r => if r ≤ s.now && s.mirror.link = 2 then s.startForming else s
  | none, none => s

/-! ### Forwarded changes (R781, R782) -/

/-- The record holds an action rather than settings. -/
def actionRecord (idx : Nat) : Bool := idx = 0x2003 || idx = 0x2500 || idx = 0x2540

/-- A forwarded change is applied: an object that holds a value takes it, and a CMD object or FFh of a record acts. -/
def State.applyForwarded (s : State) (key : Nat) (r : ObjRow) (data : List Byte) : State :=
  let idx := key / 256
  let v := leNat data
  if r.ty == Ty.dom then
    if r.acc == .rws then
      let s1 := s.updSet false fun j =>
        { j with doms := mapSet j.doms idx (Dom.replace idx (mapGet j.doms idx (domDefault idx)) data) (domDefault idx) }
      if s1.shadowOpen then s1.enterSet .building else s1
    else s.setDomNow idx data
  else if r.acc == .rws then
    if s.shadowOpen then s.shadowWrite key v
    else s.updSet false fun j => { j with vals := mapSet j.vals key v (Dict.dflt key) }
  else if key % 256 = 0xff then (s.recordOp idx []).state
  else
    match s.commandOp key v with
    | some a => a.state
    | none =>
      if actionRecord idx then s.wr key v
      else if Dict.hasApply idx then (s.wr key v).recordEffect idx s
      else s.setNow key v

/-- STATE_PACKET: applied in order, and answered. -/
def State.takeState (s : State) (idx sub ty : Nat) (data : List Byte) : State :=
  if !s.mirrorHears then s
  else
    let s1 := s.mirrorGot (8 + data.length)
    let key := 256 * idx + sub
    let s2 := match Dict.row? idx sub with
      | some r =>
        if s1.control || sub ≥ 256 || !isMirrored key || ty != r.ty.code || (r.ty != Ty.dom && data.length != r.ty.size) then s1
        else s1.applyForwarded key r data
      | none => s1
    s2.mirrorAnswer 0x14 0 0 (ackBody none none 1 false)

/-- PLAN_DONE: a partner whose own plan refuses a forwarded COMMIT is not READY any more, up to a new SYNC_MARK (R210,
R782). -/
def State.planDone (s : State) : State :=
  let s1 := s.finishPlan
  if s.jobs.state = .planning && s1.jobs.state = .building && 2 ≤ s.graft.state && s.graft.paired then
    let s2 := s1.event 0x3f 8 0
    if s2.graft.state = 3 then { s2 with graft := { s2.graft with state := 2, syncPos := none } } else s2
  else s1

/-! ### The cross-check (R783 to R786) -/

/-- The count of the selected source. -/
def State.sourceCount (s : State) : Int :=
  match s.rd O.WEB_SOURCE with
  | 0 => s.web.encCount
  | 1 => s.web.stepCount
  | _ => 0

/-- Position and high-water mark in 48.16 lines at a count of the history. -/
def State.atCount (s : State) (count : Int) : Option (Nat × Nat) :=
  if count = s.sourceCount then some (to4816 s.web.pos, to4816 s.web.hwm)
  else (s.graft.history.find? (·.1 == count)).map (·.2)

/-- POSITION_SEND (R783). -/
def State.positionSend (s : State) : State :=
  if s.mirror.link != 2 || !s.graft.paired then s
  else
    ({ s with graft := { s.graft with seq := (s.graft.seq + 1) % 2 ^ 32, sentAt := s.now } } : State).graftSend 0x23
      (natLE 8 (ofInt 64 s.sourceCount) ++ natLE 8 (to4816 s.web.pos) ++ natLE 8 (to4816 s.web.hwm) ++ natLE 4 s.graft.seq ++
        natLE 4 0)

/-- Lines below w that the holder composes and fires are no lines that this part has still to compose (R784). -/
def JobSet.composedBelow (j : JobSet) (w : Nat) : JobSet :=
  { j with pages := j.pages.map fun p =>
      match p.start with
      | some a => if a < w && p.outcome.isNone then { p with composed := max p.composed (min p.length (w - a)) } else p
      | none => p }

/-- The re-seed of R784. Counts made since the record's are followed again; a count outside the history leaves the values
of the record as they are (log 62). -/
def State.reseed (s : State) (count : Int) (pos hwm from' : Nat) : State :=
  let moved : Int := match s.atCount count with
    | some (p, _) => (to4816 s.web.pos : Int) - (p : Nat)
    | none => 0
  let pos' := ((pos : Int) + moved).toNat
  let s1 : State :=
    { s with
      web := { s.web with pos := pos' * 65536, hwm := max hwm pos' * 65536 }
      graft := { s.graft with seeded := true, history := [] }
      compose := { s.compose with lines := s.compose.lines.filter (from' ≤ ·.line), next := max from' s.compose.next } }
  let s2 := (s1.updSet true fun j => j.composedBelow from').updSet false fun j => j.composedBelow from'
  ((List.range 16).foldl State.cmpRestart s2).newWindow

/-- A part that does not assert OWNER compares a record with its history (R783). -/
def State.compareRecord (s : State) (count : Int) (pos hwm : Nat) : State :=
  if s.graft.owner then s
  else
    match s.atCount count with
    | none => s
    | some h =>
      if h = (pos, hwm) then { s with graft := { s.graft with differing := 0 } }
      else
        let n := s.graft.differing + 1
        let s1 := (({ s with graft := { s.graft with differing := n, mismatch := true } } : State).event 0x3f 3 0).inc
          O.XCHECK_ERRORS
        if 2 ≤ n && s1.graft.state = 3 then s1.graftState 2 else s1

/-- POSITION_RECORD (R783, R784). -/
def State.positionRecord (s : State) (count : Int) (pos hwm : Nat) : State :=
  if !s.mirrorHears || !s.graft.paired then s
  else
    let s1 := s.mirrorGot 32
    let s1 : State := { s1 with graft := { s1.graft with heard := s.now } }
    match s1.graft.syncPos with
    | some p =>
      (if s1.graft.state = 2 && !s1.graft.seeded then s1.reseed count pos hwm p else s1.compareRecord count pos hwm).checkReady
    | none => s1.compareRecord count pos hwm

/-- SYNC_MARK. -/
def State.syncMark (s : State) (pos : Nat) : State :=
  if !s.mirrorHears || s.graft.state != 2 then s
  else
    let s1 := s.mirrorGot 8
    { s1 with graft := { s1.graft with syncPos := some (pos / 65536), mismatch := false, seeded := false, differing := 0 } }

/-- GRAFT_REPORT (R796). NUMBER counts the takeovers of the pair: the next record of this part follows the partner's (log 173). -/
def State.graftReport (s : State) (r : List Byte) : State :=
  if !s.mirrorHears || r.length != 48 then s
  else
    let s1 := (s.mirrorGot 48).domPatch 0x3620 (48 * (u32At r 0 % 64)) r
    { s1 with graft := { s1.graft with number := max s1.graft.number (u32At r 0) } }

/-- MIRROR_HOLD (R786). -/
def State.mirrorHold (s : State) : State :=
  if s.graft.state = 3 && s.due s.graft.heard (s.rd O.MIRROR_HOLD * ms) then (s.graftState 2).event 0x3f 4 0 else s

/-! ### The yield input and the role pins (R768, R770, R774, R775) -/

/-- The holder yielded and this part is not READY: event 0006h and a record of KIND 4, whose cause only the holder knows
(R798, log 36). -/
def State.notReady (s : State) : State :=
  let number := s.graft.number + 1
  let d := s.draw
  let v := (Config.free d.1).toNat
  (({ d.2 with graft := { d.2.graft with number := number } } : State).event 0x3f 6 0).storeRecord
    (takeoverRecord number 4 (bits v 15 8) (bits v 31 16) s.hwmLine 0 s.ptp [])

/-- In a planned swap the partner asserts OWNER at B, and the holder still has until B + 1 (R792, log 63). -/
def State.swapping (s : State) : Bool :=
  s.graft.planned && (match s.jobs.boundary with | some b => b ≤ s.hwmLine | none => false)

/-- Step 10 is past, so the part has a Graft state (R773). -/
def State.graftRuns (s : State) : Bool := s.boot.phase == .applied || s.boot.phase == .ready

/-- YIELD_IN_CHANGE. -/
def State.yieldInChange (s : State) (yielding : Bool) : State :=
  let was := s.graft.yieldIn
  let s1 : State := { s with graft := { s.graft with yieldIn := yielding } }
  if !s.graftRuns then s1
  else if yielding then
    if was then s1
    else match s1.graft.state with
      | 2 => s1.notReady
      | 3 => s1.takeover s1.hwmLine false
      | _ => s1
  else if s1.graft.state = 1 && s1.graft.owner && !s1.swapping then s1.conflict else s1

/-- A value of GRAFT_ROLE takes effect (*Graft role transitions*). -/
def State.takeRole (s : State) (role : Nat) : State :=
  let old := s.graft.pins
  let s1 : State := { s with graft := { s.graft with pins := role, waiting := none } }
  if role = old then s1
  else if role = 0 then
    let s2 := s1.endPairing
    match s.graft.state with
    | 1 => (s2.setHolding false).graftState 0
    | 4 => s2.graftState 0
    | _ => (s2.graftState 0).setOwner true
  else if old = 0 then
    if role = 1 then
      let s2 := (s1.graftState 1).setHolding true
      if s2.graft.yieldIn then s2 else s2.conflict
    else (s1.setOwner false).graftState 2
  else if role = 3 && s.graft.state = 1 then ((s1.setOwner false).setHolding false).toReady
  else s1

/-- GRAFT_ROLE_CHANGE (R774): to or from 00b only in PAUSE. -/
def State.roleChange (s : State) (role : Nat) : State :=
  if 4 ≤ role then s
  else if !s.graftRuns then { s with graft := { s.graft with pins := role } }
  else if (role = 0) != (s.graft.pins = 0) && (s.power.state != 1 || s.power.target != 0xff) then
    ({ s with graft := { s.graft with waiting := some role } } : State).event 0x3f 5 0
  else s.takeRole role

/-- A role that waits is taken once the part is in PAUSE. -/
def State.checkRole (s : State) : State :=
  match s.graft.waiting with
  | some r => if s.power.state = 1 && s.power.target = 0xff then s.takeRole r else s
  | none => s

/-- GRAFT_HB_TOGGLE (R769). -/
def State.heartbeatToggle (s : State) : State :=
  if (s.boot.phase == .applied || s.boot.phase == .ready) && s.power.state < 3 then
    ({ s with graft := { s.graft with heartbeat := !s.graft.heartbeat, beat := s.now } } : State).emit
      (.pin "GRAFT_HB" (!s.graft.heartbeat))
  else s

/-! ### The end of a command -/

/-- The actions that the command called for, a power entry that can now complete, and a role that waited. -/
def State.finish (s : State) : State := (s.checkRun.settle.checkEntry).checkRole.settle

end Sys2Proof.Machine
end

