-- ==== Sys2Proof/Machine/Boot.lean ====
section
/-! DEFINITION. Reset, the boot sequence to step 11, and wake from OFF (R102 to R113, R125 to R129, R147 to R151,
R157, R169, R773). -/

namespace Sys2Proof.Machine

/-! ### Reset -/

/-- What stands after the release of reset (R104, R105, R111): the flash, the fuses, the AON domain and the outside world
outlast it; everything else is as State.reset has it. -/
def State.afterReset (s : State) (env : BootEnv) (cause : Nat) : State :=
  { State.reset with
    now := s.now, pending := s.pending, out := s.out, draws := s.draws, fuses := s.fuses, flash := s.flash
    boot := { Boot.init with cause := cause, straps := env.straps % 32, released := s.now, code := 1, phase := .hold
                             watchdogCount := if cause = 2 then s.boot.watchdogCount else 0
                             pins := ⟨true, true, true, if cause = 0 then s.now + 100000000 else 0,
                               if cause = 0 then bit env.straps 2 else s.boot.pins.octal⟩ }
    time := { TimeState.init with ptp := ⟨0, s.now⟩, mono := ⟨0, s.now⟩, fire := ⟨0, s.now⟩ }
    graft := { Graft.init with pins := env.role % 4, yieldIn := s.graft.yieldIn }
    under := { State.reset.under with tap := if cause = 0 then 3 else s.under.tap, cells := if cause = 0 then [] else s.under.cells } }

/-- The outputs that a reset holds high, low, or at high impedance or released, by the signals of *Signals* (R113, R874, R880). -/
def highInReset : List String := ["SUPPLY_EN", "DCH_CS_N", "XSPI_CS_N"]
def lowInReset : List String :=
  ["DCH_RESET_N", "DCH_CA", "DCH_CK_P", "RGMII_TX", "MDC", "PHY_RESET_N", "XSPI_CLK", "FIRE_P", "GRAFT_HB", "MOT_G"]
def openInReset : List String :=
  ["DCH_DQ", "DCH_CB", "DCH_DQS", "MDIO", "XSPI_DQ", "CCI_SCL", "CCI_SDA", "CMP", "ENCO", "DISP", "GRAFT_YIELD_OUT", "TDO"]

/-- What a reset drives: the levels of *Signals*, electrical idle on every lane, and XSPI_RESET_N, which is low for the first
100 µs of a power-on (R113, R874, R875). -/
def resetOuts (xspiUntil cause : Nat) : List Out :=
  highInReset.map (Out.pin · true) ++ lowInReset.map (Out.pin · false) ++ openInReset.map Out.released ++
  (List.range 24).map (Out.laneSends · 0 false) ++
  (if cause = 0 then [.pin "XSPI_RESET_N" false, .level "XSPI_RESET_N" true xspiUntil] else [])

/-- The balls take the levels of reset. -/
def State.resetLevels (s : State) (cause : Nat) : State := (resetOuts s.boot.pins.xspiLowUntil cause).foldl State.emit s

/-- Step 3: the flash moves to 8D-8D-8D. -/
def State.flashOctal (s : State) : State := { s with boot := { s.boot with pins := { s.boot.pins with octal := true } } }

/-- Step 8: DCH_x_RESET_N is released. -/
def State.releaseDram (s : State) : State :=
  ({ s with boot := { s.boot with pins := { s.boot.pins with dramReset := false } } } : State).emit (.pin "DCH_RESET_N" true)

/-- Step 10: the MAC runs, PHY_RESET_N is released, and the camera control scripts drive the CCI balls. -/
def State.releaseMac (s : State) : State :=
  ({ s with boot := { s.boot with pins := { s.boot.pins with macReset := false, cciReleased := false } } } : State).emit
    (.pin "PHY_RESET_N" true)

/-! ### Choosing the slot (R105, R110, R111, R127) -/

/-- The slot that the latest valid bank header names, or A. -/
def Flash.bootSlot (f : Flash) : Nat :=
  match f.latest with
  | some (_, b) => if b.bootSlot = 1 then 1 else 0
  | none => 0

/-- The image of slot k passes the checks before its loader runs: its header, and its loader CRC. -/
def State.loaderOk (s : State) (env : BootEnv) (k : Nat) : Bool :=
  imageHeaderOk (s.flash.slot k) && (if k = 0 then env.loaderA else env.loaderB)

/-- The slot that boots and FALLBACK, or the code with which the part holds in ROM. -/
def State.chooseSlot (s : State) (env : BootEnv) : Except Nat (Nat × Nat) :=
  let runs (k : Nat) : Bool := s.loaderOk env k && imageCrcOk (s.flash.slot k)
  match s.boot.straps % 4 with
  | 0 =>
    let named := s.flash.bootSlot
    let wd := 3 ≤ s.boot.watchdogCount
    let sel := if wd then 1 - named else named
    if runs sel then .ok (sel, if wd then 2 else 0)
    else if runs (1 - sel) then .ok (1 - sel, 1)
    else if s.loaderOk env 0 || s.loaderOk env 1 then .error 0x83
    else .error 0x82
  | m =>
    let k := m - 1
    if runs k then .ok (k, 0) else if s.loaderOk env k then .error 0x83 else .error 0x82

/-! ### The stored configuration (R125 to R129) -/

/-- A value of a body entry is one that its object may hold now (R128). -/
def entryOk (e : Nat × Nat) : Bool :=
  match Dict.row? (e.1 / 256) (e.1 % 256) with
  | some r => r.persist && r.ty != .dom && e.2 < 256 ^ r.ty.size && r.rng.ok r.ty e.2
  | none => false

/-- The stored values take effect; entries that cannot are counted. Coverage is recomputed (R340). -/
def State.loadBody (s : State) (b : Body) : State :=
  let good := b.objs.filter entryOk
  let s1 := s.wrs good
  let doms := b.doms.filter fun e => isStored (256 * e.1) && s1.domOk e.1 (e.2.read (domFill e.1) 0 e.2.size)
  let s2 := doms.foldl (fun (s : State) e => s.setDom e.1 { e.2 with gen := 0 }) s1
  let s3 := (b.fireCounts.getD []).foldl (fun (s : State) e => s.setDom e.1 { e.2 with gen := 0 }) s2
  { s3.wr O.SKIPPED_ENTRIES (min 65535 (b.misfits + (b.objs.length - good.length) + (b.doms.length - doms.length))) with
    bank := { s3.bank with current := b.current, alternate := b.alternate, config := b.objs }
    nozzle := { s3.nozzle with changed := true } }

/-- The measured configuration is that of this body (R148, R149). -/
def bodyObjs (x : Option (Nat × BankSlot)) : List (Nat × Nat) := (x.map (·.2.body.objs)).getD []

/-! ### Steps 1 to 8 (R105, R106, R147 to R151) -/

/-- The part holds in ROM with a code. -/
def State.hold (s : State) (code : Nat) : State := { s with boot := { s.boot with phase := .hold, code := code } }

/-- Steps 4 to 7: the components, the configuration and the lifecycle are measured. TB_MONO at step 7 is a free value. -/
def State.measureBoot (s : State) : State :=
  let s1 := (List.range 6).foldl (fun (s : State) k =>
    s.setMeas k (extend (s.meas k) (sha384 (componentBytes s.bootImage k)))) s
  let s2 := s1.setMeas 6 (meas6Of (bodyObjs s1.loadSlot))
  let s3 : State := { s2 with flash := { s2.flash with bootCount := min (2 ^ 32 - 1) (s2.flash.bootCount + 1)
                                                       tapped := mapErase s2.flash.tapped 10 } }
  let d := s3.draw
  d.2.measureEvent 1 (Config.free d.1).toNat

/-- The time bases start from 0 at step 5, at most 2.5 ms after the release (*Boot steps*, *Time bases*); when within that
time is a free value (log 66). -/
def State.startTime (s : State) : State :=
  let d := s.draw
  let t := s.boot.released + (Config.free d.1).toNat % 2500000001
  { d.2 with time := { d.2.time with ptp := ⟨0, t⟩, mono := ⟨0, t⟩, fire := ⟨0, t⟩ } }

/-- The boot ROM and the loader run up to the DDR5 training of step 8: the core PLL and the fuses at step 2, the slot at steps 3
and 4, the other PLLs at step 5, the image at step 6 (*Boot steps*, *Boot failure codes*). -/
def State.bootRom (s : State) (env : BootEnv) : State :=
  if s.boot.straps % 4 = 3 then s.hold 0x8f
  else if bits s.boot.straps 4 3 = 3 then s.hold 0x86
  else if env.pllFail then s.hold 0x84
  else if env.parityBad then s.hold 0x81
  else
    let s0 := s.flashOctal
    match s0.chooseSlot env with
    | .error code => s0.hold (if code = 0x83 && env.latePllFail then 0x84 else code)
    | .ok (slot, fb) =>
      if env.latePllFail then s0.hold 0x84
      else
        let s1 : State := { s0 with boot := { s0.boot with slot := slot, fallback := fb, phase := .training, code := 1 } }
        ((s1.wr O.FW_VERSION (u32At s1.bootImage 8)).startTime.measureBoot).releaseDram

/-- The part resets and boots for a cause of *Reset sources*. -/
def State.resetFor (s : State) (env : BootEnv) (cause : Nat) : State := ((s.afterReset env cause).resetLevels cause).bootRom env

/-- The boot code goes to a step's, but 85h stands (*Boot failure codes*). -/
def State.bootCode (s : State) (code : Nat) : State :=
  { s with boot := { s.boot with code := if s.boot.code = 0x85 then 0x85 else code } }

/-! ### Steps 9 and 10 -/

/-- R169: in RETURN the slots with owner secrets are erased, and no copy stays in the part. -/
def State.eraseSecrets (s : State) : State :=
  if s.lifecycle != 2 then s
  else
    ({ s with bank := { s.bank with current := none, alternate := none } } : State).flashWrite fun f =>
      (indexed f.bank).foldl (fun (f : Flash) e => if e.2.body.sealed then f.eraseSlot e.1 false else f) f

/-- The configuration is loaded, and Heartwood unseals the owner key (R125 to R129, R157, R169). -/
def State.loadConfig (s : State) : State :=
  let from' := s.loadSlot
  let again := match latestOf s.flash.validSlots with | some (_, b) => b | none => false
  let s1 := match from' with
    | some (p, b) => (s.loadBody b.body).wr O.LOADED_SLOT (p + 128 * b2n again)
    | none => s
  let s2 := match s.flash.latest with
    | some (_, b) => s1.wrs [(O.STORE_RETIRED, b.retired % 256), (O.STORE_SEQUENCE, b.sequence), (O.SLOT_SELECT, s.flash.bootSlot)]
    | none => s1
  s2.eraseSecrets.unseal

/-- What the boot objects hold as boot step 10 takes them (R73). -/
def State.bootEffect (s : State) : State :=
  let rows := Dict.all.filter fun r => r.app == .boot && r.ty != Ty.dom
  let scalars := rows.flatMap fun r => (List.range r.n).flatMap fun i => (List.range r.m).map fun k =>
    let key := (r.idx + i) * 256 + r.sub + k
    (key, s.rd key)
  let slot (k : Nat) : Nat := leNat ((s.flash.slot k).take 8)
  { s with boot := { s.boot with effect := scalars ++ [(0x121000, slot 0), (0x121100, slot 1)] } }

/-- The web, the rows and the compare units at their configured starts (R384, R351, R415, R418); the interlock inputs are
sampled (R454). -/
def State.bootWeb (s : State) : State :=
  let p := s.rd O.POS_INIT * 65536
  let w := p / 2 ^ 32
  let s1 : State :=
    { s with
      web := { s.web with pos := p, hwm := p, valid := true }
      compose := { s.compose with next := w + 1 }
      fire := { s.fire with
        rows := (indexed s.fire.rows).map fun e => { e.2 with eff := octAt 4 (s.rd O.ROW_POS) e.1 }
        nextAsm := w + 1, resume := w + 1 } }
  let s2 := (List.range 16).foldl State.cmpRestart s1
  let s3 := s2.newWindow
  { s3 with
    web := { s3.web with repCount := s3.repTarget }
    fire := { s3.fire with interlocks := s3.fire.interlocks.map fun x => { x with since := s3.now } } }

/-- R773. -/
def State.bootGraft (s : State) : State :=
  match s.graft.pins with
  | 0 => (s.graftState 0).setOwner true
  | 1 => ((s.graftState 1).setHolding true).setOwner true
  | _ => s.graftState 2

/-- Step 10 for the units with outputs (R113). -/
def State.bootUnits (s : State) : State :=
  let s1 := (List.range 24).foldl State.laneEnableChanged s
  let s2 := (List.range 4).foldl State.bootAxis s1.dispsOn
  (List.range 4).foldl (fun (s : State) k =>
    (if (s.dom (0x3030 + k)).size = 0 then s else s.checkFlat k).camStart k 0) s2.encoSettle

/-- In NET_MODE 0 the static address is held from step 10 on; the others await the network (R42, R914). -/
def State.bootNet (s : State) : State :=
  let n : Net := { Net.init with linkLocalS := s.fuses.serial % 2 ^ 32 }
  if s.rd O.NET_MODE = 0 then
    { s with net := { n with addr := s.rd O.STATIC_ADDRESS, mask := s.rd O.STATIC_MASK, gateway := s.rd O.STATIC_GATEWAY
                             source := 0 } }
  else { s with net := n }

/-- R849: the coefficients accepted last, as they were stored, are in effect. -/
def State.bootCal (s : State) : State := s.wrs [(O.ADC_COEFF, s.rd O.ADC_ACCEPTED), (O.DAC_COEFF, s.rd O.DAC_ACCEPTED)]

/-- Steps 9 and 10. -/
def State.applyBoot (s : State) : State :=
  let s1 := s.loadConfig.bootCal.bootEffect.bootWeb
  let s2 : State := { s1.bootCode 9 with boot := { (s1.bootCode 9).boot with phase := .applied } }
  s2.releaseMac.bootNet.bootGraft.bootUnits

/-- DRAM_TRAINING_DONE (R668 to R670). -/
def State.trainingDone (s : State) (c : Nat) (ok : Bool) : State :=
  if s.boot.phase != .training || 4 ≤ c || s.boot.trained.contains c then s
  else
    let s1 : State := { s with boot := { s.boot with trained := s.boot.trained ++ [c] } }
    let s2 := if ok then s1.wr (O.CHANNEL_STATUS_STATE c) 1
      else
        let f : State := { s1 with boot := { s1.boot with code := 0x85 } }
        ((f.wr (O.CHANNEL_STATUS_STATE c) 4).event (dramBlock c) 5 0).requestSafe (dramBlock c) 6 5
    if s2.boot.trained.length = 4 then s2.applyBoot else s2

/-- BOOT_READY: step 11 (R106, R109, R111, R850). -/
def State.bootReady (s : State) : State :=
  if s.boot.phase != .applied then s
  else
    let s1 := s.bootCode 0xa
    let s2 : State :=
      { s1 with
        boot := { s1.boot with phase := .ready, watchdogCount := 0
                               bootTime := min (2 ^ 32 - 1) ((s.now - s.boot.released) / 1000000) }
        power := { s1.power with state := 1, target := 0xff } }
    if s2.calState = 0 then s2.calRun else s2

/-! ### Resets and wake events -/

/-- RESET_TAKE_EFFECT (R103). -/
def State.resetTakeEffect (s : State) (env : BootEnv) : State :=
  match s.boot.pendingReset with
  | some (cause, t) => if s.due t (10 * ms) then s.resetFor env cause else s
  | none => s

/-- WATCHDOG_RESET (R103, R111): a Trunk core runs from step 9 on. -/
def State.watchdogReset (s : State) (core : Nat) : State :=
  if 2 ≤ core || (s.boot.phase != .applied && s.boot.phase != .ready) || 3 ≤ s.power.state || s.boot.pendingReset.isSome then s
  else
    let n := if s.boot.phase == .ready then 0 else s.boot.watchdogCount + 1
    ({ s with boot := { s.boot with watchdogCount := n } } : State).resetSoon 2

/-- A wake event in OFF: SUPPLY_EN rises, and the part boots (R177). -/
def State.wakeOff (s : State) (env : BootEnv) (cause : Nat) : State := (s.resetFor env 5).wr O.WAKE_CAUSE cause

/-- WAKE_PIN. -/
def State.wakePin (s : State) (env : BootEnv) : State :=
  if !bit (s.rd O.WAKE_SOURCES) 0 then s
  else if s.power.state = 4 then s.wakeOff env 1
  else s.wakeEvent 1

/-- WAKE_TIMER (R188). -/
def State.wakeTimer (s : State) (env : BootEnv) : State :=
  let p := s.power
  if p.timerAtEntry = 0 || p.state < 3 || !s.due p.entered (p.timerAtEntry * sec) then s
  else if p.state = 4 then s.wakeOff env 3
  else s.wakeEvent 3

end Sys2Proof.Machine
end

