-- ==== Sys2Proof/Machine/Tap.lean ====
section
/-! DEFINITION. The TAP: its instructions, the boundary cells and the recovery of the flash (R107, R112, R188 to R195, R899 to R901). -/

namespace Sys2Proof.Machine

/-! ### Boundary cells (R900) -/

/-- Signals of one row of *Signals* whose balls carry boundary cells: how many balls, and whether the part drives them. -/
structure ScanRow where
  name : String
  balls : Nat
  drives : Bool
deriving DecidableEq, Repr

/-- The signals of the types that R900 lists, in the order of *Signals*, one cell for each ball (log 147). -/
def scanRows : List ScanRow :=
  [⟨"DCH_DQ", 288, true⟩, ⟨"DCH_DQS", 72, true⟩, ⟨"DCH_CA", 60, true⟩, ⟨"DCH_CK", 8, true⟩, ⟨"DCH_ALERT_N", 4, false⟩,
   ⟨"CCI", 8, true⟩, ⟨"RGMII_TX", 6, true⟩, ⟨"RGMII_RX", 6, false⟩, ⟨"MDC", 2, true⟩, ⟨"PHY_RESET_N", 1, true⟩] ++
  [⟨"XSPI_CLK", 1, true⟩, ⟨"XSPI_CS_N", 1, true⟩, ⟨"XSPI_DQ", 8, true⟩, ⟨"XSPI_DQS", 1, false⟩, ⟨"XSPI_RESET_N", 1, true⟩,
   ⟨"ENC", 5, false⟩, ⟨"CMP", 16, true⟩, ⟨"ENCO", 2, true⟩, ⟨"INTERLOCKS", 4, false⟩, ⟨"GRAFT_YIELD_OUT", 1, true⟩] ++
  [⟨"GRAFT_YIELD_IN", 1, false⟩, ⟨"GRAFT_HB", 1, true⟩, ⟨"GRAFT_ROLE", 2, false⟩, ⟨"MOT_G", 32, true⟩, ⟨"MOT_HOME", 4, false⟩,
   ⟨"REFCLK", 1, false⟩, ⟨"RESET_N", 2, false⟩, ⟨"SUPPLY_EN", 1, true⟩, ⟨"STRAPS", 5, false⟩, ⟨"TAP_IN", 4, false⟩,
   ⟨"TDO", 1, true⟩]

/-- Whether each boundary cell drives its ball. -/
def scanDrives : List Bool := scanRows.flatMap fun r => List.replicate r.balls r.drives

/-- The numbers of some cells that drive their balls. -/
def drivingCells (cells : List Nat) : List Nat := cells.filter fun i => scanDrives.getD i false

/-- EXTEST, CLAMP and HIGHZ take effect (R901). -/
def State.scanActs (s : State) : Bool := s.boot.phase == .hold || s.safe.active

/-- What the TAP puts on the balls with driving cells now: nothing, what the cells hold, or high impedance. -/
def State.ballsTaken (s : State) : Option (Option (List Nat)) :=
  if !s.scanActs then none
  else if s.under.tap = 2 || s.under.tap = 4 then some (some (drivingCells s.under.cells))
  else if s.under.tap = 5 then some none
  else none

/-- The boundary register captures the balls, shifts them out and takes what is shifted in. -/
def State.scanCells (s : State) (x : TapScan) : State :=
  ({ s with under := { s.under with cells := x.shifted } } : State).emit (.scan x.high)

/-- The balls go to what the TAP puts on them. -/
def State.takeBalls (s : State) : State := match s.ballsTaken with | some b => s.emit (.balls b) | none => s

/-! ### BOOT_CODE (R107) -/

/-- The boot steps 2 to 8 that must have begun by a time since the release, as the code of the last (*Boot steps*). -/
def latestStep (since : Nat) : Nat :=
  (([100, 300, 1000, 2500, 3000, 70000, 85000].map (· * 1000000)).filter (· ≤ since)).length

/-- The boot code: while the ROM and the loader run to the end of step 8 it is the code of a step that may have begun, not
lower than the last one shown (log 148). -/
def State.shownBootCode (s : State) : Nat × State :=
  if s.boot.phase != .training || 7 ≤ s.boot.code then (s.boot.code, s)
  else
    let d := s.draw
    let low := max s.boot.code (latestStep (s.now - s.boot.released))
    let code := low + (Config.free d.1).toNat % (8 - low)
    (code, { d.2 with boot := { d.2.boot with code := code } })

/-! ### Instructions and the flash -/

/-- A data register of one bit, between TDI and TDO. -/
def State.bypass (s : State) : State := s.emit (.tap 1 0)

/-- What a debug read shows: memories whose layout the manual does not give (*Debug levels*, log 147). -/
def State.debugRead (s : State) : State :=
  let d := s.draw
  d.2.emit (.tap 32 ((Config.free d.1).toNat % 2 ^ 32))

/-- An instruction is in the TAP. EXTEST, CLAMP and HIGHZ act as BYPASS outside ROM hold and safe state (R901), and so do the
instructions that the part has not (IEEE 1149.1). In OFF nothing answers (R201). -/
def State.tapInstruction (s : State) (x : TapScan) : State :=
  if s.power.state = 4 then s
  else
    let s1 : State := { s with under := { s.under with tap := x.ir } }
    match x.ir with
    | 1 => s1.scanCells x
    | 2 => if s1.scanActs then (s1.scanCells x).takeBalls else s1.bypass
    | 3 => s1.emit (.tap 32 0xb7416a4b)
    | 4 => s1.bypass.takeBalls
    | 5 => s1.bypass.takeBalls
    | 6 => let c := s1.shownBootCode; c.2.emit (.tap 8 c.1)
    | 7 => s1.debugNonce
    | 8 => if 1 ≤ s.access.level then s1.debugRead else s1.bypass
    | 9 => if 2 ≤ s.access.level then s1 else s1.bypass
    | _ => s1.bypass

/-- TAP_FLASH_ACCESS: an area of the flash read or written while the part holds in ROM (R112). -/
def State.tapFlash (s : State) (area : Nat) (image : Option FlashWrite) : State :=
  if s.boot.phase != .hold || 14 ≤ area then s
  else
    match image with
    | some w => { s with flash := s.flash.tapWrite area w.image }
    | none =>
      let d := s.draw
      let bs := s.flash.tapRead area d.1
      d.2.emit (.tap (8 * bs.length) (leNat bs))

/-- TRST_LOW: the TAP is reset, and debug returns to CLOSED (R195). -/
def State.trstLow (s : State) : State := ({ s with under := { s.under with tap := 3 } } : State).debugClosed

end Sys2Proof.Machine
end

