-- ==== Sys2Proof/Machine/Read.lean ====
section
/-! DEFINITION. What a READ, a READ_SEG and an INFO return: the objects whose value is the state of their block, the sizes of
the DOM objects, the active view (R28), and *INFO response*. -/

namespace Sys2Proof.Machine

/-! ### Objects that show the state of a block -/

/-- 1018h: identity from the fuses. -/
def State.identityValue (s : State) (sub : Nat) : Option Nat :=
  match sub with
  | 5 => some s.fuses.serial
  | 6 => some s.fuses.mac
  | _ => none

/-- 1100h. -/
def State.sessionValue (s : State) (sub : Nat) : Option Nat :=
  let x := s.tdp.session
  match sub with
  | 1 => some (2 * b2n x.isSome + b2n s.tdp.challenge.isSome)
  | 2 => some ((x.map (·.sid)).getD 0)
  | 3 => some ((x.map (·.addr)).getD 0)
  | 4 => some ((x.map (·.port)).getD 0)
  | 5 => some ((x.map fun x => (x.leaseEnd - s.now) / ms).getD 0)
  | _ => none

/-- 1111h. -/
def State.netValue (s : State) (sub : Nat) : Option Nat :=
  match sub with
  | 1 => some s.net.addr
  | 2 => some s.net.mask
  | 3 => some s.net.gateway
  | 4 => some s.net.source
  | 5 => some s.net.speed
  | 6 => some (if s.net.source = 1 then (s.net.leaseEnd - s.now) / sec else 0)
  | _ => none

/-- 1203h. -/
def State.bootValue (s : State) (sub : Nat) : Option Nat :=
  match sub with
  | 1 => some s.boot.cause
  | 2 => some s.boot.code
  | 3 => some s.boot.slot
  | 4 => some s.boot.fallback
  | 5 => some s.boot.straps
  | 6 => some s.boot.bootTime
  | _ => none

/-- 1213h but PROGRESS. -/
def State.slotValue (s : State) (sub : Nat) : Option Nat :=
  match sub with
  | 1 => some (b2n (imageValid s.flash.slotA))
  | 2 => some (b2n (imageValid s.flash.slotB))
  | 3 => some (u32At s.flash.slotA 8)
  | 4 => some (u32At s.flash.slotB 8)
  | 5 => some ((s.bank.programming.map fun p => p.slot + 1).getD 0)
  | _ => none

/-- 1301h to 1322h. -/
def State.trustValue (s : State) (key : Nat) : Option Nat :=
  if key = O.BOOT_COUNT then some s.flash.bootCount
  else if key = O.LIFECYCLE then some s.lifecycle
  else if key = O.TRANSITIONS_LEFT then some (16 - s.fuses.lifecycleBits)
  else if 0x132101 ≤ key && key ≤ 0x132106 then
    some (leNat ((((s.bank.alternate.map (·.m05)).getD []).getD (key - 0x132101) zero48)))
  else if key = O.CURRENT_VALID then some (b2n s.bank.current.isSome)
  else if key = O.ALTERNATE_VALID then some (b2n s.bank.alternate.isSome)
  else if key = O.UNSEAL_RESULT then some s.bank.unsealResult
  else if key = O.NEXT_MEAS6 then some (leNat (meas6Of (bodyObjs s.loadSlot)))
  else none

/-- 1400h and 1410h. -/
def State.powerValue (s : State) (key : Nat) : Option Nat :=
  if key = O.POWER_STATE_STATE then some s.power.state
  else if key = O.POWER_STATE_TARGET then some s.power.target
  else if key = O.DEBUG_LEVEL then some s.access.level
  else if key = O.AUTH_FAILURES then some s.access.failures
  else if key = O.FULL_ENTRIES then some s.access.fullEntries
  else none

/-- 1500h + b. -/
def State.faultValue (s : State) (b sub : Nat) : Option Nat :=
  let r := s.faultRec b
  match sub with
  | 1 => some r.flags
  | 2 => some (blockCodes b).length
  | 3 => some r.countsValue
  | 4 => some r.logValue
  | 5 => some r.log.length
  | 6 => some r.lost
  | 7 => some r.severeValue
  | 8 => some r.lastCode
  | _ => none

/-- The 16 places of SAFE_CAUSES. -/
def State.safeCausesValue (s : State) : Nat :=
  leNat (s.safe.causes.flatMap fun c => [toByte c.block, toByte c.kind] ++ natLE 2 c.code)

/-- SEVERE_BLOCKS. -/
def State.severeBlocksValue (s : State) : Nat :=
  (List.range 0x42).foldl (fun n b => setBit n b (!(s.faultRec b).severe.isEmpty)) 0

/-- 1600h to 1603h. -/
def State.safeValue (s : State) (key : Nat) : Option Nat :=
  if key = O.SAFE_STATE_ACTIVE then some (b2n s.safe.active)
  else if key = O.SAFE_FIRST_BLOCK then some ((s.safe.first.map (·.block)).getD 0xff)
  else if key = O.SAFE_FIRST_CODE then some ((s.safe.first.map (·.code)).getD 0)
  else if key = O.SAFE_ENTRY_TIME then some s.safe.entryTime
  else if key = O.SAFE_ENTRIES then some s.safe.entries
  else if key = O.SAFE_PENDING then some s.safe.causes.length
  else if key = O.SAFE_CAUSES then some s.safeCausesValue
  else if key = O.SEVERE_BLOCKS then some s.severeBlocksValue
  else none

/-- 1700h + k and 1713h. Tasks 5 and 6 are off without TELEMETRY_ENABLE. -/
def State.backgroundValue (s : State) (key : Nat) : Option Nat :=
  if key = O.NEXT_OFFSET then some s.flash.ringNext
  else if key = O.CHUNK_SEQ then some s.flash.chunkSeq
  else if key = O.MAX_ERASES then some s.maxErases
  else if key % 256 = 1 && 0x1700 ≤ key / 256 && key / 256 ≤ 0x1706 then
    some (if 0x1705 ≤ key / 256 && !s.rdB O.TELEMETRY_ENABLE then 0 else 1)
  else none

/-- 2001h. -/
def State.setValue (s : State) (sub : Nat) : Option Nat :=
  match sub with
  | 1 => some s.jobs.state.code
  | 2 => some s.activeJob
  | 3 => some s.jobs.shadow.jobId
  | 4 => some (s.jobs.boundary.getD 0 * 65536)
  | 5 => some (s.jobs.armStart * 65536)
  | 6 => some s.jobs.swap
  | 8 => some ((s.jobs.active.map fun j => j.open.length).getD 0)
  | 9 => some s.jobs.shadow.heldPages.length
  | _ => none

/-- LINK_STATE of a bond whose lanes begin at `first`: up, training while one of its lanes trains, or down (log 153). -/
def State.bondState (s : State) (link first : Nat) : Nat :=
  if link = 2 then 2
  else if (List.range 4).any fun i => let st := (s.lane (first + i)).state; st == 2 || st == 4 || st == 5 then 1 else 0

/-- 2100h. -/
def State.ingestValue (s : State) (sub : Nat) : Option Nat :=
  let g := s.ingest
  match sub with
  | 1 => some (s.bondState g.link 16)
  | 2 => some g.width
  | 3 => some g.grade
  | 4 => some g.lanes
  | 5 => some g.limit
  | 6 => some (g.limit + 2 ^ 32 + g.freed + g.held - g.spent)
  | _ => none

/-- 2104h. -/
def State.queueValue (s : State) (sub : Nat) : Option Nat :=
  let sh := s.jobs.shadow
  match sub with
  | 1 => some ((s.jobs.active.map JobSet.queueFree).getD 0)
  | 2 => some (if s.jobs.state.code < 3 then 0 else sh.queueFree)
  | 3 => some ((s.jobs.active.map (·.lastSeq)).getD 0 + 1)
  | 4 => some (sh.lastSeq + 1)
  | 5 => some (if sh.rd O.BG_PLANES = 0 then 0 else if sh.bgDone then 2 else 1)
  | _ => none

/-- 2110h. -/
def State.mirrorValue (s : State) (sub : Nat) : Option Nat :=
  match sub with
  | 1 => some (s.bondState s.mirror.link 20)
  | 2 => some s.mirror.width
  | 6 => some s.backlogCredits
  | _ => none

/-- 2600h. -/
def State.positionValue (s : State) (sub : Nat) : Option Nat :=
  let w := s.web
  match sub with
  | 1 => some (to4816 w.pos)
  | 2 => some (to4816 w.hwm)
  | 3 => some (ofInt 32 s.speed)
  | 4 => some (b2n w.reverse)
  | 5 => some (b2n w.valid)
  | 7 => some (ofInt 64 w.encCount)
  | 8 => some (to4816 w.hwm - to4816 w.pos)
  | 9 => some (ofInt 64 w.stepCount)
  | _ => none

/-- FIRING. -/
def State.firingValue (s : State) : Nat :=
  if s.safe.active then 3 else if !s.firing then 0 else if s.inhibited then 2 else 1

/-- 2533h, 2534h, and 2607h to 2743h. -/
def State.pressValue (s : State) (key : Nat) : Option Nat :=
  let idx := key / 256
  if key = O.ROW_DELAY then some s.rowDelayValue
  else if key = O.ROW_POS_PENDING then some s.pendingValue
  else if key = O.VIRTUAL_ACTUAL then some (s.web.virtual / 1000000000)
  else if 0x2640 ≤ idx && idx ≤ 0x264f && key % 256 = 1 then some (s.cmpNext (idx - 0x2640))
  else if key = O.FIRE_STATUS then some s.firingValue
  else if key = O.RATE_LIMIT then some s.rateLimit
  else if key = O.PW_EFFECTIVE then some s.pwEffectiveValue
  else if key = O.LIMIT_PERIOD then some s.limitPeriodValue
  else if 0x2740 ≤ idx && idx ≤ 0x2743 && key % 256 = 5 then some (s.interlockState (idx - 0x2740))
  else none

/-- 2800h + seg. -/
def State.headValue (s : State) (seg sub : Nat) : Option Nat :=
  let h := s.head seg
  match sub with
  | 1 => some h.link
  | 2 => some (s.lane seg).grade
  | 3 => some h.ownerState
  | 4 => some h.flags
  | 5 => some h.voltage
  | 6 => some (octOf 2 (h.temps.map (ofInt 16)))
  | 7 => some h.rowsFitted
  | 12 => some (s.faultRec (0x20 + seg)).lastCode
  | _ => none

/-- 2900h + n but the error counters. -/
def State.laneValue (s : State) (n sub : Nat) : Option Nat :=
  let l := s.lane n
  match sub with
  | 1 => some l.state
  | 2 => some l.grade
  | 3 => some l.limit
  | 4 => some (b2n l.inverted)
  | 14 => some (b2n (s.eqValid n))
  | _ => none

/-- 3000h + k, and 3014h + k: the latest applied settings. -/
def State.camValue (s : State) (key : Nat) : Option Nat :=
  let idx := key / 256
  let sub := key % 256
  if 0x3000 ≤ idx && idx ≤ 0x3003 && sub = 5 then some (s.cam (idx - 0x3000)).gens.length
  else if 0x3014 ≤ idx && idx ≤ 0x3017 then
    let v := s.liveValues (idx - 0x3014)
    match sub with
    | 1 => some v.1
    | 2 => some v.2.1
    | 3 => some v.2.2
    | _ => none
  else none

/-- The share and the priority of a DMA channel (*DMA channels*). -/
def State.channelShare (s : State) (n : Nat) : Nat :=
  if n < 4 then 256 else if n < 8 then 1 else if n < 12 then 256 else if n < 14 then 2 else if n = 14 then 64
  else if n = 15 then 16 else if n = 16 then 8 else if n < 23 then 256 else if n = 23 then 4 else s.rd (O.MOVE_SHARE (n - 24))

def State.channelPriority (s : State) (n : Nat) : Nat :=
  if n < 4 then 0 else if n < 8 then 1 else if n < 12 then 2 else if n < 14 then 1 else if n = 14 then 3
  else if n = 15 then 4 else if n = 16 then 5 else if n < 23 then 6 else if n = 23 then 1 else s.rd (O.MOVE_PRIORITY (n - 24))

/-- 3200h and 3300h to 3410h. -/
def State.groundValue (s : State) (key : Nat) : Option Nat :=
  if key = O.DRAM_STATUS_CAPACITY || key = O.MEMORY_PLAN_CAPACITY then some s.capacity
  else if key = O.DATA_RATE_IN_EFFECT then some (mapGet s.boot.effect O.DRAM_DATA_RATE (Dict.dflt O.DRAM_DATA_RATE))
  else if key = O.DMA_STATUS_ACTIVE then some (s.channelsIn 1)
  else if key = O.DMA_SUSPENDED then some (s.channelsIn 2)
  else if key = O.CHANNEL_SHARE then some (octOf 2 ((List.range 32).map s.channelShare))
  else if key = O.CHANNEL_PRIORITY then some (octOf 1 ((List.range 32).map s.channelPriority))
  else if key = O.CAPTURE_BASE then some s.captureBase
  else none

/-- 3500h and 3505h. -/
def State.timeValue (s : State) (key : Nat) : Option Nat :=
  let t := s.time
  if key = O.SERVO_STATE then some t.servo
  else if key = O.MEAN_PATH_DELAY then some (ofInt 64 (t.pathDelay.tdiv 65536))
  else if key = O.PTP_RATE_ADJ then some (ofInt 64 t.rate)
  else if key = O.STEP_NEEDED then some (b2n t.stepNeeded)
  else if key = O.FIRE_OFFSET then some (ofInt 64 s.fireOffset)
  else if key = O.FIRE_RATE_ADJ then some (ofInt 64 t.fireRate)
  else if key = O.TB_PTP then some (tbNs (t.ptpAt s.now))
  else if key = O.TB_MONO then some (tbNs (t.monoAt s.now))
  else if key = O.TB_FIRE then some (tbNs (t.fireAt s.now))
  else if key = O.TB_FRAC 0 then some (t.fracs.getD 0 (tbFrac (t.ptpAt s.now)))
  else if key = O.TB_FRAC 1 then some (t.fracs.getD 1 (tbFrac (t.monoAt s.now)))
  else if key = O.TB_FRAC 2 then some (t.fracs.getD 2 (tbFrac (t.fireAt s.now)))
  else none

/-- A READ of one of the time bases takes the fractions of all three at its PTP cycle, for the READs of 3505h.04 to .06 that follow
(R737, log 170). -/
def State.keepFracs (s : State) (key : Nat) : State :=
  if key = O.TB_PTP || key = O.TB_MONO || key = O.TB_FIRE then
    { s with time := { s.time with fracs := [tbFrac (s.time.ptpAt s.now), tbFrac (s.time.monoAt s.now), tbFrac (s.time.fireAt s.now)] } }
  else s

/-- 3600h. -/
def State.graftValue (s : State) (sub : Nat) : Option Nat :=
  let g := s.graft
  match sub with
  | 1 => some (if g.state = 0 then 0 else if g.state = 1 then 1 else 2)
  | 2 => some g.state
  | 3 => some (b2n g.paired)
  | 4 => some (b2n s.control)
  | 5 => some (g.waiting.getD g.pins)
  | 7 => some (g.syncPos.getD 0 * 65536)
  | _ => none

/-- 3740h + a. -/
def State.axisValue (s : State) (a sub : Nat) : Option Nat :=
  let x := s.axis a
  let v : Int := x.speed / 1000000
  match sub with
  | 1 => some x.state
  | 2 => some (ofInt 32 x.pos)
  | 3 => some (ofInt 32 (if x.up then v else -v))
  | 4 => some (ofInt 32 x.target)
  | 5 => some x.resolution
  | 6 => some x.flags
  | 7 => some x.lastResult
  | 8 => some (ofInt 16 x.currentA)
  | 9 => some (ofInt 16 x.currentB)
  | 10 => some (ofInt 16 x.offsetA)
  | 11 => some (ofInt 16 x.offsetB)
  | 13 => some (b2n (s.rampPending a))
  | _ => none

/-- 3800h.06, 3830h, 3908h + x and 3A10h. -/
def State.lateValue (s : State) (key : Nat) : Option Nat :=
  if key = O.SLEWING then some (b2n (!s.cal.slews.isEmpty))
  else if key = O.TEMP_COEFF then some s.tempCoeffValue
  else if key = O.DISP_STATUS_STATE 0 then some (s.dispState 0)
  else if key = O.DISP_STATUS_STATE 1 then some (s.dispState 1)
  else if key = O.DIE_TEMP_MAX then some (ofInt 16 ((s.under.hottest.map (·.1)).getD s.dieTemp))
  else if key = O.HOTTEST_SENSOR then some ((s.under.hottest.map (·.2)).getD 0)
  else none

/-- The object shows the state of its block: its value. -/
def State.blockValue (s : State) (key : Nat) : Option Nat :=
  let idx := key / 256
  let sub := key % 256
  if idx = 0x1018 then s.identityValue sub
  else if idx = 0x1100 then s.sessionValue sub
  else if idx = 0x1111 then s.netValue sub
  else if key = O.SLOT_CYCLES then some ((s.flash.bank.map (·.cycles)).foldl max 0)
  else if idx = 0x1203 then s.bootValue sub
  else if idx = 0x1213 then s.slotValue sub
  else if 0x1301 ≤ idx && idx ≤ 0x1322 then s.trustValue key
  else if idx = 0x1400 || idx = 0x1410 then s.powerValue key
  else if 0x1500 ≤ idx && idx ≤ 0x1541 then s.faultValue (idx - 0x1500) sub
  else if 0x1600 ≤ idx && idx ≤ 0x1603 then s.safeValue key
  else if 0x1700 ≤ idx && idx ≤ 0x1713 then s.backgroundValue key
  else if idx = 0x2001 then s.setValue sub
  else if idx = 0x2100 then s.ingestValue sub
  else if idx = 0x2104 then s.queueValue sub
  else if idx = 0x2110 then s.mirrorValue sub
  else if idx = 0x2600 then s.positionValue sub
  else if 0x2533 ≤ idx && idx ≤ 0x2743 then s.pressValue key
  else if 0x2800 ≤ idx && idx ≤ 0x280f then s.headValue (idx - 0x2800) sub
  else if 0x2900 ≤ idx && idx ≤ 0x2917 then s.laneValue (idx - 0x2900) sub
  else if 0x3000 ≤ idx && idx ≤ 0x3017 then s.camValue key
  else if idx = 0x2002 || (0x3200 ≤ idx && idx ≤ 0x3410) then s.groundValue key
  else if 0x3500 ≤ idx && idx ≤ 0x3505 then s.timeValue key
  else if idx = 0x3600 then s.graftValue sub
  else if 0x3740 ≤ idx && idx ≤ 0x3743 then s.axisValue (idx - 0x3740) sub
  else if 0x3800 ≤ idx then s.lateValue key
  else none

/-- The object's value is one that the manual leaves open (log 17): how many values it may take. A store that runs is erasing,
programming or verifying; a slot that is programmed is so many per cent done; error counters of the lanes, the
longest refresh wait and the bursts of the internal users. A count that only grows is never less than at the last READ, nor
than what host moves add to it. -/
def State.openValues (s : State) (key : Nat) : Option (Nat × Nat) :=
  let idx := key / 256
  let sub := key % 256
  if key = O.STORE_STATUS_STATE then (if s.bank.job.isSome then some (1, 3) else none)
  else if key = O.SLOT_PROGRESS then (if s.bank.programming.isSome then some (0, 101) else none)
  else if (0x2900 ≤ idx && idx ≤ 0x2917 && 5 ≤ sub && sub ≤ 8) || key = O.DRAM_MAX_STALL || key = O.DMA_BURSTS then
    some (s.rd key, Dict.top key + 1 - s.rd key)
  else none

/-- What a READ of the object returns (R71, R76, R78), a CMD object 0, and the state after it. -/
def State.readValue (s : State) (r : ObjRow) (key : Nat) : Nat × State :=
  match r.acc with
  | .cmd => (0, s)
  | .rws => (s.shadowRd key, s)
  | _ =>
    match s.openValues key with
    | some (lo, n) =>
      let d := s.draw
      let v := lo + (Config.free d.1).toNat % n
      (v, if key = O.STORE_STATUS_STATE || key = O.SLOT_PROGRESS then d.2 else d.2.wr key v)
    | none => if key = O.ENGINES_BUSY then let d := s.draw; (s.enginesBusy (Config.free d.1).toNat, d.2) else ((s.blockValue key).getD (s.rd key), s.keepFracs key)

/-! ### DOM objects -/

/-- The part's name (1008h). -/
def deviceName : List Byte := ascii "Tilud Ublum"

/-- Present size and generation of a DOM object that is not in the active view. -/
def State.domHead (s : State) (idx : Nat) : Nat × Nat :=
  if idx = 0x1210 then (s.flash.slotA.length, s.flash.genA)
  else if idx = 0x1211 then (s.flash.slotB.length, s.flash.genB)
  else if idx = 0x1712 then (ringBytes, (s.dom idx).gen)
  else if Dict.jobScoped idx then let d := mapGet s.jobs.shadow.doms idx (domDefault idx); (d.size, d.gen)
  else ((s.dom idx).size, (s.dom idx).gen)

/-- n bytes of the DOM object from offset o. -/
def State.domBytes (s : State) (idx o n : Nat) : List Byte :=
  if idx = 0x1210 || idx = 0x1211 then ((s.flash.slot (idx - 0x1210)).drop o).take n
  else if idx = 0x1712 then (List.range n).map fun i => mapGet s.flash.ring (o + i) 0xff#8
  else if Dict.jobScoped idx then (mapGet s.jobs.shadow.doms idx (domDefault idx)).read (domFill idx) o n
  else s.domRead idx o n

/-- The DOM in the active view (R28): the active set's, its default where there is none (R203). -/
def State.activeDom (s : State) (idx : Nat) : Dom :=
  match s.jobs.active with
  | some j => mapGet j.doms idx (domDefault idx)
  | none => domDefault idx

/-! ### Finding an object (checks 4 and 5 of R49, R27 to R29) -/

/-- The row of idx.sub as a host names it, in the active view too; or the status of the check that fails. -/
def findObject (idx sub : Nat) : Except Nat ObjRow :=
  if 65536 ≤ idx then .error Status.noObject
  else
    let base := if 0x8000 ≤ idx then idx - 0x8000 else idx
    if !Dict.hasIndex base || (0x8000 ≤ idx && !Dict.jobScoped base) then .error Status.noObject
    else match Dict.row? base sub with
    | some r => .ok r
    | none => .error Status.noSubindex

/-- The present size and generation of the DOM object idx.sub; 0 where it does not exist (R909), or is no DOM (log 138). -/
def State.segHead (s : State) (idx sub : Nat) : Nat × Nat :=
  match findObject idx sub with
  | .ok r =>
    if r.ty != Ty.dom then (0, 0)
    else if 0x8000 ≤ idx then let d := s.activeDom (idx - 0x8000); (d.size, d.gen)
    else s.domHead idx
  | .error _ => (0, 0)

/-- The data of the object, as a READ returns it. -/
def State.objectData (s : State) (r : ObjRow) (idx sub : Nat) : List Byte × State :=
  if idx = 0x1008 then (deviceName, s)
  else if 0x8000 ≤ idx then
    let key := 256 * (idx - 0x8000) + sub
    (natLE r.ty.size (if r.acc == .rws then s.activeRd key else s.rd key), s)
  else
    let v := s.readValue r (256 * idx + sub)
    (natLE r.ty.size v.1, v.2)

/-! ### INFO -/

/-- Lower and upper limit of a range, as numbers of the object's type (*INFO response*): of a list its least and greatest
value, of a range with one more value both. -/
def Rng.limits (g : Rng) (ty : Ty) : Int × Int :=
  let w := 8 * ty.size
  let all : Int × Int := if ty.signed then (-(2 ^ (w - 1)), 2 ^ (w - 1) - 1) else (0, 2 ^ w - 1)
  match g with
  | .any => if ty == Ty.bool then (0, 1) else all
  | .bt lo hi => (lo, hi)
  | .btOr lo hi x => (min lo x, max hi x)
  | .step lo hi _ => (lo, hi)
  | .stepOr lo hi _ x => (min lo x, max hi x)
  | .oneOf xs => ((xs.foldl min (xs.headD 0) : Nat), (xs.foldl max 0 : Nat))
  | .absBt _ hi => (-hi, hi)
  | .mask => (0xff000000, 0xfffffffc)
  | .lines => all
  | .nozzle => (2048, 65535)
  | _ => all

/-- MINIMUM and MAXIMUM: for STR, OCT and DOM the manual names no raw limits (log 15). -/
def infoLimits (r : ObjRow) (key : Nat) : Nat × Nat :=
  match r.ty with
  | .str => (Config.infoMinimum key |>.toNat, Config.infoMaximum key |>.toNat)
  | .oct _ => (Config.infoMinimum key |>.toNat, Config.infoMaximum key |>.toNat)
  | .dom => (Config.infoMinimum key |>.toNat, Config.infoMaximum key |>.toNat)
  | _ =>
    let l := r.rng.limits r.ty
    (ofInt 64 l.1, ofInt 64 l.2)

/-- *INFO response*; staged says that a value is staged. -/
def State.infoBody (s : State) (r : ObjRow) (idx sub : Nat) (staged : Bool) : List Byte :=
  let key := 256 * idx + sub
  let act := 0x8000 ≤ idx
  let l := infoLimits r key
  let h := s.segHead idx sub
  let size := match r.ty with
    | .str => deviceName.length
    | .dom => h.1
    | _ => r.ty.size
  natLE 2 idx ++ [toByte sub, toByte r.ty.code, toByte (if act then 0 else r.acc.code), toByte r.app.code,
    toByte (b2n r.persist + 2 * b2n staged), 0#8] ++ natLE 8 l.1 ++ natLE 8 l.2 ++ natLE 4 size ++ natLE 4 h.2 ++
  natLE 8 (if r.app == .boot then mapGet s.boot.effect key r.dflt else 0)

end Sys2Proof.Machine
end

