-- ==== Sys2Proof/Machine/Host.lean ====
section
/-! DEFINITION. The TDP server: which frames it answers (R41 to R53), sessions (R54 to R66, R911, R912), the SEQ window
(R67 to R70), and what each request does (R71 to R101, R909, R910). -/

namespace Sys2Proof.Machine

/-! ### Responses -/

/-- A response without a session and a TAG goes back to where the request came from (R41, R52). -/
def State.plain (s : State) (f : Frame) (opcode status : Nat) (body : List Byte) : State :=
  s.sendFrame f.addr f.port opcode f.seq status 0 3 [] body

/-- A response in session x, tagged under its key. -/
def State.tagged (s : State) (x : Session) (opcode seq status : Nat) (body : List Byte) : State :=
  s.sendFrame x.addr x.port opcode seq status x.sid 3 x.key body

def State.updTdp (s : State) (f : Tdp → Tdp) : State := { s with tdp := f s.tdp }

/-- The frame's BODY. -/
def frameBody (f : Frame) : List Byte := f.rest.take f.length

/-- Bytes received of the transfer that the session has open for an object; 0 when the open transfer is for another one
(log 138). -/
def State.received (s : State) (idx : Nat) : Nat :=
  match s.tdp.session.bind (·.transfer) with
  | some t => if t.index = idx then t.data.length else 0
  | none => 0

/-- The part of a response's layout that an answer other than OK carries (R909); mine: the frame is of the open session. -/
def State.refusalBody (s : State) (opcode : Nat) (b : List Byte) (mine : Bool) : List Byte :=
  let idx := u16At b 0
  let sub := u8At b 2
  let head := natLE 2 idx ++ [toByte sub]
  if opcode = 0x10 then head ++ [0#8, 0#8, 0#8]
  else if opcode = 0x11 then head ++ [0#8]
  else if opcode = 0x12 then
    let h := s.segHead idx sub
    head ++ [0#8] ++ natLE 4 (u32At b 4) ++ natLE 4 h.1 ++ natLE 4 h.2
  else if opcode = 0x13 then head ++ [0#8] ++ natLE 4 (if mine then s.received idx else 0)
  else if opcode = 0x14 then head ++ List.replicate 37 0#8
  else if opcode = 0x31 then natLE 4 (u32At b 0) ++ natLE 4 s.certs.length
  else []

/-! ### The sessionless requests -/

/-- The response bodies of OPEN_REQ: nonce, session ID, LEASE_TIME and the remaining lease (R912). -/
def State.openReqBody (s : State) (nonce : List Byte) (sid : Nat) : List Byte :=
  nonce ++ natLE 4 sid ++ natLE 4 (s.rd O.LEASE_TIME) ++
  natLE 4 ((s.tdp.session.map fun x => (x.leaseEnd - s.now) / ms).getD 0)

def State.openReqBusy (s : State) : List Byte := s.openReqBody (List.replicate 16 0#8) 0

/-- A challenge is issued: part nonce and session ID are free values, the ID not 0 (R57, R58). -/
def State.challengeFor (s : State) (f : Frame) : State :=
  let d := s.draw
  let nonce := natLE 16 (Config.nonce d.1).toNat
  let sid := 1 + (Config.random d.1).toNat % (2 ^ 32 - 1)
  let same := match s.tdp.session with | some x => x.addr == f.addr | none => false
  let c : Challenge := ⟨(frameBody f), nonce, sid, s.now, f.addr, s.tdp.session.isSome, same⟩
  let s1 := d.2.updTdp fun t => { t with challenge := some c }
  s1.plain f 1 Status.ok (s1.openReqBody nonce sid)

/-- OPEN_REQ (R59, R60, R64, R108, R197, R912). -/
def State.openReq (s : State) (f : Frame) : State :=
  if (frameBody f).length != 16 then s.plain f 1 Status.badLength []
  else if s.boot.phase != .ready then s.plain f 1 Status.busy s.openReqBusy
  else if s.access.level = 2 then s.plain f 1 Status.locked []
  else if s.now < s.tdp.authLockUntil then s.plain f 1 Status.authLocked []
  else if s.sessionKey.isNone then s.plain f 1 Status.unsealed []
  else
    match s.tdp.session with
    | some x =>
      if bit f.flags 2 || x.addr = f.addr then s.challengeFor f else s.plain f 1 Status.busy s.openReqBusy
    | none => s.challengeFor f

/-- The proofs of R55 and R56, and the session key. -/
def proof (key : List Byte) (label : String) (a b : List Byte) (sid : Nat) : List Byte :=
  hmac256 key (ascii label ++ a ++ b ++ natLE 4 sid)

def sessionKeyOf (key hostNonce partNonce : List Byte) : List Byte := hmac256 key (ascii "TDP-KEY" ++ hostNonce ++ partNonce)

/-- The arbiter proof that an OPEN carries is valid (R56). -/
def State.arbiterOk (s : State) (c : Challenge) (f : Frame) : Bool :=
  s.rd O.ARBITER_KEY < 2 ^ 256 &&
  (frameBody f).drop 32 == proof (natLE 32 (s.rd O.ARBITER_KEY)) "TDP-PREEMPT" c.partNonce c.hostNonce c.sid

/-- The proofs of an OPEN are valid against a challenge under the owner key (R55, R56, R65, *Session states*). An arbiter
proof is checked whenever it is carried, but under a challenge to the session's own address (log 139). -/
def State.proofsOk (s : State) (c : Challenge) (key : List Byte) (f : Frame) : Bool :=
  (frameBody f).take 32 == proof key "TDP-OPEN" c.partNonce c.hostNonce c.sid &&
  ((c.preempts && c.sameAddr) || (if bit f.flags 2 then s.arbiterOk c f else !c.preempts))

/-- The notice to a pre-empted host (R911): sent once, neither queued nor kept. -/
def State.preemptedNotice (s : State) (x : Session) (f : Frame) : State :=
  if !bit (s.rd O.NOTICE_MASK) 9 then s
  else
    let v := s.time.ptpAt s.now
    let n : Notice := ⟨9, 2, 1, tbNs v % 2 ^ 64, tbFrac v, 0x1100, 0, natLE 4 f.addr ++ natLE 2 f.port ++ List.replicate 10 0#8⟩
    s.sendNotice x ⟨x.noticeSeq, n, min 255 x.charged, 1, s.now⟩

/-- A session opens (R55, R67, R93). -/
def State.openWith (s : State) (c : Challenge) (key : List Byte) (f : Frame) : State :=
  let s1 := match s.tdp.session with
    | some x => (s.preemptedNotice x f).endSession
    | none => s
  let x : Session :=
    { sid := c.sid, addr := f.addr, port := f.port, key := sessionKeyOf key c.hostNonce c.partNonce
      leaseEnd := s.now + s.rd O.LEASE_TIME * ms, expected := 1, held := [], cache := [], stages := [], transfer := none
      notices := [], sent := [], noticeSeq := 0, charged := 0, newKey := none }
  let s2 := (s1.updTdp fun t => { t with challenge := none, session := some x }).wr O.NOTICES_LOST 0
  (s2.inc O.OPEN_COUNT).plain f 2 Status.ok (proof key "TDP-PART" c.hostNonce c.partNonce c.sid)

/-- An OPEN is answered AUTH_FAILED: any three within 10 s refuse every OPEN_REQ for the 10 s after the third (R60); a live
challenge goes. -/
def State.authFailed (s : State) (f : Frame) : State :=
  let fails := (s.now :: s.tdp.authFails).filter fun t => s.now < t + 10 * sec
  let s1 := s.updTdp fun t =>
    { t with challenge := none, authFails := fails
             authLockUntil := if 3 ≤ fails.length then s.now + 10 * sec else t.authLockUntil }
  (s1.inc O.AUTH_FAIL_COUNT).plain f 2 Status.authFailed []

/-- OPEN. -/
def State.openSession (s : State) (f : Frame) : State :=
  if (frameBody f).length != (if bit f.flags 2 then 64 else 32) then s.plain f 2 Status.badLength []
  else
    match s.tdp.challenge, s.sessionKey with
    | some c, some key => if s.proofsOk c key f then s.openWith c key f else s.authFailed f
    | _, _ => s.authFailed f

/-- QUOTE (R152, R153). -/
def State.quoteReq (s : State) (f : Frame) : State :=
  if (frameBody f).length != 32 then s.plain f 0x30 Status.badLength []
  else s.plain f 0x30 Status.ok (s.quote (frameBody f))

/-- CERT (R154, R910). -/
def State.certReq (s : State) (f : Frame) : State :=
  let o := u32At (frameBody f) 0
  let n := u16At (frameBody f) 4
  let head := s.refusalBody 0x31 (frameBody f) false
  if (frameBody f).length != 6 then s.plain f 0x31 Status.badLength head
  else if 1024 < n then s.plain f 0x31 Status.range head
  else if s.certs.length < o then s.plain f 0x31 Status.offset head
  else if n = 0 then s.plain f 0x31 Status.empty head
  else s.plain f 0x31 Status.ok (head ++ (s.certs.drop o).take n)

/-- The body of an IDENTIFY response. -/
def State.identifyBody (s : State) : List Byte :=
  natLE 4 (s.rd O.VENDOR_ID) ++ natLE 4 (s.rd O.PRODUCT_CODE) ++ natLE 2 (s.rd O.STEPPING) ++ natLE 4 (s.rd O.FW_VERSION) ++
  natLE 8 s.fuses.serial ++ natLE 6 s.fuses.mac ++ natLE 4 s.net.addr ++ [toByte s.net.source, toByte deviceName.length] ++
  deviceName

/-- IDENTIFY. -/
def State.identifyReq (s : State) (f : Frame) : State :=
  if (frameBody f).length != 0 then s.plain f 0x32 Status.badLength [] else s.plain f 0x32 Status.ok s.identifyBody

/-- R53: at most 50 sessionless requests in a second are answered other than BUSY; of QUOTE, at most 4. -/
def State.mayAnswer (s : State) (opcode : Nat) : Bool :=
  (s.tdp.sessionless.filter fun t => s.now < t + sec).length < 50 &&
  (opcode != 0x30 || (s.tdp.quotes.filter fun t => s.now < t + sec).length < 4)

/-- An answer is counted toward the limits of R53. -/
def State.countAnswer (s : State) (opcode : Nat) : State :=
  let keep (l : List Nat) : List Nat := l.filter fun t => s.now < t + sec
  s.updTdp fun t =>
    { t with sessionless := s.now :: keep t.sessionless
             quotes := if opcode = 0x30 then s.now :: keep t.quotes else keep t.quotes }

/-- A sessionless request (R52, R53). -/
def State.sessionless (s : State) (opcode : Nat) (f : Frame) : State :=
  if !s.mayAnswer opcode then
    s.plain f opcode Status.busy (if opcode = 1 then s.openReqBusy else s.refusalBody opcode (frameBody f) false)
  else
    let s1 := s.countAnswer opcode
    if opcode = 1 then s1.openReq f
    else if opcode = 2 then s1.openSession f
    else if opcode = 0x30 then s1.quoteReq f
    else if opcode = 0x31 then s1.certReq f
    else s1.identifyReq f

/-! ### READ, INFO and READ_SEG -/

/-- What a request does: its status, its response body and the state; none in place of an answer where the answer comes
later (R515). -/
abbrev Answered := Option (Nat × List Byte) × State

/-- READ. -/
def State.readReq (s : State) (b : List Byte) : Answered :=
  let idx := u16At b 0
  let sub := u8At b 2
  let fail (st : Nat) : Answered := (some (st, s.refusalBody 0x10 b true), s)
  if b.length != 4 then fail Status.badLength
  else
    match findObject idx sub with
    | .error st => fail st
    | .ok r =>
      if r.acc == .wo then fail Status.writeOnly
      else if r.ty == Ty.dom then fail Status.typeMismatch
      else
        let v := s.objectData r idx sub
        (some (Status.ok, natLE 2 idx ++ [toByte sub, toByte r.ty.code] ++ natLE 2 v.1.length ++ v.1), v.2)

/-- The value staged for an object in the open session. -/
def State.isStaged (s : State) (key : Nat) : Bool :=
  match s.tdp.session with
  | some x => x.stages.any fun g => g.vals.any fun v => v.1 == key
  | none => false

/-- INFO. -/
def State.infoReq (s : State) (b : List Byte) : Answered :=
  let idx := u16At b 0
  let sub := u8At b 2
  let fail (st : Nat) : Answered := (some (st, s.refusalBody 0x14 b true), s)
  if b.length != 4 then fail Status.badLength
  else
    match findObject idx sub with
    | .error st => fail st
    | .ok r => (some (Status.ok, s.infoBody r idx sub (s.isStaged (256 * idx + sub))), s)

/-- A request on USER_AREA_s goes to the head module as a command, and its answer awaits the RESPONSE (R511, R515). -/
def State.userCommand (s : State) (seg opcode seq cmd : Nat) (args data : List Byte) (offset length : Nat) : State :=
  match s.tdp.session with
  | some x =>
    let u : UserRequest := ⟨x.sid, (s.head seg).nextTag, opcode, seq, data, offset, length⟩
    (s.headCommand seg cmd args).updHead seg fun h => { h with user := h.user ++ [u] }
  | none => s

/-- A firmware slot that is being programmed cannot be read until its image has read back (R144, log 24). -/
def State.slotUnread (s : State) (idx : Nat) : Bool :=
  (idx = 0x1210 || idx = 0x1211) && s.programmingSlot (idx - 0x1210)

/-- READ_SEG (R84, R89 to R91, R910). -/
def State.readSegReq (s : State) (b : List Byte) (seq : Nat) : Answered :=
  let idx := u16At b 0
  let sub := u8At b 2
  let o := u32At b 4
  let n := u16At b 8
  let gen := u32At b 10
  let head := s.refusalBody 0x12 b true
  let fail (st : Nat) : Answered := (some (st, head), s)
  if b.length != 14 then fail Status.badLength
  else
    match findObject idx sub with
    | .error st => fail st
    | .ok r =>
      let h := s.segHead idx sub
      if r.acc == .wo then fail Status.writeOnly
      else if r.ty != Ty.dom then fail Status.typeMismatch
      else if 1024 < n then fail Status.range
      else if s.slotUnread idx then fail Status.state
      else if gen != 0 && gen != h.2 then fail Status.changed
      else if h.1 < o then fail Status.offset
      else if n = 0 then fail Status.empty
      else if 0x8000 ≤ idx then
        let d := s.activeDom (idx - 0x8000)
        (some (Status.ok, head ++ d.read (domFill (idx - 0x8000)) o (min n (d.size - o))), s)
      else if 0x2820 ≤ idx && idx ≤ 0x282f then
        let m := min n (256 - o)
        if (s.head (idx - 0x2820)).link != 3 then fail Status.state
        else if m = 0 then (some (Status.ok, head), s)
        else (none, s.userCommand (idx - 0x2820) 0x12 seq 2 (natLE 2 (256 + o) ++ natLE 2 m) [] o m)
      else (some (Status.ok, head ++ s.domBytes idx o (min n (h.1 - o))), s)

/-! ### WRITE and records -/

/-- A host without control authority is refused a write of a mirrored object, of JOB_CONTROL, and an APPLY of ARM or of
the test page record (R772). -/
def State.authorityRefused (s : State) (key : Nat) : Bool := !s.control && (isMirrored key || key = O.JOB_CONTROL)

/-- A WRITE's answer: the 4-byte layout, and the data of a refusal (R909). -/
def writeAnswer (idx sub st : Nat) (data : List Byte) : Option (Nat × List Byte) :=
  some (st, natLE 2 idx ++ [toByte sub, 0#8] ++ (if st = Status.ok then [] else data))

/-- A field of a record is staged (R77, R82). -/
def Session.stage (x : Session) (idx key v now : Nat) : Session :=
  if x.stages.any (·.index == idx) then
    { x with stages := x.stages.map fun g =>
        if g.index = idx then { g with vals := mapPut (mapErase g.vals key) key v } else g }
  else { x with stages := x.stages ++ [⟨idx, now, [(key, v)]⟩] }

/-- What goes to the partner after an accepted APPLY: the fields, and the action of a record that holds one (R781). -/
def State.forwardRecord (s : State) (idx : Nat) (vals : List (Nat × Nat)) : State :=
  let s1 := s.forwardAll (vals.map (·.1))
  if actionRecord idx then s1.forwardBytes (256 * idx + 255) [1#8] else s1

/-- 1 is written to FFh of a record (R77 to R80, R908): its status and refusal data, and the state after. -/
def State.recordApply (s : State) (idx : Nat) : Reply :=
  let vals := s.staged idx
  if vals.isEmpty then .of Status.empty s
  else
    let report (st : Nat) (t : State) : State := if idx = 0x2003 then t.wr O.SET_STATUS_LAST_RESULT st else t
    match stageFail vals with
    | some sub => ⟨Status.range, [toByte sub, 0#8, 0#8, 0#8], report Status.range (s.dropStage idx)⟩
    | none =>
      let r := s.recordOp idx vals
      let result := report r.status
      if r.status = Status.ok || r.status = Status.empty then
        let s1 := r.state.dropStage idx
        { r with state := if r.status = Status.ok then s1.forwardRecord idx vals else s1 }
      else if r.status = Status.range then { r with state := result (s.dropStage idx) }
      else { r with state := result s }

/-- A write to FFh of a record (R80). The ranges of the staged values come before the state of the block (R49), and PRESEAL.FF
answers no value but LOCKED outside OWNED (R162). -/
def State.applyWrite (s : State) (idx v : Nat) : Reply :=
  if 1 < v then .of Status.range s
  else if idx = 0x1321 && s.lifecycle != 1 then .of Status.locked s
  else if v = 0 then .of Status.ok (s.dropStage idx)
  else
    let r := s.recordApply idx
    if s.authorityRefused (256 * idx + 255) && r.status != Status.range && !(s.staged idx).isEmpty then .of Status.state s
    else r

/-- A value of the right type is written to an object that is no DOM: what the part answers (R49, R71 to R82, R772). -/
def State.valueWrite (s : State) (r : ObjRow) (idx sub v : Nat) : Reply :=
  let key := 256 * idx + sub
  if sub = 0xff && Dict.hasApply idx then s.applyWrite idx v
  else if r.app == .apply && Dict.hasApply idx then
    if s.authorityRefused key then .of Status.state s
    else .of Status.staged (s.updSession fun x => x.stage idx key v s.now)
  else if !valueOk r v then .of Status.range s
  else
    let a := s.objectOp key v
    if s.authorityRefused key && a.status != Status.range then .of Status.state s
    else if a.status = Status.ok && key != O.ACCEPT then
      { a with state := a.state.forwardBytes key (natLE r.ty.size v) }
    else a

/-- WRITE. -/
def State.writeReq (s : State) (b : List Byte) : Answered :=
  let idx := u16At b 0
  let sub := u8At b 2
  let n := u16At b 4
  let data := b.drop 6
  let fail (st : Nat) : Answered := (writeAnswer idx sub st [], s)
  if b.length != 6 + n then fail Status.badLength
  else if 0x8000 ≤ idx then fail Status.readOnly
  else
    match findObject idx sub with
    | .error st => fail st
    | .ok r =>
      if r.acc == .ro then fail Status.readOnly
      else if r.ty == Ty.dom || n != r.ty.size then fail Status.typeMismatch
      else
        let a := s.valueWrite r idx sub (leNat data)
        (writeAnswer idx sub a.status a.data, a.state)

/-! ### WRITE_SEG -/

/-- A WRITE_SEG's answer: the 8-byte layout. -/
def segAnswer (idx sub st received : Nat) : Option (Nat × List Byte) :=
  some (st, natLE 2 idx ++ [toByte sub, 0#8] ++ natLE 4 received)

/-- The block that owns the DOM refuses every segment in its present state (R72, R143, R426, R515, R696, R772). -/
def State.segRefused (s : State) (idx : Nat) : Bool :=
  (isMirrored (256 * idx) && !s.control) || s.domRefused idx ||
  ((idx = 0x1210 || idx = 0x1211) && (s.boot.slot = idx - 0x1210 || s.programmingSlot (idx - 0x1210)))

/-- The session's transfer for an object ends. -/
def Session.endTransfer (x : Session) (idx : Nat) : Session :=
  { x with transfer := x.transfer.filter fun t => t.index != idx }

/-- A transfer is complete: the object is replaced, or the change is refused; the transfer ends (R87). A write of
USER_AREA_s awaits the head module (R515). -/
def State.transferDone (s : State) (idx sub : Nat) (bs : List Byte) (seq : Nat) : Answered :=
  let s1 := s.updSession fun x => { x with transfer := none }
  if 0x2820 ≤ idx && idx ≤ 0x282f then
    let seg := idx - 0x2820
    if bs.length != 256 then (segAnswer idx sub Status.range 0, s1)
    else if (s1.head seg).link != 3 || !s1.graft.owner || !(s1.head seg).claimed then (segAnswer idx sub Status.state 0, s1)
    else (none, s1.userCommand seg 0x13 seq 3 (natLE 2 256 ++ natLE 2 256 ++ bs) bs 0 256)
  else
    let a := s1.domWrite idx bs
    if a.status = Status.ok then
      (segAnswer idx sub Status.ok bs.length, a.state.forwardBytes (256 * idx) bs)
    else (segAnswer idx sub a.status 0, a.state)

/-- WRITE_SEG to a DOM that the host may write (R85 to R89). What the open transfer and the total size ask of the segment comes
before the state of the owning block (R49); a refused FIRST leaves the session's transfer as it stands (log 140). -/
def State.segment (s : State) (idx sub flags o total : Nat) (data : List Byte) (seq : Nat) : Answered :=
  let n := data.length
  let first := bit flags 0
  let last := bit flags 1
  let fail (st : Nat) : Answered := (segAnswer idx sub st (s.received idx), s)
  if 1024 < n then
    if last && o + n = total then (segAnswer idx sub Status.range 0, s.updSession fun x => x.endTransfer idx)
    else fail Status.range
  else if first then
    if last && total = 0 && n = 0 && o = 0 && !admitsZero idx then fail Status.empty
    else if o != 0 || total < n || (last && n != total) then fail Status.offset
    else if last then s.transferDone idx sub data seq
    else if s.segRefused idx then fail Status.state
    else
      (segAnswer idx sub Status.ok n, s.updSession fun x => { x with transfer := some ⟨idx, total, data⟩ })
  else
    match s.tdp.session.bind (·.transfer) with
    | none => fail Status.state
    | some t =>
      if t.index != idx then fail Status.state
      else if o != t.data.length || total != t.total || total < o + n || (last && o + n != total) then fail Status.offset
      else if last then s.transferDone idx sub (t.data ++ data) seq
      else if s.segRefused idx then fail Status.state
      else
        (segAnswer idx sub Status.ok (o + n), s.updSession fun x => { x with transfer := some ⟨idx, total, t.data ++ data⟩ })

/-- WRITE_SEG. -/
def State.writeSegReq (s : State) (b : List Byte) (seq : Nat) : Answered :=
  let idx := u16At b 0
  let sub := u8At b 2
  let data := b.drop 14
  let fail (st : Nat) : Answered := (segAnswer idx sub st (s.received idx), s)
  if b.length < 14 || data.length != u16At b 12 then fail Status.badLength
  else if 0x8000 ≤ idx then fail Status.readOnly
  else
    match findObject idx sub with
    | .error st => fail st
    | .ok r =>
      if r.acc == .ro then fail Status.readOnly
      else if r.ty != Ty.dom then fail Status.typeMismatch
      else s.segment idx sub (u8At b 3) (u32At b 4) (u32At b 8) data seq

/-! ### Requests of a session -/

/-- What a request of the open session does, but CLOSE (R49). -/
def State.request (s : State) (opcode : Nat) (b : List Byte) (seq : Nat) : Answered :=
  if opcode = 0x10 then s.readReq b
  else if opcode = 0x11 then s.writeReq b
  else if opcode = 0x12 then s.readSegReq b seq
  else if opcode = 0x13 then s.writeSegReq b seq
  else if opcode = 0x14 then s.infoReq b
  else if b.length != 0 then (some (Status.badLength, []), s)
  else if opcode = 4 then
    (some (Status.ok, natLE 4 ((s.tdp.session.map fun x => (x.leaseEnd - s.now) / ms).getD 0)), s)
  else (some (Status.ok, []), s)

/-- An answer is kept for repetition: the last eight SEQ (R68). -/
def Session.remember (x : Session) (a : Answer) : Session :=
  { x with cache := (a :: x.cache.filter fun c => c.seq != a.seq).take 8 }

/-- An answer in session x goes out, and is kept while that session is still open. -/
def State.answer (s : State) (x : Session) (opcode seq status : Nat) (body : List Byte) : State :=
  (s.tagged x opcode seq status body).updSession fun y =>
    if y.sid = x.sid then y.remember ⟨opcode, seq, status, body⟩ else y

/-- A request is executed in its turn: the expected SEQ advances, and the answer goes out (R67). -/
def State.execute (s : State) (x : Session) (opcode : Nat) (f : Frame) : State :=
  let s1 := s.updSession fun y => { y with expected := (f.seq + 1) % 65536 }
  let r := s1.request opcode (frameBody f) f.seq
  match r.1 with
  | some (st, body) =>
    let s2 := r.2.answer x opcode f.seq st body
    if opcode = 3 && st = Status.ok then s2.endSession else s2
  | none => r.2

/-- Held requests whose gap has filled are executed (R68). -/
def State.runHeld (s : State) : Nat → State
  | 0 => s
  | fuel + 1 =>
    match s.tdp.session with
    | some x =>
      match x.held.find? fun h => h.frame.seq == x.expected with
      | some h =>
        ((s.updSession fun y => { y with held := y.held.filter fun g => g.frame.seq != h.frame.seq }).execute x h.opcode
          h.frame).runHeld fuel
      | none => s
    | none => s

/-- A request of the open session against the SEQ window (R68). -/
def State.inSequence (s : State) (x : Session) (opcode : Nat) (f : Frame) : State :=
  let d := seqDiff 16 f.seq x.expected
  if d = 0 then (s.execute x opcode f).runHeld 7
  else if 1 ≤ d && d ≤ 7 then
    if x.held.any fun h => h.frame.seq == f.seq then s
    else s.updSession fun y => { y with held := y.held ++ [⟨opcode, f⟩] }
  else
    match (if -8 ≤ d && d ≤ -1 then x.cache.find? fun c => c.seq == f.seq else none) with
    | some c => (s.inc O.CACHED_ANSWERS).tagged x c.opcode c.seq c.status c.body
    | none => (s.inc O.OUT_OF_SEQUENCE).tagged x opcode f.seq Status.outOfSequence (s.refusalBody opcode (frameBody f) true)

/-- NOTICE_ACK (R94): the notice is acknowledged, and the queue moves on. -/
def State.noticeAcked (s : State) (seq : Nat) : State :=
  (s.updSession fun x => { x with sent := x.sent.filter fun m => m.seq != seq }).pumpNotices

/-! ### Frames -/

/-- The opcodes that the host may send. -/
def definedOpcode (o : Nat) : Bool :=
  o = 1 || o = 2 || o = 3 || o = 4 || o = 0x10 || o = 0x11 || o = 0x12 || o = 0x13 || o = 0x14 || o = 0x20 || o = 0x30 ||
  o = 0x31 || o = 0x32

/-- The sessionless opcodes (R52). -/
def isSessionless (o : Nat) : Bool := o = 1 || o = 2 || o = 0x30 || o = 0x31 || o = 0x32

/-- The bytes of a frame that its TAG covers. -/
def frameSigned (f : Frame) (opcode : Nat) : List Byte :=
  natLE 2 f.magic ++ [toByte f.version, toByte opcode] ++ natLE 2 f.seq ++ natLE 2 f.status ++ natLE 4 f.sid ++
  natLE 2 f.length ++ natLE 2 f.flags ++ (frameBody f)

/-- The TAG of a frame is right under a key. -/
def frameTagOk (f : Frame) (opcode : Nat) (key : List Byte) : Bool :=
  f.rest.drop f.length == (hmac256 key (frameSigned f opcode)).take 16

/-- The part has an address and its Ethernet MAC runs: from boot step 10 on, in RUN, PAUSE and STANDBY (R108, R914). -/
def State.online (s : State) : Bool :=
  (s.boot.phase == .applied || s.boot.phase == .ready) && s.power.state < 3 && s.net.addr != 0

/-- A stage that has aged past REC_STAGE_TIMEOUT is discarded, with a notice (R81). -/
def State.stageExpired (s : State) (idx : Nat) : State :=
  match s.tdp.session.bind fun x => x.stages.find? fun g => g.index == idx with
  | some g =>
    if s.due g.since (s.rd O.REC_STAGE_TIMEOUT * ms) then
      (s.dropStage idx).notice 8 2 1 idx 0xff [toByte g.vals.length]
    else s
  | none => s

/-- An entry to RUN that is complete by now, and leases, challenges, lockouts and stages that have run out. -/
def State.hostTimers (s : State) : State :=
  let s1 := (List.range 4).foldl State.deliverDone s.checkRun.leaseExpired.challengeExpired.authLockExpired
  match s1.tdp.session with
  | some x => (x.stages.map (·.index)).foldl State.stageExpired s1
  | none => s1

/-- A datagram is discarded without an answer (R47). -/
def State.discarded (s : State) : State := s.inc O.FRAMES_DISCARDED

/-- A frame that passed the checks of R47 (R49, R51, R61, R68); mine: it is of the open session x. -/
def State.acceptFrame (s : State) (x? : Option Session) (opcode : Nat) (f : Frame) : State :=
  let respond (st : Nat) : State :=
    match x? with
    | some x => s.tagged x opcode f.seq st (s.refusalBody opcode (frameBody f) true)
    | none => s.plain f opcode st (s.refusalBody opcode (frameBody f) false)
  if opcode = 0x20 && bit f.flags 0 then
    match x? with
    | some _ => s.noticeAcked f.seq
    | none => respond Status.noSession
  else if !definedOpcode opcode || opcode = 0x20 || bit f.flags 0 then respond Status.badOpcode
  else if isSessionless opcode then s.sessionless opcode f
  else
    match x? with
    | some x => s.inSequence x opcode f
    | none => respond Status.noSession

/-- R48: a frame of another VERSION. -/
def State.otherVersion (s : State) (opcode : Nat) (f : Frame) : State :=
  if s.mayAnswer 0 then (s.countAnswer 0).plain f opcode Status.badVersion [] else s.plain f opcode Status.busy []

/-- A datagram of VERSION 01h (R47, R61). A TAG is checked under the key of the open session, so that a frame from that
session's host with another SESSION_ID is answered NO_SESSION (log 141). -/
def State.thisVersion (s : State) (opcode : Nat) (f : Frame) : State :=
  if f.rest.length != f.length + (if f.sid = 0 then 0 else 16) || (f.sid != 0 && isSessionless opcode) then s.discarded
  else if f.sid = 0 then s.acceptFrame none opcode f
  else
    match s.tdp.session with
    | none => s.acceptFrame none opcode f
    | some x =>
      if x.addr != f.addr || x.port != f.port then s.discarded
      else if x.sid != f.sid then s.acceptFrame none opcode f
      else if !frameTagOk f opcode x.key then (s.inc O.TAG_FAILURES).discarded
      else
        let y := { x with leaseEnd := s.now + s.rd O.LEASE_TIME * ms }
        (s.updSession fun _ => y).acceptFrame (some y) opcode f

/-- A datagram on UDP port 29170. -/
def State.hostFrame (s : State) (opcode : Nat) (f : Frame) : State :=
  if !s.online then s
  else
    let s1 := s.hostTimers.inc O.FRAMES_RX
    if f.magic != 0x4454 then s1.discarded
    else if f.version != 1 then s1.otherVersion opcode f
    else s1.thisVersion opcode f

/-- The frame of a WRITE of data to one object. -/
def writeFrame (h : Hdr) (idx sub : Nat) (data : List Byte) : Frame :=
  let body := natLE 2 idx ++ [toByte sub, 0#8] ++ natLE 2 data.length ++ data
  { addr := h.addr, port := h.port, magic := 0x4454, version := 1, seq := h.seq, status := 0, sid := h.sid
    length := body.length, flags := 0, rest := body ++ if h.sid = 0 then [] else h.tag }

/-- A WRITE of the host to the object with this key. -/
def State.hostWrite (s : State) (h : Hdr) (key : Nat) (data : List Byte) : State :=
  s.hostFrame 0x11 (writeFrame h (key / 256) (key % 256) data)

/-! ### Notices that wait (R94) -/

/-- A notice is dropped: what it carried and itself are charged to the next (R95). -/
def State.noticeDropped (s : State) (m : SentNotice) : State :=
  ((s.updSession fun x =>
    { x with sent := x.sent.filter fun k => k.seq != m.seq, charged := x.charged + m.lost + 1 }).inc
    O.NOTICES_LOST).pumpNotices

/-- NOTICE_RESEND. -/
def State.noticeResend (s : State) (seq : Nat) : State :=
  match s.tdp.session with
  | some x =>
    match x.sent.find? fun m => m.seq == seq with
    | some m =>
      if !s.due m.last (100 * ms) then s
      else if 10 ≤ m.sendings then s.noticeDropped m
      else
        let m' := { m with sendings := m.sendings + 1, last := s.now }
        (s.updSession fun x => { x with sent := x.sent.map fun k => if k.seq = seq then m' else k }).sendNotice x m'
    | none => s
  | none => s

/-! ### The deferred answers of USER_AREA_s (R515) -/

/-- HEAD_RESPONSE: a request of the host that waits for this command is answered. -/
def State.headResponse (s : State) (seg cmd tag status : Nat) (data : List Byte) : State :=
  let s1 := s.headAnswered seg cmd tag status
  match (s.head seg).user.find? fun u => u.tag == tag && cmd == (if u.opcode = 0x13 then 3 else 2) with
  | none => s1
  | some u =>
    let s2 := s1.updHead seg fun h => { h with user := h.user.filter fun v => v.tag != tag }
    let idx := 0x2820 + seg
    match s2.tdp.session with
    | none => s2
    | some x =>
      if x.sid != u.sid then s2
      else if u.opcode = 0x13 then
        if status = 0 then
          let a := (segAnswer idx 0 Status.ok 256).getD (0, [])
          (s2.domReplace idx u.data).answer x 0x13 u.seq a.1 a.2
        else
          let a := (segAnswer idx 0 Status.range 0).getD (0, [])
          s2.answer x 0x13 u.seq a.1 a.2
      else
        let h := s2.segHead idx 0
        let head := natLE 2 idx ++ [0#8, 0#8] ++ natLE 4 u.offset ++ natLE 4 h.1 ++ natLE 4 h.2
        if status = 0 then s2.answer x 0x12 u.seq Status.ok (head ++ data.take u.length)
        else s2.answer x 0x12 u.seq Status.range head

end Sys2Proof.Machine
end

