-- ==== Sys2Proof/Machine/Network.lean ====
section
/-! DEFINITION. How the part comes to its IPv4 address (R42 to R45, R914). -/

namespace Sys2Proof.Machine

/-- The value of a boot object in effect since the reset (R73). -/
def State.effective (s : State) (key : Nat) : Nat := mapGet s.boot.effect key (Dict.dflt key)

def State.updNet (s : State) (f : Net → Net) : State := { s with net := f s.net }

/-- The part holds an address. A change from another one ends the session, and the challenge goes (*Session states*). -/
def State.setAddress (s : State) (addr mask gateway source : Nat) : State :=
  let s1 := if s.net.addr = 0 || s.net.addr = addr then s else s.dropTdp
  s1.updNet fun n =>
    { n with addr := addr, mask := mask, gateway := gateway, source := source, probing := false, conflicts := 0, since := s.now }

/-- A DHCPv4 discovery goes out (R42, R45). -/
def State.discover (s : State) : State := s.emit (.dhcpDiscover s.fuses.mac)

/-- Address acquisition begins from now on: discovery in modes 1 and 2 (R42, R43). -/
def State.acquire (s : State) : State :=
  (s.updNet fun n =>
    { n with linkLocalS := s.fuses.serial % 2 ^ 32, probing := false, conflicts := 0, since := s.now }).discover

/-- NET_LINK_UP (R43, R914). An address that is already held stays in use while acquisition runs (log 136). -/
def State.netUp (s : State) (speed : Nat) : State :=
  if !s.awake || !(speed = 10 || speed = 100 || speed = 1000) then s
  else
    let s1 := s.updNet fun n => { n with linkUp := true, speed := speed }
    if s.effective O.NET_MODE = 0 then s1 else s1.acquire

/-- DHCP_LEASE_OBTAINED (R42, R45). A lease that runs out keeps its address, with 0 s left (log 136). -/
def State.dhcpLease (s : State) (addr mask gateway seconds : Nat) : State :=
  if !s.awake || s.effective O.NET_MODE = 0 || !s.net.linkUp || addr = 0 then s
  else (s.setAddress addr mask gateway 1).updNet fun n => { n with leaseEnd := s.now + seconds * sec }

/-- The link-local address of S (R43). -/
def linkLocalAddress (n : Nat) : Nat := 169 * 2 ^ 24 + 254 * 2 ^ 16 + (1 + n % 254) * 2 ^ 8 + n / 254 % 256

/-- The probes of the link-local address of S go out, from now on (R44). -/
def State.probe (s : State) : State :=
  (s.updNet fun n => { n with probing := true, since := s.now }).emit (.arp 0 (linkLocalAddress s.net.linkLocalS))

/-- DHCP_TIMEOUT (R43): probing of the link-local address begins, when no address is held (log 136). -/
def State.dhcpTimedOut (s : State) : State :=
  if s.awake && s.effective O.NET_MODE = 2 && s.net.linkUp && s.net.addr = 0 && !s.net.probing && s.net.conflicts = 0 &&
      s.due s.net.since (s.effective O.DHCP_TIMEOUT * sec) then s.probe
  else s

/-- A probed or used link-local address conflicts: 1 is added to S, and the next attempt begins, up to 16 (R44). -/
def State.nextLocal (s : State) : State :=
  let s1 := s.updNet fun n =>
    { n with linkLocalS := (n.linkLocalS + 1) % 2 ^ 32, conflicts := n.conflicts + 1, probing := false, since := s.now }
  if s1.net.conflicts < 16 then s1.probe else s1

/-- LINK_LOCAL_CONFLICT (R44). A conflict with a link-local address in use gives it up and probes the next (log 137). -/
def State.localConflict (s : State) : State :=
  if !s.awake then s
  else if s.net.probing then s.nextLocal
  else if s.net.source = 2 then (s.setAddress 0 0 0 3).nextLocal
  else s

/-- LINK_LOCAL_RETRY (R44): address acquisition starts again 60 s after the last of 16 conflicts. -/
def State.localRetry (s : State) : State :=
  if s.awake && s.net.conflicts = 16 && s.due s.net.since (60 * sec) then s.acquire else s

/-- LINK_LOCAL_TAKEN (R44): probing takes at least 4 s (log 137); the address is announced. -/
def State.localTaken (s : State) : State :=
  if s.awake && s.net.probing && s.due s.net.since (4 * sec) then
    let a := linkLocalAddress s.net.linkLocalS
    (s.setAddress a 0xffff0000 0 2).emit (.arp 1 a)
  else s

/-- DHCP_REDISCOVERY (R45): discovery is repeated every 60 s. -/
def State.dhcpAgain (s : State) : State :=
  if s.awake && s.effective O.NET_MODE = 2 && s.net.source = 2 && s.due s.net.since (60 * sec) then
    (s.updNet fun n => { n with since := s.now }).discover
  else s

end Sys2Proof.Machine
end

