-- ==== Sys2Proof/Machine/Commands.lean ====
section
/-! DEFINITION. How a command comes about, and the small operations that only one command has. -/

namespace Sys2Proof.Machine

/-- The state after the block has done op, and the actions that this called for have been taken. The queue is no part of
it. -/
def State.after (s : State) (op : State → State) : State := { (op s).finish with pending := s.pending, now := s.now }

/-- A command comes about at time t: the present moves there (log 1), and the block does op. -/
def State.does (s : State) (t : Nat) (op : State → State) : Host.Outcome State Fault Refusal := .next ((s.at t).after op)

/-- What only a part that is past boot step 10, and not in SLEEP or OFF, does. -/
def State.whenAwake (s : State) (op : State → State) : State := if s.awake then op s else s

/-! ### Page link -/

/-- A PAGE_QUERY packet: its credits are free, and an ACK answers it (R281). -/
def State.takeQuery (s : State) (p : TplPacket) : State := (s.unstored false p).answerQuery p.job p.page

/-- A packet that R246 to R248 let through, by its TYPE. -/
def State.takeAny (p : TplPacket) (s : State) : State :=
  match p.ty with
  | 1 => s.takeBackground false p
  | 2 => s.takeDescriptor false p
  | 3 => s.takeObject false p
  | 5 => s.takeQuery p
  | _ => s

/-- A packet of the page server arrives. -/
def State.tplPacket (s : State) (p : TplPacket) : State := s.receive p (State.takeAny p)

/-- A packet of the partner that takes no credits came in its turn (R250, R255). -/
def State.answerGot (s : State) : State :=
  { s with mirror := { s.mirror with expect := (s.mirror.expect + 1) % 2 ^ 32 } }

def State.mirrorAckRx (s : State) (job page : Nat) : State := if s.mirrorHears then s.answerGot.mirrorAck job page else s
def State.mirrorCreditRx (s : State) (limit : Nat) : State := if s.mirrorHears then s.answerGot.mirrorCredit limit else s
def State.mirrorResyncRx (s : State) (seq : Nat) : State := if s.mirrorHears then s.answerGot.mirrorResync seq else s

/-! ### Printing -/

/-- FIRE_COUNT_UPDATE, a task of the Understorey. -/
def State.fireCounting (s : State) : State := s.whenAwake fun s => s.addCounts.taskDone 4

/-- FIRE_CROSSING: the comparator sees the oldest position that it has not seen, 37.5 ns after the crossing or later
(R432, *Fixed-latency crossings*). -/
def State.fireCrossing (s : State) (w : Nat) : State :=
  match s.fire.crossings with
  | (w0, speed, moment) :: rest =>
    if w0 = w && s.due moment 37500 then ({ s with fire := { s.fire with crossings := rest } } : State).crossing w speed else s
  | [] => s

/-- Input i accepts its active level, or the other one (R454). -/
def State.interlockInput (s : State) (i : Nat) (active : Bool) : State :=
  if 4 ≤ i then s else s.whenAwake fun s => s.interlockLevel i (s.rdB (O.INTERLOCK_ACTIVE_LEVEL i) == active)

/-- A head comes up; maps that it changes go to the partner (R781). -/
def State.headBound (s : State) (seg : Nat) (ident : List Byte) : State :=
  if 16 ≤ seg then s else (s.headLinkUp seg ident).forwardChanged s

/-- A measurement of a test page is ready; what it makes the part accept goes to the partner (R368, R781). -/
def State.testMeasured (s : State) (m : TestMeasurement) : State := (s.testResult m).forwardChanged s

/-! ### Background work -/

/-- EYE_MEASURE, a task of the Understorey. -/
def State.eyeMonitor (s : State) (n height width : Nat) : State :=
  if 24 ≤ n then s else s.whenAwake fun s => (s.eyeMeasure n height width).taskDone 2

def State.blockEvent (s : State) (block code data : Nat) : State := s.whenAwake fun s => s.event block code (data % 2 ^ 32)

/-- SEVERE_TEST over every block (R746). -/
def State.severeTestAll (s : State) : State := s.whenAwake fun s => (List.range 0x42).foldl State.severeTestBlock s

def State.registerFaultIn (s : State) (block : Nat) : State :=
  if 0x42 ≤ block then s else s.whenAwake fun s => s.registerFault block

def State.dieRead (s : State) (codes : List Nat) : State := s.whenAwake fun s => s.thermalRead codes
def State.sramScrubbed (s : State) (corrected bad : Nat) : State := s.whenAwake fun s => s.sramScrub corrected bad
def State.telemetryDue (s : State) (sense : List Nat) : State := s.whenAwake fun s => s.telemetrySample sense
def State.logDue (s : State) : State := s.whenAwake State.logChunk
def State.lateTask (s : State) (task : Nat) : State := s.whenAwake fun s => s.taskLate task
def State.calTempRead (s : State) (codes : List Nat) : State := s.whenAwake fun s => s.calTemp codes

/-! ### Debug, the partner's records, the displays -/

/-- DEBUG_CLOSE: 0 to DEBUG_AUTH at the TAP, or v to DEBUG_STATE.CLOSE (R195). -/
def State.debugCloseBy (s : State) (viaHost : Option Hdr) (v : Nat) : State :=
  match viaHost with
  | some h => s.hostWrite h O.DEBUG_CLOSE [toByte v]
  | none => if s.debugReachable then s.debugClosed else s

/-- POSITION_RECORD; its number only orders it, and the bond keeps the order (R255). -/
def State.positionRecordRx (s : State) (count : Int) (pos highWater _seq : Nat) : State := s.positionRecord count pos highWater

/-- DISP_FRAME_START: preview frames whose writing is complete by now count (R862). -/
def State.frameShown (s : State) (x : Nat) : State := ((List.range 4).foldl State.deliverDone s).dispFrameStart x

end Sys2Proof.Machine
end

