-- ==== Sys2Proof/Machine/Addressing.lean ====
section
/-! DEFINITION. The meanings of the commands of how the part comes to its address (spec/02): one for each row of the opcode table. -/

namespace Sys2Proof.Machine

/-- DHCP_LEASE_OBTAINED (R45). -/
def execDhcpLeaseObtained (t : Nat) (addr : Nat) (mask : Nat) (gateway : Nat) (seconds : Nat) (s : State) : Host.Outcome State Fault Refusal :=
  s.does t fun s => s.dhcpLease addr mask gateway seconds

/-- DHCP_TIMEOUT (R43). -/
def execDhcpTimeout (t : Nat) (s : State) : Host.Outcome State Fault Refusal :=
  s.does t fun s => s.dhcpTimedOut

/-- LINK_LOCAL_CONFLICT (R44). -/
def execLinkLocalConflict (t : Nat) (s : State) : Host.Outcome State Fault Refusal :=
  s.does t fun s => s.localConflict

/-- LINK_LOCAL_RETRY (R44). -/
def execLinkLocalRetry (t : Nat) (s : State) : Host.Outcome State Fault Refusal :=
  s.does t fun s => s.localRetry

/-- DHCP_REDISCOVERY (R45). -/
def execDhcpRediscovery (t : Nat) (s : State) : Host.Outcome State Fault Refusal :=
  s.does t fun s => s.dhcpAgain

/-- NET_LINK_UP (R43). -/
def execNetLinkUp (t : Nat) (speed : Nat) (s : State) : Host.Outcome State Fault Refusal :=
  s.does t fun s => s.netUp speed

/-- LINK_LOCAL_TAKEN (R44). -/
def execLinkLocalTaken (t : Nat) (s : State) : Host.Outcome State Fault Refusal :=
  s.does t fun s => s.localTaken

end Sys2Proof.Machine
end

