-- ==== Sys2Proof/Machine/Analog.lean ====
section
/-! DEFINITION. The meanings of the commands of calibration (spec/21): one for each row of the opcode table. -/

namespace Sys2Proof.Machine

/-- CAL_START (R852). -/
def execCalStart (t : Nat) (h : Hdr) (v : Nat) (s : State) : Host.Outcome State Fault Refusal :=
  s.does t fun s => s.hostWrite h O.CAL_START [toByte v]

/-- CAL_TEMP_TRIGGER (R850). -/
def execCalTempTrigger (t : Nat) (codes : List Nat) (s : State) : Host.Outcome State Fault Refusal :=
  s.does t fun s => s.calTempRead codes

/-- CAL_PASS_DONE (R844). -/
def execCalPassDone (t : Nat) (r : CalPass) (s : State) : Host.Outcome State Fault Refusal :=
  s.does t fun s => s.calPassDone r

/-- HOLDOFF_END (R851). -/
def execHoldoffEnd (t : Nat) (s : State) : Host.Outcome State Fault Refusal :=
  s.does t fun s => s.holdoffEnd

/-- CAL_SLEW (R847). -/
def execCalSlew (t : Nat) (s : State) : Host.Outcome State Fault Refusal :=
  s.does t fun s => s.calSlew

/-- STROBE_TRIM_WRITE (R835). -/
def execStrobeTrimWrite (t : Nat) (h : Hdr) (data : List Byte) (s : State) : Host.Outcome State Fault Refusal :=
  s.does t fun s => s.hostWrite h O.STROBE_TRIM data

end Sys2Proof.Machine
end

