-- ==== Sys2Proof/Machine/Axes.lean ====
section
/-! DEFINITION. The meanings of the commands of the bar axes (spec/20): one for each row of the opcode table. -/

namespace Sys2Proof.Machine

/-- RAMP_TICK (R805). -/
def execRampTick (t : Nat) (a : Nat) (s : State) : Host.Outcome State Fault Refusal :=
  s.does t fun s => s.rampTick a

/-- AXIS_CONFIG_APPLY (R829). -/
def execAxisConfigApply (t : Nat) (h : Hdr) (a : Nat) (v : Nat) (s : State) : Host.Outcome State Fault Refusal :=
  s.does t fun s => s.hostWrite h (0x3700ff + 256 * (a % 4)) [toByte v]

/-- RAMP_APPLY (R807). -/
def execRampApply (t : Nat) (h : Hdr) (a : Nat) (v : Nat) (s : State) : Host.Outcome State Fault Refusal :=
  s.does t fun s => s.hostWrite h (0x3710ff + 256 * (a % 4)) [toByte v]

/-- MOVE_APPLY (R809). -/
def execMoveApply (t : Nat) (h : Hdr) (a : Nat) (v : Nat) (s : State) : Host.Outcome State Fault Refusal :=
  s.does t fun s => s.hostWrite h (0x3720ff + 256 * (a % 4)) [toByte v]

/-- MOVE_REPLAN (R808). -/
def execMoveReplan (t : Nat) (h : Hdr) (v : Nat) (s : State) : Host.Outcome State Fault Refusal :=
  s.does t fun s => s.hostWrite h O.MOVE_REPLAN [toByte v]

/-- MOVE_STOP (R825). -/
def execMoveStop (t : Nat) (h : Hdr) (v : Nat) (s : State) : Host.Outcome State Fault Refusal :=
  s.does t fun s => s.hostWrite h O.MOVE_STOP [toByte v]

/-- HOME (R820). -/
def execHome (t : Nat) (h : Hdr) (v : Nat) (s : State) : Host.Outcome State Fault Refusal :=
  s.does t fun s => s.hostWrite h O.HOME [toByte v]

/-- HOME_CONFIG_APPLY (R830). -/
def execHomeConfigApply (t : Nat) (h : Hdr) (a : Nat) (v : Nat) (s : State) : Host.Outcome State Fault Refusal :=
  s.does t fun s => s.hostWrite h (0x3730ff + 256 * (a % 4)) [toByte v]

/-- LEVEL_APPLY (R830). -/
def execLevelApply (t : Nat) (h : Hdr) (v : Nat) (s : State) : Host.Outcome State Fault Refusal :=
  s.does t fun s => s.hostWrite h 0x3750ff [toByte v]

/-- HOME_EDGE (R820). -/
def execHomeEdge (t : Nat) (a : Nat) (s : State) : Host.Outcome State Fault Refusal :=
  s.does t fun s => s.homeEdge a

/-- OVERCURRENT (R818). -/
def execOvercurrent (t : Nat) (a : Nat) (s : State) : Host.Outcome State Fault Refusal :=
  s.does t fun s => s.overcurrent a

/-- DRIVE_SATURATED (R817). -/
def execDriveSaturated (t : Nat) (a : Nat) (s : State) : Host.Outcome State Fault Refusal :=
  s.does t fun s => s.saturated a

/-- HOLD_DELAY (R819). -/
def execHoldDelay (t : Nat) (a : Nat) (s : State) : Host.Outcome State Fault Refusal :=
  s.does t fun s => s.holdDelay a

/-- REVERSE_DWELL (R810). -/
def execReverseDwell (t : Nat) (a : Nat) (s : State) : Host.Outcome State Fault Refusal :=
  s.does t fun s => s.reverseDwell a

/-- HOME_SWITCH_FOUND (R820). -/
def execHomeSwitchFound (t : Nat) (a : Nat) (s : State) : Host.Outcome State Fault Refusal :=
  s.does t fun s => s.homeFound a

end Sys2Proof.Machine
end

