-- ==== Sys2Proof/Machine/Cameras.lean ====
section
/-! DEFINITION. The meanings of the commands of the camera pipelines and inspection (spec/13, spec/14): one for each row of the opcode table. -/

namespace Sys2Proof.Machine

/-- CAM_PORT_APPLY (R561). -/
def execCamPortApply (t : Nat) (h : Hdr) (k : Nat) (v : Nat) (s : State) : Host.Outcome State Fault Refusal :=
  s.does t fun s => s.hostWrite h (0x3004ff + 256 * (k % 4)) [toByte v]

/-- CAM_TRIGGER_APPLY (R563). -/
def execCamTriggerApply (t : Nat) (h : Hdr) (k : Nat) (v : Nat) (s : State) : Host.Outcome State Fault Refusal :=
  s.does t fun s => s.hostWrite h (0x3008ff + 256 * (k % 4)) [toByte v]

/-- CAM_LIVE_APPLY (R573). -/
def execCamLiveApply (t : Nat) (h : Hdr) (k : Nat) (v : Nat) (s : State) : Host.Outcome State Fault Refusal :=
  s.does t fun s => s.hostWrite h (0x3014ff + 256 * (k % 4)) [toByte v]

/-- SETTINGS_SCRIPT_DONE (R571). -/
def execSettingsScriptDone (t : Nat) (k : Nat) (ok : Bool) (s : State) : Host.Outcome State Fault Refusal :=
  s.does t fun s => s.settingsDone k ok

/-- FRAME_START (R564). -/
def execFrameStart (t : Nat) (k : Nat) (s : State) : Host.Outcome State Fault Refusal :=
  s.does t fun s => s.frameStart k

/-- FRAME_END (R578). -/
def execFrameEnd (t : Nat) (k : Nat) (s : State) : Host.Outcome State Fault Refusal :=
  s.does t fun s => s.frameEnd k

/-- CSI_PACKET (R558). -/
def execCsiPacket (t : Nat) (k : Nat) (p : CsiPacket) (s : State) : Host.Outcome State Fault Refusal :=
  s.does t fun s => s.csiPacket k p

/-- TRIGGER_TIMEOUT (R564). -/
def execTriggerTimeout (t : Nat) (k : Nat) (s : State) : Host.Outcome State Fault Refusal :=
  s.does t fun s => s.triggerTimeout k

/-- SNAPSHOT (R590). -/
def execSnapshot (t : Nat) (h : Hdr) (v : Nat) (s : State) : Host.Outcome State Fault Refusal :=
  s.does t fun s => s.hostWrite h O.SNAPSHOT (natLE 2 v)

/-- FRAME_COMPARE (R595). -/
def execFrameCompare (t : Nat) (k : Nat) (s : State) : Host.Outcome State Fault Refusal :=
  s.does t fun s => s.frameCompare k

/-- REFERENCE_LATE (R599). -/
def execReferenceLate (t : Nat) (k : Nat) (s : State) : Host.Outcome State Fault Refusal :=
  s.does t fun s => s.referenceLate k

/-- FINDINGS_COMMIT (R627). -/
def execFindingsCommit (t : Nat) (job : Nat) (page : Nat) (s : State) : Host.Outcome State Fault Refusal :=
  s.does t fun s => s.findingsCommit job page

/-- CAM_MAP_APPLY (R601). -/
def execCamMapApply (t : Nat) (h : Hdr) (k : Nat) (v : Nat) (s : State) : Host.Outcome State Fault Refusal :=
  s.does t fun s => s.hostWrite h (0x3101ff + 256 * (k % 4)) [toByte v]

/-- CCI_SCRIPT_DONE (R562). -/
def execCciScriptDone (t : Nat) (k : Nat) (script : Nat) (ok : Bool) (s : State) : Host.Outcome State Fault Refusal :=
  s.does t fun s => s.cciDone k script ok

end Sys2Proof.Machine
end

