-- ==== Sys2Proof/Machine/FaultUnit.lean ====
section
/-! DEFINITION. The meanings of the commands of fault records, safe state and background work (spec/18): one for each row of the opcode table. -/

namespace Sys2Proof.Machine

/-- BLOCK_EVENT (R738). -/
def execBlockEvent (t : Nat) (block : Nat) (code : Nat) (data : Nat) (s : State) : Host.Outcome State Fault Refusal :=
  s.does t fun s => s.blockEvent block code data

/-- SEVERE_TEST (R746). -/
def execSevereTest (t : Nat) (s : State) : Host.Outcome State Fault Refusal :=
  s.does t fun s => s.severeTestAll

/-- FAULT_CLEAR (R740). -/
def execFaultClear (t : Nat) (h : Hdr) (block : Nat) (v : Nat) (s : State) : Host.Outcome State Fault Refusal :=
  s.does t fun s => s.hostWrite h (0x150009 + 256 * (block % 256)) [toByte v]

/-- REG_FAULT (R750). -/
def execRegFault (t : Nat) (block : Nat) (s : State) : Host.Outcome State Fault Refusal :=
  s.does t fun s => s.registerFaultIn block

/-- ENTER (R766). -/
def execEnter (t : Nat) (h : Hdr) (v : Nat) (s : State) : Host.Outcome State Fault Refusal :=
  s.does t fun s => s.hostWrite h O.SAFE_ENTER [toByte v]

/-- SAFE_CLEAR (R755). -/
def execSafeClear (t : Nat) (h : Hdr) (v : Nat) (s : State) : Host.Outcome State Fault Refusal :=
  s.does t fun s => s.hostWrite h O.SAFE_CLEAR [toByte v]

/-- THERMAL_READ (R886). -/
def execThermalRead (t : Nat) (codes : List Nat) (s : State) : Host.Outcome State Fault Refusal :=
  s.does t fun s => s.dieRead codes

/-- SRAM_SCRUB (R759). -/
def execSramScrub (t : Nat) (corrected : Nat) (uncorrectable : Nat) (s : State) : Host.Outcome State Fault Refusal :=
  s.does t fun s => s.sramScrubbed corrected uncorrectable

/-- TELEMETRY_SAMPLE (R760). -/
def execTelemetrySample (t : Nat) (sense : List Nat) (s : State) : Host.Outcome State Fault Refusal :=
  s.does t fun s => s.telemetryDue sense

/-- LOG_CHUNK (R761). -/
def execLogChunk (t : Nat) (s : State) : Host.Outcome State Fault Refusal :=
  s.does t fun s => s.logDue

/-- TASK_LATE (R758). -/
def execTaskLate (t : Nat) (task : Nat) (s : State) : Host.Outcome State Fault Refusal :=
  s.does t fun s => s.lateTask task

end Sys2Proof.Machine
end

