-- ==== Sys2Proof/Machine/GraftPair.lean ====
section
/-! DEFINITION. The meanings of the commands of the Graft pair (spec/19): one for each row of the opcode table. -/

namespace Sys2Proof.Machine

/-- YIELD_IN_CHANGE (R768). -/
def execYieldInChange (t : Nat) (yielding : Bool) (s : State) : Host.Outcome State Fault Refusal :=
  s.does t fun s => s.yieldInChange yielding

/-- GRAFT_ROLE_CHANGE (R770). -/
def execGraftRoleChange (t : Nat) (role : Nat) (s : State) : Host.Outcome State Fault Refusal :=
  s.does t fun s => s.roleChange role

/-- GRAFT_HB_TOGGLE (R769). -/
def execGraftHbToggle (t : Nat) (s : State) : Host.Outcome State Fault Refusal :=
  s.does t fun s => s.heartbeatToggle

/-- HELLO (R778). -/
def execHello (t : Nat) (m : HelloMsg) (s : State) : Host.Outcome State Fault Refusal :=
  s.does t fun s => s.takeHello m

/-- GRAFT_QUOTE (R778). -/
def execGraftQuote (t : Nat) (q : QuoteMsg) (s : State) : Host.Outcome State Fault Refusal :=
  s.does t fun s => s.takeQuote q

/-- FORM_REFUSED (R779). -/
def execFormRefused (t : Nat) (s : State) : Host.Outcome State Fault Refusal :=
  s.does t fun s => s.formRefused

/-- STATE_PACKET (R781). -/
def execStatePacket (t : Nat) (index : Nat) (sub : Nat) (ty : Nat) (data : List Byte) (s : State) : Host.Outcome State Fault Refusal :=
  s.does t fun s => s.takeState index sub ty data

/-- POSITION_SEND (R783). -/
def execPositionSend (t : Nat) (s : State) : Host.Outcome State Fault Refusal :=
  s.does t fun s => s.positionSend

/-- POSITION_RECORD (R783). -/
def execPositionRecord (t : Nat) (count : Int) (pos : Nat) (highWater : Nat) (seq : Nat) (s : State) : Host.Outcome State Fault Refusal :=
  s.does t fun s => s.positionRecordRx count pos highWater seq

/-- SYNC_MARK (R784). -/
def execSyncMark (t : Nat) (pos : Nat) (s : State) : Host.Outcome State Fault Refusal :=
  s.does t fun s => s.syncMark pos

/-- GRAFT_REPORT (R796). -/
def execGraftReport (t : Nat) (r : List Byte) (s : State) : Host.Outcome State Fault Refusal :=
  s.does t fun s => s.graftReport r

/-- MIRROR_HOLD (R786). -/
def execMirrorHold (t : Nat) (s : State) : Host.Outcome State Fault Refusal :=
  s.does t fun s => s.mirrorHold

end Sys2Proof.Machine
end

