-- ==== Sys2Proof/Machine/HeadLink.lean ====
section
/-! DEFINITION. The meanings of the commands of the head modules (spec/11): one for each row of the opcode table. -/

namespace Sys2Proof.Machine

/-- HEAD_LINK_UP (R512). -/
def execHeadLinkUp (t : Nat) (seg : Nat) (ident : List Byte) (s : State) : Host.Outcome State Fault Refusal :=
  s.does t fun s => s.headBound seg ident

/-- HEAD_STATUS (R499). -/
def execHeadStatus (t : Nat) (seg : Nat) (st : HeadReport) (s : State) : Host.Outcome State Fault Refusal :=
  s.does t fun s => s.headStatus seg st

/-- HEAD_NAK (R507). -/
def execHeadNak (t : Nat) (seg : Nat) (first : Nat) (count : Nat) (s : State) : Host.Outcome State Fault Refusal :=
  s.does t fun s => s.headNak seg first count

/-- HEAD_RESPONSE (R487). -/
def execHeadResponse (t : Nat) (seg : Nat) (cmd : Nat) (tag : Nat) (status : Nat) (data : List Byte) (s : State) : Host.Outcome State Fault Refusal :=
  s.does t fun s => s.headResponse seg cmd tag status data

/-- HEAD_EVENT (R503). -/
def execHeadEvent (t : Nat) (seg : Nat) (seq : Nat) (code : Nat) (row : Nat) (pos : Nat) (data : Nat) (s : State) : Host.Outcome State Fault Refusal :=
  s.does t fun s => s.headEvent seg seq code row pos data

/-- COMMAND_RESEND (R488). -/
def execCommandResend (t : Nat) (seg : Nat) (s : State) : Host.Outcome State Fault Refusal :=
  s.does t fun s => s.commandResend seg

/-- HEAD_RESET (R517). -/
def execHeadReset (t : Nat) (h : Hdr) (v : Nat) (s : State) : Host.Outcome State Fault Refusal :=
  s.does t fun s => s.hostWrite h O.HEAD_RESET (natLE 2 v)

end Sys2Proof.Machine
end

