-- ==== Sys2Proof/Machine/JobSets.lean ====
section
/-! DEFINITION. The meanings of the commands of the job sets and the moving boundary (spec/05): one for each row of the opcode table. -/

namespace Sys2Proof.Machine

/-- COMMIT (R209). -/
def execCommit (t : Nat) (h : Hdr) (s : State) : Host.Outcome State Fault Refusal :=
  s.does t fun s => s.hostWrite h O.JOB_CONTROL [1#8]

/-- PLAN_DONE (R218). -/
def execPlanDone (t : Nat) (s : State) : Host.Outcome State Fault Refusal :=
  s.does t fun s => s.planDone

/-- CANCEL (R237). -/
def execCancel (t : Nat) (h : Hdr) (s : State) : Host.Outcome State Fault Refusal :=
  s.does t fun s => s.hostWrite h O.JOB_CONTROL [2#8]

/-- REOPEN (R209). -/
def execReopen (t : Nat) (h : Hdr) (s : State) : Host.Outcome State Fault Refusal :=
  s.does t fun s => s.hostWrite h O.JOB_CONTROL [3#8]

/-- DISCARD (R209). -/
def execDiscard (t : Nat) (h : Hdr) (s : State) : Host.Outcome State Fault Refusal :=
  s.does t fun s => s.hostWrite h O.JOB_CONTROL [4#8]

/-- ARM_APPLY (R221). -/
def execArmApply (t : Nat) (h : Hdr) (v : Nat) (s : State) : Host.Outcome State Fault Refusal :=
  s.does t fun s => s.hostWrite h 0x2003ff [toByte v]

end Sys2Proof.Machine
end

