-- ==== Sys2Proof/Machine/Memory.lean ====
section
/-! DEFINITION. The meanings of the commands of the memory controllers and the data movers (spec/15, spec/16): one for each row of the opcode table. -/

namespace Sys2Proof.Machine

/-- DRAM_FREEZE (R661). -/
def execDramFreeze (t : Nat) (c : Nat) (r : FreezeReport) (s : State) : Host.Outcome State Fault Refusal :=
  s.does t fun s => s.freeze c 1 r

/-- ALERT_LOW (R661). -/
def execAlertLow (t : Nat) (c : Nat) (r : FreezeReport) (s : State) : Host.Outcome State Fault Refusal :=
  s.does t fun s => s.freeze c 2 r

/-- REFRESH_DUE (R652). -/
def execRefreshDue (t : Nat) (c : Nat) (bank : Nat) (needed : Bool) (s : State) : Host.Outcome State Fault Refusal :=
  s.does t fun s => s.refreshDue c bank needed

/-- MR4_READ (R651). -/
def execMr4Read (t : Nat) (c : Nat) (doubled : Bool) (s : State) : Host.Outcome State Fault Refusal :=
  s.does t fun s => s.mr4Read c doubled

/-- PATROL_SCRUB (R658). -/
def execPatrolScrub (t : Nat) (c : Nat) (found : ScrubResult) (s : State) : Host.Outcome State Fault Refusal :=
  s.does t fun s => s.patrolScrub c found

/-- DRAM_TRAINING_DONE (R668). -/
def execDramTrainingDone (t : Nat) (c : Nat) (ok : Bool) (s : State) : Host.Outcome State Fault Refusal :=
  s.does t fun s => s.trainingDone c ok

/-- DRAM_FILL_DONE (R671). -/
def execDramFillDone (t : Nat) (c : Nat) (s : State) : Host.Outcome State Fault Refusal :=
  s.does t fun s => s.fillDone c

/-- DRAM_RETRAIN_DONE (R665). -/
def execDramRetrainDone (t : Nat) (c : Nat) (ok : Bool) (s : State) : Host.Outcome State Fault Refusal :=
  s.does t fun s => s.retrainDone c ok

/-- MOVE_START (R692). -/
def execMoveStart (t : Nat) (h : Hdr) (v : Nat) (s : State) : Host.Outcome State Fault Refusal :=
  s.does t fun s => s.hostWrite h O.MOVE_START [toByte v]

/-- MOVE_ABORT (R697). -/
def execMoveAbort (t : Nat) (h : Hdr) (v : Nat) (s : State) : Host.Outcome State Fault Refusal :=
  s.does t fun s => s.hostWrite h O.MOVE_ABORT [toByte v]

/-- DESCRIPTOR_END (R687). -/
def execDescriptorEnd (t : Nat) (n : Nat) (busError : Option BusError) (s : State) : Host.Outcome State Fault Refusal :=
  s.does t fun s => s.descriptorEnd n busError

end Sys2Proof.Machine
end

