-- ==== Sys2Proof/Machine/NozzleMap.lean ====
section
/-! DEFINITION. The meanings of the commands of nozzle upkeep and test pages (spec/08): one for each row of the opcode table. -/

namespace Sys2Proof.Machine

/-- COVERAGE_RECOMPUTE (R340). -/
def execCoverageRecompute (t : Nat) (s : State) : Host.Outcome State Fault Refusal :=
  s.does t fun s => s.recomputeCoverage

/-- NOZZLE_EDIT (R335). -/
def execNozzleEdit (t : Nat) (h : Hdr) (v : Nat) (s : State) : Host.Outcome State Fault Refusal :=
  s.does t fun s => s.hostWrite h 0x2500ff [toByte v]

/-- FIRE_COUNT_UPDATE (R344). -/
def execFireCountUpdate (t : Nat) (s : State) : Host.Outcome State Fault Refusal :=
  s.does t fun s => s.fireCounting

/-- TEST_PAGE_APPLY (R363). -/
def execTestPageApply (t : Nat) (h : Hdr) (v : Nat) (s : State) : Host.Outcome State Fault Refusal :=
  s.does t fun s => s.hostWrite h 0x2540ff [toByte v]

/-- TEST_RESULT_READY (R367). -/
def execTestResultReady (t : Nat) (m : TestMeasurement) (s : State) : Host.Outcome State Fault Refusal :=
  s.does t fun s => s.testMeasured m

/-- ACCEPT (R369). -/
def execAccept (t : Nat) (h : Hdr) (v : Nat) (s : State) : Host.Outcome State Fault Refusal :=
  s.does t fun s => s.hostWrite h O.ACCEPT [toByte v]

end Sys2Proof.Machine
end

