-- ==== Sys2Proof/Machine/PageLink.lean ====
section
/-! DEFINITION. The meanings of the commands of page ingest and the mirror bond (spec/06): one for each row of the opcode table. -/

namespace Sys2Proof.Machine

/-- INGEST_BOND_FORM (R242). -/
def execIngestBondForm (t : Nat) (s : State) : Host.Outcome State Fault Refusal :=
  s.does t fun s => s.bondForm

/-- INGEST_LINK_DOWN (R260). -/
def execIngestLinkDown (t : Nat) (s : State) : Host.Outcome State Fault Refusal :=
  s.does t fun s => s.ingestDown

/-- BACKGROUND_PACKET (R262). -/
def execBackgroundPacket (t : Nat) (p : TplPacket) (s : State) : Host.Outcome State Fault Refusal :=
  s.does t fun s => s.tplPacket p

/-- DESCRIPTOR_PACKET (R267). -/
def execDescriptorPacket (t : Nat) (p : TplPacket) (s : State) : Host.Outcome State Fault Refusal :=
  s.does t fun s => s.tplPacket p

/-- OBJECT_PACKET (R270). -/
def execObjectPacket (t : Nat) (p : TplPacket) (s : State) : Host.Outcome State Fault Refusal :=
  s.does t fun s => s.tplPacket p

/-- PAGE_QUERY (R281). -/
def execPageQuery (t : Nat) (p : TplPacket) (s : State) : Host.Outcome State Fault Refusal :=
  s.does t fun s => s.tplPacket p

/-- CREDIT (R252). -/
def execCredit (t : Nat) (s : State) : Host.Outcome State Fault Refusal :=
  s.does t fun s => s.creditDue

/-- MIRROR_ACK (R285). -/
def execMirrorAck (t : Nat) (job : Nat) (page : Nat) (s : State) : Host.Outcome State Fault Refusal :=
  s.does t fun s => s.mirrorAckRx job page

/-- MIRROR_TIMEOUT (R285). -/
def execMirrorTimeout (t : Nat) (job : Nat) (page : Nat) (s : State) : Host.Outcome State Fault Refusal :=
  s.does t fun s => s.mirrorTimeout job page

/-- MIRROR_RECEIVE (R284). -/
def execMirrorReceive (t : Nat) (p : TplPacket) (s : State) : Host.Outcome State Fault Refusal :=
  s.does t fun s => s.mirrorReceive p

/-- TPL_UNKNOWN_TYPE (R259). -/
def execTplUnknownType (t : Nat) (p : TplPacket) (s : State) : Host.Outcome State Fault Refusal :=
  s.does t fun s => s.tplPacket p

/-- MIRROR_BOND_FORM (R779). -/
def execMirrorBondForm (t : Nat) (s : State) : Host.Outcome State Fault Refusal :=
  s.does t fun s => s.mirrorForming

/-- MIRROR_CREDIT (R250). -/
def execMirrorCredit (t : Nat) (limit : Nat) (s : State) : Host.Outcome State Fault Refusal :=
  s.does t fun s => s.mirrorCreditRx limit

/-- MIRROR_RESYNC (R256). -/
def execMirrorResync (t : Nat) (seq : Nat) (s : State) : Host.Outcome State Fault Refusal :=
  s.does t fun s => s.mirrorResyncRx seq

end Sys2Proof.Machine
end

