-- ==== Sys2Proof/Machine/Position.lean ====
section
/-! DEFINITION. The meanings of the commands of the web position, the compare units and the repeater (spec/09): one for each row of the opcode table. -/

namespace Sys2Proof.Machine

/-- ENC_EDGE (R376). -/
def execEncEdge (t : Nat) (a : Bool) (b : Bool) (s : State) : Host.Outcome State Fault Refusal :=
  s.does t fun s => s.checkRun.encEdge a b

/-- STEP_EDGE (R378). -/
def execStepEdge (t : Nat) (dir : Bool) (s : State) : Host.Outcome State Fault Refusal :=
  s.does t fun s => s.checkRun.stepEdge dir

/-- INDEX_CHECK (R401). -/
def execIndexCheck (t : Nat) (s : State) : Host.Outcome State Fault Refusal :=
  s.does t fun s => s.indexCheck

/-- STANDSTILL (R397). -/
def execStandstill (t : Nat) (s : State) : Host.Outcome State Fault Refusal :=
  s.does t fun s => s.standstill

/-- VIRTUAL_WEB_ADVANCE (R408). -/
def execVirtualWebAdvance (t : Nat) (s : State) : Host.Outcome State Fault Refusal :=
  s.does t fun s => s.checkRun.virtualAdvance

/-- WEB_SCALE_APPLY (R382). -/
def execWebScaleApply (t : Nat) (h : Hdr) (v : Nat) (s : State) : Host.Outcome State Fault Refusal :=
  s.does t fun s => s.hostWrite h 0x2601ff [toByte v]

/-- SOURCE_APPLY (R387). -/
def execSourceApply (t : Nat) (h : Hdr) (v : Nat) (s : State) : Host.Outcome State Fault Refusal :=
  s.does t fun s => s.hostWrite h 0x2602ff [toByte v]

/-- INDEX_APPLY (R400). -/
def execIndexApply (t : Nat) (h : Hdr) (v : Nat) (s : State) : Host.Outcome State Fault Refusal :=
  s.does t fun s => s.hostWrite h 0x2605ff [toByte v]

/-- CHECK_APPLY (R407). -/
def execCheckApply (t : Nat) (h : Hdr) (v : Nat) (s : State) : Host.Outcome State Fault Refusal :=
  s.does t fun s => s.hostWrite h 0x2606ff [toByte v]

/-- VALIDATE (R386). -/
def execValidate (t : Nat) (h : Hdr) (v : Nat) (s : State) : Host.Outcome State Fault Refusal :=
  s.does t fun s => s.hostWrite h O.VALIDATE [toByte v]

/-- POSITION_FLAGS_WRITE (R420). -/
def execPositionFlagsWrite (t : Nat) (h : Hdr) (v : Nat) (s : State) : Host.Outcome State Fault Refusal :=
  s.does t fun s => s.hostWrite h O.POSITION_STATUS_FLAGS (natLE 2 v)

/-- COMPARE_APPLY (R415). -/
def execCompareApply (t : Nat) (h : Hdr) (k : Nat) (v : Nat) (s : State) : Host.Outcome State Fault Refusal :=
  s.does t fun s => s.hostWrite h (0x2620ff + 256 * (k % 16)) [toByte v]

/-- COMPARE_PULSE_END (R413). -/
def execComparePulseEnd (t : Nat) (k : Nat) (s : State) : Host.Outcome State Fault Refusal :=
  s.does t fun s => s.cmpPulseEnd k

/-- REPEATER_COUNT (R419). -/
def execRepeaterCount (t : Nat) (s : State) : Host.Outcome State Fault Refusal :=
  s.does t fun s => s.repStep

end Sys2Proof.Machine
end

