-- ==== Sys2Proof/Machine/PowerStates.lean ====
section
/-! DEFINITION. The meanings of the commands of the power states and debug (spec/04): one for each row of the opcode table. -/

namespace Sys2Proof.Machine

/-- REQUEST_RUN (R177). -/
def execRequestRun (t : Nat) (h : Hdr) (s : State) : Host.Outcome State Fault Refusal :=
  s.does t fun s => s.hostWrite h O.POWER_REQUEST [0#8]

/-- REQUEST_PAUSE (R177). -/
def execRequestPause (t : Nat) (h : Hdr) (s : State) : Host.Outcome State Fault Refusal :=
  s.does t fun s => s.hostWrite h O.POWER_REQUEST [1#8]

/-- REQUEST_STANDBY (R177). -/
def execRequestStandby (t : Nat) (h : Hdr) (s : State) : Host.Outcome State Fault Refusal :=
  s.does t fun s => s.hostWrite h O.POWER_REQUEST [2#8]

/-- REQUEST_SLEEP (R178). -/
def execRequestSleep (t : Nat) (h : Hdr) (s : State) : Host.Outcome State Fault Refusal :=
  s.does t fun s => s.hostWrite h O.POWER_REQUEST [3#8]

/-- REQUEST_OFF (R186). -/
def execRequestOff (t : Nat) (h : Hdr) (s : State) : Host.Outcome State Fault Refusal :=
  s.does t fun s => s.hostWrite h O.POWER_REQUEST [4#8]

/-- ORDERLY_PAUSE_END (R174). -/
def execOrderlyPauseEnd (t : Nat) (s : State) : Host.Outcome State Fault Refusal :=
  s.does t fun s => s.orderlyPauseEnd

/-- WAKE_PIN (R177). -/
def execWakePin (t : Nat) (env : BootEnv) (s : State) : Host.Outcome State Fault Refusal :=
  s.does t fun s => s.wakePin env

/-- NETWORK_WAKE (R183). -/
def execNetworkWake (t : Nat) (frame : WakeFrame) (opcode : Nat) (s : State) : Host.Outcome State Fault Refusal :=
  s.does t fun s => s.networkWake frame opcode

/-- WAKE_TIMER (R188). -/
def execWakeTimer (t : Nat) (env : BootEnv) (s : State) : Host.Outcome State Fault Refusal :=
  s.does t fun s => s.wakeTimer env

/-- DEBUG_AUTH (R191). -/
def execDebugAuth (t : Nat) (level : Nat) (proof : List Byte) (s : State) : Host.Outcome State Fault Refusal :=
  s.does t fun s => s.debugAuth level proof

/-- DEBUG_CLOSE (R195). -/
def execDebugClose (t : Nat) (viaHost : Option Hdr) (v : Nat) (s : State) : Host.Outcome State Fault Refusal :=
  s.does t fun s => s.debugCloseBy viaHost v

/-- TRST_LOW (R195). -/
def execTrstLow (t : Nat) (s : State) : Host.Outcome State Fault Refusal :=
  s.does t fun s => s.trstLow

/-- DEBUG_NONCE_EXPIRY (R191). -/
def execDebugNonceExpiry (t : Nat) (s : State) : Host.Outcome State Fault Refusal :=
  s.does t fun s => s.debugNonceExpired

/-- DEBUG_LOCK_EXPIRY (R194). -/
def execDebugLockExpiry (t : Nat) (s : State) : Host.Outcome State Fault Refusal :=
  s.does t fun s => s.debugLockExpired

end Sys2Proof.Machine
end

