-- ==== Sys2Proof/Machine/Ptp.lean ====
section
/-! DEFINITION. The meanings of the commands of network time (spec/17): one for each row of the opcode table. -/

namespace Sys2Proof.Machine

/-- SYNC_RX (R724). -/
def execSyncRx (t : Nat) (m : PtpMsg) (s : State) : Host.Outcome State Fault Refusal :=
  s.does t fun s => s.syncRx m

/-- FOLLOW_UP_RX (R720). -/
def execFollowUpRx (t : Nat) (m : PtpMsg) (s : State) : Host.Outcome State Fault Refusal :=
  s.does t fun s => s.followUpRx m

/-- DELAY_RESP_RX (R724). -/
def execDelayRespRx (t : Nat) (m : PtpMsg) (s : State) : Host.Outcome State Fault Refusal :=
  s.does t fun s => s.delayRespRx m

/-- PDELAY_REQ_RX (R719). -/
def execPdelayReqRx (t : Nat) (m : PtpMsg) (s : State) : Host.Outcome State Fault Refusal :=
  s.does t fun s => s.pdelayReqRx m

/-- PDELAY_RESP_RX (R724). -/
def execPdelayRespRx (t : Nat) (m : PtpMsg) (s : State) : Host.Outcome State Fault Refusal :=
  s.does t fun s => s.pdelayRespRx m

/-- DELAY_REQ_SEND (R719). -/
def execDelayReqSend (t : Nat) (s : State) : Host.Outcome State Fault Refusal :=
  s.does t fun s => s.delayReqSend

/-- ANNOUNCE_RX (R732). -/
def execAnnounceRx (t : Nat) (m : PtpMsg) (s : State) : Host.Outcome State Fault Refusal :=
  s.does t fun s => s.announceRx m

/-- FOLLOW_UP_TIMEOUT (R721). -/
def execFollowUpTimeout (t : Nat) (seq : Nat) (s : State) : Host.Outcome State Fault Refusal :=
  s.does t fun s => s.followUpTimeout seq

/-- ANNOUNCE_TIMEOUT (R733). -/
def execAnnounceTimeout (t : Nat) (s : State) : Host.Outcome State Fault Refusal :=
  s.does t fun s => s.announceTimeout

/-- PTP_STEP (R729). -/
def execPtpStep (t : Nat) (h : Hdr) (v : Nat) (s : State) : Host.Outcome State Fault Refusal :=
  s.does t fun s => s.hostWrite h 0x3503ff [toByte v]

/-- PTP_CONFIG_APPLY (R737). -/
def execPtpConfigApply (t : Nat) (h : Hdr) (index : Nat) (v : Nat) (s : State) : Host.Outcome State Fault Refusal :=
  s.does t fun s => s.hostWrite h (256 * index + 255) [toByte v]

/-- FIRE_RATE_SLEW (R734). -/
def execFireRateSlew (t : Nat) (s : State) : Host.Outcome State Fault Refusal :=
  s.does t fun s => s.fireRateSlew

end Sys2Proof.Machine
end

