-- ==== Sys2Proof/Machine/Screens.lean ====
section
/-! DEFINITION. The meanings of the commands of the display outputs (spec/22): one for each row of the opcode table. -/

namespace Sys2Proof.Machine

/-- DISP_TIMING_APPLY (R859). -/
def execDispTimingApply (t : Nat) (h : Hdr) (x : Nat) (v : Nat) (s : State) : Host.Outcome State Fault Refusal :=
  s.does t fun s => s.hostWrite h (0x3900ff + 256 * (x % 2)) [toByte v]

/-- DISP_FRAME_START (R864). -/
def execDispFrameStart (t : Nat) (x : Nat) (s : State) : Host.Outcome State Fault Refusal :=
  s.does t fun s => s.frameShown x

/-- DISP_LINE_FETCH (R867). -/
def execDispLineFetch (t : Nat) (x : Nat) (line : Nat) (lateFrom : Option Nat) (s : State) : Host.Outcome State Fault Refusal :=
  s.does t fun s => s.dispLine x line lateFrom

/-- PORCH_END (R869). -/
def execPorchEnd (t : Nat) (x : Nat) (s : State) : Host.Outcome State Fault Refusal :=
  s.does t fun s => s.porchEnd x

end Sys2Proof.Machine
end

