-- ==== Sys2Proof/Machine/SerialLanes.lean ====
section
/-! DEFINITION. The meanings of the commands of the serial lanes (spec/12): one for each row of the opcode table. -/

namespace Sys2Proof.Machine

/-- LANE_ENABLE (R542). -/
def execLaneEnable (t : Nat) (h : Hdr) (n : Nat) (v : Nat) (s : State) : Host.Outcome State Fault Refusal :=
  s.does t fun s => s.hostWrite h (0x292004 + 256 * (n % 24)) [toByte v]

/-- SIGNAL_PRESENT (R542). -/
def execSignalPresent (t : Nat) (n : Nat) (s : State) : Host.Outcome State Fault Refusal :=
  s.does t fun s => s.signalPresent n

/-- BLOCK_LOCK (R530). -/
def execBlockLock (t : Nat) (n : Nat) (inverted : Bool) (s : State) : Host.Outcome State Fault Refusal :=
  s.does t fun s => s.blockLock n inverted

/-- STEP_UP_REQUEST (R532). -/
def execStepUpRequest (t : Nat) (n : Nat) (s : State) : Host.Outcome State Fault Refusal :=
  s.does t fun s => s.stepUpRequest n

/-- LANE_CONTROL_WORD (R533). -/
def execLaneControlWord (t : Nat) (n : Nat) (w : Nat) (s : State) : Host.Outcome State Fault Refusal :=
  s.does t fun s => s.laneControlWord n w

/-- VERIFICATION_PASSED (R537). -/
def execVerificationPassed (t : Nat) (n : Nat) (s : State) : Host.Outcome State Fault Refusal :=
  s.does t fun s => s.verificationPassed n

/-- TRAIN_FALLBACK (R539). -/
def execTrainFallback (t : Nat) (n : Nat) (s : State) : Host.Outcome State Fault Refusal :=
  s.does t fun s => s.trainFallback n

/-- NEGOTIATION_TIMEOUT (R542). -/
def execNegotiationTimeout (t : Nat) (n : Nat) (s : State) : Host.Outcome State Fault Refusal :=
  s.does t fun s => s.negotiationTimeout n

/-- LOCK_LOST (R530). -/
def execLockLost (t : Nat) (n : Nat) (s : State) : Host.Outcome State Fault Refusal :=
  s.does t fun s => s.lockLost n

/-- RETRAIN (R555). -/
def execRetrain (t : Nat) (h : Hdr) (v : Nat) (s : State) : Host.Outcome State Fault Refusal :=
  s.does t fun s => s.hostWrite h O.RETRAIN (natLE 4 v)

/-- LP_ENTRY (R543). -/
def execLpEntry (t : Nat) (n : Nat) (level : Nat) (s : State) : Host.Outcome State Fault Refusal :=
  s.does t fun s => s.laneLpEntry n level

/-- LP_NO_ACK (R543). -/
def execLpNoAck (t : Nat) (n : Nat) (s : State) : Host.Outcome State Fault Refusal :=
  s.does t fun s => s.lpNoAck n

/-- LP_EXIT (R548). -/
def execLpExit (t : Nat) (n : Nat) (s : State) : Host.Outcome State Fault Refusal :=
  s.does t fun s => s.laneLpExit n

/-- EYE_MEASURE (R550). -/
def execEyeMeasure (t : Nat) (n : Nat) (height : Nat) (width : Nat) (s : State) : Host.Outcome State Fault Refusal :=
  s.does t fun s => s.eyeMonitor n height width

end Sys2Proof.Machine
end

