-- ==== Sys2Proof/Machine/Sessions.lean ====
section
/-! DEFINITION. The meanings of the commands of the TDP frames, the session timers and the records (spec/02): one for each row of the opcode table. -/

namespace Sys2Proof.Machine

/-- OPEN_REQ (R64). -/
def execOpenReq (t : Nat) (f : Frame) (s : State) : Host.Outcome State Fault Refusal :=
  s.does t fun s => s.hostFrame 0x01 f

/-- OPEN (R55). -/
def execOpenSession (t : Nat) (f : Frame) (s : State) : Host.Outcome State Fault Refusal :=
  s.does t fun s => s.hostFrame 0x02 f

/-- CLOSE (R66). -/
def execClose (t : Nat) (f : Frame) (s : State) : Host.Outcome State Fault Refusal :=
  s.does t fun s => s.hostFrame 0x03 f

/-- KEEPALIVE (R61). -/
def execKeepalive (t : Nat) (f : Frame) (s : State) : Host.Outcome State Fault Refusal :=
  s.does t fun s => s.hostFrame 0x04 f

/-- READ (R76). -/
def execRead (t : Nat) (f : Frame) (s : State) : Host.Outcome State Fault Refusal :=
  s.does t fun s => s.hostFrame 0x10 f

/-- WRITE (R71). -/
def execWrite (t : Nat) (f : Frame) (s : State) : Host.Outcome State Fault Refusal :=
  s.does t fun s => s.hostFrame 0x11 f

/-- READ_SEG (R910). -/
def execReadSeg (t : Nat) (f : Frame) (s : State) : Host.Outcome State Fault Refusal :=
  s.does t fun s => s.hostFrame 0x12 f

/-- WRITE_SEG (R86). -/
def execWriteSeg (t : Nat) (f : Frame) (s : State) : Host.Outcome State Fault Refusal :=
  s.does t fun s => s.hostFrame 0x13 f

/-- INFO (R101). -/
def execInfo (t : Nat) (f : Frame) (s : State) : Host.Outcome State Fault Refusal :=
  s.does t fun s => s.hostFrame 0x14 f

/-- NOTICE_ACK (R94). -/
def execNoticeAck (t : Nat) (f : Frame) (s : State) : Host.Outcome State Fault Refusal :=
  s.does t fun s => s.hostFrame 0x20 f

/-- QUOTE (R152). -/
def execQuote (t : Nat) (f : Frame) (s : State) : Host.Outcome State Fault Refusal :=
  s.does t fun s => s.hostFrame 0x30 f

/-- CERT (R154). -/
def execCert (t : Nat) (f : Frame) (s : State) : Host.Outcome State Fault Refusal :=
  s.does t fun s => s.hostFrame 0x31 f

/-- IDENTIFY (R52). -/
def execIdentify (t : Nat) (f : Frame) (s : State) : Host.Outcome State Fault Refusal :=
  s.does t fun s => s.hostFrame 0x32 f

/-- BAD_VERSION (R48). -/
def execBadVersion (t : Nat) (opcode : Nat) (f : Frame) (s : State) : Host.Outcome State Fault Refusal :=
  s.does t fun s => s.hostFrame opcode f

/-- CHALLENGE_EXPIRY (R57). -/
def execChallengeExpiry (t : Nat) (s : State) : Host.Outcome State Fault Refusal :=
  s.does t fun s => s.challengeExpired

/-- LEASE_EXPIRY (R63). -/
def execLeaseExpiry (t : Nat) (s : State) : Host.Outcome State Fault Refusal :=
  s.does t fun s => s.leaseExpired

/-- AUTH_LOCK_EXPIRY (R60). -/
def execAuthLockExpiry (t : Nat) (s : State) : Host.Outcome State Fault Refusal :=
  s.does t fun s => s.authLockExpired

/-- NOTICE_RESEND (R94). -/
def execNoticeResend (t : Nat) (seq : Nat) (s : State) : Host.Outcome State Fault Refusal :=
  s.does t fun s => s.noticeResend seq

/-- RECORD_APPLY (R77). -/
def execRecordApply (t : Nat) (h : Hdr) (index : Nat) (v : Nat) (s : State) : Host.Outcome State Fault Refusal :=
  s.does t fun s => s.hostWrite h (256 * index + 255) [toByte v]

/-- STAGE_DISCARDED (R81). -/
def execStageDiscarded (t : Nat) (index : Nat) (s : State) : Host.Outcome State Fault Refusal :=
  s.does t fun s => s.stageExpired index

/-- BAD_OPCODE (R51). -/
def execBadOpcode (t : Nat) (opcode : Nat) (f : Frame) (s : State) : Host.Outcome State Fault Refusal :=
  s.does t fun s => s.hostFrame opcode f

end Sys2Proof.Machine
end

