-- ==== Sys2Proof/Machine/Startup.lean ====
section
/-! DEFINITION. The meanings of the commands of reset, boot, the persistent store, firmware slots, sealing and the TAP (spec/03, spec/23): one for each row of the opcode table. -/

namespace Sys2Proof.Machine

/-- POWER_ON_RESET (R882). -/
def execPowerOnReset (t : Nat) (env : BootEnv) (s : State) : Host.Outcome State Fault Refusal :=
  s.does t fun s => s.resetFor env 0

/-- RESET_PIN (R102). -/
def execResetPin (t : Nat) (env : BootEnv) (s : State) : Host.Outcome State Fault Refusal :=
  s.does t fun s => s.resetFor env 1

/-- WATCHDOG_RESET (R103). -/
def execWatchdogReset (t : Nat) (core : Nat) (s : State) : Host.Outcome State Fault Refusal :=
  s.does t fun s => s.watchdogReset core

/-- RESET (R139). -/
def execReset (t : Nat) (h : Hdr) (v : Nat) (s : State) : Host.Outcome State Fault Refusal :=
  s.does t fun s => s.hostWrite h O.RESET [toByte v]

/-- RESET_TAKE_EFFECT (R103). -/
def execResetTakeEffect (t : Nat) (env : BootEnv) (s : State) : Host.Outcome State Fault Refusal :=
  s.does t fun s => s.resetTakeEffect env

/-- BOOT_READY (R109). -/
def execBootReady (t : Nat) (s : State) : Host.Outcome State Fault Refusal :=
  s.does t fun s => s.bootReady

/-- STORE (R131). -/
def execStore (t : Nat) (h : Hdr) (v : Nat) (s : State) : Host.Outcome State Fault Refusal :=
  s.does t fun s => s.hostWrite h O.STORE [toByte v]

/-- RESTORE_DEFAULTS (R137). -/
def execRestoreDefaults (t : Nat) (h : Hdr) (v : Nat) (s : State) : Host.Outcome State Fault Refusal :=
  s.does t fun s => s.hostWrite h O.RESTORE_DEFAULTS [toByte v]

/-- AUTO_STORE (R130). -/
def execAutoStore (t : Nat) (s : State) : Host.Outcome State Fault Refusal :=
  s.does t fun s => s.autoStoreDue

/-- STORE_COMPLETE (R136). -/
def execStoreComplete (t : Nat) (readBackOk : Bool) (s : State) : Host.Outcome State Fault Refusal :=
  s.does t fun s => s.storeComplete readBackOk

/-- STORE_TIMEOUT (R135). -/
def execStoreTimeout (t : Nat) (s : State) : Host.Outcome State Fault Refusal :=
  s.does t fun s => s.storeTimeout

/-- IO_RAIL_FALL (R123). -/
def execIoRailFall (t : Nat) (s : State) : Host.Outcome State Fault Refusal :=
  s.does t fun s => s.railFall

/-- FW_SLOT_PROGRAMMED (R144). -/
def execFwSlotProgrammed (t : Nat) (slot : Nat) (readBackOk : Bool) (s : State) : Host.Outcome State Fault Refusal :=
  s.does t fun s => s.slotProgrammed slot readBackOk

/-- SLOT_SELECT (R145). -/
def execSlotSelect (t : Nat) (h : Hdr) (v : Nat) (s : State) : Host.Outcome State Fault Refusal :=
  s.does t fun s => s.hostWrite h O.SLOT_SELECT [toByte v]

/-- PRESEAL_APPLY (R158). -/
def execPresealApply (t : Nat) (h : Hdr) (v : Nat) (s : State) : Host.Outcome State Fault Refusal :=
  s.does t fun s => s.hostWrite h 0x1321ff [toByte v]

/-- OWNER_KEY (R160). -/
def execOwnerKey (t : Nat) (h : Hdr) (key : List Byte) (s : State) : Host.Outcome State Fault Refusal :=
  s.does t fun s => s.hostWrite h O.OWNER_KEY key

/-- LIFECYCLE_TO_OWNED (R167). -/
def execLifecycleToOwned (t : Nat) (h : Hdr) (s : State) : Host.Outcome State Fault Refusal :=
  s.does t fun s => s.hostWrite h O.LIFECYCLE_REQUEST [1#8]

/-- LIFECYCLE_TO_RETURN (R168). -/
def execLifecycleToReturn (t : Nat) (h : Hdr) (s : State) : Host.Outcome State Fault Refusal :=
  s.does t fun s => s.hostWrite h O.LIFECYCLE_REQUEST [2#8]

/-- TAP_INSTRUCTION (R901). -/
def execTapInstruction (t : Nat) (scan : TapScan) (s : State) : Host.Outcome State Fault Refusal :=
  s.does t fun s => s.tapInstruction scan

/-- TAP_FLASH_ACCESS (R112). -/
def execTapFlashAccess (t : Nat) (area : Nat) (image : Option FlashWrite) (s : State) : Host.Outcome State Fault Refusal :=
  s.does t fun s => s.tapFlash area image

end Sys2Proof.Machine
end

