-- ==== Sys2Proof/Machine/Strobes.lean ====
section
/-! DEFINITION. The meanings of the commands of firing, pulse width, interlocks and page outcomes (spec/10, spec/01): one for each row of the opcode table. -/

namespace Sys2Proof.Machine

/-- FIRE_CROSSING (R432). -/
def execFireCrossing (t : Nat) (w : Nat) (s : State) : Host.Outcome State Fault Refusal :=
  s.does t fun s => s.fireCrossing w

/-- FIRE_PULSE (R435). -/
def execFirePulse (t : Nat) (seg : Nat) (row : Nat) (s : State) : Host.Outcome State Fault Refusal :=
  s.does t fun s => s.firePulse seg row

/-- PW_UPDATE (R441). -/
def execPwUpdate (t : Nat) (s : State) : Host.Outcome State Fault Refusal :=
  s.does t fun s => s.pwUpdateAll

/-- HEAD_DATA_STALE (R446). -/
def execHeadDataStale (t : Nat) (seg : Nat) (row : Nat) (s : State) : Host.Outcome State Fault Refusal :=
  s.does t fun s => s.headStale seg row

/-- INTERLOCK_TRIP (R455). -/
def execInterlockTrip (t : Nat) (input : Nat) (s : State) : Host.Outcome State Fault Refusal :=
  s.does t fun s => s.interlockInput input true

/-- INTERLOCK_RELEASE (R456). -/
def execInterlockRelease (t : Nat) (input : Nat) (s : State) : Host.Outcome State Fault Refusal :=
  s.does t fun s => s.interlockInput input false

/-- INTERLOCK_CLEAR (R457). -/
def execInterlockClear (t : Nat) (h : Hdr) (v : Nat) (s : State) : Host.Outcome State Fault Refusal :=
  s.does t fun s => s.hostWrite h O.INTERLOCK_CLEAR [toByte v]

/-- PAGE_OUTCOME_FINAL (R36). -/
def execPageOutcomeFinal (t : Nat) (job : Nat) (page : Nat) (s : State) : Host.Outcome State Fault Refusal :=
  s.does t fun s => s.outcomeFinal job page

end Sys2Proof.Machine
end

