-- ==== Sys2Proof/Machine/Dispatch.lean ====
section
/-! DEFINITION. The meaning of every command: one arm per row of spec/opcode_table.json. -/

namespace Sys2Proof.Machine

/-- The command's effect on everything but the queue. -/
def exec (i : Instr) (s : State) : Host.Outcome State Fault Refusal :=
  match i with
  | .openReq t f => Sys2Proof.Machine.execOpenReq t f s
  | .openSession t f => Sys2Proof.Machine.execOpenSession t f s
  | .close t f => Sys2Proof.Machine.execClose t f s
  | .keepalive t f => Sys2Proof.Machine.execKeepalive t f s
  | .read t f => Sys2Proof.Machine.execRead t f s
  | .write t f => Sys2Proof.Machine.execWrite t f s
  | .readSeg t f => Sys2Proof.Machine.execReadSeg t f s
  | .writeSeg t f => Sys2Proof.Machine.execWriteSeg t f s
  | .info t f => Sys2Proof.Machine.execInfo t f s
  | .noticeAck t f => Sys2Proof.Machine.execNoticeAck t f s
  | .quote t f => Sys2Proof.Machine.execQuote t f s
  | .cert t f => Sys2Proof.Machine.execCert t f s
  | .identify t f => Sys2Proof.Machine.execIdentify t f s
  | .badVersion t opcode f => Sys2Proof.Machine.execBadVersion t opcode f s
  | .challengeExpiry t => Sys2Proof.Machine.execChallengeExpiry t s
  | .leaseExpiry t => Sys2Proof.Machine.execLeaseExpiry t s
  | .authLockExpiry t => Sys2Proof.Machine.execAuthLockExpiry t s
  | .noticeResend t seq => Sys2Proof.Machine.execNoticeResend t seq s
  | .recordApply t h index v => Sys2Proof.Machine.execRecordApply t h index v s
  | .stageDiscarded t index => Sys2Proof.Machine.execStageDiscarded t index s
  | .dhcpLeaseObtained t addr mask gateway seconds => Sys2Proof.Machine.execDhcpLeaseObtained t addr mask gateway seconds s
  | .dhcpTimeout t => Sys2Proof.Machine.execDhcpTimeout t s
  | .linkLocalConflict t => Sys2Proof.Machine.execLinkLocalConflict t s
  | .linkLocalRetry t => Sys2Proof.Machine.execLinkLocalRetry t s
  | .dhcpRediscovery t => Sys2Proof.Machine.execDhcpRediscovery t s
  | .powerOnReset t env => Sys2Proof.Machine.execPowerOnReset t env s
  | .resetPin t env => Sys2Proof.Machine.execResetPin t env s
  | .watchdogReset t core => Sys2Proof.Machine.execWatchdogReset t core s
  | .reset t h v => Sys2Proof.Machine.execReset t h v s
  | .resetTakeEffect t env => Sys2Proof.Machine.execResetTakeEffect t env s
  | .bootReady t => Sys2Proof.Machine.execBootReady t s
  | .store t h v => Sys2Proof.Machine.execStore t h v s
  | .restoreDefaults t h v => Sys2Proof.Machine.execRestoreDefaults t h v s
  | .autoStore t => Sys2Proof.Machine.execAutoStore t s
  | .storeComplete t readBackOk => Sys2Proof.Machine.execStoreComplete t readBackOk s
  | .storeTimeout t => Sys2Proof.Machine.execStoreTimeout t s
  | .ioRailFall t => Sys2Proof.Machine.execIoRailFall t s
  | .fwSlotProgrammed t slot readBackOk => Sys2Proof.Machine.execFwSlotProgrammed t slot readBackOk s
  | .slotSelect t h v => Sys2Proof.Machine.execSlotSelect t h v s
  | .presealApply t h v => Sys2Proof.Machine.execPresealApply t h v s
  | .ownerKey t h key => Sys2Proof.Machine.execOwnerKey t h key s
  | .lifecycleToOwned t h => Sys2Proof.Machine.execLifecycleToOwned t h s
  | .lifecycleToReturn t h => Sys2Proof.Machine.execLifecycleToReturn t h s
  | .requestRun t h => Sys2Proof.Machine.execRequestRun t h s
  | .requestPause t h => Sys2Proof.Machine.execRequestPause t h s
  | .requestStandby t h => Sys2Proof.Machine.execRequestStandby t h s
  | .requestSleep t h => Sys2Proof.Machine.execRequestSleep t h s
  | .requestOff t h => Sys2Proof.Machine.execRequestOff t h s
  | .orderlyPauseEnd t => Sys2Proof.Machine.execOrderlyPauseEnd t s
  | .wakePin t env => Sys2Proof.Machine.execWakePin t env s
  | .networkWake t frame opcode => Sys2Proof.Machine.execNetworkWake t frame opcode s
  | .wakeTimer t env => Sys2Proof.Machine.execWakeTimer t env s
  | .debugAuth t level proof => Sys2Proof.Machine.execDebugAuth t level proof s
  | .debugClose t viaHost v => Sys2Proof.Machine.execDebugClose t viaHost v s
  | .trstLow t => Sys2Proof.Machine.execTrstLow t s
  | .debugNonceExpiry t => Sys2Proof.Machine.execDebugNonceExpiry t s
  | .debugLockExpiry t => Sys2Proof.Machine.execDebugLockExpiry t s
  | .commit t h => Sys2Proof.Machine.execCommit t h s
  | .planDone t => Sys2Proof.Machine.execPlanDone t s
  | .cancel t h => Sys2Proof.Machine.execCancel t h s
  | .reopen t h => Sys2Proof.Machine.execReopen t h s
  | .discard t h => Sys2Proof.Machine.execDiscard t h s
  | .armApply t h v => Sys2Proof.Machine.execArmApply t h v s
  | .ingestBondForm t => Sys2Proof.Machine.execIngestBondForm t s
  | .ingestLinkDown t => Sys2Proof.Machine.execIngestLinkDown t s
  | .backgroundPacket t p => Sys2Proof.Machine.execBackgroundPacket t p s
  | .descriptorPacket t p => Sys2Proof.Machine.execDescriptorPacket t p s
  | .objectPacket t p => Sys2Proof.Machine.execObjectPacket t p s
  | .pageQuery t p => Sys2Proof.Machine.execPageQuery t p s
  | .credit t => Sys2Proof.Machine.execCredit t s
  | .mirrorAck t job page => Sys2Proof.Machine.execMirrorAck t job page s
  | .mirrorTimeout t job page => Sys2Proof.Machine.execMirrorTimeout t job page s
  | .mirrorReceive t p => Sys2Proof.Machine.execMirrorReceive t p s
  | .coverageRecompute t => Sys2Proof.Machine.execCoverageRecompute t s
  | .nozzleEdit t h v => Sys2Proof.Machine.execNozzleEdit t h v s
  | .fireCountUpdate t => Sys2Proof.Machine.execFireCountUpdate t s
  | .testPageApply t h v => Sys2Proof.Machine.execTestPageApply t h v s
  | .testResultReady t m => Sys2Proof.Machine.execTestResultReady t m s
  | .accept t h v => Sys2Proof.Machine.execAccept t h v s
  | .encEdge t a b => Sys2Proof.Machine.execEncEdge t a b s
  | .stepEdge t dir => Sys2Proof.Machine.execStepEdge t dir s
  | .indexCheck t => Sys2Proof.Machine.execIndexCheck t s
  | .standstill t => Sys2Proof.Machine.execStandstill t s
  | .virtualWebAdvance t => Sys2Proof.Machine.execVirtualWebAdvance t s
  | .webScaleApply t h v => Sys2Proof.Machine.execWebScaleApply t h v s
  | .sourceApply t h v => Sys2Proof.Machine.execSourceApply t h v s
  | .indexApply t h v => Sys2Proof.Machine.execIndexApply t h v s
  | .checkApply t h v => Sys2Proof.Machine.execCheckApply t h v s
  | .validate t h v => Sys2Proof.Machine.execValidate t h v s
  | .positionFlagsWrite t h v => Sys2Proof.Machine.execPositionFlagsWrite t h v s
  | .compareApply t h k v => Sys2Proof.Machine.execCompareApply t h k v s
  | .comparePulseEnd t k => Sys2Proof.Machine.execComparePulseEnd t k s
  | .repeaterCount t => Sys2Proof.Machine.execRepeaterCount t s
  | .fireCrossing t w => Sys2Proof.Machine.execFireCrossing t w s
  | .firePulse t seg row => Sys2Proof.Machine.execFirePulse t seg row s
  | .pwUpdate t => Sys2Proof.Machine.execPwUpdate t s
  | .headDataStale t seg row => Sys2Proof.Machine.execHeadDataStale t seg row s
  | .interlockTrip t input => Sys2Proof.Machine.execInterlockTrip t input s
  | .interlockRelease t input => Sys2Proof.Machine.execInterlockRelease t input s
  | .interlockClear t h v => Sys2Proof.Machine.execInterlockClear t h v s
  | .pageOutcomeFinal t job page => Sys2Proof.Machine.execPageOutcomeFinal t job page s
  | .headLinkUp t seg ident => Sys2Proof.Machine.execHeadLinkUp t seg ident s
  | .headStatus t seg st => Sys2Proof.Machine.execHeadStatus t seg st s
  | .headNak t seg first count => Sys2Proof.Machine.execHeadNak t seg first count s
  | .headResponse t seg cmd tag status data => Sys2Proof.Machine.execHeadResponse t seg cmd tag status data s
  | .headEvent t seg seq code row pos data => Sys2Proof.Machine.execHeadEvent t seg seq code row pos data s
  | .commandResend t seg => Sys2Proof.Machine.execCommandResend t seg s
  | .headReset t h v => Sys2Proof.Machine.execHeadReset t h v s
  | .laneEnable t h n v => Sys2Proof.Machine.execLaneEnable t h n v s
  | .signalPresent t n => Sys2Proof.Machine.execSignalPresent t n s
  | .blockLock t n inverted => Sys2Proof.Machine.execBlockLock t n inverted s
  | .stepUpRequest t n => Sys2Proof.Machine.execStepUpRequest t n s
  | .laneControlWord t n w => Sys2Proof.Machine.execLaneControlWord t n w s
  | .verificationPassed t n => Sys2Proof.Machine.execVerificationPassed t n s
  | .trainFallback t n => Sys2Proof.Machine.execTrainFallback t n s
  | .negotiationTimeout t n => Sys2Proof.Machine.execNegotiationTimeout t n s
  | .lockLost t n => Sys2Proof.Machine.execLockLost t n s
  | .retrain t h v => Sys2Proof.Machine.execRetrain t h v s
  | .lpEntry t n level => Sys2Proof.Machine.execLpEntry t n level s
  | .lpNoAck t n => Sys2Proof.Machine.execLpNoAck t n s
  | .lpExit t n => Sys2Proof.Machine.execLpExit t n s
  | .eyeMeasure t n height width => Sys2Proof.Machine.execEyeMeasure t n height width s
  | .camPortApply t h k v => Sys2Proof.Machine.execCamPortApply t h k v s
  | .camTriggerApply t h k v => Sys2Proof.Machine.execCamTriggerApply t h k v s
  | .camLiveApply t h k v => Sys2Proof.Machine.execCamLiveApply t h k v s
  | .settingsScriptDone t k ok => Sys2Proof.Machine.execSettingsScriptDone t k ok s
  | .frameStart t k => Sys2Proof.Machine.execFrameStart t k s
  | .frameEnd t k => Sys2Proof.Machine.execFrameEnd t k s
  | .csiPacket t k p => Sys2Proof.Machine.execCsiPacket t k p s
  | .triggerTimeout t k => Sys2Proof.Machine.execTriggerTimeout t k s
  | .snapshot t h v => Sys2Proof.Machine.execSnapshot t h v s
  | .frameCompare t k => Sys2Proof.Machine.execFrameCompare t k s
  | .referenceLate t k => Sys2Proof.Machine.execReferenceLate t k s
  | .findingsCommit t job page => Sys2Proof.Machine.execFindingsCommit t job page s
  | .camMapApply t h k v => Sys2Proof.Machine.execCamMapApply t h k v s
  | .dramFreeze t c r => Sys2Proof.Machine.execDramFreeze t c r s
  | .alertLow t c r => Sys2Proof.Machine.execAlertLow t c r s
  | .refreshDue t c bank needed => Sys2Proof.Machine.execRefreshDue t c bank needed s
  | .mr4Read t c doubled => Sys2Proof.Machine.execMr4Read t c doubled s
  | .patrolScrub t c found => Sys2Proof.Machine.execPatrolScrub t c found s
  | .dramTrainingDone t c ok => Sys2Proof.Machine.execDramTrainingDone t c ok s
  | .dramFillDone t c => Sys2Proof.Machine.execDramFillDone t c s
  | .dramRetrainDone t c ok => Sys2Proof.Machine.execDramRetrainDone t c ok s
  | .moveStart t h v => Sys2Proof.Machine.execMoveStart t h v s
  | .moveAbort t h v => Sys2Proof.Machine.execMoveAbort t h v s
  | .descriptorEnd t n busError => Sys2Proof.Machine.execDescriptorEnd t n busError s
  | .syncRx t m => Sys2Proof.Machine.execSyncRx t m s
  | .followUpRx t m => Sys2Proof.Machine.execFollowUpRx t m s
  | .delayRespRx t m => Sys2Proof.Machine.execDelayRespRx t m s
  | .pdelayReqRx t m => Sys2Proof.Machine.execPdelayReqRx t m s
  | .pdelayRespRx t m => Sys2Proof.Machine.execPdelayRespRx t m s
  | .delayReqSend t => Sys2Proof.Machine.execDelayReqSend t s
  | .announceRx t m => Sys2Proof.Machine.execAnnounceRx t m s
  | .followUpTimeout t seq => Sys2Proof.Machine.execFollowUpTimeout t seq s
  | .announceTimeout t => Sys2Proof.Machine.execAnnounceTimeout t s
  | .ptpStep t h v => Sys2Proof.Machine.execPtpStep t h v s
  | .ptpConfigApply t h index v => Sys2Proof.Machine.execPtpConfigApply t h index v s
  | .fireRateSlew t => Sys2Proof.Machine.execFireRateSlew t s
  | .blockEvent t block code data => Sys2Proof.Machine.execBlockEvent t block code data s
  | .severeTest t => Sys2Proof.Machine.execSevereTest t s
  | .faultClear t h block v => Sys2Proof.Machine.execFaultClear t h block v s
  | .regFault t block => Sys2Proof.Machine.execRegFault t block s
  | .enter t h v => Sys2Proof.Machine.execEnter t h v s
  | .safeClear t h v => Sys2Proof.Machine.execSafeClear t h v s
  | .thermalRead t codes => Sys2Proof.Machine.execThermalRead t codes s
  | .sramScrub t corrected uncorrectable => Sys2Proof.Machine.execSramScrub t corrected uncorrectable s
  | .telemetrySample t sense => Sys2Proof.Machine.execTelemetrySample t sense s
  | .logChunk t => Sys2Proof.Machine.execLogChunk t s
  | .taskLate t task => Sys2Proof.Machine.execTaskLate t task s
  | .yieldInChange t yielding => Sys2Proof.Machine.execYieldInChange t yielding s
  | .graftRoleChange t role => Sys2Proof.Machine.execGraftRoleChange t role s
  | .graftHbToggle t => Sys2Proof.Machine.execGraftHbToggle t s
  | .hello t m => Sys2Proof.Machine.execHello t m s
  | .graftQuote t q => Sys2Proof.Machine.execGraftQuote t q s
  | .formRefused t => Sys2Proof.Machine.execFormRefused t s
  | .statePacket t index sub ty data => Sys2Proof.Machine.execStatePacket t index sub ty data s
  | .positionSend t => Sys2Proof.Machine.execPositionSend t s
  | .positionRecord t count pos highWater seq => Sys2Proof.Machine.execPositionRecord t count pos highWater seq s
  | .syncMark t pos => Sys2Proof.Machine.execSyncMark t pos s
  | .graftReport t r => Sys2Proof.Machine.execGraftReport t r s
  | .mirrorHold t => Sys2Proof.Machine.execMirrorHold t s
  | .rampTick t a => Sys2Proof.Machine.execRampTick t a s
  | .axisConfigApply t h a v => Sys2Proof.Machine.execAxisConfigApply t h a v s
  | .rampApply t h a v => Sys2Proof.Machine.execRampApply t h a v s
  | .moveApply t h a v => Sys2Proof.Machine.execMoveApply t h a v s
  | .moveReplan t h v => Sys2Proof.Machine.execMoveReplan t h v s
  | .moveStop t h v => Sys2Proof.Machine.execMoveStop t h v s
  | .home t h v => Sys2Proof.Machine.execHome t h v s
  | .homeConfigApply t h a v => Sys2Proof.Machine.execHomeConfigApply t h a v s
  | .levelApply t h v => Sys2Proof.Machine.execLevelApply t h v s
  | .homeEdge t a => Sys2Proof.Machine.execHomeEdge t a s
  | .overcurrent t a => Sys2Proof.Machine.execOvercurrent t a s
  | .driveSaturated t a => Sys2Proof.Machine.execDriveSaturated t a s
  | .holdDelay t a => Sys2Proof.Machine.execHoldDelay t a s
  | .reverseDwell t a => Sys2Proof.Machine.execReverseDwell t a s
  | .calStart t h v => Sys2Proof.Machine.execCalStart t h v s
  | .calTempTrigger t codes => Sys2Proof.Machine.execCalTempTrigger t codes s
  | .calPassDone t r => Sys2Proof.Machine.execCalPassDone t r s
  | .holdoffEnd t => Sys2Proof.Machine.execHoldoffEnd t s
  | .calSlew t => Sys2Proof.Machine.execCalSlew t s
  | .strobeTrimWrite t h data => Sys2Proof.Machine.execStrobeTrimWrite t h data s
  | .dispTimingApply t h x v => Sys2Proof.Machine.execDispTimingApply t h x v s
  | .dispFrameStart t x => Sys2Proof.Machine.execDispFrameStart t x s
  | .dispLineFetch t x line lateFrom => Sys2Proof.Machine.execDispLineFetch t x line lateFrom s
  | .porchEnd t x => Sys2Proof.Machine.execPorchEnd t x s
  | .badOpcode t opcode f => Sys2Proof.Machine.execBadOpcode t opcode f s
  | .netLinkUp t speed => Sys2Proof.Machine.execNetLinkUp t speed s
  | .linkLocalTaken t => Sys2Proof.Machine.execLinkLocalTaken t s
  | .tplUnknownType t p => Sys2Proof.Machine.execTplUnknownType t p s
  | .mirrorBondForm t => Sys2Proof.Machine.execMirrorBondForm t s
  | .mirrorCredit t limit => Sys2Proof.Machine.execMirrorCredit t limit s
  | .mirrorResync t seq => Sys2Proof.Machine.execMirrorResync t seq s
  | .cciScriptDone t k script ok => Sys2Proof.Machine.execCciScriptDone t k script ok s
  | .homeSwitchFound t a => Sys2Proof.Machine.execHomeSwitchFound t a s
  | .tapInstruction t scan => Sys2Proof.Machine.execTapInstruction t scan s
  | .tapFlashAccess t slot image => Sys2Proof.Machine.execTapFlashAccess t slot image s

end Sys2Proof.Machine
end

