-- ==== Sys2Proof/Safety.lean ====
section
/-! DEFINITION. The terms in which claims speak of the block: when nothing more follows from a command by itself, when the
open session takes a frame in its turn, what a host write that is accepted leaves behind; and what counts as a safe run. -/

namespace Sys2Proof

namespace Machine

/-- No action of an event class or of a cause of safe state is left undone between two steps (R739, R748, R752). -/
def State.Settled (s : State) : Prop := s.acts = []

/-- On the page link, credits are withdrawn exactly while a cause of R254 stands. -/
def State.CreditsFollow (s : State) : Prop := s.ingest.link = 2 → s.ingest.withdrawn = s.wantsWithdraw

/-- Nothing follows by itself: no action is called for, no entry to RUN, SLEEP or OFF is under way, no role waits, and the
credits follow their causes. -/
structure State.Quiet (s : State) : Prop where
  acts : s.acts = []
  target : s.power.target ≠ 3 ∧ s.power.target ≠ 4
  run : s.enteringRun = false
  role : s.graft.waiting = none
  credits : s.CreditsFollow

/-- The open session x takes frame f in its turn at time t: the part is online, no timer of a session has run out, the
frame passes the checks of R47 to R51, and its SEQ is the one that is expected (R68). -/
structure State.Turn (s : State) (t opcode : Nat) (f : Frame) (x : Session) : Prop where
  timers : (s.at t).hostTimers = s.at t
  online : (s.at t).online = true
  session : s.tdp.session = some x
  magic : f.magic = 0x4454
  version : f.version = 1
  sid : f.sid = x.sid
  inSession : f.sid ≠ 0
  addr : f.addr = x.addr
  port : f.port = x.port
  size : f.rest.length = f.length + 16
  tag : frameTagOk f opcode x.key = true
  request : bit f.flags 0 = false
  turn : seqDiff 16 f.seq x.expected = 0

/-- The part takes frame f at time t outside any session: it is online, no timer of a session has run out, and the frame
passes the checks of R47 to R51 and the limits of R53. -/
structure State.Hears (s : State) (t opcode : Nat) (f : Frame) : Prop where
  timers : (s.at t).hostTimers = s.at t
  online : (s.at t).online = true
  magic : f.magic = 0x4454
  version : f.version = 1
  sid : f.sid = 0
  size : f.rest.length = f.length
  request : bit f.flags 0 = false
  limits : (s.at t).mayAnswer opcode = true

/-- The state in which a request outside any session is executed at t: the frame counted, and the answer counted toward the
limits of R53. -/
def State.asked (s : State) (t opcode : Nat) : State := ((s.at t).inc O.FRAMES_RX).countAnswer opcode

/-- The session with its lease started again at t. -/
def Session.leased (x : Session) (s : State) (t : Nat) : Session :=
  { x with leaseEnd := (s.at t).now + s.rd O.LEASE_TIME * ms }

/-- The state that the frame leaves before the request runs. -/
def State.heard (s : State) (t : Nat) (x : Session) : State :=
  { (s.at t).inc O.FRAMES_RX with
    tdp := { s.tdp with session := some (x.leased s t) } }

/-- The session with its lease started again and the next SEQ expected (R61, R67). -/
def Session.turned (x : Session) (leaseEnd seq : Nat) : Session :=
  { x with leaseEnd := leaseEnd, expected := (seq + 1) % 65536 }

/-- The state in which a request of session x is executed at t: the frame counted, the lease started again, the next SEQ
expected. -/
def State.turned (s : State) (t : Nat) (x : Session) (seq : Nat) : State :=
  { (s.at t).inc O.FRAMES_RX with
    tdp := { s.tdp with session := some (x.turned ((s.at t).now + s.rd O.LEASE_TIME * ms) seq) } }

/-- What a request left, its answer sent and kept, and the held requests whose gap has filled executed (R67, R68). -/
def State.replied (s : State) (x : Session) (opcode seq status : Nat) (body : List Byte) : State :=
  (s.answer x opcode seq status body).runHeld 7

/-- The answer OK to a WRITE of the object with this key. -/
def State.wrote (s : State) (x : Session) (seq key : Nat) : State :=
  s.replied x 0x11 seq Status.ok (natLE 2 (key / 256) ++ [toByte (key % 256), 0#8])

/-- The row c of the table, which is a WRITE of data to the object with this key, runs at t in every state in whose turn
pre holds: it has the effect op and is answered OK. -/
def Writes (c : Hdr → Instr) (t key : Nat) (data : List Byte) (pre : State → Prop) (op : State → State) : Prop :=
  ∀ (h : Hdr) (s : State) (x : Session), s.Turn t 0x11 (writeFrame h (key / 256) (key % 256) data) x →
    pre (s.turned t x h.seq) →
    exec (c h) s = .next ((s.at t).after fun _ => (op (s.turned t x h.seq)).wrote x h.seq key)

/-- The row c of the table, which writes 1 to FFh of record idx, runs at t in every state in whose turn the record has staged
values, they pass the checks of R79, no block refuses them, and pre holds (of the state before, and with the values in place): it
has the effect op, nothing is staged any more, and the partner hears of it. -/
def Applies (c : Hdr → Instr) (t idx : Nat) (pre : State → State → Prop) (op : State → State → State) : Prop :=
  Writes c t (256 * idx + 255) [1#8]
    (fun u => u.authorityRefused (256 * idx + 255) = false ∧ u.staged idx ≠ [] ∧ stageFail (u.staged idx) = none ∧
      (u.wrs (u.staged idx)).recordFail idx = none ∧ (u.wrs (u.staged idx)).recordRefusal idx u = false ∧
      pre u (u.wrs (u.staged idx)))
    (fun u => ((op u (u.wrs (u.staged idx))).dropStage idx).forwardRecord idx (u.staged idx))

end Machine

/-- A run of k steps from s goes through. -/
def Safe (k : Nat) (s : Machine.State) : Prop := ∃ s', core.run k s = .next s'

end Sys2Proof
end

