-- ==== Sys2Proof/WellFormed.lean ====
section
/-! DEFINITION. When a command is well formed: every operand lies in what its wire, its bus or its field can carry. A
command that is not well formed cannot come about. -/

namespace Sys2Proof

/-- Bytes of an area of *Flash map*, by the numbers of TAP_FLASH_ACCESS: 0 and 1 the firmware slots, 2 to 9 the bank slots
by rotation position, 10 the BOOT_COUNT sectors and 11 the chunk ring of the log region (R761), 12 the identity area; 13, the
rest, ends with the flash. -/
def flashArea (area : Nat) : Nat :=
  if area < 2 then 25165824 else if area < 10 then 4194304 else if area = 10 then 131072 else if area = 11 then 16646144
  else 262144

/-- The fields of a datagram have the widths of *TDP frame*. -/
def Frame.wf (f : Frame) : Bool :=
  f.addr < 2 ^ 32 && f.port < 65536 && f.magic < 65536 && f.version < 256 && f.seq < 65536 && f.status < 65536 &&
  f.sid < 2 ^ 32 && f.length < 65536 && f.flags < 65536

/-- A host write in a session has a TAG of 16 bytes (R55). -/
def Hdr.wf (h : Hdr) : Bool :=
  h.addr < 2 ^ 32 && h.port < 65536 && h.seq < 65536 && h.sid < 2 ^ 32 && (h.sid == 0 || h.tag.length == 16)

/-- The cells of a boundary scan are numbers of cells, each once. -/
def TapScan.wf (x : TapScan) : Bool :=
  x.ir < 32 && x.high.all (· < 549) && x.shifted.all (· < 549) && x.high.Pairwise (· < ·) && x.shifted.Pairwise (· < ·)

/-- STRAPS and GRAFT_ROLE have the widths of their pins. -/
def BootEnv.wf (e : BootEnv) : Bool := e.straps < 2 ^ 16 && e.role < 4

/-- The fields of a packet have the widths of *TPL header*. -/
def TplPacket.wf (p : TplPacket) : Bool :=
  p.magic < 65536 && p.version < 256 && p.ty < 256 && p.linkSeq < 2 ^ 32 && p.job < 2 ^ 32 && p.page < 2 ^ 32 &&
  p.offset < 2 ^ 64 && p.object < 65536 && p.flags < 65536 && p.length < 65536 && p.reserved < 65536 &&
  p.inflated < 2 ^ 32 && p.payloadCrc < 2 ^ 32 && p.headerCrc < 2 ^ 32

/-- A domain has 8 bits and a sequenceId 16. -/
def PtpMsg.wf (m : PtpMsg) : Bool := m.domain < 256 && m.seq < 65536 && m.gm < 2 ^ 64

/-- A virtual channel has 2 bits and a data type 6. -/
def CsiPacket.wf (p : CsiPacket) : Bool := p.vc < 4 && p.dataType < 64

/-- *Freeze record*. -/
def FreezeReport.wf (r : FreezeReport) : Bool :=
  r.address < 2 ^ 64 && r.bankGroup < 8 && r.bank < 4 && r.row < 2 ^ 32 && r.column < 65536 && r.syndrome < 256 &&
  r.command < 256 && r.port < 256

def ScrubResult.wf (r : ScrubResult) : Bool :=
  r.position < 2 ^ 64 && match r.uncorrectable with | some e => e.wf | none => true

/-- HELLO of *Graft packets*. -/
def HelloMsg.wf (m : HelloMsg) : Bool := m.nonce.length == 32 && m.serial < 2 ^ 64 && m.capacity < 2 ^ 64 && m.role < 4

def QuoteMsg.wf (q : QuoteMsg) : Bool := q.nonce.length == 32 && q.digest.length == 48 && q.lifecycle < 256

/-- STATUS of a head module. -/
def HeadReport.wf (r : HeadReport) : Bool := r.temps.length == 6 && r.nextPos.length == 6

/-- A calibration pass measures 32 ADC channels, 16 DACs, 8 sensors and 16 strobe outputs; a FIRE cycle has bins. -/
def CalPass.wf (r : CalPass) : Bool :=
  r.adc.length == 32 && r.dac.length == 16 && r.slopes.length == 8 && r.strobes.length == 16 && 0 < r.bins

/-- What a test page shows lies in the six rows of 16 segments. -/
def TestMeasurement.wf (m : TestMeasurement) : Bool :=
  m.dashes.all (·.1 < 331776) && m.shifts.all (·.1 < 96) && m.positions.all (·.1 < 96)

/-- Every operand lies in its range. -/
def Instr.wf : Instr → Bool
  | .openReq _ f => f.wf
  | .openSession _ f => f.wf
  | .close _ f => f.wf
  | .keepalive _ f => f.wf
  | .read _ f => f.wf
  | .write _ f => f.wf
  | .readSeg _ f => f.wf
  | .writeSeg _ f => f.wf
  | .info _ f => f.wf
  | .noticeAck _ f => f.wf
  | .quote _ f => f.wf
  | .cert _ f => f.wf
  | .identify _ f => f.wf
  | .badVersion _ opcode f => f.wf && opcode < 256
  | .challengeExpiry _ => true
  | .leaseExpiry _ => true
  | .authLockExpiry _ => true
  | .noticeResend _ seq => decide (seq < 65536)
  | .recordApply _ h index v => h.wf && index < 65536 && v < 256
  | .stageDiscarded _ index => decide (index < 65536)
  | .dhcpLeaseObtained _ addr mask gateway seconds => (addr < 2 ^ 32 && mask < 2 ^ 32 && gateway < 2 ^ 32 && seconds < 2 ^ 32)
  | .dhcpTimeout _ => true
  | .linkLocalConflict _ => true
  | .linkLocalRetry _ => true
  | .dhcpRediscovery _ => true
  | .powerOnReset _ env => env.wf
  | .resetPin _ env => env.wf
  | .watchdogReset _ core => decide (core < 2)
  | .reset _ h v => h.wf && v < 256
  | .resetTakeEffect _ env => env.wf
  | .bootReady _ => true
  | .store _ h v => h.wf && v < 256
  | .restoreDefaults _ h v => h.wf && v < 256
  | .autoStore _ => true
  | .storeComplete _ _ => true
  | .storeTimeout _ => true
  | .ioRailFall _ => true
  | .fwSlotProgrammed _ slot _ => decide (slot < 2)
  | .slotSelect _ h v => h.wf && v < 256
  | .presealApply _ h v => h.wf && v < 256
  | .ownerKey _ h key => h.wf && key.length < 65536
  | .lifecycleToOwned _ h => h.wf
  | .lifecycleToReturn _ h => h.wf
  | .requestRun _ h => h.wf
  | .requestPause _ h => h.wf
  | .requestStandby _ h => h.wf
  | .requestSleep _ h => h.wf
  | .requestOff _ h => h.wf
  | .orderlyPauseEnd _ => true
  | .wakePin _ env => env.wf
  | .networkWake _ f opcode => opcode < 256 && (match f with
    | .arp a => decide (a < 2 ^ 32)
    | .udp magic => decide (magic < 2 ^ 16))
  | .wakeTimer _ env => env.wf
  | .debugAuth _ level proof => (level < 256 && proof.length == 16)
  | .debugClose _ viaHost v => v < 256 && (match viaHost with | some h => h.wf | none => true)
  | .trstLow _ => true
  | .debugNonceExpiry _ => true
  | .debugLockExpiry _ => true
  | .commit _ h => h.wf
  | .planDone _ => true
  | .cancel _ h => h.wf
  | .reopen _ h => h.wf
  | .discard _ h => h.wf
  | .armApply _ h v => h.wf && v < 256
  | .ingestBondForm _ => true
  | .ingestLinkDown _ => true
  | .backgroundPacket _ p => p.wf
  | .descriptorPacket _ p => p.wf
  | .objectPacket _ p => p.wf
  | .pageQuery _ p => p.wf
  | .credit _ => true
  | .mirrorAck _ job page => (job < 2 ^ 32 && page < 2 ^ 32)
  | .mirrorTimeout _ job page => (job < 2 ^ 32 && page < 2 ^ 32)
  | .mirrorReceive _ p => p.wf
  | .coverageRecompute _ => true
  | .nozzleEdit _ h v => h.wf && v < 256
  | .fireCountUpdate _ => true
  | .testPageApply _ h v => h.wf && v < 256
  | .testResultReady _ m => m.wf
  | .accept _ h v => h.wf && v < 256
  | .encEdge _ _ _ => true
  | .stepEdge _ _ => true
  | .indexCheck _ => true
  | .standstill _ => true
  | .virtualWebAdvance _ => true
  | .webScaleApply _ h v => h.wf && v < 256
  | .sourceApply _ h v => h.wf && v < 256
  | .indexApply _ h v => h.wf && v < 256
  | .checkApply _ h v => h.wf && v < 256
  | .validate _ h v => h.wf && v < 256
  | .positionFlagsWrite _ h v => h.wf && v < 65536
  | .compareApply _ h k v => h.wf && k < 16 && v < 256
  | .comparePulseEnd _ k => decide (k < 16)
  | .repeaterCount _ => true
  | .fireCrossing _ w => decide (w < 2 ^ 48)
  | .firePulse _ seg row => (seg < 16 && row < 6)
  | .pwUpdate _ => true
  | .headDataStale _ seg row => (seg < 16 && row < 6)
  | .interlockTrip _ input => decide (input < 4)
  | .interlockRelease _ input => decide (input < 4)
  | .interlockClear _ h v => h.wf && v < 256
  | .pageOutcomeFinal _ job page => (job < 2 ^ 32 && page < 2 ^ 32)
  | .headLinkUp _ seg ident => (seg < 16 && ident.length == 512)
  | .headStatus _ seg st => st.wf && seg < 16
  | .headNak _ seg first _ => seg < 16 && first < 2 ^ 32
  | .headResponse _ seg _ _ _ _ => decide (seg < 16)
  | .headEvent _ seg _ _ _ _ _ => decide (seg < 16)
  | .commandResend _ seg => decide (seg < 16)
  | .headReset _ h v => h.wf && v < 65536
  | .laneEnable _ h n v => h.wf && n < 24 && v < 256
  | .signalPresent _ n => decide (n < 24)
  | .blockLock _ n _ => decide (n < 24)
  | .stepUpRequest _ n => decide (n < 24)
  | .laneControlWord _ n w => n < 24 && w < 2 ^ 56
  | .verificationPassed _ n => decide (n < 24)
  | .trainFallback _ n => decide (n < 24)
  | .negotiationTimeout _ n => decide (n < 24)
  | .lockLost _ n => decide (n < 24)
  | .retrain _ h v => h.wf && v < 2 ^ 32
  | .lpEntry _ n level => n < 24 && level < 4
  | .lpNoAck _ n => decide (n < 24)
  | .lpExit _ n => decide (n < 24)
  | .eyeMeasure _ n height width => n < 24 && (height < 65536 && width < 65536)
  | .camPortApply _ h k v => h.wf && k < 4 && v < 256
  | .camTriggerApply _ h k v => h.wf && k < 4 && v < 256
  | .camLiveApply _ h k v => h.wf && k < 4 && v < 256
  | .settingsScriptDone _ k _ => decide (k < 4)
  | .frameStart _ k => decide (k < 4)
  | .frameEnd _ k => decide (k < 4)
  | .csiPacket _ k p => p.wf && k < 4
  | .triggerTimeout _ k => decide (k < 4)
  | .snapshot _ h v => h.wf && v < 65536
  | .frameCompare _ k => decide (k < 4)
  | .referenceLate _ k => decide (k < 4)
  | .findingsCommit _ job page => (job < 2 ^ 32 && page < 2 ^ 32)
  | .camMapApply _ h k v => h.wf && k < 4 && v < 256
  | .dramFreeze _ c r => r.wf && c < 4
  | .alertLow _ c r => r.wf && c < 4
  | .refreshDue _ c bank _ => c < 4 && bank < 4
  | .mr4Read _ c _ => decide (c < 4)
  | .patrolScrub _ c found => found.wf && c < 4
  | .dramTrainingDone _ c _ => decide (c < 4)
  | .dramFillDone _ c => decide (c < 4)
  | .dramRetrainDone _ c _ => decide (c < 4)
  | .moveStart _ h v => h.wf && v < 256
  | .moveAbort _ h v => h.wf && v < 256
  | .descriptorEnd _ n _ => decide (n < 32)
  | .syncRx _ m => m.wf
  | .followUpRx _ m => m.wf
  | .delayRespRx _ m => m.wf
  | .pdelayReqRx _ m => m.wf
  | .pdelayRespRx _ m => m.wf
  | .delayReqSend _ => true
  | .announceRx _ m => m.wf
  | .followUpTimeout _ seq => decide (seq < 65536)
  | .announceTimeout _ => true
  | .ptpStep _ h v => h.wf && v < 256
  | .ptpConfigApply _ h index v => h.wf && index < 65536 && v < 256
  | .fireRateSlew _ => true
  | .blockEvent _ block code data => block < 66 && (code < 65536 && data < 2 ^ 32)
  | .severeTest _ => true
  | .faultClear _ h block v => h.wf && block < 66 && v < 256
  | .regFault _ block => decide (block < 66)
  | .enter _ h v => h.wf && v < 256
  | .safeClear _ h v => h.wf && v < 256
  | .thermalRead _ codes => codes.length == 8
  | .sramScrub _ _ _ => true
  | .telemetrySample _ sense => sense.length == 32
  | .logChunk _ => true
  | .taskLate _ task => decide (task < 7)
  | .yieldInChange _ _ => true
  | .graftRoleChange _ role => decide (role < 4)
  | .graftHbToggle _ => true
  | .hello _ m => m.wf
  | .graftQuote _ q => q.wf
  | .formRefused _ => true
  | .statePacket _ index sub _ _ => (index < 65536 && sub < 256)
  | .positionSend _ => true
  | .positionRecord _ _ pos highWater seq => (pos < 2 ^ 64 && highWater < 2 ^ 64 && seq < 2 ^ 32)
  | .syncMark _ pos => decide (pos < 2 ^ 64)
  | .graftReport _ r => r.length == 48
  | .mirrorHold _ => true
  | .rampTick _ a => decide (a < 4)
  | .axisConfigApply _ h a v => h.wf && a < 4 && v < 256
  | .rampApply _ h a v => h.wf && a < 4 && v < 256
  | .moveApply _ h a v => h.wf && a < 4 && v < 256
  | .moveReplan _ h v => h.wf && v < 256
  | .moveStop _ h v => h.wf && v < 256
  | .home _ h v => h.wf && v < 256
  | .homeConfigApply _ h a v => h.wf && a < 4 && v < 256
  | .levelApply _ h v => h.wf && v < 256
  | .homeEdge _ a => decide (a < 4)
  | .overcurrent _ a => decide (a < 4)
  | .driveSaturated _ a => decide (a < 4)
  | .holdDelay _ a => decide (a < 4)
  | .reverseDwell _ a => decide (a < 4)
  | .calStart _ h v => h.wf && v < 256
  | .calTempTrigger _ codes => codes.length == 8
  | .calPassDone _ r => r.wf
  | .holdoffEnd _ => true
  | .calSlew _ => true
  | .strobeTrimWrite _ h data => h.wf && data.length < 65536
  | .dispTimingApply _ h x v => h.wf && x < 2 && v < 256
  | .dispFrameStart _ x => decide (x < 2)
  | .dispLineFetch _ x _ _ => decide (x < 2)
  | .porchEnd _ x => decide (x < 2)
  | .badOpcode _ opcode f => f.wf && opcode < 256
  | .netLinkUp _ speed => (speed == 10 || speed == 100 || speed == 1000)
  | .linkLocalTaken _ => true
  | .tplUnknownType _ p => p.wf
  | .mirrorBondForm _ => true
  | .mirrorCredit _ limit => decide (limit < 2 ^ 32)
  | .mirrorResync _ seq => decide (seq < 2 ^ 32)
  | .cciScriptDone _ k script _ => k < 4 && script < 3
  | .homeSwitchFound _ a => decide (a < 4)
  | .tapInstruction _ scan => scan.wf
  | .tapFlashAccess _ area image => decide (area < 14) && (match image with
    | some w => decide (area = 13) || decide (w.image.length ≤ flashArea area)
    | none => true)

end Sys2Proof
end

