-- ==== Sys2Proof/Certificates/Slice0/Obligations.lean ====
section
/-! DEFINITION. The statements for the provers. Every meaning has the shape (s.at t).after op: the present moves to t, the
block does op, and the actions that op called for follow. A statement says what op is on the states that it speaks of, and
that the command answers that next state. -/

open Sys2Proof Sys2Proof.Machine

/-! ### The queue, and the end of every step -/

/-- Derived (the block's queue, log 65): step takes the front command and is exec of it on the state with the queue's rest;
with nothing waiting it idles. -/
def Obligations.StepRunsFront : Prop :=
  (∀ (c : Instr) (rest : List Instr) (s : State), step { s with pending := c :: rest } = exec c { s with pending := rest }) ∧
  ∀ s : State, s.pending = [] → step s = .next s

/-- Derived: no command is refused and none faults; the queue that stands behind a command, and the moment it comes about, are
as they were put. -/
def Obligations.EveryCommandAnswers : Prop :=
  ∀ (c : Instr) (s : State), ∃ u, exec c s = .next u ∧ u.pending = s.pending ∧ s.now ≤ u.now ∧ u.acts = []

/-- R254, R748, R752: what holds after every step, from every state in which it holds: no action that an event called for
is left untaken, and credits are withdrawn exactly while a cause of R254 stands. -/
def Obligations.StepKeepsSettled : Prop :=
  ∀ s u : State, s.Settled ∧ s.CreditsFollow → step s = .next u → u.Settled ∧ u.CreditsFollow

/-- R102, R209, R752: right after reset nothing waits, no action is left untaken, and no credit is withdrawn. -/
def Obligations.ResetSettled : Prop :=
  State.reset.Settled ∧ State.reset.CreditsFollow ∧ State.reset.pending = []

/-- Derived: as many steps as commands wait serve them all, and the run never stops. -/
def Obligations.QueueIsServed : Prop :=
  ∀ (n : Nat) (s : State), s.Settled ∧ s.CreditsFollow → s.pending.length = n →
    ∃ u, core.run n s = .next u ∧ u.pending = [] ∧ s.now ≤ u.now ∧ u.Settled ∧ u.CreditsFollow

/-- Derived: where a command's effect leaves nothing to follow, the next state is that effect and nothing else: every field
that the effect does not change stays. -/
def Obligations.QuietEffectIsAll : Prop :=
  ∀ (s : State) (op : State → State), (op s).Quiet → s.after op = { op s with pending := s.pending, now := s.now }

/-! ### Objects -/

/-- R74, R87 and the object store: right after reset every object holds its default and every DOM its default content; an object
reads what was written to it last, every other object as before, and the store keeps its canonical form. A DOM is replaced in
one step: its size is the new one, its generation advances by 1, every byte reads as written, every other DOM stays. -/
def Obligations.ObjectsAndDoms : Prop :=
  ((∀ k, State.reset.rd k = Dict.dflt k) ∧ (∀ i, State.reset.dom i = domDefault i) ∧ objsWf State.reset.objs = true ∧
  ∀ (s : State) (j v : Nat), (s.wr j v).rd j = v ∧ (∀ k, k ≠ j → (s.wr j v).rd k = s.rd k) ∧
    (objsWf s.objs = true → objsWf (s.wr j v).objs = true) ∧
    (s.inc j).rd j = min (Dict.top j) (s.rd j + 1)) ∧
  (∀ (s : State) (i : Nat) (bs : List Byte),
    ((s.domReplace i bs).dom i).size = bs.length ∧ ((s.domReplace i bs).dom i).gen = ((s.dom i).gen + 1) % 2 ^ 32 ∧
    (s.domReplace i bs).domAll i = bs ∧ mapSorted ((s.domReplace i bs).dom i).cells = true ∧
    ∀ j, j ≠ i → (s.domReplace i bs).dom j = s.dom j)

/-! ### Frames (spec/02) -/

/-- R47: whatever its opcode, a datagram with another MAGIC, one of the wrong size, a sessionless request with a SESSION_ID, one from
elsewhere than the open session's host, and one of the open session whose TAG is wrong is discarded: it is counted in 1130h, no
answer goes out, and nothing else changes. -/
def Obligations.BadFramesDiscarded : Prop :=
  ∀ (s : State) (t : Nat) (f : Frame) (opcode : Nat) (c : Instr), (s.at t).online = true → (s.at t).hostTimers = s.at t →
    ((opcode, c) ∈ [(0x01, .openReq t f), (0x02, .openSession t f), (0x03, .close t f), (0x04, .keepalive t f), (0x10, .read t f),
      (0x11, .write t f), (0x12, .readSeg t f), (0x13, .writeSeg t f), (0x14, .info t f), (0x20, .noticeAck t f), (0x30, .quote t f),
      (0x31, .cert t f), (0x32, .identify t f), (opcode, .badOpcode t opcode f), (opcode, .badVersion t opcode f)]) →
    let dropped := (s.at t).after fun u => (u.inc O.FRAMES_RX).inc O.FRAMES_DISCARDED
    (f.magic ≠ 0x4454 → exec c s = .next dropped) ∧
    (f.magic = 0x4454 → f.version = 1 →
      (f.rest.length ≠ f.length + (if f.sid = 0 then 0 else 16) → exec c s = .next dropped) ∧
      (f.sid ≠ 0 → opcode ∈ [0x01, 0x02, 0x30, 0x31, 0x32] → exec c s = .next dropped) ∧
      ∀ x, s.tdp.session = some x → f.sid ≠ 0 →
        ((x.addr ≠ f.addr ∨ x.port ≠ f.port) → exec c s = .next dropped) ∧
        (f.rest.length = f.length + 16 → opcode ∉ [0x01, 0x02, 0x30, 0x31, 0x32] → x.addr = f.addr → x.port = f.port → x.sid = f.sid →
          frameTagOk f opcode x.key = false →
          exec c s = .next ((s.at t).after fun u => ((u.inc O.FRAMES_RX).inc O.TAG_FAILURES).inc O.FRAMES_DISCARDED)))

/-- R47, R61: without the session key a sender changes nothing but three counters: no request with a wrong TAG is executed, none
renews the lease, none advances the expected SEQ. -/
def Obligations.WrongTagDoesNothing : Prop :=
  ∀ (s : State) (t : Nat) (f : Frame) (x : Session), (s.at t).online = true → (s.at t).hostTimers = s.at t →
    s.tdp.session = some x → f.magic = 0x4454 → f.version = 1 → f.sid ≠ 0 → f.sid = x.sid → f.addr = x.addr → f.port = x.port →
    ∀ (opcode : Nat) (c : Instr),
      ((opcode, c) ∈ [(0x03, .close t f), (0x04, .keepalive t f), (0x10, .read t f), (0x11, .write t f), (0x12, .readSeg t f),
        (0x13, .writeSeg t f), (0x14, .info t f), (0x20, .noticeAck t f)]) →
      frameTagOk f opcode x.key = false →
      ∃ u, exec c s = .next ((s.at t).after fun _ => u) ∧ u.tdp = s.tdp ∧
        (∀ k, k ≠ O.FRAMES_RX → k ≠ O.TAG_FAILURES → k ≠ O.FRAMES_DISCARDED → u.rd k = s.rd k) ∧
        u = { s.at t with objs := u.objs }

/-- R48, R51: a frame of another VERSION is answered BAD_VERSION with SESSION_ID 0 and LENGTH 0, whatever its size and opcode,
and counts toward the sessionless limit. A frame whose opcode the host may not send, and one with RESPONSE set, is answered
BAD_OPCODE; outside a session without a tag, in the open session with one. -/
def Obligations.FramesAnsweredWithErrors : Prop :=
  (∀ (s : State) (t opcode : Nat) (f : Frame), (s.at t).online = true → (s.at t).hostTimers = s.at t → f.magic = 0x4454 →
    f.version ≠ 1 → (s.at t).mayAnswer 0 = true →
    exec (.badVersion t opcode f) s =
      .next ((s.at t).after fun _ => (s.asked t 0).sendFrame f.addr f.port opcode f.seq Status.badVersion 0 3 [] [])) ∧
  (∀ (s : State) (t opcode : Nat) (f : Frame), (s.at t).online = true → (s.at t).hostTimers = s.at t → f.magic = 0x4454 →
    f.version = 1 →
    (definedOpcode opcode = false ∨ (opcode = 0x20 ∧ bit f.flags 0 = false) ∨ (opcode ≠ 0x20 ∧ bit f.flags 0 = true)) →
    (f.sid = 0 → f.rest.length = f.length →
      exec (.badOpcode t opcode f) s = .next ((s.at t).after fun u =>
        let v := u.inc O.FRAMES_RX
        v.sendFrame f.addr f.port opcode f.seq Status.badOpcode 0 3 [] (v.refusalBody opcode (frameBody f) false))) ∧
    (∀ x, s.tdp.session = some x → f.sid = x.sid → f.sid ≠ 0 → f.addr = x.addr → f.port = x.port →
      isSessionless opcode = false → f.rest.length = f.length + 16 → frameTagOk f opcode x.key = true →
      exec (.badOpcode t opcode f) s = .next ((s.at t).after fun _ =>
        (s.heard t x).tagged x opcode f.seq Status.badOpcode ((s.heard t x).refusalBody opcode (frameBody f) true))))

/-- R52 to R60, R152 to R154: IDENTIFY, QUOTE and CERT are answered; OPEN_REQ gets a challenge of fresh free values; an OPEN with
the right proofs opens the session that the challenge names, with SEQ 1 expected. -/
def Obligations.SessionlessRequests : Prop :=
  (∀ (s : State) (t : Nat) (f : Frame), s.Hears t 0x32 f → frameBody f = [] →
    exec (.identify t f) s = .next ((s.at t).after fun _ =>
      (s.asked t 0x32).sendFrame f.addr f.port 0x32 f.seq Status.ok 0 3 [] (s.asked t 0x32).identifyBody)) ∧
  (∀ (s : State) (t : Nat) (f : Frame), s.Hears t 0x30 f → (frameBody f).length = 32 →
    exec (.quote t f) s = .next ((s.at t).after fun _ =>
      (s.asked t 0x30).sendFrame f.addr f.port 0x30 f.seq Status.ok 0 3 [] ((s.asked t 0x30).quote (frameBody f)))) ∧
  (∀ (s : State) (t : Nat) (f : Frame), s.Hears t 0x31 f → (frameBody f).length = 6 → u16At (frameBody f) 4 ≤ 1024 →
    u16At (frameBody f) 4 ≠ 0 → u32At (frameBody f) 0 ≤ s.certs.length →
    exec (.cert t f) s = .next ((s.at t).after fun _ =>
      (s.asked t 0x31).sendFrame f.addr f.port 0x31 f.seq Status.ok 0 3 []
        (natLE 4 (u32At (frameBody f) 0) ++ natLE 4 s.certs.length ++
          (s.certs.drop (u32At (frameBody f) 0)).take (u16At (frameBody f) 4)))) ∧
  (∀ (s : State) (t : Nat) (f : Frame), s.Hears t 0x01 f → (frameBody f).length = 16 → s.boot.phase = .ready →
    s.access.level ≠ 2 → s.tdp.authLockUntil ≤ (s.at t).now → (s.asked t 1).sessionKey.isSome = true → s.tdp.session = none →
    ∃ (u : State) (c : Challenge), exec (.openReq t f) s = .next ((s.at t).after fun _ => u) ∧ u.tdp.challenge = some c ∧
      u.tdp.session = none ∧ c.hostNonce = frameBody f ∧ c.issued = (s.at t).now ∧ c.preempts = false ∧
      c.sid = 1 + (Config.random s.draws).toNat % (2 ^ 32 - 1) ∧ c.partNonce = natLE 16 (Config.nonce s.draws).toNat ∧
      u.draws = s.draws + 1 ∧ u.out = [.datagram f.addr f.port (frameBytes 1 f.seq Status.ok 0 3 []
        (c.partNonce ++ natLE 4 c.sid ++ natLE 4 (s.rd O.LEASE_TIME) ++ natLE 4 0))]) ∧
  (∀ (s : State) (t : Nat) (f : Frame) (c : Challenge) (key : List Byte), s.Hears t 0x02 f → s.tdp.challenge = some c →
    (s.asked t 2).sessionKey = some key → s.tdp.session = none → bit f.flags 2 = false → frameBody f = proof key "TDP-OPEN" c.partNonce c.hostNonce c.sid →
    c.preempts = false → (frameBody f).length = 32 →
    ∃ (u : State) (x : Session), exec (.openSession t f) s = .next ((s.at t).after fun _ => u) ∧ u.tdp.session = some x ∧
      u.tdp.challenge = none ∧ x.sid = c.sid ∧ x.addr = f.addr ∧ x.port = f.port ∧ x.expected = 1 ∧ x.noticeSeq = 0 ∧
      x.stages = [] ∧ x.transfer = none ∧ x.key = hmac256 key (ascii "TDP-KEY" ++ c.hostNonce ++ c.partNonce) ∧
      x.leaseEnd = (s.at t).now + s.rd O.LEASE_TIME * ms ∧
      u.out = [.datagram f.addr f.port (frameBytes 2 f.seq Status.ok 0 3 [] (proof key "TDP-PART" c.hostNonce c.partNonce c.sid))])

/-! ### Requests of the open session (spec/02) -/

/-- R76, R101, R910, R61, R66: READ, INFO, READ_SEG, KEEPALIVE and CLOSE in their turn: what each answers, and that none
changes a stored value; CLOSE ends the session. R49, R50: a READ of an object or a subindex that does not exist, of a write-only
object or of a DOM, and a WRITE of a read-only one, is answered with the status of the first check that fails. -/
def Obligations.ReadingRequests : Prop :=
  ((∀ (s : State) (t : Nat) (f : Frame) (x : Session) (r : ObjRow), s.Turn t 0x10 f x → (frameBody f).length = 4 →
    findObject (u16At (frameBody f) 0) (u8At (frameBody f) 2) = .ok r → (r.acc == .wo) = false → (r.ty == .dom) = false →
    let v := (s.turned t x f.seq).objectData r (u16At (frameBody f) 0) (u8At (frameBody f) 2)
    exec (.read t f) s = .next ((s.at t).after fun _ => v.2.replied x 0x10 f.seq Status.ok
      (natLE 2 (u16At (frameBody f) 0) ++ [toByte (u8At (frameBody f) 2), toByte r.ty.code] ++ natLE 2 v.1.length ++ v.1))) ∧
  (∀ (s : State) (t : Nat) (f : Frame) (x : Session) (r : ObjRow), s.Turn t 0x14 f x → (frameBody f).length = 4 →
    findObject (u16At (frameBody f) 0) (u8At (frameBody f) 2) = .ok r →
    let u := s.turned t x f.seq
    exec (.info t f) s = .next ((s.at t).after fun _ => u.replied x 0x14 f.seq Status.ok
      (u.infoBody r (u16At (frameBody f) 0) (u8At (frameBody f) 2)
        (u.isStaged (256 * u16At (frameBody f) 0 + u8At (frameBody f) 2))))) ∧
  (∀ (s : State) (t : Nat) (f : Frame) (x : Session) (r : ObjRow), s.Turn t 0x12 f x → (frameBody f).length = 14 →
    let u := s.turned t x f.seq
    let b := frameBody f
    let idx := u16At b 0
    findObject idx (u8At b 2) = .ok r → (r.acc == .wo) = false → r.ty = .dom → idx < 0x8000 →
    ¬(0x2820 ≤ idx ∧ idx ≤ 0x282f) → u.slotUnread idx = false → u16At b 8 ≤ 1024 → u16At b 8 ≠ 0 →
    (u32At b 10 = 0 ∨ u32At b 10 = (u.segHead idx (u8At b 2)).2) → u32At b 4 ≤ (u.segHead idx (u8At b 2)).1 →
    exec (.readSeg t f) s = .next ((s.at t).after fun _ => u.replied x 0x12 f.seq Status.ok
      (natLE 2 idx ++ [toByte (u8At b 2)] ++ [0#8] ++ natLE 4 (u32At b 4) ++ natLE 4 (u.segHead idx (u8At b 2)).1 ++
        natLE 4 (u.segHead idx (u8At b 2)).2 ++
        u.domBytes idx (u32At b 4) (min (u16At b 8) ((u.segHead idx (u8At b 2)).1 - u32At b 4))))) ∧
  (∀ (s : State) (t : Nat) (f : Frame) (x : Session), s.Turn t 0x04 f x → frameBody f = [] →
    exec (.keepalive t f) s = .next ((s.at t).after fun _ =>
      (s.turned t x f.seq).replied x 0x04 f.seq Status.ok (natLE 4 (s.rd O.LEASE_TIME)))) ∧
  (∀ (s : State) (t : Nat) (f : Frame) (x : Session), s.Turn t 0x03 f x → frameBody f = [] →
    ∃ u, exec (.close t f) s = .next ((s.at t).after fun _ => u) ∧ u.tdp.session = none ∧
      u.rd O.NOTICE_MASK = Dict.dflt O.NOTICE_MASK ∧
      u.out = [.datagram x.addr x.port (frameBytes 3 f.seq Status.ok x.sid 3 x.key [])] ∧
      ∀ k, k ≠ O.NOTICE_MASK → k ≠ O.FRAMES_RX → u.rd k = s.rd k)) ∧
  ((∀ (s : State) (t : Nat) (f : Frame) (x : Session) (st : Nat), s.Turn t 0x10 f x → (frameBody f).length = 4 →
    (findObject (u16At (frameBody f) 0) (u8At (frameBody f) 2) = .error st ∨
      ∃ r, findObject (u16At (frameBody f) 0) (u8At (frameBody f) 2) = .ok r ∧
        ((r.acc = .wo ∧ st = Status.writeOnly) ∨ (r.acc ≠ .wo ∧ r.ty = .dom ∧ st = Status.typeMismatch))) →
    exec (.read t f) s = .next ((s.at t).after fun _ => (s.turned t x f.seq).replied x 0x10 f.seq st
      (natLE 2 (u16At (frameBody f) 0) ++ [toByte (u8At (frameBody f) 2)] ++ [0#8, 0#8, 0#8]))) ∧
  (∀ (s : State) (t : Nat) (f : Frame) (x : Session) (r : ObjRow), s.Turn t 0x11 f x →
    (frameBody f).length = 6 + u16At (frameBody f) 4 →
    findObject (u16At (frameBody f) 0) (u8At (frameBody f) 2) = .ok r → r.acc = .ro →
    exec (.write t f) s = .next ((s.at t).after fun _ => (s.turned t x f.seq).replied x 0x11 f.seq Status.readOnly
      (natLE 2 (u16At (frameBody f) 0) ++ [toByte (u8At (frameBody f) 2), 0#8]))))

/-- R71, R72: a WRITE in its turn of an object that is neither read-only nor a DOM, with data of the object's length, does what
the object's access kind and Applies moment give, and is answered; a value out of the object's range changes nothing; a value in
range of a plain object that applies now, and that no block refuses, is the object's value from then on. -/
def Obligations.WriteRequests : Prop :=
  (∀ (s : State) (t : Nat) (h : Hdr) (key : Nat) (data : List Byte) (x : Session) (r : ObjRow),
    s.Turn t 0x11 (writeFrame h (key / 256) (key % 256) data) x → key / 256 < 0x8000 →
    findObject (key / 256) (key % 256) = .ok r → (r.acc == .ro) = false → (r.ty == .dom) = false → data.length = r.ty.size →
    data.length < 65536 →
    let a := (s.turned t x h.seq).valueWrite r (key / 256) (key % 256) (leNat data)
    exec (.write t (writeFrame h (key / 256) (key % 256) data)) s = .next ((s.at t).after fun _ =>
      a.state.replied x 0x11 h.seq a.status
        (natLE 2 (key / 256) ++ [toByte (key % 256), 0#8] ++ (if a.status = Status.ok then [] else a.data)))) ∧
  (∀ (u : State) (r : ObjRow) (key v : Nat), (key % 256 = 0xff && Dict.hasApply (key / 256)) = false →
    (r.app == .apply && Dict.hasApply (key / 256)) = false → valueOk r v = false →
    u.valueWrite r (key / 256) (key % 256) v = .of Status.range u) ∧
  (∀ (u : State) (r : ObjRow) (key v : Nat), (key % 256 = 0xff && Dict.hasApply (key / 256)) = false →
    (r.app == .apply && Dict.hasApply (key / 256)) = false → valueOk r v = true → u.control = true → isMirrored key = false →
    u.commandOp key v = none → Dict.jobScoped (key / 256) = false → u.nowRefusal key v = none → u.alignRows key v = [] →
    u.valueWrite r (key / 256) (key % 256) v = .of Status.ok ((u.setNow key v).hostTouch [] none))

/-- R77 to R80: a field of a record is staged and answered STAGED; nothing staged makes an APPLY EMPTY; 0 written to FFh drops what
is staged; any other value than 0 and 1 is refused RANGE; a staged value out of range makes the APPLY fail with its subindex and
drops the stage, and that of ARM is LAST_RESULT (R238). PRESEAL.FF is LOCKED outside OWNED (R162). -/
def Obligations.RecordsStage : Prop :=
  ∀ (u : State) (idx : Nat),
    (∀ (r : ObjRow) (sub v : Nat), r.app = .apply → sub ≠ 0xff → Dict.hasApply idx = true →
      u.authorityRefused (256 * idx + sub) = false →
      u.valueWrite r idx sub v =
        .of Status.staged (u.updSession fun x => x.stage idx (256 * idx + sub) v u.now)) ∧
    (∀ (r : ObjRow), Dict.hasApply idx = true → idx ≠ 0x1321 ∨ u.lifecycle = 1 →
      u.valueWrite r idx 0xff 0 = .of Status.ok (u.dropStage idx)) ∧
    (∀ (r : ObjRow) (v : Nat), idx = 0x1321 → u.lifecycle ≠ 1 → v < 2 → u.valueWrite r idx 0xff v = .of Status.locked u) ∧
    (∀ (r : ObjRow) (v : Nat), Dict.hasApply idx = true → 2 ≤ v → u.valueWrite r idx 0xff v = .of Status.range u) ∧
    (u.staged idx = [] → u.recordApply idx = .of Status.empty u) ∧
    (∀ sub, u.staged idx ≠ [] → stageFail (u.staged idx) = some sub →
      u.recordApply idx = ⟨Status.range, [toByte sub, 0#8, 0#8, 0#8],
        if idx = 0x2003 then (u.dropStage idx).wr O.SET_STATUS_LAST_RESULT Status.range else u.dropStage idx⟩)

/-- R85 to R88: a WRITE_SEG with FIRST begins a transfer; the one with LAST that completes it, when its bytes pass the DOM's check,
replaces the object in one step, and the transfer ends; bytes that fail the check leave the old object and end the transfer. -/
def Obligations.SegmentedWrites : Prop :=
  (∀ (s : State) (t : Nat) (f : Frame) (x : Session) (r : ObjRow), s.Turn t 0x13 f x →
    let b := frameBody f
    let u := s.turned t x f.seq
    let idx := u16At b 0
    let sub := u8At b 2
    14 ≤ b.length → (b.drop 14).length = u16At b 12 → findObject idx sub = .ok r → r.acc ≠ .ro → r.ty = .dom → idx < 0x8000 →
    u16At b 12 ≤ 1024 → bit (u8At b 3) 0 = true → u32At b 4 = 0 →
    (bit (u8At b 3) 1 = false → u.segRefused idx = false → u16At b 12 ≤ u32At b 8 →
      exec (.writeSeg t f) s = .next ((s.at t).after fun _ =>
        (u.updSession fun y => { y with transfer := some ⟨idx, u32At b 8, b.drop 14⟩ }).replied x 0x13 f.seq Status.ok
          (natLE 2 idx ++ [toByte sub, 0#8] ++ natLE 4 (u16At b 12)))) ∧
    (bit (u8At b 3) 1 = true → u32At b 8 = u16At b 12 → (u16At b 12 ≠ 0 ∨ admitsZero idx = true) →
      ¬(0x2820 ≤ idx ∧ idx ≤ 0x282f) →
      let v := u.updSession fun y => { y with transfer := none }
      let a := v.domWrite idx (b.drop 14)
      (a.status = Status.ok →
        exec (.writeSeg t f) s = .next ((s.at t).after fun _ =>
          (a.state.forwardBytes (256 * idx) (b.drop 14)).replied x 0x13 f.seq Status.ok
            (natLE 2 idx ++ [toByte sub, 0#8] ++ natLE 4 (b.drop 14).length))) ∧
      (a.status ≠ Status.ok →
        exec (.writeSeg t f) s = .next ((s.at t).after fun _ =>
          a.state.replied x 0x13 f.seq a.status (natLE 2 idx ++ [toByte sub, 0#8] ++ natLE 4 0))))) ∧
  (∀ (s : State) (i : Nat) (bs : List Byte), 0x1210 ≠ i → 0x1211 ≠ i → s.domOk i bs = false →
    s.domWrite i bs = .of Status.range s) ∧
  (∀ (s : State) (i : Nat) (bs : List Byte), 0x2720 ≤ i ∧ i ≤ 0x272f → s.domOk i bs = true → s.control = true →
    s.domRefused i = false → (s.domWrite i bs).status = Status.ok ∧
      ((s.domWrite i bs).state.dom i).gen = ((s.dom i).gen + 1) % 2 ^ 32 ∧ (s.domWrite i bs).state.domAll i = bs) ∧
  (∀ (s : State) (bs : List Byte), s.domOk 0x2420 bs = true → s.control = true → s.domRefused 0x2420 = false →
    s.domWrite 0x2420 bs = .of Status.ok ((s.updSet false fun j => { j with
      doms := mapSet j.doms 0x2420 (Dom.replace 0x2420 (mapGet j.doms 0x2420 (domDefault 0x2420)) bs) (domDefault 0x2420) }).enterSet
        .building))

/-- R68: a request whose SEQ is the expected one is executed, and then those held that follow it; one whose SEQ is 1 to 7 ahead is held, and nothing else happens; one whose SEQ is 1 to 8 behind and whose answer is
kept is answered again without being executed; any other is answered OUT_OF_SEQUENCE and counted. -/
def Obligations.SequenceWindow : Prop :=
  ∀ (s : State) (x : Session) (opcode : Nat) (f : Frame),
    (seqDiff 16 f.seq x.expected = 0 → s.inSequence x opcode f = (s.execute x opcode f).runHeld 7) ∧
    (1 ≤ seqDiff 16 f.seq x.expected ∧ seqDiff 16 f.seq x.expected ≤ 7 → (∀ h ∈ x.held, h.frame.seq ≠ f.seq) →
      s.inSequence x opcode f = s.updSession fun y => { y with held := y.held ++ [⟨opcode, f⟩] }) ∧
    (∀ c, -8 ≤ seqDiff 16 f.seq x.expected → seqDiff 16 f.seq x.expected ≤ -1 →
      x.cache.find? (fun c => c.seq == f.seq) = some c →
      s.inSequence x opcode f = (s.inc O.CACHED_ANSWERS).tagged x c.opcode c.seq c.status c.body) ∧
    (seqDiff 16 f.seq x.expected < -8 ∨ 7 < seqDiff 16 f.seq x.expected ∨
        (seqDiff 16 f.seq x.expected ≤ -1 ∧ x.cache.find? (fun c => c.seq == f.seq) = none) →
      s.inSequence x opcode f = (s.inc O.OUT_OF_SEQUENCE).tagged x opcode f.seq Status.outOfSequence
        (s.refusalBody opcode (frameBody f) true))

/-- R92 to R95: an acknowledged notice goes and the queue moves on; one that has waited 100 ms is sent again, and after ten
sendings it is dropped and counted lost; a notice of a kind that NOTICE_MASK bars is not made. -/
def Obligations.Notices : Prop :=
  (∀ (s : State) (t : Nat) (f : Frame) (x : Session), (s.at t).hostTimers = s.at t → (s.at t).online = true →
    s.tdp.session = some x → f.magic = 0x4454 → f.version = 1 → f.sid = x.sid → f.sid ≠ 0 → f.addr = x.addr → f.port = x.port →
    f.rest.length = f.length + 16 → frameTagOk f 0x20 x.key = true → bit f.flags 0 = true →
    exec (.noticeAck t f) s = .next ((s.at t).after fun _ =>
      ((s.heard t x).updSession fun y => { y with sent := y.sent.filter fun m => m.seq != f.seq }).pumpNotices)) ∧
  (∀ (s : State) (t seq : Nat) (x : Session) (m : SentNotice), s.tdp.session = some x →
    x.sent.find? (fun m => m.seq == seq) = some m → m.last + 100 * ms ≤ (s.at t).now →
    (m.sendings < 10 → exec (.noticeResend t seq) s = .next ((s.at t).after fun u =>
      let m' := { m with sendings := m.sendings + 1, last := u.now }
      (u.updSession fun y => { y with sent := y.sent.map fun k => if k.seq = seq then m' else k }).sendNotice x m')) ∧
    (10 ≤ m.sendings → exec (.noticeResend t seq) s = .next ((s.at t).after fun u =>
      ((u.updSession fun y =>
        { y with sent := y.sent.filter fun k => k.seq != m.seq, charged := y.charged + m.lost + 1 }).inc
          O.NOTICES_LOST).pumpNotices))) ∧
  ∀ (s : State) (kind block code index sub : Nat) (data : List Byte),
    (s.tdp.session = none ∨ bit (s.rd O.NOTICE_MASK) kind = false) → s.notice kind block code index sub data = s

/-- R57, R60, R63, R66, R81: a challenge that is 1 s old goes; the lockout ends after its 10 s; a session whose lease has run out
ends, its mask back at its default, and LEASE_LOSS_ACTION 2 pauses, 3 enters safe state; a stage older than REC_STAGE_TIMEOUT is
discarded with a notice. -/
def Obligations.SessionTimers : Prop :=
  (∀ (s : State) (t : Nat) (c : Challenge), s.tdp.challenge = some c → c.issued + sec ≤ (s.at t).now →
    exec (.challengeExpiry t) s = .next ((s.at t).after fun u => { u with tdp := { u.tdp with challenge := none } })) ∧
  (∀ (s : State) (t : Nat), s.tdp.authLockUntil ≤ (s.at t).now →
    exec (.authLockExpiry t) s = .next ((s.at t).after fun u => { u with tdp := { u.tdp with authLockUntil := 0 } })) ∧
  (∀ (s : State) (t : Nat) (x : Session), s.tdp.session = some x → x.leaseEnd ≤ (s.at t).now →
    let ended (u : State) : State :=
      ({ u with tdp := { u.tdp with session := none } } : State).wr O.NOTICE_MASK (Dict.dflt O.NOTICE_MASK)
    (s.rd O.LEASE_LOSS_ACTION ≠ 2 → s.rd O.LEASE_LOSS_ACTION ≠ 3 → exec (.leaseExpiry t) s = .next ((s.at t).after ended)) ∧
    (s.rd O.LEASE_LOSS_ACTION = 2 → exec (.leaseExpiry t) s =
      .next ((s.at t).after fun u => { ended u with acts := u.acts ++ [.pausePrint] })) ∧
    (s.rd O.LEASE_LOSS_ACTION = 3 → exec (.leaseExpiry t) s =
      .next ((s.at t).after fun u => { ended u with acts := u.acts ++ [.safe ⟨2, 5, 2⟩ false] }))) ∧
  (∀ (s : State) (t idx : Nat) (x : Session) (g : Stage), s.tdp.session = some x →
    x.stages.find? (fun g => g.index == idx) = some g → g.since + s.rd O.REC_STAGE_TIMEOUT * ms ≤ (s.at t).now →
    exec (.stageDiscarded t idx) s = .next ((s.at t).after fun u =>
      (u.updSession fun y => { y with stages := y.stages.filter fun k => k.index != idx }).notice 8 2 1 idx 0xff
        [toByte g.vals.length]))

/-! ### The address (spec/02) -/

/-- R43 to R45, R914: the Ethernet link comes up and acquisition begins with a discovery; a lease is taken; without one in
DHCP_TIMEOUT the link-local address of S is probed; a conflict advances S and probes again, sixteen end the attempts for 60 s; an
address that no one else holds is taken as source 2, once its probes have had their 4 s (log 137); discovery is repeated every
60 s. A change from another address ends the session. -/
def Obligations.AddressAcquisition : Prop :=
  (∀ (s : State) (t speed : Nat), s.awake = true → (speed = 10 ∨ speed = 100 ∨ speed = 1000) →
    (s.effective O.NET_MODE ≠ 0 → exec (.netLinkUp t speed) s = .next ((s.at t).after fun u =>
      { u with net := { u.net with linkUp := true, speed := speed, linkLocalS := u.fuses.serial % 2 ^ 32, probing := false
                                   conflicts := 0, since := u.now }
               out := u.out ++ [.dhcpDiscover u.fuses.mac] })) ∧
    (s.effective O.NET_MODE = 0 → exec (.netLinkUp t speed) s = .next ((s.at t).after fun u =>
      { u with net := { u.net with linkUp := true, speed := speed } }))) ∧
  (∀ (s : State) (t addr mask gateway seconds : Nat), s.awake = true → s.effective O.NET_MODE ≠ 0 → s.net.linkUp = true →
    addr ≠ 0 → (s.net.addr = 0 ∨ s.net.addr = addr) →
    exec (.dhcpLeaseObtained t addr mask gateway seconds) s = .next ((s.at t).after fun u =>
      { u with net := { u.net with addr := addr, mask := mask, gateway := gateway, source := 1, probing := false, conflicts := 0
                                   since := u.now, leaseEnd := u.now + seconds * sec } })) ∧
  (∀ (s : State) (t addr mask gateway seconds : Nat), s.awake = true → s.effective O.NET_MODE ≠ 0 → s.net.linkUp = true →
    addr ≠ 0 → s.net.addr ≠ 0 → s.net.addr ≠ addr →
    ∃ u, exec (.dhcpLeaseObtained t addr mask gateway seconds) s = .next ((s.at t).after fun _ => u) ∧ u.net.addr = addr ∧
      u.net.source = 1 ∧ u.tdp.session = none ∧ u.tdp.challenge = none ∧ u.acts = s.acts) ∧
  (∀ (s : State) (t : Nat), s.awake = true → s.effective O.NET_MODE = 2 → s.net.linkUp = true → s.net.addr = 0 →
    s.net.probing = false → s.net.conflicts = 0 → s.net.since + s.effective O.DHCP_TIMEOUT * sec ≤ (s.at t).now →
    exec (.dhcpTimeout t) s = .next ((s.at t).after fun u =>
      { u with net := { u.net with probing := true, since := u.now }
               out := u.out ++ [.arp 0 (linkLocalAddress u.net.linkLocalS)] })) ∧
  (∀ (s : State) (t : Nat), s.awake = true → s.net.probing = true →
    (s.net.conflicts < 15 → exec (.linkLocalConflict t) s = .next ((s.at t).after fun u =>
      { u with net := { u.net with linkLocalS := (u.net.linkLocalS + 1) % 2 ^ 32, conflicts := u.net.conflicts + 1
                                   probing := true, since := u.now }
               out := u.out ++ [.arp 0 (linkLocalAddress ((u.net.linkLocalS + 1) % 2 ^ 32))] })) ∧
    (s.net.conflicts = 15 → exec (.linkLocalConflict t) s = .next ((s.at t).after fun u =>
      { u with net := { u.net with linkLocalS := (u.net.linkLocalS + 1) % 2 ^ 32, conflicts := 16, probing := false
                                   since := u.now } })) ∧
    (s.net.addr = 0 → s.net.since + 4 * sec ≤ (s.at t).now → exec (.linkLocalTaken t) s = .next ((s.at t).after fun u =>
      { u with net := { u.net with
          addr := 169 * 2 ^ 24 + 254 * 2 ^ 16 + (1 + u.net.linkLocalS % 254) * 2 ^ 8 + u.net.linkLocalS / 254 % 256
          mask := 0xffff0000, gateway := 0, source := 2, probing := false, conflicts := 0, since := u.now }
               out := u.out ++ [.arp 1 (linkLocalAddress u.net.linkLocalS)] }))) ∧
  (∀ (s : State) (t : Nat), s.awake = true → s.net.conflicts = 16 → s.net.since + 60 * sec ≤ (s.at t).now →
    exec (.linkLocalRetry t) s = .next ((s.at t).after fun u =>
      { u with net := { u.net with linkLocalS := u.fuses.serial % 2 ^ 32, probing := false, conflicts := 0, since := u.now }
               out := u.out ++ [.dhcpDiscover u.fuses.mac] })) ∧
  (∀ (s : State) (t : Nat), s.awake = true → s.effective O.NET_MODE = 2 → s.net.source = 2 →
    s.net.since + 60 * sec ≤ (s.at t).now →
    exec (.dhcpRediscovery t) s = .next ((s.at t).after fun u =>
      { u with net := { u.net with since := u.now }, out := u.out ++ [.dhcpDiscover u.fuses.mac] }))

/-! ### Reset and boot (spec/03, spec/23) -/

/-- R74, R102 to R105, R111: what every reset leaves: the fuses, the flash, the strap pins as found and the cause; no session, no
stored session state, every object at its default, no safe state, no job; the balls go to the levels of reset, and XSPI_RESET_N
is low for 100 µs of a power-on alone (R113, R875). A watchdog failure and a reset that waits hold 10 ms of
safe state first. -/
def Obligations.ResetsTakeEffect : Prop :=
  (∀ (s : State) (env : BootEnv) (cause : Nat),
    let u := s.afterReset env cause
    u.fuses = s.fuses ∧ u.flash = s.flash ∧ u.boot.cause = cause ∧ u.boot.straps = env.straps % 32 ∧ u.boot.released = s.now ∧
      u.tdp = State.reset.tdp ∧ u.objs = [] ∧ u.doms = [] ∧ u.safe = State.reset.safe ∧ u.jobs = State.reset.jobs ∧
      u.power = State.reset.power ∧ u.graft.pins = env.role % 4 ∧ u.boot.pendingReset = none ∧
      (cause ≠ 2 → u.boot.watchdogCount = 0)) ∧
  (∀ (s : State) (t : Nat) (env : BootEnv),
    exec (.powerOnReset t env) s = .next ((s.at t).after fun u => ((u.afterReset env 0).resetLevels 0).bootRom env) ∧
    exec (.resetPin t env) s = .next ((s.at t).after fun u => ((u.afterReset env 1).resetLevels 1).bootRom env)) ∧
  (∀ (u : State) (cause : Nat), (u.resetLevels cause).out = u.out ++
    ["SUPPLY_EN", "DCH_CS_N", "XSPI_CS_N"].map (Out.pin · true) ++
    ["DCH_RESET_N", "DCH_CA", "DCH_CK_P", "RGMII_TX", "MDC", "PHY_RESET_N", "XSPI_CLK", "FIRE_P", "GRAFT_HB", "MOT_G"].map
      (Out.pin · false) ++
    ["DCH_DQ", "DCH_CB", "DCH_DQS", "MDIO", "XSPI_DQ", "CCI_SCL", "CCI_SDA", "CMP", "ENCO", "DISP", "GRAFT_YIELD_OUT", "TDO"].map
      Out.released ++
    (List.range 24).map (Out.laneSends · 0 false) ++
    (if cause = 0 then [.pin "XSPI_RESET_N" false, .level "XSPI_RESET_N" true u.boot.pins.xspiLowUntil] else [])) ∧
  (∀ (s : State) (t : Nat) (env : BootEnv) (cause since : Nat), s.boot.pendingReset = some (cause, since) →
    since + 10 * ms ≤ (s.at t).now →
    exec (.resetTakeEffect t env) s = .next ((s.at t).after fun u => ((u.afterReset env cause).resetLevels cause).bootRom env)) ∧
  (∀ (s : State) (t core : Nat), core < 2 → s.power.state < 3 → s.boot.pendingReset = none →
    (s.boot.phase = .ready → exec (.watchdogReset t core) s = .next ((s.at t).after fun u =>
      { u with boot := { u.boot with watchdogCount := 0, pendingReset := some (2, u.now) }
               acts := u.acts ++ [.safe ⟨1, 6, 2⟩ false] })) ∧
    (s.boot.phase = .applied → exec (.watchdogReset t core) s = .next ((s.at t).after fun u =>
      { u with boot := { u.boot with watchdogCount := u.boot.watchdogCount + 1, pendingReset := some (2, u.now) }
               acts := u.acts ++ [.safe ⟨1, 6, 2⟩ false] })))

/-- R105, R106, R110: the boot ROM checks BOOT_MODE first, DRAM_SIZE second, then the core PLL and the fuse parity, then the slots,
and the loader the other PLLs; the part holds with the code of the first that fails. With a slot that runs it comes to the DDR5
training of step 8.
R109, R111: boot finishes in PAUSE, the watchdog count cleared. -/
def Obligations.BootRom : Prop :=
  (∀ (s : State) (env : BootEnv),
    (s.boot.straps % 4 = 3 → (s.bootRom env).boot.code = 0x8f ∧ (s.bootRom env).boot.phase = .hold) ∧
    (s.boot.straps % 4 ≠ 3 → bits s.boot.straps 4 3 = 3 → (s.bootRom env).boot.code = 0x86 ∧ (s.bootRom env).boot.phase = .hold) ∧
    (s.boot.straps % 4 ≠ 3 → bits s.boot.straps 4 3 ≠ 3 →
      (env.pllFail = true → (s.bootRom env).boot.code = 0x84 ∧ (s.bootRom env).boot.phase = .hold) ∧
      (env.pllFail = false → env.parityBad = true → (s.bootRom env).boot.code = 0x81 ∧ (s.bootRom env).boot.phase = .hold) ∧
      (env.pllFail = false → env.parityBad = false →
        (s.boot.straps % 4 = 0 → s.loaderOk env 0 = false → s.loaderOk env 1 = false →
          (s.bootRom env).boot.code = 0x82 ∧ (s.bootRom env).boot.phase = .hold) ∧
        (∀ slot fb, s.chooseSlot env = .ok (slot, fb) →
          (env.latePllFail = true → (s.bootRom env).boot.code = 0x84 ∧ (s.bootRom env).boot.phase = .hold) ∧
          (env.latePllFail = false → (s.bootRom env).boot.phase = .training ∧ (s.bootRom env).boot.slot = slot ∧
            (s.bootRom env).boot.fallback = fb)) ∧
        (∀ code, s.chooseSlot env = .error code → env.latePllFail = false →
          (s.bootRom env).boot.code = code ∧ (s.bootRom env).boot.phase = .hold)))) ∧
  (∀ (s : State) (t : Nat), s.boot.phase = .applied → s.calState ≠ 0 →
    exec (.bootReady t) s = .next ((s.at t).after fun u =>
      { u with
        boot := { u.boot with phase := .ready, watchdogCount := 0, code := (if u.boot.code = 0x85 then 0x85 else 0xa)
                              bootTime := min (2 ^ 32 - 1) ((u.now - u.boot.released) / 1000000) }
        power := { u.power with state := 1, target := 0xff } }))

/-- R107, R112, R899 to R901, R201: IDCODE and BOOT_CODE read through the TAP outside OFF at any time, BOOT_CODE while the part
trains showing the code of a step (which one is the model's, log 148); SAMPLE/PRELOAD shows the cells as they captured and loads
them; EXTEST, CLAMP and HIGHZ put the balls with driving cells at what the cells hold or at high impedance in ROM hold and in safe
state, and act as BYPASS otherwise; in OFF nothing answers. While the part holds in ROM the TAP writes and reads the flash, and
otherwise not. What it wrote to an area it reads back (the chunk ring as far as it was written), a bank slot that it wrote is the
slot that those bytes spell, and no area changes another. How a TAP access names instructions, cells and areas and what erased
bytes read as are the model's (logs 3, 129 and 147). -/
def Obligations.TapAccess : Prop :=
  (∀ (s : State) (t : Nat) (x : TapScan), s.power.state ≠ 4 →
    (x.ir = 3 → exec (.tapInstruction t x) s = .next ((s.at t).after fun u =>
      ({ u with under := { u.under with tap := 3 } } : State).emit (.tap 32 0xb7416a4b))) ∧
    (x.ir = 6 → s.boot.phase ≠ .training → exec (.tapInstruction t x) s = .next ((s.at t).after fun u =>
      ({ u with under := { u.under with tap := 6 } } : State).emit (.tap 8 u.boot.code))) ∧
    (x.ir = 6 → s.boot.phase = .training → s.boot.code < 7 → ∃ code draws, s.boot.code ≤ code ∧ code ≤ 7 ∧
      latestStep ((s.at t).now - s.boot.released) ≤ code ∧
      exec (.tapInstruction t x) s = .next ((s.at t).after fun u =>
        ({ u with draws := draws, boot := { u.boot with code := code }, under := { u.under with tap := 6 } } : State).emit (.tap 8 code))) ∧
    (x.ir = 1 → exec (.tapInstruction t x) s = .next ((s.at t).after fun u =>
      ({ u with under := { u.under with tap := 1, cells := x.shifted } } : State).emit (.scan x.high))) ∧
    ((x.ir = 2 ∨ x.ir = 4 ∨ x.ir = 5) → s.boot.phase ≠ .hold → s.safe.active = false →
      exec (.tapInstruction t x) s = .next ((s.at t).after fun u =>
        ({ u with under := { u.under with tap := x.ir } } : State).emit (.tap 1 0))) ∧
    ((s.boot.phase = .hold ∨ s.safe.active = true) →
      (x.ir = 2 → exec (.tapInstruction t x) s = .next ((s.at t).after fun u =>
        { u with under := { u.under with tap := 2, cells := x.shifted }
                 out := u.out ++ [.scan x.high, .balls (some (drivingCells x.shifted))] })) ∧
      (x.ir = 4 → exec (.tapInstruction t x) s = .next ((s.at t).after fun u =>
        { u with under := { u.under with tap := 4 }
                 out := u.out ++ [.tap 1 0, .balls (some (drivingCells u.under.cells))] })) ∧
      (x.ir = 5 → exec (.tapInstruction t x) s = .next ((s.at t).after fun u =>
        { u with under := { u.under with tap := 5 }, out := u.out ++ [.tap 1 0, .balls none] })))) ∧
  (∀ (s : State) (t : Nat) (x : TapScan), s.power.state = 4 →
    exec (.tapInstruction t x) s = .next ((s.at t).after fun u => u)) ∧
  (∀ (s : State) (t : Nat) (w : FlashWrite), s.boot.phase = .hold →
    exec (.tapFlashAccess t 0 (some w)) s = .next ((s.at t).after fun u => { u with flash := { u.flash with slotA := w.image } }) ∧
    exec (.tapFlashAccess t 1 (some w)) s = .next ((s.at t).after fun u => { u with flash := { u.flash with slotB := w.image } }) ∧
    (∀ area, area < 14 → exec (.tapFlashAccess t area (some w)) s =
      .next ((s.at t).after fun u => { u with flash := u.flash.tapWrite area w.image })) ∧
    (∀ area, area < 14 → exec (.tapFlashAccess t area none) s = .next ((s.at t).after fun u =>
      u.draw.2.emit (.tap (8 * (u.flash.tapRead area u.draws).length) (leNat (u.flash.tapRead area u.draws)))))) ∧
  (∀ (f : Flash) (area draw : Nat) (bs : List Byte), area < 14 →
    (area ≠ 11 → (f.tapWrite area bs).tapRead area draw = bs) ∧
    (area = 11 → bs.length ≤ 16646144 → ((f.tapWrite area bs).tapRead area draw).take bs.length = bs) ∧
    (2 ≤ area → area < 10 → (f.tapWrite area bs).bank = f.bank.modify (area - 2) fun _ => BankSlot.read bs) ∧
    ((area < 2 ∨ 10 ≤ area) → (f.tapWrite area bs).bank = f.bank) ∧
    (area ≠ 0 → (f.tapWrite area bs).slotA = f.slotA) ∧ (area ≠ 1 → (f.tapWrite area bs).slotB = f.slotB) ∧
    (area ≠ 10 → (f.tapWrite area bs).bootCount = f.bootCount) ∧ (area ≠ 11 → (f.tapWrite area bs).ring = f.ring)) ∧
  (∀ (s : State) (t area : Nat) (w : Option FlashWrite), s.boot.phase ≠ .hold →
    exec (.tapFlashAccess t area w) s = .next ((s.at t).after fun u => u))

/-! ### The bank store and the lifecycle (spec/03) -/

/-- R121, R131, R137, R145, R158, R160, R139: the host writes that begin a store or a reset: STORE, RESTORE_DEFAULTS, SLOT_SELECT,
PRESEAL, OWNER_KEY (in OWNED and outside it) and RESET.
R164 to R168: a lifecycle transition stores first; the fuse bit is blown and the part resets when that store completes. -/
def Obligations.StoreAndLifecycleRequests : Prop :=
  (∀ t : Nat,
    Writes (fun h => .store t h 1) t O.STORE [1#8] (fun u => u.storeBusy = false ∧ 2 ≤ u.livePositions.length) (·.storeNow 0) ∧
    Writes (fun h => .restoreDefaults t h 1) t O.RESTORE_DEFAULTS [1#8]
      (fun u => u.openPages = false ∧ u.storeBusy = false ∧ 2 ≤ u.livePositions.length) (fun u => u.restore.storeNow 2) ∧
    (∀ v, v < 2 → Writes (fun h => .slotSelect t h v) t O.SLOT_SELECT [toByte v]
      (fun u => u.programmingSlot v = false ∧ imageValid (u.flash.slot v) = true ∧ u.storeBusy = false)
      (fun u => (u.wr O.SLOT_SELECT v).storeNow 4)) ∧
    (∀ key : List Byte, key.length = 32 → Writes (fun h => .ownerKey t h key) t O.OWNER_KEY key
      (fun u => u.lifecycle = 1 ∧ u.storeBusy = false)
      (fun u => (u.sealCurrent key).storeNow 5)) ∧
    (∀ key : List Byte, key.length = 32 → Writes (fun h => .ownerKey t h key) t O.OWNER_KEY key (fun u => u.lifecycle ≠ 1)
      (fun u => u.updSession fun x => { x with newKey := some key })) ∧
    (∀ key, Writes (fun h => .presealApply t h 1) t 0x1321ff [1#8]
      (fun u => u.lifecycle = 1 ∧ u.storeBusy = false ∧ u.bank.key = some key ∧ u.staged 0x1321 ≠ [] ∧
        stageFail (u.staged 0x1321) = none)
      (fun u =>
        let m05 := (List.range 6).map fun j =>
          match mapGet ((u.staged 0x1321).map fun e => (e.1, some e.2)) (O.PRESEAL_MEAS j) none with
          | some v => natLE 48 v
          | none => match u.bank.alternate with | some a => a.m05.getD j zero48 | none => zero48
        ((u.sealAlternate m05 key).storeNow 5).dropStage 0x1321)) ∧
    Writes (fun h => .reset t h 1) t O.RESET [1#8] (fun u => u.boot.pendingReset = none)
      (fun u => { u with boot := { u.boot with pendingReset := some (3, u.now) }, acts := u.acts ++ [.safe ⟨1, 6, 3⟩ false] })) ∧
  (∀ t : Nat,
    Writes (fun h => .lifecycleToOwned t h) t O.LIFECYCLE_REQUEST [1#8]
      (fun u => u.lifecycle ≠ 1 ∧ u.fuses.lifecycleBits < 16 ∧ u.openPages = false ∧
        (u.tdp.session.bind (·.newKey)).isSome = true ∧ u.storeBusy = false ∧ u.boot.pendingReset = none ∧
        2 ≤ u.livePositions.length)
      (fun u =>
        let v : State := (({ u with bank := { u.bank with transition := some 1 } } : State).sealCurrent
          ((u.tdp.session.bind (·.newKey)).getD [])).storeNow 3
        if v.bank.job.isNone then { v with bank := { v.bank with transition := none } } else v) ∧
    Writes (fun h => .lifecycleToReturn t h) t O.LIFECYCLE_REQUEST [2#8]
      (fun u => u.lifecycle = 1 ∧ u.fuses.lifecycleBits < 16 ∧ u.openPages = false ∧ u.storeBusy = false ∧
        u.boot.pendingReset = none ∧ 2 ≤ u.livePositions.length)
      (fun u =>
        let w : State := { u with bank := { u.bank with transition := some 2 } }
        let v := w.startStore 3 (w.rd O.SLOT_SELECT) w.returnBody
        if v.bank.job.isNone then { v with bank := { v.bank with transition := none } } else v))

/-- R117 to R123, R130, R135, R136, R144: an automatic store begins when it may; a store that read back right is the latest, with
its time, size and sequence, and one more store is counted; one that takes 60 s fails; the rail guard stands from the fall on; a
programmed slot holds its image, its generation one further. -/
def Obligations.StoresRun : Prop :=
  (∀ (s : State) (t : Nat), s.bank.pendingAuto = true → s.storeBusy = false →
    (∀ m, s.bank.lastStore = some m → m + s.rd O.STORE_MIN_INTERVAL * sec ≤ (s.at t).now) →
    (s.bank.recent.filter fun m => (s.at t).now < m + 24 * 3600 * sec).length < 72 →
    exec (.autoStore t) s = .next ((s.at t).after fun u =>
      ({ u with bank := { u.bank with recent := u.bank.recent.filter fun m => u.now < m + 24 * 3600 * sec } } : State).storeNow 1)) ∧
  (∀ (s : State) (t : Nat) (j : StoreJob), s.bank.job = some j → s.boot.railFallen = false → s.bank.transition = none →
    ∃ u, exec (.storeComplete t true) s = .next ((s.at t).after fun _ => u) ∧ u.bank.job = none ∧
      u.bank.lastStore = some (s.at t).now ∧ u.rd O.STORE_SEQUENCE = j.image.sequence ∧ u.rd O.BODY_SIZE = j.image.length ∧
      u.rd O.STORE_STATUS_LAST_RESULT = 1 ∧ u.fuses = s.fuses) ∧
  (∀ (s : State) (t : Nat) (j : StoreJob), s.bank.job = some j → j.since + 60 * sec ≤ (s.at t).now →
    exec (.storeTimeout t) s = .next ((s.at t).after fun u =>
      ({ u with bank := { u.bank with job := none, transition := none } } : State).storeResult 5)) ∧
  (∀ (s : State) (t : Nat), exec (.ioRailFall t) s =
    .next ((s.at t).after fun u => { u with boot := { u.boot with railFallen := true } })) ∧
  (∀ (s : State) (t : Nat), s.boot.railFallen = true →
    (∀ ok, exec (.storeComplete t ok) s = .next ((s.at t).after fun u => u)) ∧
    (∀ slot ok, exec (.fwSlotProgrammed t slot ok) s = .next ((s.at t).after fun u => u))) ∧
  (∀ (s : State) (t : Nat) (im : List Byte), s.boot.railFallen = false →
    (s.bank.programming = some ⟨0, im⟩ → exec (.fwSlotProgrammed t 0 true) s = .next ((s.at t).after fun u =>
      { u with bank := { u.bank with programming := none }
               flash := { u.flash with slotA := im, genA := (u.flash.genA + 1) % 2 ^ 32 } })) ∧
    (s.bank.programming = some ⟨1, im⟩ → exec (.fwSlotProgrammed t 1 true) s = .next ((s.at t).after fun u =>
      { u with bank := { u.bank with programming := none }
               flash := { u.flash with slotB := im, genB := (u.flash.genB + 1) % 2 ^ 32 } })))

/-! ### Power and debug (spec/04) -/

/-- R171 to R188, R913: the five power requests from the states in which each runs, refusals while a transition runs and of
REQUEST_RUN, an entry to RUN that enables firing within 10 µs or is taken back, and the end of an orderly pause. -/
def Obligations.PowerRequests : Prop :=
  (∀ t : Nat,
    Writes (fun h => .requestRun t h) t O.POWER_REQUEST [0#8]
      (fun u => u.moving = false ∧ u.power.state = 1 ∧ u.jobs.active.isSome = true ∧ u.safe.active = false ∧ u.access.level ≠ 2)
      (fun u => ({ u with power := { u.power with since := u.now } } : State).beginRun) ∧
    Writes (fun h => .requestRun t h) t O.POWER_REQUEST [0#8]
      (fun u => u.moving = false ∧ u.power.state = 2 ∧ u.jobs.active.isSome = true ∧ u.safe.active = false ∧ u.access.level ≠ 2)
      (fun u => ({ u with power := { u.power with since := u.now } } : State).leaveStandby.beginRun) ∧
    Writes (fun h => .requestPause t h) t O.POWER_REQUEST [1#8] (fun u => u.moving = false ∧ u.power.state = 0) (·.pausePrint 1) ∧
    Writes (fun h => .requestPause t h) t O.POWER_REQUEST [1#8] (fun u => u.moving = false ∧ u.power.state = 2)
      (fun u => ({ u with power := { u.power with since := u.now } } : State).leaveStandby) ∧
    Writes (fun h => .requestStandby t h) t O.POWER_REQUEST [2#8]
      (fun u => u.moving = false ∧ u.graft.state < 2 ∧ u.power.state = 1)
      (fun u => ({ u with power := { u.power with since := u.now } } : State).enterStandby) ∧
    Writes (fun h => .requestStandby t h) t O.POWER_REQUEST [2#8]
      (fun u => u.graft.state < 2 ∧ u.moving = false ∧ u.power.state = 0) (·.pausePrint 2) ∧
    Writes (fun h => .requestSleep t h) t O.POWER_REQUEST [3#8]
      (fun u => u.canWake 3 = true ∧ u.openPages = false ∧ u.graft.state = 0 ∧ u.moving = false ∧ u.bank.programming = none ∧
        u.power.state ≠ 0)
      (fun u => ({ u with power := { u.power with since := u.now } } : State).beginEntry 3) ∧
    Writes (fun h => .requestOff t h) t O.POWER_REQUEST [4#8]
      (fun u => u.canWake 4 = true ∧ u.openPages = false ∧ u.graft.state = 0 ∧ u.moving = false ∧ u.bank.programming = none ∧
        u.power.state ≠ 0)
      (fun u => ({ u with power := { u.power with since := u.now } } : State).beginEntry 4)) ∧
  (∀ u : State, u.moving = true → u.requestRun = .of Status.busy u ∧ u.requestPause = .of Status.busy u ∧
    u.requestStandby = .of Status.busy u ∧ (∀ v, u.canWake v = true → u.requestDown v = .of Status.busy u)) ∧
  (∀ u : State, u.beginRun.power.target = 0 ∧ u.now ≤ u.beginRun.power.enableAt ∧ u.beginRun.power.enableAt ≤ u.now + 10 * 1000000 ∧
    u.beginRun.power.state = u.power.state) ∧
  (∀ u : State, u.power.state = 1 → u.power.target = 0 →
    (u.jobs.active.isSome = true → u.access.level ≠ 2 →
      (u.power.enableAt ≤ u.now → u.checkRun.power.state = 0 ∧ u.checkRun.power.target = 0xff) ∧
      (u.now < u.power.enableAt → u.checkRun = u)) ∧
    (u.jobs.active = none → u.checkRun = { u with power := { u.power with target := 0xff } }) ∧
    (∀ v, u.pausePrint v = { u with power := { u.power with target := 0xff } }) ∧
    (u.safe.active = false → ∀ c y, (u.enterSafe c y).power.state = 1 ∧ (u.enterSafe c y).power.target = 0xff)) ∧
  (∀ u : State, u.moving = false → u.power.state ≠ 0 → (u.jobs.active = none ∨ u.safe.active = true) →
    u.requestRun = .of Status.state u) ∧
  (∀ u : State, u.moving = false → u.power.state ≠ 0 → u.jobs.active.isSome = true → u.safe.active = false → u.access.level = 2 →
    u.requestRun = .of Status.locked u) ∧
  (∀ (s : State) (t : Nat), s.power.pausing = true → s.pauseDone = true → s.power.target = 1 →
    exec (.orderlyPauseEnd t) s = .next ((s.at t).after fun u =>
      ({ u with power := { u.power with state := 1, pausing := false, target := 0xff } } : State).powerNow 1))

/-- R177, R182, R183, R188: what wakes the part from SLEEP and from OFF, when its source is enabled; and a source that is not
enabled does nothing. -/
def Obligations.WakeEvents : Prop :=
  (∀ (s : State) (t : Nat) (env : BootEnv),
    (bit (s.rd O.WAKE_SOURCES) 0 = true → s.power.state = 3 →
      exec (.wakePin t env) s = .next ((s.at t).after fun u => u.wake 1)) ∧
    (bit (s.rd O.WAKE_SOURCES) 0 = true → s.power.state = 4 →
      exec (.wakePin t env) s = .next ((s.at t).after fun u =>
        (((u.afterReset env 5).resetLevels 5).bootRom env).wr O.WAKE_CAUSE 1)) ∧
    (bit (s.rd O.WAKE_SOURCES) 0 = false → exec (.wakePin t env) s = .next ((s.at t).after fun u => u))) ∧
  (∀ (s : State) (t opcode : Nat), bit (s.rd O.WAKE_SOURCES) 1 = true → (opcode = 1 ∨ opcode = 0x32) →
    (s.power.state = 3 → exec (.networkWake t (.udp 0x4454) opcode) s = .next ((s.at t).after fun u => u.wake 2)) ∧
    (s.power.state ≠ 3 → s.power.target = 3 → exec (.networkWake t (.udp 0x4454) opcode) s =
      .next ((s.at t).after fun u => { u with power := { u.power with wakeHeld := some 2 } }))) ∧
  (∀ (s : State) (t : Nat) (env : BootEnv), s.power.timerAtEntry ≠ 0 →
    s.power.entered + s.power.timerAtEntry * sec ≤ (s.at t).now →
    (s.power.state = 3 → exec (.wakeTimer t env) s = .next ((s.at t).after fun u => u.wake 3)) ∧
    (s.power.state = 4 → exec (.wakeTimer t env) s = .next ((s.at t).after fun u =>
      (((u.afterReset env 5).resetLevels 5).bootRom env).wr O.WAKE_CAUSE 3))) ∧
  ∀ (s : State) (cause : Nat), (s.wake cause).rd O.WAKE_CAUSE = cause

/-- R191 to R195: the right proof on a live nonce raises the level and uses the nonce up; a wrong one is counted, and the third
within 10 s locks DEBUG_AUTH for 60 s; a locked DEBUG_AUTH changes nothing; 0, CLOSE and TRST_N close. -/
def Obligations.DebugAuthorisation : Prop :=
  (∀ (s : State) (t : Nat) (p n : List Byte) (t0 : Nat), s.debugReachable = true → (s.at t).debugOpen 1 = true →
    s.access.nonce = some (n, t0) → (s.at t).now < t0 + 10 * sec →
    (p = (hmac256 s.debugKey (ascii "DBG-LEVEL" ++ [1#8] ++ n ++ natLE 8 s.fuses.serial)).take 16 →
      exec (.debugAuth t 1 p) s = .next ((s.at t).after fun u =>
        { u with access := { u.access with nonce := none, level := max u.access.level 1 } })) ∧
    (p ≠ (hmac256 s.debugKey (ascii "DBG-LEVEL" ++ [1#8] ++ n ++ natLE 8 s.fuses.serial)).take 16 →
      ∃ u, exec (.debugAuth t 1 p) s = .next ((s.at t).after fun _ => u) ∧ u.access.level = s.access.level ∧ u.access.nonce = none ∧
        u.access.failures = min 65535 (s.access.failures + 1) ∧
        (2 ≤ (s.access.wrong.filter fun m => (s.at t).now < m + 10 * sec).length → u.access.lockUntil = (s.at t).now + 60 * sec))) ∧
  (∀ (s : State) (t level : Nat) (p : List Byte), s.debugReachable = true → (level = 1 ∨ level = 2) →
    (s.at t).debugOpen (2 ^ (level - 1)) = false →
    exec (.debugAuth t level p) s = .next ((s.at t).after fun u => u.emit (.tap 16 Status.locked))) ∧
  (∀ (s : State) (t : Nat) (p : List Byte), s.debugReachable = true →
    exec (.debugAuth t 0 p) s = .next ((s.at t).after fun u => { u with access := { u.access with level := 0, nonce := none } })) ∧
  (∀ t, Writes (fun h => .debugClose t (some h) 1) t O.DEBUG_CLOSE [1#8] (fun _ => True)
    (fun u => { u with access := { u.access with level := 0, nonce := none } })) ∧
  (∀ (s : State) (t : Nat), exec (.trstLow t) s = .next ((s.at t).after fun u =>
    { u with under := { u.under with tap := 3 }, access := { u.access with level := 0, nonce := none } })) ∧
  (∀ (s : State) (t : Nat) (n : List Byte) (t0 : Nat), s.access.nonce = some (n, t0) → t0 + 10 * sec ≤ (s.at t).now →
    exec (.debugNonceExpiry t) s = .next ((s.at t).after fun u => { u with access := { u.access with nonce := none } })) ∧
  (∀ (s : State) (t : Nat), s.access.lockUntil ≤ (s.at t).now →
    exec (.debugLockExpiry t) s = .next ((s.at t).after fun u => { u with access := { u.access with lockUntil := 0, wrong := [] } }))

/-! ### Records -/

/-- R77, R79: an APPLY of any record whose staged values pass their checks and that its block takes: all of them are in effect
together, and nothing stays staged. -/
def Obligations.RecordApplies : Prop :=
  ∀ (t idx : Nat) (r : ObjRow), idx < 0x8000 → Dict.hasApply idx = true → findObject idx 255 = .ok r → r.ty.size = 1 →
    (r.acc == .ro) = false → (r.ty == .dom) = false → idx ≠ 0x1321 →
    Writes (fun h => .recordApply t h idx 1) t (256 * idx + 255) [1#8]
      (fun u => u.authorityRefused (256 * idx + 255) = false ∧ u.staged idx ≠ [] ∧ stageFail (u.staged idx) = none ∧
        (u.recordOp idx (u.staged idx)).status = Status.ok ∧ (u.recordOp idx (u.staged idx)).data = [])
      (fun u => ((u.recordOp idx (u.staged idx)).state.dropStage idx).forwardRecord idx (u.staged idx))

/-! ### Job sets (spec/05) -/

/-- R209, R210, R218: the plan fits and the set is COMMITTED with its memory reserved, or it does not and the set is BUILDING again
with LAST_RESULT RANGE.
R205, R209, R211, R223, R237, R239: the four values of JOB_CONTROL in the states that take them, and the refusals of *Set states* in
the others, which change no set state. -/
def Obligations.PlansAndSetStates : Prop :=
  (∀ (s : State) (t : Nat), s.jobs.state = .planning → s.graft.state < 2 →
    let figures (u : State) : State := (u.wrs [(O.MEMORY_PLAN_FIXED, u.plan.fixed), (O.ACTIVE_NEED, u.plan.active),
      (O.SHADOW_NEED, u.plan.shadow), (O.PLAN_DELAY_LINES, u.plan.delayBytes), (O.PLAN_REFERENCE, u.plan.refBytes),
      (O.MEMORY_PLAN_SHADOW_BACKGROUND, u.jobs.shadow.background),
      (O.SHADOW_QUEUE, u.jobs.shadow.rd O.PAGE_QUEUE_SIZE)]).wrI 64 O.MEMORY_PLAN_FREE u.plan.free
    (0 ≤ s.plan.free → exec (.planDone t) s = .next ((s.at t).after fun u =>
      let v := (figures u).wr O.SET_STATUS_LAST_RESULT Status.ok
      ({ v with jobs := { v.jobs with reserved := some ⟨u.plan.depths, u.plan.refLines⟩ } } : State).enterSet .committed)) ∧
    (s.plan.free < 0 → ∃ u, exec (.planDone t) s = .next ((s.at t).after fun _ => u) ∧ u.jobs.state = .building ∧
      u.rd O.SET_STATUS_LAST_RESULT = Status.range ∧ u.jobs.reserved = s.jobs.reserved ∧ u.jobs.active = s.jobs.active)) ∧
  ((∀ t : Nat,
    Writes (fun h => .commit t h) t O.JOB_CONTROL [1#8]
      (fun u => u.control = true ∧ u.jobs.state = .building ∧ u.jobs.shadow.jobId ≠ 0 ∧
        ¬(u.jobs.active.isSome = true ∧ u.jobs.shadow.jobId = u.activeJob) ∧ u.jobs.shadow.commitFail = none ∧
        u.jobs.shadow.firingFail = none ∧ u.cameraFail u.jobs.shadow = none ∧ u.jobs.shadow.inspectFail = none)
      (fun u => ((u.enterSet .planning).wr O.SET_STATUS_LAST_RESULT Status.ok).forwardBytes O.JOB_CONTROL [1#8]) ∧
    Writes (fun h => .cancel t h) t O.JOB_CONTROL [2#8] (fun u => u.control = true ∧ u.jobs.state = .armed)
      (fun u => ((({ u with jobs := { u.jobs with boundary := none, armStart := 0 } } : State).updSet true
        fun a => { a with closed := false }).enterSet .committed).forwardBytes O.JOB_CONTROL [2#8]) ∧
    Writes (fun h => .reopen t h) t O.JOB_CONTROL [3#8] (fun u => u.control = true ∧ u.jobs.state = .committed)
      (fun u => (u.enterSet .building).forwardBytes O.JOB_CONTROL [3#8]) ∧
    Writes (fun h => .discard t h) t O.JOB_CONTROL [4#8]
      (fun u => u.control = true ∧ (u.jobs.state = .building ∨ u.jobs.state = .committed))
      (fun u =>
        let v := u.dropDescs u.jobs.shadow.jobId
        (({ v with jobs := { v.jobs with shadow := fillShadow v.jobs.active, boundary := none, armStart := 0 } }
          : State).enterSet .empty).forwardBytes O.JOB_CONTROL [4#8]) ∧
    Writes (fun h => .discard t h) t O.JOB_CONTROL [4#8] (fun u => u.control = true ∧ u.jobs.state = .armed)
      (fun u =>
        let v := (u.updSet true fun a => { a with closed := false }).dropDescs u.jobs.shadow.jobId
        (({ v with jobs := { v.jobs with shadow := fillShadow v.jobs.active, boundary := none, armStart := 0 } }
          : State).enterSet .empty).forwardBytes O.JOB_CONTROL [4#8])) ∧
  ∀ u : State,
    (u.jobs.state = .planning → (u.jobControl 1).status = Status.busy ∧ u.jobControl 4 = .of Status.busy u) ∧
    (u.jobs.state = .empty → u.jobControl 4 = .of Status.empty u) ∧
    (u.jobs.state ≠ .building → u.jobs.state ≠ .planning → (u.jobControl 1).status = Status.state ∧
      (u.jobControl 1).state.jobs = u.jobs) ∧
    (u.jobs.state ≠ .armed → u.jobControl 2 = .of Status.state u) ∧
    (u.jobs.state ≠ .committed → u.jobControl 3 = .of Status.state u) ∧
    (u.jobs.state = .latched ∨ u.jobs.state = .retiring → u.jobControl 4 = .of Status.state u) ∧
    (u.jobs.state = .building → (u.jobs.shadow.jobId = 0 ∨ (u.jobs.active.isSome = true ∧ u.jobs.shadow.jobId = u.activeJob)) →
      (u.jobControl 1).status = Status.range ∧ (u.jobControl 1).state.jobs = u.jobs))

/-- R221, R223: an ARM APPLY in mode 1 or 2 whose checks pass fixes B, closes the active queue and leaves the set ARMED; a boundary
that the high-water mark has reached latches at once (log 72). In mode 0 every stage swaps at once. -/
def Obligations.ArmApplies : Prop :=
  ∀ t : Nat,
    Applies (fun h => .armApply t h 1) t 0x2003 (fun _ v => v.armFail = none ∧ v.rd O.ARM_MODE ≠ 0)
      (fun _ v =>
        let a := ((({ v with jobs := { v.jobs with
            boundary := some (v.armBoundary (v.rd O.ARM_MODE) (v.rd O.ARM_BOUNDARY))
            armStart := v.armBoundary (v.rd O.ARM_MODE) (v.rd O.ARM_BOUNDARY) +
              (match v.jobs.active with | some a => v.jobGapG a v.jobs.shadow | none => 0) } } : State).closeQueue true).enterSet .armed)
        let b := (a.latchAt a.hwmLine).composeTo (a.hwmLine + 256) 1024
        ({ b with graft := { b.graft with planned := bit (v.rd O.ARM_FLAGS) 0 } } : State).wr O.SET_STATUS_LAST_RESULT Status.ok) ∧
    Applies (fun h => .armApply t h 1) t 0x2003 (fun _ v => v.armFail = none ∧ v.rd O.ARM_MODE = 0 ∧ v.jobs.state = .committed)
      (fun _ v =>
        let b := (v.swapNow (v.rd O.ARM_BOUNDARY / 65536)).rowsSwapNow
        ({ b with graft := { b.graft with planned := false } } : State).wr O.SET_STATUS_LAST_RESULT Status.ok) ∧
    Applies (fun h => .armApply t h 1) t 0x2003 (fun _ v => v.armFail = none ∧ v.rd O.ARM_MODE = 0 ∧ v.jobs.state = .armed)
      (fun _ v =>
        let a := (({ v with jobs := { v.jobs with
            boundary := some (v.rd O.ARM_BOUNDARY / 65536)
            armStart := v.rd O.ARM_BOUNDARY / 65536 +
              (match v.jobs.active with | some a => v.jobGapG a v.jobs.shadow | none => 0) } } : State).closeQueue true)
        let b := (a.latchAt a.hwmLine).composeTo (a.hwmLine + 256) 1024
        ({ b with graft := { b.graft with planned := false } } : State).wr O.SET_STATUS_LAST_RESULT Status.ok)

/-! ### The page link and the mirror (spec/06, spec/19) -/

/-- R240 to R242, R246, R250, R260: the ingest bond forms from the lanes that are up, with 4 096 credits and the numbers from 0; link-down drops
what is incomplete; a bond has an allowed width of lanes at one grade; a packet that the part sends has a 44-byte header whose CRCs
are right. -/
def Obligations.IngestBond : Prop :=
  (∀ (s : State) (t : Nat) (ls : List Nat) (g : Nat), s.ingest.link ≠ 2 → bondOf (s.lanesUp 16) (s.rd O.MIN_BOND_WIDTH) = some (ls, g) →
    ∃ u, exec (.ingestBondForm t) s = .next ((s.at t).after fun _ => u) ∧ u.ingest.link = 2 ∧ u.ingest.width = ls.length ∧
      u.ingest.grade = g ∧ u.ingest.expect = 0 ∧ u.ingest.spent = 0 ∧ u.ingest.limit = 4096 ∧ u.ingest.withdrawn = s.wantsWithdraw ∧
      u.ingest.txSeq = 1 ∧ u.jobs = s.jobs ∧ u.objs = s.objs ∧
      u.out = [.tpl 0 (sentPacket 0 ⟨0x10, 0, 0, 0, 0, 2 * b2n s.wantsWithdraw, 16, natLE 4 4096 ++ natLE 4 0xffffffff ++
        natLE 2 4096 ++ [toByte ls.length, toByte g] ++ natLE 4 0, 0⟩)]) ∧
  (∀ (s : State) (t : Nat), s.ingest.link = 2 →
    exec (.ingestLinkDown t) s = .next ((s.at t).after fun u => ((({ u with ingest := { u.ingest with
      link := 0, width := 0, grade := 0, lanes := 0, descs := [], limit := 0, spent := 0, freed := 0, held := 0 } } : State).updSet
        true JobSet.dropPartial).updSet false JobSet.dropPartial))) ∧
  (∀ (up : List (Nat × Nat)) (m : Nat) (ls : List Nat) (g : Nat), bondOf up m = some (ls, g) →
    m ≤ ls.length ∧ (∀ l ∈ ls, (l, g) ∈ up) ∧ ls ∈ [[0, 1, 2, 3], [0, 1], [2, 3], [0], [1], [2], [3]]) ∧
  ∀ (seq : Nat) (m : MirrorPacket), packetOk (sentPacket seq m) = true ∧ (packetHead (sentPacket seq m)).length = 40

/-- R246 to R259, R248, R281: a packet in its turn, within the credits and with both CRCs right, is consumed and does what its TYPE
says; a data packet without bytes is only counted; a query is answered; a packet whose MAGIC, VERSION or TYPE is not recognised is
consumed and refused; one whose CRC is wrong is not consumed.
R261 to R263, R268, R270, R272, R278, R282: bytes of an object go into the accepted page that has it, of a background plane into the
set; packets for no set are refused, and a descriptor of the active set after its queue has closed; bytes of what is complete are
discarded and only counted; a complete descriptor that is refused changes nothing stored. -/
def Obligations.PagePackets : Prop :=
  (∀ (s : State) (t : Nat) (p : TplPacket), s.ingest.link = 2 → s.rdB O.CAPTURE_ENABLE = false →
    let spent := (s.ingest.spent + packetCost p.length) % 2 ^ 32
    let counted (u : State) : State := ({ u with ingest := { u.ingest with spent := spent } } : State).inc O.PACKETS_RX
    let taken (u : State) : State := { counted u with ingest := { (counted u).ingest with
      gap := none, expect := (p.linkSeq + 1) % 2 ^ 32, consumed := p.linkSeq } }
    seqLater 32 spent s.ingest.limit = false →
    (packetOk p = true → p.linkSeq = s.ingest.expect → p.magic = 0x5054 → p.version = 1 → p.length ≤ 16384 →
      (p.ty = 1 → p.inflated ≠ 0 → exec (.backgroundPacket t p) s = .next ((s.at t).after fun u => (taken u).takeBackground false p)) ∧
      (p.ty = 2 → p.inflated ≠ 0 → exec (.descriptorPacket t p) s = .next ((s.at t).after fun u => (taken u).takeDescriptor false p)) ∧
      (p.ty = 3 → p.inflated ≠ 0 → exec (.objectPacket t p) s = .next ((s.at t).after fun u => (taken u).takeObject false p)) ∧
      (p.ty = 3 → p.inflated = 0 → exec (.objectPacket t p) s = .next ((s.at t).after fun u =>
        ((taken u).freeCredits (packetCost p.length)).inc O.EMPTY_PACKETS)) ∧
      (p.ty = 5 → exec (.pageQuery t p) s = .next ((s.at t).after fun u =>
        ((taken u).freeCredits (packetCost p.length)).answerQuery p.job p.page))) ∧
    (packetOk p = true → p.linkSeq = s.ingest.expect → (p.magic ≠ 0x5054 ∨ p.version ≠ 1 ∨ p.ty ∉ [1, 2, 3, 5]) →
      exec (.tplUnknownType t p) s = .next ((s.at t).after fun u =>
        ((taken u).freeCredits (packetCost p.length)).refuse false p .type)) ∧
    (packetOk p = false → exec (.backgroundPacket t p) s = .next ((s.at t).after fun u =>
      ((counted u).freeCredits (packetCost p.length)).resync s.ingest.expect))) ∧
  ((∀ (s : State) (p : TplPacket) (act : Bool) (j : JobSet) (bs : List Byte), s.inComplete p = false → s.takeSet p.job 1 = .ok act →
    s.getSet act = some j →
    p.object ≤ 5 → bit (j.rd O.BG_PLANES) p.object = true → p.offset + p.inflated ≤ j.planeSize →
    bit p.flags 0 = false → packetContent p = some bs →
    let put : JobSet := { j with planes := mapSet j.planes p.object (putBytes (mapGet j.planes p.object []) p.offset bs) [] }
    put.bgDone = false → s.takeBackground false p = (s.updSet act fun _ => put).stored false p bs.length) ∧
  (∀ (s : State) (p : TplPacket), s.inComplete p = false → s.takeSet p.job 3 = .error .noSet →
    s.takeObject false p = (s.freeCredits (packetCost p.length)).refuse false p .noSet) ∧
  (∀ (s : State) (p : TplPacket), s.inComplete p = true →
    s.takeObject false p = (s.freeCredits (packetCost p.length)).inc O.REFUSALS ∧
    s.takeBackground false p = (s.freeCredits (packetCost p.length)).inc O.REFUSALS) ∧
  (∀ (s : State) (a : JobSet), s.jobs.active = some a → a.closed = true → a.jobId ≠ 0 → s.takeSet a.jobId 2 = .error .closed) ∧
  (∀ (s : State) (p : TplPacket) (act : Bool) (j : JobSet) (bs : List Byte) (why : Tpl) (limits : List (Nat × Nat)),
    s.descTaken p = false → s.takeSet p.job 2 = .ok act → s.getSet act = some j → ((j.page? p.page).bind (·.outcome)).isSome = false →
    p.offset = 0 → 32 ≤ p.inflated → bit p.flags 0 = false → packetContent p = some bs →
    descSize (putBytes [] 0 bs) = (putBytes [] 0 bs).length →
    s.pageRefusal j p.page ((putBytes [] 0 bs).map (·.2)) = some (why, limits) →
    s.takeDescriptor false p = ((s.wrs limits).freeCredits (packetCost p.length)).refuse false p why) ∧
  (∀ (s : State) (job : Nat), job ≠ 0 → (s.jobs.active = none ∨ s.activeJob ≠ job) → s.jobs.shadow.jobId ≠ job →
    s.takeSet job 3 = .error .noSet))

/-- R252, R285, R250, R256, R779, R284: CREDIT is sent when it is due; the partner's MIRROR_ACK releases the ACK of the page, and
without one it goes after MIRROR_TIMEOUT with NOT_MIRRORED; CREDIT, RESYNC and the forming of the mirror bond; a page packet of the
partner is taken by a standby part. -/
def Obligations.MirrorLink : Prop :=
  (∀ (s : State) (t : Nat), s.ingest.link = 2 → (64 ≤ s.ingest.freed ∨ s.ingest.lastCredit + 100000000 ≤ (s.at t).now) →
    s.mirror.link ≠ 2 → exec (.credit t) s = .next ((s.at t).after fun u => u.sendCredit)) ∧
  (∀ (s : State) (t job page : Nat), s.mirror.link = 2 → s.graft.pins ≠ 0 → s.ackWaits job page = true →
    exec (.mirrorAck t job page) s = .next ((s.at t).after fun u =>
      ((({ u with mirror := { u.mirror with expect := (u.mirror.expect + 1) % 2 ^ 32 } } : State).setUnmirrored job page false).ackTaken
        job page).ack job page 1)) ∧
  (∀ (s : State) (t job page : Nat) (a : AckWait), (s.ingest.acks.find? fun a => a.job == job && a.page == page) = some a →
    a.since + s.rd O.MIRROR_TIMEOUT * ms ≤ (s.at t).now →
    exec (.mirrorTimeout t job page) s = .next ((s.at t).after fun u =>
      ((((u.ackTaken job page).setUnmirrored job page true).ack job page 1).inc O.UNMIRRORED_PAGES).event 6 1 0)) ∧
  (∀ (s : State) (t limit : Nat), s.mirror.link = 2 → s.graft.pins ≠ 0 → (limit = s.mirror.limit ∨ seqLater 32 limit s.mirror.limit = true) →
    s.mirror.backlog = [] → s.mirror.again = [] →
    exec (.mirrorCredit t limit) s = .next ((s.at t).after fun u =>
      { u with mirror := { u.mirror with expect := (u.mirror.expect + 1) % 2 ^ 32, limit := limit % 2 ^ 32 } })) ∧
  (∀ (s : State) (t seq : Nat) (e : Nat × MirrorPacket), s.mirror.link = 2 → s.graft.pins ≠ 0 → s.mirror.backlog = [] →
    s.mirror.sent.filter (fun e => !seqLater 32 seq e.1) = [e] → e.2.answers = false →
    ∃ u, exec (.mirrorResync t seq) s = .next ((s.at t).after fun _ => u) ∧ u.mirror.sent = [e] ∧
      (seqLater 32 (s.mirror.spent + packetCost e.2.payload.length) s.mirror.limit = false →
        u.mirror.again = [] ∧ u.mirror.spent = (s.mirror.spent + packetCost e.2.payload.length) % 2 ^ 32 ∧
        u.out = [.tpl 1 (sentPacket e.1 e.2)]) ∧
      (seqLater 32 (s.mirror.spent + packetCost e.2.payload.length) s.mirror.limit = true →
        u.mirror.again = [e] ∧ u.mirror.spent = s.mirror.spent ∧ u.out = [])) ∧
  (∀ (s : State) (t : Nat) (ls : List Nat) (g : Nat), s.mirror.link ≠ 2 → s.graft.pins ≠ 0 →
    bondOf (s.lanesUp 20) (s.rd O.MIN_BOND_WIDTH) = some (ls, g) → s.mirror.backlog = [] →
    exec (.mirrorBondForm t) s = .next ((s.at t).after fun u =>
      (({ u with
          mirror := { u.mirror with
            link := 2, width := ls.length, grade := g, lanes := ls.foldl (fun n l => setBit n l true) 0, txSeq := 0
            limit := 4096, spent := 0, backlog := [], sent := [], again := [], expect := 0, gap := none, resyncs := []
            granted := 4096, used := 0, freed := 0 }
          graft := { u.graft with partner := none } } : State).mirrorCreditSend).startForming)) ∧
  (∀ (s : State) (t : Nat) (p : TplPacket), s.mirror.link = 2 → 2 ≤ s.graft.state → packetOk p = true →
    p.linkSeq = s.mirror.expect → p.magic = 0x5054 → p.version = 1 → p.inflated ≠ 0 → p.length ≤ 16394 →
    seqLater 32 ((s.mirror.used + packetCost p.length) % 2 ^ 32) s.mirror.granted = false →
    let taken (u : State) : State := { u with mirror := { u.mirror with
      used := (u.mirror.used + packetCost p.length) % 2 ^ 32, expect := (u.mirror.expect + 1) % 2 ^ 32, gap := none } }
    (p.ty = 1 → exec (.mirrorReceive t p) s = .next ((s.at t).after fun u => (taken u).takeBackground true p)) ∧
    (p.ty = 2 → exec (.mirrorReceive t p) s = .next ((s.at t).after fun u => (taken u).takeDescriptor true p)) ∧
    (p.ty = 3 → exec (.mirrorReceive t p) s = .next ((s.at t).after fun u => (taken u).takeObject true p))) ∧
  (∀ (s : State) (t : Nat) (p : TplPacket), s.mirror.link = 2 → 2 ≤ s.graft.state → packetOk p = false →
    seqLater 32 ((s.mirror.used + packetCost p.length) % 2 ^ 32) s.mirror.granted = false →
    exec (.mirrorReceive t p) s = .next ((s.at t).after fun u =>
      ({ u with mirror := { u.mirror with
          used := (u.mirror.used + packetCost p.length) % 2 ^ 32, freed := u.mirror.freed + packetCost p.length } } : State).mirrorLost
        u.mirror.expect)) ∧
  (∀ (s : State) (seq : Nat), (s.mirror.resyncs.filter fun t => s.now ≤ t + 10 * ms).length < 16 →
    s.mirrorLost seq = ({ s with mirror := { s.mirror with
        gap := some seq, resyncs := s.now :: s.mirror.resyncs.filter fun t => s.now ≤ t + 10 * ms } } : State).mirrorAnswer 0x11 0 0
      (natLE 4 s.mirror.expect ++ natLE 4 s.mirror.granted)) ∧
  (∀ (s : State) (g seq : Nat), s.mirror.gap = some g → seqLater 32 seq g = true →
    s.mirrorGapped seq = { s with mirror := { s.mirror with gap := some seq } }) ∧
  (∀ (s : State) (seq : Nat), s.mirror.link = 2 → 16 ≤ (s.mirror.resyncs.filter fun t => s.now ≤ t + 10 * ms).length →
    (s.mirrorLost seq).mirror.link = 0)

/-! ### Nozzles, alignment and test pages (spec/08) -/

/-- R335 to R344: coverage is recomputed after a change and its totals are those of the map; NOZZLE_EDIT writes its entries and
advances the map's generation by 1; whole units of 65 536 drops go into FIRE_COUNTS and less than that stays.
R363, R364, R366 to R371: a test page is placed after the last page of the active set; a measurement gives TEST_RESULT 1, or 3
where it fails; ACCEPT takes the result into the map or the alignment, once. -/
def Obligations.NozzleMapsAndTestPages : Prop :=
  ((∀ (s : State) (t : Nat), s.nozzle.changed = true →
    let found := (List.range 6).flatMap fun row => ((List.range barColumns).filter (s.uncoverableAt row)).map fun x => (row, x)
    ∃ u, exec (.coverageRecompute t) s = .next ((s.at t).after fun _ => u) ∧ u.nozzle.changed = false ∧
      u.rd O.UNCOVERABLE = found.length ∧ u.rd O.COVERAGE_DEAD = s.countState 2 ∧ u.rd O.COVERAGE_WEAK = s.countState 1 ∧
      u.rd O.COVERAGE_MASKED = s.countState 3 ∧ u.doms = s.doms) ∧
  (∀ t, Applies (fun h => .nozzleEdit t h 1) t 0x2500 (fun _ v => v.rd O.NOZZLE_EDIT_COUNT ≠ 0)
    (fun _ v =>
      let seg := v.rd O.NOZZLE_EDIT_SEGMENT
      let row := v.rd O.NOZZLE_EDIT_ROW
      let first := v.rd O.NOZZLE_EDIT_FIRST
      let w := (List.range (v.rd O.NOZZLE_EDIT_COUNT)).foldl (fun s i => s.writeEntry seg row (first + i) (v.rd O.NOZZLE_EDIT_ENTRY)) v
      (w.setDom (0x2510 + seg) { w.dom (0x2510 + seg) with gen := ((v.dom (0x2510 + seg)).gen + 1) % 2 ^ 32 }).hostTouch
        [6 * seg + row] (some (first, first + v.rd O.NOZZLE_EDIT_COUNT)))) ∧
  (∀ (s : State) (t : Nat), s.awake = true →
    exec (.fireCountUpdate t) s = .next ((s.at t).after fun u => (u.addCounts.inc (O.TASK_RUNS 4)).wr (O.TASK_LAST_DONE 4) u.addCounts.mono)) ∧
  ∀ s : State, s.addCounts.objs = s.objs ∧
    s.addCounts.nozzle.remainders = (s.nozzle.remainders.filter fun e => 65536 ≤ e.2).foldl (fun m e => mapSet m e.1 (e.2 % 65536) 0)
      s.nozzle.remainders) ∧
  ((∀ t, Applies (fun h => .testPageApply t h 1) t 0x2540
    (fun _ v => v.testOpen = false ∧ ∃ a, v.jobs.active = some a ∧ a.closed = false)
    (fun _ v => (v.placeTest (v.rd O.TEST_PATTERN) (v.rd O.TEST_ROWS) (v.rd O.TEST_LEVEL) (v.rd O.TEST_FLAGS) (v.rd O.TEST_REPEAT)).state)) ∧
  (∀ (s : State) (a : JobSet) (pattern rows level flags rep : Nat), s.jobs.active = some a → a.closed = false → s.testOpen = false →
    rows ≠ 0 → (bit flags 0 && (pattern = 2 || pattern = 5 || pattern = 6)) = false →
    let u := (s.placeTest pattern rows level flags rep).state
    (s.placeTest pattern rows level flags rep).status = Status.ok ∧ u.rd O.TEST_STATUS_STATE = 1 ∧
      u.rd O.TEST_STATUS_START = a.nextStart * 65536 ∧ u.rd O.TEST_LENGTH = rep * patternLines pattern rows ∧
      u.rd O.TEST_RESULT = 0 ∧ u.nozzle.test = some (pattern, rows, flags) ∧
      u.jobs.active.map (fun b => b.pages.length) = some (a.pages.length + 1)) ∧
  (∀ (s : State) (t : Nat) (m : TestMeasurement) (pat rows flags : Nat), s.nozzle.test = some (pat, rows, flags) →
    s.rd O.TEST_STATUS_STATE = 3 →
    (m.covered = false → exec (.testResultReady t m) s = .next ((s.at t).after fun u =>
      (((u.wr O.TEST_STATUS_STATE 4).wr O.TEST_RESULT 3)).forwardChanged u)) ∧
    (m.covered = true → s.rd O.TEST_OUTCOME ≠ 2 → pat ≠ 1 → pat ≠ 4 → bit flags 1 = false → m.shifts = [] → m.positions = [] →
      exec (.testResultReady t m) s = .next ((s.at t).after fun u =>
        (((u.wr O.TEST_STATUS_STATE 4).wrs [(O.MEASURED_X_SHIFT, u.rd O.X_SHIFT), (O.MEASURED_ROW_POS, u.rd O.ROW_POS)]).wr
          O.TEST_RESULT 1).forwardChanged u))) ∧
  (∀ t,
    Writes (fun h => .accept t h 1) t O.ACCEPT [1#8]
      (fun u => u.authorityRefused O.ACCEPT = false ∧ u.rd O.TEST_RESULT = 1 ∧ u.nozzle.written = false ∧
        ∃ rows flags, u.nozzle.test = some (1, rows, flags))
      (fun u => ((u.acceptStates.wr O.TEST_RESULT 2).autoStore).forwardChanged u) ∧
    Writes (fun h => .accept t h 1) t O.ACCEPT [1#8]
      (fun u => u.authorityRefused O.ACCEPT = false ∧ u.rd O.TEST_RESULT = 1 ∧ u.nozzle.written = false ∧
        ∃ rows flags, u.nozzle.test = some (3, rows, flags))
      (fun u => ((((u.wr O.CHANGED_NOZZLES 0).writeXShift (u.rd O.MEASURED_X_SHIFT)).wr O.TEST_RESULT 2).autoStore).forwardChanged u)) ∧
  ∀ u : State, u.rd O.TEST_RESULT = 1 → u.nozzle.written = true → u.accept = .of Status.state (u.wr O.TEST_RESULT 4))

/-! ### The web position (spec/09) -/

/-- R376 to R379, R418: a valid encoder edge counts by one in its direction, and where it is the source the position follows; a
change of both levels at once is an illegal transition; a STEP_IN edge counts in STEP_DIR's direction; before boot step 10 nothing
is counted.
R399 to R403: the first index edge is the reference; one within the tolerance is a check, corrected over 256 counts where
INDEX_CORRECT says so; one outside it is an error, and the reference moves by one period. -/
def Obligations.PositionEdges : Prop :=
  ((∀ (s : State) (t : Nat) (a b : Bool), let v := (s.at t).checkRun
    v.counting = true → (a != v.web.a) ≠ (b != v.web.b) →
    let forward := ((grayPlace a b + 4 - grayPlace v.web.a v.web.b) % 4 == 1) != (v.rd O.ENC_SENSE == 1)
    let n := v.web.encCount + (if forward then 1 else -1)
    let counted : State := { v with web := { v.web with a := a, b := b, encCount := n } }
    (v.rd O.WEB_SOURCE ≠ 0 → exec (.encEdge t a b) s = .next ((s.at t).after fun _ => counted)) ∧
    (v.rd O.WEB_SOURCE = 0 → exec (.encEdge t a b) s = .next ((s.at t).after fun _ => counted.followCount forward n))) ∧
  (∀ (s : State) (t : Nat) (a b : Bool), let v := (s.at t).checkRun
    v.counting = true → a ≠ v.web.a → b ≠ v.web.b →
    exec (.encEdge t a b) s = .next ((s.at t).after fun _ =>
      ((({ v with web := { v.web with a := a, b := b } } : State).webFlag 0).inc O.ILLEGAL_COUNT).event 0xd 1 0)) ∧
  (∀ (s : State) (t : Nat) (a b : Bool), let v := (s.at t).checkRun
    v.counting = false →
    exec (.encEdge t a b) s = .next ((s.at t).after fun _ => { v with web := { v.web with a := a, b := b } }) ∧
    exec (.stepEdge t a) s = .next ((s.at t).after fun _ => v)) ∧
  (∀ (s : State) (t : Nat) (dir : Bool), let v := (s.at t).checkRun
    v.counting = true →
    let forward := dir == v.rdB O.STEP_SENSE
    let n := v.web.stepCount + (if forward then 1 else -1)
    let counted : State := { v with web := { v.web with stepCount := n } }
    (v.rd O.WEB_SOURCE ≠ 1 → exec (.stepEdge t dir) s = .next ((s.at t).after fun _ => counted)) ∧
    (v.rd O.WEB_SOURCE = 1 → exec (.stepEdge t dir) s = .next ((s.at t).after fun _ => counted.followCount forward n))) ∧
  (∀ s : State, s.enteringRun = false → s.checkRun = s) ∧
  ∀ s : State, s.awake = true → s.encoDriven = true →
    (s.rd O.REPEAT_MODE = 1 → s.encoWant = .follows 1) ∧ (s.rd O.REPEAT_MODE = 2 → s.encoWant = .follows 2)) ∧
  (∀ (s : State) (t : Nat), s.counting = true → s.rd O.WEB_SOURCE = 0 → s.web.valid = true → s.web.pos = s.web.hwm →
    s.rd O.INDEX_PERIOD ≠ 0 →
    (s.web.cRef = none → exec (.indexCheck t) s = .next ((s.at t).after fun u =>
      { u with web := { u.web with cRef := some u.web.encCount } })) ∧
    ∀ r, s.web.cRef = some r →
      let e := s.web.encCount - (r + (s.rd O.INDEX_PERIOD : Nat))
      (e.natAbs ≤ s.rd O.INDEX_TOL → s.rdB O.INDEX_CORRECT = false → exec (.indexCheck t) s = .next ((s.at t).after fun u =>
        ({ u with web := { u.web with cRef := some u.web.encCount } } : State).inc O.INDEX_CHECKS)) ∧
      (e.natAbs ≤ s.rd O.INDEX_TOL → s.rdB O.INDEX_CORRECT = true → exec (.indexCheck t) s = .next ((s.at t).after fun u =>
        ({ u with web := { u.web with cRef := some u.web.encCount, fixLeft := 256, fixRest := -e * (u.rd O.ENC_RATIO : Nat)
                                      fixStep := (-e * (u.rd O.ENC_RATIO : Nat)).tdiv 256 } } : State).inc O.INDEX_CHECKS)) ∧
      (s.rd O.INDEX_TOL < e.natAbs → exec (.indexCheck t) s = .next ((s.at t).after fun u =>
        (((({ u with web := { u.web with cRef := some (r + (u.rd O.INDEX_PERIOD : Nat)) } } : State).webFlag 1).wrI 32
          O.LAST_INDEX_ERROR e).inc O.INDEX_ERRORS).event 0xd 2 0)))

/-- R386, R387, R397, R408: without an edge for STANDSTILL_TIMEOUT the run is over and flag 4 is set; the virtual web moves by its speed each
POS cycle, and its speed goes toward VIRTUAL_SPEED by at most VIRTUAL_ACCEL.
R418, R419: in mode 3 the output count goes one toward its target, no sooner than 40 ns after the last, and ENCO carries its
quadrature levels. -/
def Obligations.StandstillVirtualWebAndRepeater : Prop :=
  ((∀ (s : State) (t te : Nat) (rest : List Nat), s.web.run = te :: rest → te + s.rd O.STANDSTILL_TIMEOUT * 1000 ≤ (s.at t).now →
    exec (.standstill t) s = .next ((s.at t).after fun u =>
      (({ u with web := { u.web with run := [] } } : State).webFlag 4).checkSpeed)) ∧
  (∀ (s : State) (t : Nat), let v := (s.at t).checkRun
    v.counting = true → v.rd O.WEB_SOURCE = 2 →
    let x := virtualNext v.web.virtual (v.rd O.VIRTUAL_SPEED * 1000000000) (v.rd O.VIRTUAL_ACCEL)
    let total := v.web.rest + x * 5 * 2 ^ 24
    (v.web.valid = false → exec (.virtualWebAdvance t) s = .next ((s.at t).after fun _ =>
      ({ v with web := { v.web with virtual := x } } : State).checkSpeed)) ∧
    (v.web.valid = true → 10 ^ 18 ≤ total → exec (.virtualWebAdvance t) s = .next ((s.at t).after fun _ =>
      (({ v with web := { v.web with virtual := x, rest := total % 10 ^ 18, reverse := false, hold := none } } : State).setPos
          (v.web.pos + total / 10 ^ 18)).checkSpeed)) ∧
    (v.web.valid = true → total < 10 ^ 18 → exec (.virtualWebAdvance t) s = .next ((s.at t).after fun _ =>
      ({ v with web := { v.web with virtual := x, rest := total } } : State).checkSpeed))) ∧
  ∀ v target accel : Nat, (v < target → virtualNext v target accel = min target (v + 1280 * accel)) ∧
    (target ≤ v → virtualNext v target accel = max target (v - 1280 * accel))) ∧
  (∀ (s : State) (t : Nat), s.rd O.REPEAT_MODE = 3 → s.awake = true → s.web.repEdge + 40000 ≤ (s.at t).now → s.encoDriven = true →
    let moved (n : Int) (u : State) : State :=
      { u with web := { u.web with repCount := n, repEdge := u.now, enco := .levels (quadrature n).1 (quadrature n).2 } }
    (s.web.repCount < s.repTarget → s.web.enco ≠ .levels (quadrature (s.web.repCount + 1)).1 (quadrature (s.web.repCount + 1)).2 →
      exec (.repeaterCount t) s = .next ((s.at t).after fun u => (moved (s.web.repCount + 1) u).emit
        (.repeater (.levels (quadrature (s.web.repCount + 1)).1 (quadrature (s.web.repCount + 1)).2)))) ∧
    (s.repTarget < s.web.repCount → s.web.enco ≠ .levels (quadrature (s.web.repCount - 1)).1 (quadrature (s.web.repCount - 1)).2 →
      exec (.repeaterCount t) s = .next ((s.at t).after fun u => (moved (s.web.repCount - 1) u).emit
        (.repeater (.levels (quadrature (s.web.repCount - 1)).1 (quadrature (s.web.repCount - 1)).2)))) ∧
    (s.repTarget = s.web.repCount → exec (.repeaterCount t) s = .next ((s.at t).after fun u => u)))

/-- R355, R381, R382, R385, R387, R400, R406, R415, R420, R422: the records and CMD objects of the position chapter: a new
LINE_PITCH scales the position and takes pending row positions (log 106), a new SOURCE starts afresh, a new check source or
tolerance begins a new window, a compare unit restarts; FLAGS are cleared by writing 0 to them; VALIDATE makes the position
valid. -/
def Obligations.PositionSettings : Prop :=
  (∀ t,
    Applies (fun h => .webScaleApply t h 1) t 0x2601 (fun u v => v.pitch ≠ u.pitch) (fun u v => v.rescale u.pitch v.pitch) ∧
    Applies (fun h => .webScaleApply t h 1) t 0x2601 (fun u v => v.pitch = u.pitch) (fun _ v => v) ∧
    Applies (fun h => .sourceApply t h 1) t 0x2602 (fun u v => v.rd O.WEB_SOURCE ≠ u.rd O.WEB_SOURCE)
      (fun _ v => ({ v with
        web := { v.web with run := [], slack := false, hold := none, virtual := 0, rest := 0, cRef := none, fixLeft := 0, fixRest := 0 }
        graft := { v.graft with history := [], state := if v.graft.state = 3 ∧ 2 ≤ v.rd O.WEB_SOURCE then 2 else v.graft.state } }
          : State).newWindow) ∧
    Applies (fun h => .indexApply t h 1) t 0x2605 (fun _ _ => True) (fun _ v => { v with web := { v.web with cRef := none } }) ∧
    Applies (fun h => .checkApply t h 1) t 0x2606 (fun _ _ => True)
      (fun _ v => { v with web := { v.web with winPos := v.web.pos, winEnc := v.web.encCount, winStep := v.web.stepCount } }) ∧
    (∀ k, k < 16 → Applies (fun h => .compareApply t h k 1) t (0x2620 + k) (fun _ _ => True) (fun _ v => v.cmpRestart k)) ∧
    Writes (fun h => .validate t h 1) t O.VALIDATE [1#8] (fun u => u.authorityRefused O.VALIDATE = false ∧ u.web.valid = false)
      (fun u => ({ u with web := { u.web with valid := true, cRef := none } } : State).forwardBytes O.VALIDATE [1#8]) ∧
    (∀ v, v < 32 → Writes (fun h => .positionFlagsWrite t h v) t O.POSITION_STATUS_FLAGS (natLE 2 v)
      (fun u => u.authorityRefused O.POSITION_STATUS_FLAGS = false)
      (fun u => (u.wr O.POSITION_STATUS_FLAGS (Nat.land (u.rd O.POSITION_STATUS_FLAGS) v)).forwardBytes O.POSITION_STATUS_FLAGS (natLE 2 v)))) ∧
  (∀ (s : State) (old new : Nat), (s.rescale old new).web.pos = s.web.pos * new / old / 65536 * 65536 ∧
    (s.rescale old new).web.hwm = s.web.hwm * new / old / 65536 * 65536 ∧
    (s.rescale old new).fire.rows = s.fire.rows.map RowState.settled) ∧
  (∀ (r : RowState) (d w : Nat), r.pending = some (d, w) → r.settled.eff = d ∧ r.settled.pending = none ∧ r.settled.lines = []) ∧
  (∀ (u : State) (v : Nat), 32 ≤ v → u.flagsWrite v = .of Status.range u) ∧
  ∀ (s : State) (t k : Nat) (e : Nat), (s.unit k).pulseEnd = some e → e ≤ (s.at t).now →
    exec (.comparePulseEnd t k) s = .next ((s.at t).after fun u => (u.updUnit k fun x => { x with pulseEnd := none }).cmpSettle k)

/-! ### Firing (spec/10) -/

/-- R432, R435 to R449: the comparator sees the oldest crossing 37.5 ns after it at the earliest; the segment's earliest instant pulses
when it has come, in RUN without safe state on the part that holds the heads; in safe state an instant later than 200 ns after the cause is held inactive; the pulse
widths move toward their targets each ms. -/
def Obligations.FiringMoments : Prop :=
  (∀ (s : State) (t w moment : Nat) (speed : Int) (rest : List (Nat × Int × Nat)), s.fire.crossings = (w, speed, moment) :: rest →
    moment + 37500 ≤ (s.at t).now →
    exec (.fireCrossing t w) s = .next ((s.at t).after fun u =>
      ({ u with fire := { u.fire with crossings := rest } } : State).crossing w speed)) ∧
  (∀ (s : State) (t seg row : Nat) (p : Placed), s.nextPulse seg = some (row, p) → s.pulseInstant seg p ≤ s.time.fireAt (s.at t).now →
    (s.power.state = 0 → s.safe.active = false → s.graft.owner = true → s.holding = false →
      exec (.firePulse t seg row) s = .next ((s.at t).after fun u => u.pulse seg row p)) ∧
    (s.safe.active = true → s.safe.rose + fireNs 200 < s.pulseInstant seg p →
      exec (.firePulse t seg row) s = .next ((s.at t).after fun u => u.holdInactive seg row p)) ∧
    (s.safe.active = true → s.pulseInstant seg p ≤ s.safe.rose + fireNs 200 → s.holding = false →
      exec (.firePulse t seg row) s = .next ((s.at t).after fun u => u.pulse seg row p)) ∧
    (s.power.state = 0 → s.safe.active = false → s.graft.owner = true → s.holding = true →
      exec (.firePulse t seg row) s = .next ((s.at t).after fun u => u)) ∧
    (s.safe.active = false → (s.power.state ≠ 0 ∧ s.power.pausing = false) ∨ s.graft.owner = false →
      exec (.firePulse t seg row) s = .next ((s.at t).after fun u => u.updRow seg row fun r => { r with placed := [] }))) ∧
  (∀ s : State, s.web.pos < s.web.hwm → s.holding = true) ∧
  (∀ (s : State) (t : Nat), exec (.pwUpdate t) s = .next ((s.at t).after fun u =>
    u.fittedRows.foldl (fun v e => v.pwUpdateRow e.1 e.2) u)) ∧
  (∀ (s : State) (seg row : Nat), s.headFresh seg = false → s.pwUpdateRow seg row = s) ∧
  ∀ (s : State) (t seg row : Nat), s.fitted seg row = true → (s.at t).headFresh seg = false → (s.head seg).stale.getD row false = false →
    exec (.headDataStale t seg row) s = .next ((s.at t).after fun u =>
      (u.updHead seg fun h => { h with stale := h.stale.set row true }).event (0x20 + seg) 0x202 0)

/-- R454 to R457: an enabled input at its active level trips: its count goes up by one and the event is block 40h's; the other level
releases it, but a latch stays until INTERLOCK_CLEAR, which is refused while the input is tripped. -/
def Obligations.Interlocks : Prop :=
  (∀ (s : State) (t i : Nat), i < 4 → s.awake = true → s.tripped i = false → s.rdB (O.INTERLOCK_ENABLE i) = true →
    i < s.fire.interlocks.length → (s.fire.interlocks.getD i ⟨none, false, 0⟩).since + s.rd (O.INTERLOCK_FILTER i) * 5000 ≤ (s.at t).now →
    exec (.interlockTrip t i) s = .next ((s.at t).after fun u =>
      let v : State := { u with fire := { u.fire with interlocks := (u.fire.interlocks.modify i fun x =>
        { x with level := some (s.rdB (O.INTERLOCK_ACTIVE_LEVEL i)), since := u.now }).modify i fun x =>
        { x with latched := x.latched || s.rdB (O.INTERLOCK_LATCH i) } } }
      (v.inc (O.INTERLOCK_TRIPS i)).event 0x40 (i + 1) 0)) ∧
  (∀ (s : State) (t i : Nat), i < 4 → s.awake = true → s.tripped i = true →
    (s.fire.interlocks.getD i ⟨none, false, 0⟩).since + s.rd (O.INTERLOCK_FILTER i) * 5000 ≤ (s.at t).now →
    exec (.interlockRelease t i) s = .next ((s.at t).after fun u =>
      { u with fire := { u.fire with interlocks := u.fire.interlocks.modify i fun x =>
        { x with level := some (!s.rdB (O.INTERLOCK_ACTIVE_LEVEL i)), since := u.now } } })) ∧
  (∀ (s : State) (t i : Nat), i < 4 → s.awake = true →
    (s.at t).now < (s.fire.interlocks.getD i ⟨none, false, 0⟩).since + s.rd (O.INTERLOCK_FILTER i) * 5000 →
    exec (.interlockTrip t i) s = .next ((s.at t).after fun u => u) ∧ exec (.interlockRelease t i) s = .next ((s.at t).after fun u => u)) ∧
  (∀ t v, v < 16 → v ≠ 0 → Writes (fun h => .interlockClear t h v) t O.INTERLOCK_CLEAR [toByte v]
    (fun u => u.authorityRefused O.INTERLOCK_CLEAR = false ∧ ∀ i, i < 4 → bit v i = true → u.levelActive i = false)
    (fun u => ({ u with fire := { u.fire with interlocks := (indexed u.fire.interlocks).map fun e =>
      if ((List.range 4).filter (bit v)).contains e.1 then { e.2 with latched := false } else e.2 } } : State).forwardBytes
        O.INTERLOCK_CLEAR [toByte v])) ∧
  (∀ (u : State) (v i : Nat), v < 16 → i < 4 → bit v i = true → u.levelActive i = true → u.interlockClear v = .of Status.state u) ∧
  (∀ u : State, u.interlockClear 0 = .of Status.empty u) ∧
  ∀ (u : State) (i : Nat), u.tripped i = true ↔ u.rdB (O.INTERLOCK_ENABLE i) = true ∧
    (u.fire.interlocks.getD i ⟨none, false, 0⟩).level = some (u.rdB (O.INTERLOCK_ACTIVE_LEVEL i))

/-- R36, R275: the outcome of an accepted page that the web has carried past is final and is reported: PRINTED, or SPOILED where a line of
it is; once. -/
def Obligations.PageOutcomes : Prop :=
  (∀ (s : State) (t job page : Nat) (j : JobSet) (p : Page), s.setOf job = some j → s.page? job page = some p →
    s.pagePassed j p = true →
    exec (.pageOutcomeFinal t job page) s = .next ((s.at t).after fun u => u.reportOutcome job page)) ∧
  (∀ (s : State) (job page : Nat) (p : Page), s.page? job page = some p → p.outcome.isSome = true →
    s.reportOutcome job page = s) ∧
  ∀ (s : State) (job page : Nat) (p : Page), s.page? job page = some p → p.accepted = true → p.outcome = none → p.test = none →
    s.graft.owner = false →
    (s.reportOutcome job page).under.printed = s.under.printed + (if p.spoiled then 0 else 1) ∧
    (s.reportOutcome job page).under.spoiled = s.under.spoiled + (if p.spoiled then 1 else 0) ∧
    (s.reportOutcome job page).page? job page = some { p with outcome := some (if p.spoiled then 3 else 2), freed := true } ∧
    ∀ q, q ≠ page → (s.reportOutcome job page).page? job q = s.page? job q

/-! ### The head link (spec/11) -/

/-- R510 to R512, R532: a module that answers IDENT_READ with an identity that fails its checks is not accepted, with the event 0312h;
one that passes is taken, its rows are fitted, and the lane asks for its step-up.
R441, R446, R498 to R500, R793: a STATUS is the head's latest report: its temperatures, voltage and count stand and no row's data is
stale; from the owning port it confirms the lines that were pulsed before it was sent, and where its count has advanced by more
than the events, they were not driven; a contention that it is the first to report is one of R793. What the part sends to a module:
the fields of an idle word (R468, R469), and a packet's CRC-32C over all bytes before it (R476). -/
def Obligations.HeadIdentityAndReports : Prop :=
  (∀ (s : State) (t seg : Nat) (ident : List Byte), seg < 16 → (s.lane seg).state = 3 → s.laneEnabled seg = true → ident.length = 512 →
    (identityOk ident = false → exec (.headLinkUp t seg ident) s = .next ((s.at t).after fun u =>
      (((u.domReplace (0x2810 + seg) ident).updHead seg fun h => { h with link := 4, rowsFitted := 0, commands := [] }).event
        (0x20 + seg) 0x312 0).forwardChanged u)) ∧
    (identityOk ident = true → exec (.headLinkUp t seg ident) s = .next ((s.at t).after fun u =>
      let v := ((((u.domReplace (0x2810 + seg) ident).updHead seg fun h => h.identify ident).updLane seg fun l =>
        { l with limit := min l.limit (min 3 (u8At ident 63)) }).bindHead seg (u64At ident 8)).negotiate seg
      (if (v.lane seg).state = 3 then v.headReady seg else v).forwardChanged u))) ∧
  ((∀ (s : State) (t seg : Nat) (st : HeadReport), seg < 16 → (s.head seg).link ≠ 0 → s.graft.taking = none →
    (bit st.flags 0 = false ∨ (s.head seg).contention = true) →
    let told (u : State) : State := u.updHead seg fun h => h.report st u.now
    (st.ownerState ≠ 1 ∨ st.notDriven ≤ (s.head seg).notDriven + (s.head seg).ndEvents →
      exec (.headStatus t seg st) s = .next ((s.at t).after fun u =>
        (told u).updHead seg fun h => { h with contention := bit st.flags 0 })) ∧
    (st.ownerState = 1 → (s.head seg).reported.isSome = true → (s.head seg).notDriven + (s.head seg).ndEvents < st.notDriven →
      (s.head seg).unconfirmed.filter (·.confirmedBy st) = [] →
      exec (.headStatus t seg st) s = .next ((s.at t).after fun u =>
        ((told u).event (0x20 + seg) 0x314 0).updHead seg fun h => { h with contention := bit st.flags 0 }))) ∧
  (∀ (h : Head) (st : HeadReport) (now : Nat), (h.report st now).reported = some now ∧ (h.report st now).voltage = st.voltage % 2 ^ 16 ∧
    (h.report st now).temps = (List.range 6).map (fun i => st.temps.getD i 0) ∧ (h.report st now).stale = List.replicate 6 false ∧
    (h.report st now).flags = st.flags % 32 ∧ (h.report st now).notDriven = st.notDriven ∧ (h.report st now).ndEvents = 0 ∧
    (st.ownerState = 1 → (h.report st now).unconfirmed = h.unconfirmed.filter fun u => !u.confirmedBy st) ∧
    (st.ownerState ≠ 1 → (h.report st now).unconfirmed = h.unconfirmed)) ∧
  (∀ (s : State) (t seg : Nat) (st : HeadReport), (s.head seg).link = 0 →
    exec (.headStatus t seg st) s = .next ((s.at t).after fun u => u)) ∧
  (∀ (s : State) (seg seq : Nat), seq < 65536 →
    bits (s.idleWord seg seq) 55 48 = 1 ∧ bits (s.idleWord seg seq) 47 32 = seq ∧ bits (s.idleWord seg seq) 31 16 = 0 ∧
    bits (s.idleWord seg seq) 15 8 = s.fuses.serial % 256 ∧ bits (s.idleWord seg seq) 7 2 = 0 ∧
    bit (s.idleWord seg seq) 1 = s.sendsInhibit ∧ bit (s.idleWord seg seq) 0 = (s.head seg).claimed) ∧
  ∀ (ty row seq flags pwId firePos : Nat) (payload : List Byte),
    let p := thlBytes ty row seq flags pwId firePos payload
    p.length = 20 + payload.length ∧ u32At p (16 + payload.length) = crc32c (p.take (16 + payload.length)))

/-- R497, R502 to R507: an event of a module is counted once, by its number; 01h spoils the line that it names and 02h asks for a
FLUSH; packets that a NAK names are sent again while they are held, else counted in STALE_NAKS. -/
def Obligations.HeadEvents : Prop :=
  (∀ (s : State) (t seg seq code row pos data : Nat), seg < 16 → (s.head seg).link ≠ 0 → ((s.head seg).lateCopies (s.at t).now).any (fun e => decide (e.1 = seq)) = false →
    let noted (u : State) : State := (u.updHead seg fun h => { h with events := (seq, u.now) :: h.lateCopies u.now }).event (0x20 + seg) (0x300 + code) data
    ((code = 5 ∨ code = 6) → exec (.headEvent t seg seq code row pos data) s = .next ((s.at t).after noted)) ∧
    (code = 2 → (s.head seg).ownerState = 1 → exec (.headEvent t seg seq code row pos data) s = .next ((s.at t).after fun u =>
      (noted u).updHead seg fun h => { h with flushed := false })) ∧
    (code = 3 → exec (.headEvent t seg seq code row pos data) s = .next ((s.at t).after fun u =>
      (((noted u).updHead seg fun h => { h with contention := true }).inc (O.HEAD_CONTENTIONS seg)).conflict)) ∧
    (code = 1 → exec (.headEvent t seg seq code row pos data) s = .next ((s.at t).after fun u =>
      (((noted u).updHead seg fun h =>
        { h with ndEvents := h.ndEvents + 1
                 unconfirmed := h.unconfirmed.filter fun x => !(x.row == row && x.w % 2 ^ 32 == pos) }).inc
        (O.LINES_NOT_DRIVEN seg)).notDriven seg row
          (((s.head seg).unconfirmed.find? fun x => x.row == row && x.w % 2 ^ 32 == pos).map (·.owners) |>.getD []) data))) ∧
  (∀ (s : State) (t seg seq code row pos data : Nat), seg < 16 → (s.head seg).link ≠ 0 → 1 ≤ code → code ≤ 6 →
    ((s.head seg).lateCopies (s.at t).now).any (fun e => decide (e.1 = seq)) = true →
    exec (.headEvent t seg seq code row pos data) s = .next ((s.at t).after fun u => u.updHead seg fun h =>
      { h with events := ((s.head seg).lateCopies u.now).filter fun e => e.1 != seq })) ∧
  (∀ (s : State) (t seg first : Nat) (p : SentPacket), seg < 16 → (s.head seg).link ≠ 0 →
    (((s.at t).updHead seg fun h => h.prune (s.at t).now).head seg).packet? (first % 65536) = some p → p.again < s.rd O.RETX_LIMIT →
    exec (.headNak t seg first 1) s = .next ((s.at t).after fun u => (u.updHead seg fun h => h.prune u.now).sendAgain seg p)) ∧
  (∀ (s : State) (t seg first : Nat), seg < 16 → (s.head seg).link ≠ 0 →
    (((s.at t).updHead seg fun h => h.prune (s.at t).now).head seg).packet? (first % 65536) = none →
    exec (.headNak t seg first 1) s = .next ((s.at t).after fun u => (u.updHead seg fun h => h.prune u.now).inc (O.STALE_NAKS seg)))

/-- R487, R488, R515, R517: a command is resent after 1 ms without an answer, three times, and then the head link is down; its answer ends
it, and is the answer of the host's request where one waits for it; HEAD_RESET sends the command to every named module. -/
def Obligations.HeadCommands : Prop :=
  (∀ (s : State) (t seg : Nat) (c : HeadCommand) (rest : List HeadCommand), (s.head seg).commands = c :: rest →
    c.last + ms ≤ (s.at t).now →
    (c.sendings < 3 → exec (.commandResend t seg) s = .next ((s.at t).after fun u =>
      (u.updHead seg fun h => { h with commands := rest ++ [{ c with sendings := c.sendings + 1, last := u.now }] }).thlSend seg 4 255 0 0 0
        ([toByte c.cmd, toByte c.tag, 0#8, 0#8] ++ c.args))) ∧
    (3 ≤ c.sendings → exec (.commandResend t seg) s = .next ((s.at t).after fun u => (u.event (0x20 + seg) 0x313 0).headDown seg))) ∧
  (∀ (s : State) (t seg cmd tag status : Nat) (data : List Byte), (s.head seg).user = [] → ¬(cmd = 5 ∧ status = 0) →
    exec (.headResponse t seg cmd tag status data) s = .next ((s.at t).after fun u => u.updHead seg fun h =>
      { h with commands := h.commands.filter fun c => !(c.cmd == cmd && c.tag == tag) })) ∧
  (∀ (s : State) (t seg tag : Nat) (data : List Byte), (s.head seg).user = [] →
    exec (.headResponse t seg 5 tag 0 data) s = .next ((s.at t).after fun u =>
      ((u.updHead seg fun h => { h with commands := h.commands.filter fun c => !(c.cmd == 5 && c.tag == tag) }).updHead seg
        fun h => { h with sent := [], flushed := false, events := [] }).readIdentity seg)) ∧
  (∀ t v, v < 65536 → Writes (fun h => .headReset t h v) t O.HEAD_RESET (natLE 2 v)
    (fun u => (∀ seg, seg < 16 → bit v seg = true → (u.head seg).link = 3) ∧ u.power.state ≠ 0)
    (fun u => ((List.range 16).filter (bit v)).foldl (fun (s : State) seg => s.headCommand seg 5 []) u)) ∧
  ∀ (s : State) (seg : Nat), seg < s.heads.length → ((s.headDown seg).head seg).link = 0

/-! ### The serial lanes (spec/12) -/

/-- R530 to R542: signal takes a lane from DETECT to G0_LOCK, block lock to UP at G0, a step-up request to NEGOTIATE, training that passed at
both ends to UP at the grade; the fallbacks take it back with its limit lower. -/
def Obligations.LaneBringUp : Prop :=
  (∀ (s : State) (t n : Nat), (s.lane n).state = 1 →
    exec (.signalPresent t n) s = .next ((s.at t).after fun u => u.updLane n fun l => { l with state := 2, entered := u.now }) ∧
    exec (.stepUpRequest t n) s = .next ((s.at t).after fun u => u.updLane n fun l => { l with stepHeld := true })) ∧
  (∀ (s : State) (t n : Nat) (inverted : Bool), (s.lane n).state = 2 →
    ((s.lane n).rxMode = 0 ∨ inverted = ((s.lane n).rxMode == 2)) →
    exec (.blockLock t n inverted) s = .next ((s.at t).after fun u =>
      let v := (u.updLane n fun l => { l with state := 3, grade := 0, inverted := inverted, entered := u.now }).laneLinkUp n
      let w := if 16 ≤ n || (u.lane n).stepHeld then v.negotiate n else v
      if (w.lane n).state = 3 then w.laneUp n else w)) ∧
  (∀ (s : State) (t n : Nat), (s.lane n).state = 3 → (s.lane n).grade = 0 → 0 < (s.lane n).limit →
    exec (.stepUpRequest t n) s = .next ((s.at t).after fun u =>
      (u.updLane n fun l => { l with state := 4, proposed := l.limit, matched := 0, count := 0, entered := u.now
                                     stepHeld := false }).laneWord n 0 0 0)) ∧
  (∀ (s : State) (t n : Nat), (s.lane n).state = 5 →
    exec (.verificationPassed t n) s = .next ((s.at t).after fun u =>
      (((((u.laneReadyWords n).laneSends n 3).laneVerifiedWords n).updLane n fun l => { l with
        state := 3, entered := u.now, eq := some ⟨l.grade, l.peer, u.dieTemp, u.now, (l.pre, l.main, l.post)⟩ }).laneLinkUp n).laneUp n) ∧
    exec (.trainFallback t n) s = .next ((s.at t).after fun u =>
      ((((u.laneLinkDown n).updLane n fun l => { l with limit := min l.limit ((u.lane n).grade - 1) }).inc (O.FALLBACKS n)).laneDetect n
        false).event (laneBlock n) 0x404 0)) ∧
  (∀ (s : State) (n : Nat), n < s.lanes.length → ((s.laneDetect n true).lane n).state = 1 ∧ ((s.laneDetect n true).lane n).limit = s.laneMax n ∧
    ((s.laneDetect n false).lane n).limit ≤ s.laneMax n) ∧
  (∀ (s : State) (t n : Nat), (s.lane n).entered + ms ≤ (s.at t).now →
    ((s.lane n).state = 2 → exec (.negotiationTimeout t n) s = .next ((s.at t).after fun u => u.laneDetect n false)) ∧
    ((s.lane n).state = 4 → exec (.negotiationTimeout t n) s = .next ((s.at t).after fun u =>
      ((u.updLane n fun l => { l with limit := 0 }).event (laneBlock n) 0x402 0).upAtG0 n)))

/-- R528, R533, R536, R540, R542, R555: lock lost at UP counts, and takes the lane back to DETECT with its link down and the event 0401h;
a control word of another TYPE is ignored; LANE ENABLE and RETRAIN of the host.
R543 to R545, R548, R550: an entry to L1 or L2 asks the other end; 10 µs without its answer the lane enters alone, with the event 0403h; an
exit from L1 comes back UP; a measured eye below EYE_WARN is the event 0405h, and warns once. -/
def Obligations.LaneFaultsAndLowPower : Prop :=
  ((∀ (s : State) (t n : Nat), (s.lane n).state = 3 ∨ (s.lane n).state = 6 →
    exec (.lockLost t n) s = .next ((s.at t).after fun u =>
      (((u.inc (O.LOCK_LOSSES n)).laneLinkDown n).laneDetect n false).event (laneBlock n) 0x401 0)) ∧
  (∀ (s : State) (t n : Nat), (s.lane n).state = 2 →
    exec (.lockLost t n) s = .next ((s.at t).after fun u => (u.inc (O.LOCK_LOSSES n)).laneDetect n false)) ∧
  (∀ (s : State) (t n w : Nat), bits w 55 48 = 2 → (s.lane n).state = 4 →
    exec (.laneControlWord t n w) s = .next ((s.at t).after fun u =>
      (u.updLane n fun l => { l with peer := bits w 15 8, eqPeer := bit w 41 }).negotiationWord n w)) ∧
  (∀ (s : State) (t n w : Nat), bits w 55 48 = 2 → (s.lane n).state = 5 →
    exec (.laneControlWord t n w) s = .next ((s.at t).after fun u =>
      (u.updLane n fun l => { l with peer := bits w 15 8, eqPeer := bit w 41 }).updLane n fun l => l.taps w)) ∧
  (∀ (s : State) (t n w : Nat), bits w 55 48 ≠ 2 → exec (.laneControlWord t n w) s = .next ((s.at t).after fun u => u)) ∧
  (∀ t n v, n < 24 → v < 2 → Writes (fun h => .laneEnable t h n v) t (O.LANE_CONFIG_ENABLE n) [toByte v]
    (fun u => u.rd (O.LANE_CONFIG_ENABLE n) ≠ v)
    (fun u => ((u.wr (O.LANE_CONFIG_ENABLE n) v).laneEnableChanged n).hostTouch [] none)) ∧
  (∀ t v, v < 2 ^ 24 → v ≠ 0 → Writes (fun h => .retrain t h v) t O.RETRAIN (natLE 4 v)
    (fun u => ∀ n, n < 24 → bit v n = true → u.rdB (O.LANE_CONFIG_ENABLE n) = true)
    (fun u => ((List.range 24).filter (bit v)).foldl (fun (s : State) n => s.retrainLane n true) u)) ∧
  ∀ (s : State) (n : Nat), (s.lane n).state = 0 → s.retrainLane n true = s) ∧
  ((∀ (s : State) (t n level : Nat), (level = 1 ∨ level = 2) →
    ((s.lane n).state = 3 → exec (.lpEntry t n level) s = .next ((s.at t).after fun u => u.lpAsk n level)) ∧
    ((s.lane n).state = 1 ∨ (s.lane n).state = 2 ∨ (s.lane n).state = 4 ∨ (s.lane n).state = 5 →
      exec (.lpEntry t n level) s = .next ((s.at t).after fun u => u.updLane n fun l => { l with lpHeld := level }))) ∧
  (∀ (s : State) (t n level since : Nat), (s.lane n).lp = some (level, since) → since + 10000000 ≤ (s.at t).now →
    exec (.lpNoAck t n) s = .next ((s.at t).after fun u => (u.event (laneBlock n) 0x403 0).lpEnter n level)) ∧
  (∀ (s : State) (t n : Nat), (s.lane n).state = 6 →
    exec (.lpExit t n) s = .next ((s.at t).after fun u => (u.laneWord n 0 0 0).updLane n fun l => { l with state := 3, lp := none })) ∧
  (∀ (s : State) (t n : Nat), (s.lane n).state = 7 → (s.lane n).eqOwn = false →
    exec (.lpExit t n) s = .next ((s.at t).after fun u => u.laneDetect n false)) ∧
  (∀ (s : State) (t n height width : Nat), n < 24 → s.awake = true → (s.lane n).state = 3 → (s.lane n).grade ≠ 0 →
    let measured (u : State) : State := u.wrs [(O.EYE_HEIGHT n, min 65535 height), (O.EYE_WIDTH n, min 65535 width)]
    (height = s.rd O.EYE_WARN → exec (.eyeMeasure t n height width) s = .next ((s.at t).after fun u => (measured u).taskDone 2)) ∧
    (s.rd O.EYE_WARN < height → exec (.eyeMeasure t n height width) s = .next ((s.at t).after fun u =>
      ((measured u).updLane n fun l => { l with eyeLow := false }).taskDone 2)) ∧
    (height < s.rd O.EYE_WARN → (s.lane n).eyeLow = true → exec (.eyeMeasure t n height width) s =
      .next ((s.at t).after fun u => ((measured u).event (laneBlock n) 0x405 0).taskDone 2)) ∧
    (height < s.rd O.EYE_WARN → (s.lane n).eyeLow = false → exec (.eyeMeasure t n height width) s =
      .next ((s.at t).after fun u => ((((measured u).event (laneBlock n) 0x405 0).warn (laneBlock n) 0x405 (0x2900 + n) 0xc []).updLane n
        fun l => { l with eyeLow := true }).taskDone 2))))

/-! ### Cameras and inspection (spec/13, spec/14) -/

/-- R561, R562, R570 to R575: the camera control scripts end in running, stopped or error; a live change is admitted as the next generation
and is APPLIED when its script ends; the port record reconfigures the pipeline; SNAPSHOT is kept for the next frame. -/
def Obligations.CameraControl : Prop :=
  (∀ (s : State) (t k : Nat), s.rd (O.CAM_STATUS_STATE k) = 1 →
    exec (.cciScriptDone t k 0 true) s = .next ((s.at t).after fun u => u.runScript k 1 (u.liveValues k)) ∧
    exec (.cciScriptDone t k 1 true) s = .next ((s.at t).after fun u => u.wr (O.CAM_STATUS_STATE k) 2) ∧
    exec (.cciScriptDone t k 0 false) s = .next ((s.at t).after fun u => (u.wr (O.CAM_STATUS_STATE k) 4).event (0x38 + k) 6 0)) ∧
  (∀ (s : State) (t k : Nat), s.rd (O.CAM_STATUS_STATE k) = 3 → s.rdB (O.CAM_PORT_ENABLE k) = false →
    exec (.cciScriptDone t k 2 true) s = .next ((s.at t).after fun u => u.wr (O.CAM_STATUS_STATE k) 0)) ∧
  (∀ (s : State) (t k : Nat) (g : Gen), (s.cam k).gens.find? (fun g => g.started.isSome && g.effect.isNone) = some g →
    (g.late = false → exec (.settingsScriptDone t k true) s = .next ((s.at t).after fun u =>
      let done : Gen := { g with effect := some (g.started.getD 0 + u.rd (O.SETTING_LATENCY k)) }
      (u.updCam k fun c => { c with gens := c.gens.map (fun h => if h.no = g.no then done else h), applied := some done }).wrs
        [(O.CAM_APPLIED k, g.no), (O.LIVE_RESULT k, 1)])) ∧
    exec (.settingsScriptDone t k false) s = .next ((s.at t).after fun u =>
      ((u.updCam k fun c => { c with gens := c.gens.filter (·.no != g.no) }).wr (O.LIVE_RESULT k) 2).event (0x38 + k) 6 0)) ∧
  (∀ t k, k < 4 →
    Applies (fun h => .camPortApply t h k 1) t (0x3004 + k) (fun _ _ => True) (fun _ v => v.camPortApplied k) ∧
    Applies (fun h => .camTriggerApply t h k 1) t (0x3008 + k) (fun _ _ => True) (fun _ v => v) ∧
    Applies (fun h => .camMapApply t h k 1) t (0x3101 + k) (fun _ _ => True) (fun _ v => v) ∧
    Writes (fun h => .camLiveApply t h k 1) t (256 * (0x3014 + k) + 255) [1#8]
      (fun u => u.authorityRefused (256 * (0x3014 + k) + 255) = false ∧ u.staged (0x3014 + k) ≠ [] ∧
        stageFail (u.staged (0x3014 + k)) = none ∧ u.mayAdmit k = true)
      (fun u => ((u.takeSettings k (stagedOr (u.staged (0x3014 + k)) (O.LIVE_EXPOSURE k) (u.liveValues k).1,
        stagedOr (u.staged (0x3014 + k)) (O.LIVE_GAIN k) (u.liveValues k).2.1,
        stagedOr (u.staged (0x3014 + k)) (O.LIVE_STROBE_WIDTH k) (u.liveValues k).2.2) false).dropStage (0x3014 + k)).forwardRecord
          (0x3014 + k) (u.staged (0x3014 + k)))) ∧
  (∀ t v, v < 65536 → v ≠ 0 → Writes (fun h => .snapshot t h v) t O.SNAPSHOT (natLE 2 v) (fun _ => True)
    (fun u => (List.range 4).foldl (fun s k => s.updCam k fun c =>
      { c with snaps := (List.range 4).filter fun j => bit v (4 * k + j) || c.snaps.contains j }) u)) ∧
  ∀ (s : State) (k : Nat) (v : Nat × Nat × Nat), (s.takeSettings k v false).rd (O.CAM_GENERATION k) = (s.rd (O.CAM_GENERATION k) + 1) % 65536

/-- R556 to R566, R578, R579: a frame start opens a frame at the trigger it answers, or without one is the event 0004h; the pixels of a packet are the next
line; a trigger without a frame in TRIGGER_TIMEOUT is a missed frame; a packet of another channel or data type is ignored.
R600 to R612, R616: the oldest frame that waits is compared with its prediction, or excluded and counted where it may not be; 10 ms after its
last line it is late; the findings of a page count once its outcome is final. -/
def Obligations.FramesAndInspection : Prop :=
  ((∀ (s : State) (t k : Nat) (g : Trigger) (rest : List Trigger), s.camRuns k = true → s.freeRunning k = false → (s.cam k).frame = none →
    (s.cam k).pending = g :: rest → (s.at t).dropStreams k = s.at t → k < s.cams.length →
    exec (.frameStart t k) s = .next ((s.at t).after fun u =>
      (u.updCam k fun c => { c with pending := c.pending.drop 1 }).openFrame k g.pos false g.set)) ∧
  (∀ (s : State) (t k : Nat), s.camRuns k = true → s.freeRunning k = false → (s.cam k).frame = none →
    (s.cam k).pending = [] →
    exec (.frameStart t k) s = .next ((s.at t).after fun u => (u.camUncertain k).event (0x38 + k) 4 0)) ∧
  (∀ (s : State) (t k : Nat), exec (.frameEnd t k) s = .next ((s.at t).after fun u => u.closeFrame k false)) ∧
  (∀ (s : State) (t k : Nat) (p : CsiPacket) (f : CamFrame), p.eccBad = false → p.vc = s.rd (O.CAM_VC k) → p.dataType = s.rd (O.DATA_TYPE k) →
    s.camRuns k = true → (s.cam k).frame = some f → p.overflow = false → f.lines.length < s.rd (O.CAM_PORT_HEIGHT k) → p.crcBad = false →
    exec (.csiPacket t k p) s = .next ((s.at t).after fun u => u.updCam k fun c => { c with frame := some { f with
      lines := f.lines ++ [((p.pixels ++ List.replicate (u.rd (O.CAM_PORT_WIDTH k)) 0).take (u.rd (O.CAM_PORT_WIDTH k))).map
        (promote p.dataType)] } })) ∧
  (∀ (s : State) (t k : Nat) (p : CsiPacket), p.eccBad = false → (p.vc ≠ s.rd (O.CAM_VC k) ∨ p.dataType ≠ s.rd (O.DATA_TYPE k)) →
    exec (.csiPacket t k p) s = .next ((s.at t).after fun u => u)) ∧
  (∀ (s : State) (t k : Nat) (g : Trigger) (rest : List Trigger), (s.cam k).pending = g :: rest →
    g.since + s.rd (O.TRIGGER_TIMEOUT k) * ms ≤ (s.at t).now →
    exec (.triggerTimeout t k) s = .next ((s.at t).after fun u =>
      (((u.updCam k fun c => { c with pending := c.pending.drop 1 }).camUncertain k).inc (O.MISSED_FRAMES k)).event (0x38 + k) 3 0))) ∧
  ((∀ (s : State) (t k : Nat) (f : StreamFrame) (rest : List StreamFrame), (s.at t).deliverDone k = s.at t →
    (s.cam k).compare = f :: rest → (s.dom (0x3110 + k)).size = 0 →
    exec (.frameCompare t k) s = .next ((s.at t).after fun u =>
      (u.updCam k fun c => { c with compare := rest }).inc O.FRAMES_EXCLUDED)) ∧
  (∀ (s : State) (t k : Nat) (f : StreamFrame) (rest : List StreamFrame), (s.at t).deliverDone k = s.at t →
    (s.cam k).compare = f :: rest → f.arrived + 10 * ms ≤ (s.at t).now →
    exec (.referenceLate t k) s = .next ((s.at t).after fun u =>
      ((u.updCam k fun c => { c with compare := rest }).inc O.FRAMES_EXCLUDED).event 0x3c 6 0)) ∧
  (∀ (s : State) (t k : Nat) (f : StreamFrame) (rest : List StreamFrame), (s.at t).deliverDone k = s.at t →
    (s.cam k).compare = f :: rest → bit f.info.flags 0 = false → bit f.info.flags 2 = false → bit f.info.flags 3 = false →
    bit f.info.flags 5 = false → (s.dom (0x3110 + k)).size ≠ 0 →
    let shot : Shot := ⟨f, ((f.info.pos / 65536 : Nat) : Int) - (s.camDist k : Nat), k, (List.range 4).filter (bit f.mask)⟩
    s.refHas shot.span.1 = true → s.refHas shot.span.2 = true →
    exec (.frameCompare t k) s = .next ((s.at t).after fun u => (u.updCam k fun c => { c with compare := rest }).compareShot shot)) ∧
  (∀ (s : State) (t job page : Nat) (p : Span), (s.inspect.spans.find? fun p => p.job == job && p.page == page && p.outcome.isSome) = some p →
    p.outcome ≠ some 2 →
    exec (.findingsCommit t job page) s = .next ((s.at t).after fun u =>
      let fs := u.inspect.found.filter fun f => f.job == job && f.page == page
      let v := (u.defects fs false []).foldl (fun (s : State) d => s.defect p d) u
      ({ v with inspect := { v.inspect with
          found := v.inspect.found.filter fun f => !(f.job == job && f.page == page)
          spans := v.inspect.spans.filter fun q => !(q.job == job && q.page == page) } } : State).showSuspects)) ∧
  ∀ (s : State) (t job page : Nat), (s.inspect.spans.find? fun p => p.job == job && p.page == page && p.outcome.isSome) = none →
    exec (.findingsCommit t job page) s = .next ((s.at t).after fun u => u))

/-! ### Memory channels and host moves (spec/15, spec/16) -/

/-- R643, R650 to R672: refresh debts, the refresh rate, scrub corrections, the freeze of a channel with its record, training, fill
and retraining. -/
def Obligations.MemoryChannels : Prop :=
  (∀ (s : State) (t c : Nat) (r : FreezeReport), c < 4 → channelOf r.address = c → (s.channel c = 1 ∨ s.channel c = 2) →
    let frozen (u : State) (kind syndrome : Nat) : Prop :=
      u.channel c = 3 ∧ bit (u.rd O.DRAM_FROZEN) c = true ∧ u.rd (O.FREEZE_KIND c) = kind ∧
      u.rd (O.FREEZE_ADDRESS c) = r.address % 2 ^ 64 ∧ u.rd (O.FREEZE_BANK_GROUP c) = bankGroupOf fittedGroups r.address ∧ u.rd (O.FREEZE_SYNDROME c) = syndrome ∧
      u.rd (O.FREEZE_TIME c) = (s.at t).mono ∧ u.fire.voidNext = true ∧ Act.safe ⟨9 + c, 3, kind + 1⟩ true ∈ u.acts
    (∃ u, exec (.dramFreeze t c r) s = .next ((s.at t).after fun _ => u) ∧ frozen u 1 (r.syndrome % 256)) ∧
    (∃ u, exec (.alertLow t c r) s = .next ((s.at t).after fun _ => u) ∧ frozen u 2 0)) ∧
  (∀ (s : State) (t c b : Nat), c < 4 → s.channel c ≠ 0 → s.channel c ≠ 4 → s.channel c ≠ 5 →
    let owed := (s.dram.getD c ⟨[], [], []⟩).debt.getD b 0
    exec (.refreshDue t c b false) s = .next ((s.at t).after fun u => u.updDram c fun d => { d with debt := d.debt.set b 0 }) ∧
    (owed < 3 → exec (.refreshDue t c b true) s =
      .next ((s.at t).after fun u => u.updDram c fun d => { d with debt := d.debt.set b (owed + 1) })) ∧
    (3 ≤ owed → exec (.refreshDue t c b true) s =
      .next ((s.at t).after fun u => (u.updDram c fun d => { d with debt := d.debt.set b 3 }).inc (O.FORCED_REFRESHES c)))) ∧
  (∀ (s : State) (t c : Nat), c < 4 → s.channel c ≠ 0 → s.channel c ≠ 4 →
    exec (.mr4Read t c true) s = .next ((s.at t).after fun u => u.wr (O.REFRESH_RATE c) 2) ∧
    exec (.mr4Read t c false) s = .next ((s.at t).after fun u => u.wr (O.REFRESH_RATE c) 1)) ∧
  (∀ (s : State) (t c : Nat) (r : ScrubResult), c < 4 → s.channel c = 2 → r.passDone = false → r.uncorrectable = none →
    (r.corrected = [] → exec (.patrolScrub t c r) s =
      .next ((s.at t).after fun u => u.wr (O.SCRUB_POSITION c) (r.position % 2 ^ 64))) ∧
    ∀ a, r.corrected = [a] → ∃ u, exec (.patrolScrub t c r) s = .next ((s.at t).after fun _ => u) ∧
      u.rd (O.DRAM_CORRECTED c) = min (Dict.top (O.DRAM_CORRECTED c)) (s.rd (O.DRAM_CORRECTED c) + 1) ∧
      u.rd (O.LAST_CORRECTED c) = a % 2 ^ 64 ∧ u.rd (O.SCRUB_POSITION c) = r.position % 2 ^ 64) ∧
  (∀ (s : State) (t c : Nat), c < 4 → s.boot.phase = .training → s.boot.trained.contains c = false →
    (s.boot.trained.length ≠ 3 → exec (.dramTrainingDone t c true) s = .next ((s.at t).after fun u =>
      ({ u with boot := { u.boot with trained := u.boot.trained ++ [c] } } : State).wr (O.CHANNEL_STATUS_STATE c) 1)) ∧
    (s.boot.trained.length = 3 → exec (.dramTrainingDone t c true) s = .next ((s.at t).after fun u =>
      (({ u with boot := { u.boot with trained := u.boot.trained ++ [c] } } : State).wr
        (O.CHANNEL_STATUS_STATE c) 1).applyBoot)) ∧
    (s.boot.trained.length ≠ 3 → ∃ u, exec (.dramTrainingDone t c false) s = .next ((s.at t).after fun _ => u) ∧
      u.boot.code = 0x85 ∧ u.channel c = 4 ∧ Act.safe ⟨9 + c, 6, 5⟩ false ∈ u.acts)) ∧
  (∀ (s : State) (t c : Nat), c < 4 → s.channel c = 1 →
    let filled (u : State) : State :=
      (u.wr (O.CHANNEL_STATUS_STATE c) 2).wr O.DRAM_FROZEN (setBit (u.rd O.DRAM_FROZEN) c false)
    (s.safe.active = false → (∃ d, d < 4 ∧ d ≠ c ∧ s.channel d ≠ 2) →
      exec (.dramFillDone t c) s = .next ((s.at t).after filled)) ∧
    (s.safe.active = false → (∀ d, d < 4 → d ≠ c → s.channel d = 2) →
      exec (.dramFillDone t c) s = .next ((s.at t).after fun u => (filled u).wr O.DRAM_FILL_DONE 1)) ∧
    (s.safe.active = true → s.safe.clearing = true → s.safe.causes = [] → (∀ d, d < 4 → d ≠ c → s.channel d = 2) →
      setBit (s.rd O.DRAM_FROZEN) c false = 0 →
      exec (.dramFillDone t c) s = .next ((s.at t).after fun u => ((filled u).wr O.DRAM_FILL_DONE 1).leaveSafe))) ∧
  ∀ (s : State) (t c : Nat), c < 4 → s.channel c = 5 →
    exec (.dramRetrainDone t c true) s = .next ((s.at t).after fun u => u.wr (O.CHANNEL_STATUS_STATE c) 1) ∧
    ((∃ d, d < 4 ∧ d ≠ c ∧ s.channel d = 5) → exec (.dramRetrainDone t c false) s = .next ((s.at t).after fun u =>
      (u.wr (O.CHANNEL_STATUS_STATE c) 4).event (9 + c) 5 0)) ∧
    (s.safe.active = true → s.safe.clearing = true → bit (s.rd O.DRAM_FROZEN) c = true → (∀ d, d < 4 → d ≠ c → s.channel d = 2) →
      exec (.dramRetrainDone t c false) s = .next ((s.at t).after fun u =>
        let v := (u.wr (O.CHANNEL_STATUS_STATE c) 4).event (9 + c) 5 0
        { v with safe := { v.safe with clearing := false } }))

/-- R682, R687, R689, R692 to R694, R697: MOVE_START and MOVE_ABORT of one host move, and how a descriptor ends. -/
def Obligations.HostMoves : Prop :=
  (∀ t m, m < 8 →
    Writes (fun h => .moveStart t h (2 ^ m)) t O.MOVE_START [toByte (2 ^ m)]
      (fun u => u.dmaState (24 + m) ≠ 1 ∧ u.dmaState (24 + m) ≠ 2 ∧ u.chainFail m = none ∧ (u.chain m).isEmpty = false)
      (fun u => ((u.wrs [(O.DMA_LAST_STATUS (24 + m), 0), (O.DMA_FAULT_ADDR (24 + m), 0)]).updMove m fun _ => .init).dmaFetch m 0
        (u.chain m)) ∧
    Writes (fun h => .moveStart t h (2 ^ m)) t O.MOVE_START [toByte (2 ^ m)]
      (fun u => u.dmaState (24 + m) = 2 ∧ inBuffers (u.rd (O.RESUME_ADDR m)) 1 = true)
      (fun u => (u.wr (O.DMA_STATE (24 + m)) 1).updMove m fun h =>
        { h with resume := some (u.rd (O.RESUME_ADDR m), u.rd (O.RESUME_LENGTH m)) }) ∧
    (∀ d, Writes (fun h => .moveAbort t h (2 ^ m)) t O.MOVE_ABORT [toByte (2 ^ m)]
      (fun u => u.dmaState (24 + m) = 1 ∧ u.moveAt m = some d) (fun u => (u.cutShort m d).dmaHalt m 6)) ∧
    Writes (fun h => .moveAbort t h (2 ^ m)) t O.MOVE_ABORT [toByte (2 ^ m)]
      (fun u => u.dmaState (24 + m) ≠ 1 ∧ u.dmaState (24 + m) ≠ 2) (fun u => u)) ∧
  (∀ (s : State) (t n : Nat), n < 24 →
    (∃ u, exec (.descriptorEnd t n none) s = .next ((s.at t).after fun _ => u) ∧ u.dmaState n = 0 ∧ u.rd (O.DMA_LAST_STATUS n) = 1 ∧
      u.rd (O.DMA_REMAINING n) = 0) ∧
    ∀ e : BusError, ∃ u, exec (.descriptorEnd t n (some e)) s = .next ((s.at t).after fun _ => u) ∧ u.dmaState n = 3 ∧
      u.rd (O.DMA_LAST_STATUS n) = 5 ∧ u.rd (O.DMA_FAULT_ADDR n) = e.address % 2 ^ 64) ∧
  (∀ (s : State) (t m : Nat) (d : Descriptor), m < 8 → s.dmaState (24 + m) = 1 → s.moveAt m = some d →
    ((s.move m).barred = 0 →
      (d.op = 0 → exec (.descriptorEnd t (24 + m) none) s = .next ((s.at t).after fun u => u.copyEnd m d)) ∧
      (d.op = 1 → exec (.descriptorEnd t (24 + m) none) s = .next ((s.at t).after fun u => u.deflateEnd m d)) ∧
      (2 ≤ d.op → exec (.descriptorEnd t (24 + m) none) s = .next ((s.at t).after fun u => u.inflateEnd m d))) ∧
    ∀ (e : BusError) (a : Nat), (d.bursts (s.window m d)).findSome? (fun b => b.addressOf e.address) = some a →
      ∃ (u : State) (left : Nat), exec (.descriptorEnd t (24 + m) (some e)) s = .next ((s.at t).after fun _ => u) ∧
        u = (((s.at t).cutShort m d).wrs [(O.DMA_REMAINING (24 + m), left), (O.DMA_FAULT_ADDR (24 + m), a)]).dmaHalt m 5) ∧
  (∀ (s : State) (m st : Nat), (s.dmaHalt m st).dmaState (24 + m) = 3 ∧ (s.dmaHalt m st).rd (O.DMA_LAST_STATUS (24 + m)) = st) ∧
  (∀ (s : State) (m i : Nat), (s.dmaFetch m i []).dmaState (24 + m) = 0) ∧
  ∀ (s : State) (a : Nat) (b : Byte), inBuffers a 1 = false → s.memPut a b = s

/-- R643, R678, R709: consecutive 1 KiB blocks lie on the channels in turn, and within one fall in successive bank groups, then banks; no
burst of a descriptor is longer than 128 bytes or crosses a 128-byte boundary on either side; a free engine takes the first that
waits, but host moves and the Understorey together hold at most one. -/
def Obligations.AddressesBurstsAndEngines : Prop :=
  (∀ a : Nat, channelOf (a + 1024) = (channelOf a + 1) % 4 ∧ channelOf (a + 4096) = channelOf a ∧
    channelByte (a + 4096) = channelByte a + 1024) ∧
  (∀ groups a : Nat, 0 < groups → bankGroupOf groups (a + 4096) = (bankGroupOf groups a + 1) % groups) ∧
  (∀ groups banks a : Nat, 0 < groups → 0 < banks → bankOf groups banks (a + groups * 4096) = (bankOf groups banks a + 1) % banks) ∧
  (∀ (d : Descriptor) (w : Nat × Nat) (b : Burst), d.empty = false → b ∈ d.bursts w → 0 < b.len ∧ b.len ≤ 128 ∧
    (∀ a, b.src = some a → a / 128 = (a + b.len - 1) / 128) ∧ ∀ a, b.dst = some a → a / 128 = (a + b.len - 1) / 128) ∧
  (∀ (d : Descriptor) (w : Nat × Nat), d.op = 0 → d.empty = false → burstBytes (d.bursts w) = d.srcLine * d.srcCount) ∧
  (∀ (waiting : List EngineUser) (n : Nat), ((serveEngines [] waiting n).filter EngineUser.low).length ≤ 1 ∧
    (serveEngines [] waiting n).length ≤ n) ∧
  ∀ (held waiting : List EngineUser), held.any EngineUser.low = true → ∀ u, nextUser held waiting = some u → u.low = false

/-! ### Network time (spec/17) -/

/-- R719 to R724: the PTP messages of the selected master, and what a Sync or a delay exchange yields. -/
def Obligations.PtpMessages : Prop :=
  (∀ (s : State) (t : Nat) (m : PtpMsg), s.fromMaster m = true →
    (∀ q, s.time.lastSeq m.port = some q → seqLater 16 m.seq q = false →
      exec (.syncRx t m) s = .next ((s.at t).after fun u => u.inc O.PTP_DISCARDED)) ∧
    ((∀ q, s.time.lastSeq m.port = some q → seqLater 16 m.seq q = true) →
      (m.twoStep = true → exec (.syncRx t m) s = .next ((s.at t).after fun u =>
        (u.syncAccepted m).updTime fun x => { x with held := x.held ++ [⟨m.seq, u.rxStamp, m.corr, u.now⟩] })) ∧
      (m.twoStep = false → exec (.syncRx t m) s = .next ((s.at t).after fun u =>
        (u.syncAccepted m).syncOffset ((m.stamp * 65536 : Nat) + m.corr) u.rxStamp))) ∧
    (∀ h, s.time.held.find? (·.seq == m.seq) = some h → (s.at t).now ≤ h.since + sec →
      exec (.followUpRx t m) s = .next ((s.at t).after fun u =>
        (u.updTime fun x => { x with held := x.held.filter (·.seq != m.seq) }).syncOffset
          ((m.stamp * 65536 : Nat) + m.corr + h.corr) h.t2)) ∧
    (s.time.held.find? (·.seq == m.seq) = none →
      exec (.followUpRx t m) s = .next ((s.at t).after fun u => u.inc O.PTP_DISCARDED)) ∧
    (∀ e t1 t2, s.rd O.DELAY_MECHANISM = 0 → s.time.exchange = some e → s.time.sync = some (t1, t2) → e.seq = m.seq →
      exec (.delayRespRx t m) s = .next ((s.at t).after fun u =>
        u.updTime fun x => { x with exchange := none,
                                    pathDelay := ((t2 - t1) + ((m.stamp * 65536 : Nat) - m.corr - e.sent)).tdiv 2 }))) ∧
  (∀ (s : State) (t : Nat) (m : PtpMsg), s.ptpRuns = true → s.rd O.DELAY_MECHANISM = 1 → m.domain = s.rd O.PTP_DOMAIN →
    exec (.pdelayReqRx t m) s = .next ((s.at t).after fun u => (u.emit (.ptp 3 m.seq u.rxStamp)).emit (.ptp 4 m.seq u.txStamp)) ∧
    ∀ e, s.time.exchange = some e → e.seq = m.seq →
      (m.followUp = false → m.twoStep = false → exec (.pdelayRespRx t m) s = .next ((s.at t).after fun u =>
        u.setPathDelay ((u.rxStamp - e.sent - m.corr).tdiv 2))) ∧
      (m.followUp = false → m.twoStep = true → exec (.pdelayRespRx t m) s = .next ((s.at t).after fun u =>
        u.updTime fun x => { x with exchange := some { e with resp := some (u.rxStamp, (m.stamp * 65536 : Nat), m.corr) } })) ∧
      ∀ t4 t2 c, m.followUp = true → e.resp = some (t4, t2, c) → exec (.pdelayRespRx t m) s = .next ((s.at t).after fun u =>
        u.setPathDelay (((t4 - e.sent) - ((m.stamp * 65536 : Nat) - t2) - c - m.corr).tdiv 2))) ∧
  (∀ (s : State) (t : Nat), s.ptpRuns = true → s.rd O.DELAY_MECHANISM = 1 →
    exec (.delayReqSend t) s = .next ((s.at t).after fun u =>
      (u.updTime fun x => { x with exchange := some ⟨x.nextSeq, u.txStamp, none⟩, nextSeq := (x.nextSeq + 1) % 65536 }).emit
        (.ptp 2 u.time.nextSeq u.txStamp))) ∧
  (∀ (s : State) (t : Nat), s.ptpRuns = true → s.rd O.DELAY_MECHANISM = 0 → s.time.master.isSome = true →
    exec (.delayReqSend t) s = .next ((s.at t).after fun u =>
      (u.updTime fun x => { x with exchange := some ⟨x.nextSeq, u.txStamp, none⟩, nextSeq := (x.nextSeq + 1) % 65536 }).emit
        (.ptp 1 u.time.nextSeq u.txStamp))) ∧
  (∀ (s : State) (t : Nat) (h : HeldSync), h ∈ s.time.held → h.since + sec ≤ (s.at t).now →
    exec (.followUpTimeout t h.seq) s = .next ((s.at t).after fun u =>
      (u.updTime fun x => { x with held := x.held.filter (·.seq != h.seq) }).inc O.PTP_DISCARDED)) ∧
  ∀ (u : State) (t1 t2 : Int),
    let off := t2 - t1 - u.time.pathDelay - u.rdI 32 O.DELAY_ASYMMETRY * 65536
    (u.rd O.PTP_STEP_LIMIT * 65536 < off.natAbs → (u.syncOffset t1 t2).time.refused = some off ∧
      (u.syncOffset t1 t2).time.stepNeeded = true ∧ (u.syncOffset t1 t2).time.rate = u.time.rate) ∧
    (off.natAbs ≤ u.rd O.PTP_STEP_LIMIT * 65536 → (u.syncOffset t1 t2).time.offset = some off)

/-- R725, R729, R730, R732 to R735, R737: the master is the best of those that Announce messages show; a step of TB_PTP; the
records 3501h and 3502h; HOLDOVER; TB_FIRE follows the rate by at most FIRE_RATE_SLEW each ms. -/
def Obligations.PtpServo : Prop :=
  (∀ (s : State) (t : Nat) (m : PtpMsg), s.ptpRuns = true → m.domain = s.rd O.PTP_DOMAIN →
    exec (.announceRx t m) s = .next ((s.at t).after fun u => u.selectMaster
      (u.freshMasters.filter (·.port != m.port) ++ [⟨m.port, m.gm, m.rank, m.interval, u.now⟩]))) ∧
  (∀ (u : State) (ms : List Master) (b : Master), bestMaster ms = some b →
    (u.selectMaster ms).time.master = some b.port ∧ (u.selectMaster ms).rd O.GM_IDENTITY = b.gm % 2 ^ 64 ∧
    (u.selectMaster ms).rd O.MASTER_PORT = b.port % 2 ^ 80 ∧
    (u.rd O.MASTER_PORT ≠ 0 → (u.rd O.MASTER_PORT ≠ b.port % 2 ^ 80 ∨ u.rd O.GM_IDENTITY ≠ b.gm % 2 ^ 64) →
      (u.selectMaster ms).time.servo = 1 ∧ (u.selectMaster ms).time.sum = 0)) ∧
  (∀ (ms : List Master) (b : Master), bestMaster ms = some b → b ∈ ms) ∧
  (∀ (s : State) (t : Nat), (s.at t).freshMasters.length = s.time.masters.length → (s.time.servo = 0 ∨ s.time.servo = 3) →
    exec (.announceTimeout t) s = .next ((s.at t).after fun u => u)) ∧
  (∀ (s : State) (t : Nat) (m : Master), s.time.masters.find? (fun m => s.time.master == some m.port) = some m →
    (s.at t).freshMasters.length = s.time.masters.length → (s.time.servo = 1 ∨ s.time.servo = 2) →
    s.time.lastSync + s.rd O.PTP_ANNOUNCE_TIMEOUT * m.interval * ms ≤ (s.at t).now →
    exec (.announceTimeout t) s = .next ((s.at t).after State.holdover)) ∧
  (∀ u : State, u.holdover.time.servo = 3) ∧
  (∀ t, Applies (fun h => .ptpStep t h 1) t 0x3503 (fun _ v => v.rd O.PTP_STEP_MODE = 2)
      (fun _ v => v.stepTo (v.rd O.PTP_STEP_VALUE * 2 ^ 40)) ∧
    (∀ off, Applies (fun h => .ptpStep t h 1) t 0x3503
      (fun _ v => v.rd O.PTP_STEP_MODE ≠ 2 ∧ v.time.stepNeeded = true ∧ v.time.refused = some off)
      (fun _ v => v.stepTo (((v.time.ptpAt v.now : Nat) : Int) - off.tdiv 65536 * 2 ^ 40).toNat)) ∧
    Applies (fun h => .ptpConfigApply t h 0x3501 1) t 0x3501 (fun _ _ => True) (fun u v => v.ptpConfig (u.rd O.PTP_DOMAIN)) ∧
    Applies (fun h => .ptpConfigApply t h 0x3502 1) t 0x3502 (fun _ _ => True) (fun _ v => v)) ∧
  (∀ (u : State) (v : Nat), (u.stepTo v).time.stepNeeded = false ∧ (u.stepTo v).time.held = [] ∧ (u.stepTo v).time.exchange = none ∧
    (u.stepTo v).rd O.TIME_STATUS_STEP_COUNT =
      min (Dict.top O.TIME_STATUS_STEP_COUNT) (u.rd O.TIME_STATUS_STEP_COUNT + 1)) ∧
  (∀ (u : State) (d : Nat), u.rdB O.PTP_ENABLE = false → (u.ptpConfig d).time.servo = 3 ∧ (u.ptpConfig d).time.exchange = none) ∧
  ∀ (s : State) (t : Nat),
    let step : Int := (s.rd O.FIRE_RATE_SLEW * 1000 : Nat)
    let gap := s.time.rate - s.time.fireRate
    (gap = 0 → exec (.fireRateSlew t) s = .next ((s.at t).after fun u => u)) ∧
    (gap ≠ 0 → -step ≤ gap → gap ≤ step → exec (.fireRateSlew t) s =
      .next ((s.at t).after fun u => u.updTime fun x => x.setFireRate u.now x.rate)) ∧
    (0 < step → step < gap → exec (.fireRateSlew t) s =
      .next ((s.at t).after fun u => u.updTime fun x => x.setFireRate u.now (x.fireRate + step))) ∧
    (0 < step → gap < -step → exec (.fireRateSlew t) s =
      .next ((s.at t).after fun u => u.updTime fun x => x.setFireRate u.now (x.fireRate - step)))

/-! ### Faults, safe state and background work (spec/18) -/

/-- R738 to R746, R750, R751: an event is counted and logged; a class becomes SEVERE by its N and W, and its action follows; the
test leaves the classes that still hold; CLEAR; a fault in a block's registers. -/
def Obligations.FaultRecords : Prop :=
  (∀ (s : State) (t b code data c : Nat), s.awake = true → classIndex b code = some c → bit (s.faultRec b).flags 3 = false →
    (s.faultRec b).log.length < 16 →
    ∃ u, exec (.blockEvent t b code data) s = .next ((s.at t).after fun _ => u) ∧ (u.faultRec b).lastCode = code ∧
      mapGet (u.faultRec b).counts c 0 = min 65535 (mapGet (s.faultRec b).counts c 0 + 1) ∧
      (u.faultRec b).log.map (·.code) = (s.faultRec b).log.map (·.code) ++ [code] ∧ (u.faultRec b).lost = (s.faultRec b).lost ∧
      ∀ d, d ≠ b → u.faultRec d = s.faultRec d) ∧
  (∀ (s : State) (b code data c : Nat), classIndex b code = some c → bit (s.faultRec b).flags 3 = false →
    16 ≤ (s.faultRec b).log.length → ((s.event b code data).faultRec b).log = (s.faultRec b).log ∧
      ((s.event b code data).faultRec b).lost = min 65535 ((s.faultRec b).lost + 1)) ∧
  (∀ (s : State) (b code data c : Nat), classIndex b code = some c → bit (s.faultRec b).flags 3 = false →
    (s.faultRec b).severe.contains c = false →
    severeNow (mapGet ((s.faultRec b).record c code data s.mono false).windows c []) (s.classEntry b c).1 (s.classEntry b c).2.2
      s.mono = true →
    ((s.event b code data).faultRec b).severe = (s.faultRec b).severe ++ [c] ∧
    (s.event b code data).acts = s.acts ++ actOf b code (s.classEntry b c).2.1) ∧
  (∀ (s : State) (t : Nat), s.awake = true → ∃ u, exec (.severeTest t) s = .next ((s.at t).after fun _ => u) ∧ u.acts = s.acts ∧
    ∀ b, b < 0x42 → (u.faultRec b).severe = (s.faultRec b).severe.filter fun c =>
      severeNow (mapGet (s.faultRec b).windows c []) (s.classEntry b c).1 (s.classEntry b c).2.2 (s.at t).mono) ∧
  (∀ t b, b < 0x42 → Writes (fun h => .faultClear t h b 1) t (0x150009 + 256 * b) [1#8] (fun _ => True) (·.clearRecord b)) ∧
  (∀ (s : State) (b : Nat), (s.clearRecord b).faultRec b = { FaultRec.empty with lastCode := (s.faultRec b).lastCode }) ∧
  (∀ (s : State) (t b : Nat), b < 0x42 → s.awake = true → ∃ u, exec (.regFault t b) s = .next ((s.at t).after fun _ => u) ∧
    bit (u.faultRec b).flags 3 = true ∧ u.acts = s.acts ++ [.safe ⟨b, 2, 0xffff⟩ true]) ∧
  ∀ (s : State) (b code data : Nat), bit (s.faultRec b).flags 3 = true → s.event b code data = s

/-- R665, R752 to R755, R766: ENTER calls for safe state; the first cause is kept, up to sixteen are listed, RUN becomes PAUSE and
nothing is composed any more; SAFE_CLEAR leaves safe state when no cause stands, or first retrains the frozen channels. -/
def Obligations.SafeState : Prop :=
  (∀ t,
    Writes (fun h => .enter t h 1) t O.SAFE_ENTER [1#8] (fun _ => True)
      (fun u => { u with acts := u.acts ++ [.safe ⟨2, 5, 1⟩ false] }) ∧
    Writes (fun h => .safeClear t h 1) t O.SAFE_CLEAR [1#8]
      (fun u => u.safe.active = true ∧ u.safe.clearing = false ∧ u.causePresent = false ∧ u.rd O.DRAM_FROZEN = 0) State.leaveSafe ∧
    Writes (fun h => .safeClear t h 1) t O.SAFE_CLEAR [1#8]
      (fun u => u.safe.active = true ∧ u.safe.clearing = false ∧ u.causePresent = false ∧ u.rd O.DRAM_FROZEN ≠ 0)
      (fun u =>
        let v := ((List.range 4).filter (bit (u.rd O.DRAM_FROZEN))).foldl (fun (s : State) c =>
          s.wr (O.CHANNEL_STATUS_STATE c) 5) u.dropSets
        { v with safe := { v.safe with causes := [], clearing := true } })) ∧
  (∀ u : State, u.safe.active = false → u.safeClear 1 = .of Status.empty u) ∧
  (∀ (u : State) (v : Nat), v ≠ 1 → u.safeClear v = .of Status.range u ∧ u.safeEnter v = .of Status.range u) ∧
  (∀ u : State, u.safe.active = true → u.safe.clearing = false → u.causePresent = true → u.safeClear 1 = .of Status.state u) ∧
  (∀ (s : State) (c : Cause) (y : Bool), s.safe.active = false →
    (s.safeCause c y).safe.active = true ∧ (s.safeCause c y).safe.first = some c ∧ (s.safeCause c y).safe.causes = [c] ∧
    (s.safeCause c y).safe.entries = min (2 ^ 32 - 1) (s.safe.entries + 1) ∧ (s.safeCause c y).safe.entryTime = s.mono ∧
    (s.power.state = 0 → (s.safeCause c y).power.state = 1) ∧ (s.safeCause c y).compose.hold = some 0) ∧
  (∀ (s : State) (c : Cause) (y : Bool), s.safe.active = true → s.safe.causes.length < 16 →
    (s.safeCause c y).safe = { s.safe with causes := s.safe.causes ++ [c] } ∧ (s.safeCause c y).power = s.power) ∧
  (∀ (s : State) (c : Cause) (y : Bool), s.safe.active = true →
    s.safeCause c y = s.recordCause c ∧ (s.recordCause c).out = s.out ∧ (s.recordCause c).graft = s.graft) ∧
  ∀ s : State, s.leaveSafe.safe.active = false ∧ s.leaveSafe.safe.causes = [] ∧ s.leaveSafe.safe.first = s.safe.first

/-- R757 to R761, R886: die temperatures and their trip, the SRAM scrub, telemetry, the flash log and late tasks. -/
def Obligations.BackgroundWork : Prop :=
  (∀ (s : State) (t : Nat) (cs : List Nat), s.awake = true →
    let shown := (List.range 8).map fun k => clampI (-32768) 32767
      (((cs.getD k 0 * s.slope k / 65536 : Nat) : Int) + toInt 16 (s.fuses.tempOffset.getD k 0))
    ∃ u, exec (.thermalRead t cs) s = .next ((s.at t).after fun _ => u) ∧ u.rd O.TEMP_READINGS = octOf 2 (shown.map (ofInt 16)) ∧
      ((∀ x ∈ shown, x ≤ 2080) → s.safe.hot = false → u.safe.hot = false ∧ u.acts = s.acts) ∧
      (∀ k, k < 8 → 2080 < shown.getD k 0 → 9 ≤ s.safe.hotReads.getD k 0 → s.safe.hot = false →
        u.safe.hot = true ∧ Act.safe ⟨1, 6, 0x10⟩ false ∈ u.acts) ∧
      ((∀ x ∈ shown, x < 1920) → u.safe.hot = false)) ∧
  (∀ (s : State) (t : Nat), s.awake = true →
    exec (.sramScrub t 0 0) s = .next ((s.at t).after fun u => (u.inc (O.TASK_RUNS 1)).wr (O.TASK_LAST_DONE 1) u.mono) ∧
    (exec (.sramScrub t 1 0) s = .next ((s.at t).after fun u => (u.event 0x41 3 0).taskDone 1)) ∧
    (exec (.sramScrub t 0 1) s = .next ((s.at t).after fun u => (u.event 0x41 4 0).taskDone 1))) ∧
  (∀ (s : State) (t : Nat) (sense : List Nat), s.awake = true →
    (s.rdB O.TELEMETRY_ENABLE = false → exec (.telemetrySample t sense) s = .next ((s.at t).after fun u => u) ∧
      exec (.logChunk t) s = .next ((s.at t).after fun u => u)) ∧
    (s.rdB O.TELEMETRY_ENABLE = true → ∃ u r, exec (.telemetrySample t sense) s = .next ((s.at t).after fun _ => u) ∧
      r = ({ s.at t with draws := s.draws + 1 } : State).telemetryRecord sense (Config.free s.draws).toNat ∧
      u.under.records = (r :: s.under.records).take 3600 ∧ u.rd O.TELEMETRY = leNat r) ∧
    (s.rdB O.TELEMETRY_ENABLE = true → s.boot.railFallen = false →
      exec (.logChunk t) s = .next ((s.at t).after fun u => u.writeChunk.taskDone 6))) ∧
  ∀ (s : State) (t k : Nat), s.awake = true → k < 7 →
    exec (.taskLate t k) s = .next ((s.at t).after fun u => (u.inc (O.TASK_LATE k)).event 0x41 1 k)

/-! ### Graft (spec/19) -/

/-- R769, R774, R777 to R779, R783, R784, R786, R788, R793, R796, R798: the pins and packets of a pair. -/
def Obligations.GraftEvents : Prop :=
  (∀ (s : State) (t : Nat), s.awake = true → exec (.graftHbToggle t) s = .next ((s.at t).after fun u =>
    ({ u with graft := { u.graft with heartbeat := !u.graft.heartbeat, beat := u.now } } : State).emit
      (.pin "GRAFT_HB" (!u.graft.heartbeat)))) ∧
  (∀ (s : State) (t : Nat), s.graftRuns = true →
    let pin (u : State) (y : Bool) : State := { u with graft := { u.graft with yieldIn := y } }
    (s.graft.yieldIn = false → s.graft.state = 3 → exec (.yieldInChange t true) s =
      .next ((s.at t).after fun u => (pin u true).takeover (pin u true).hwmLine false)) ∧
    (s.graft.yieldIn = false → s.graft.state = 2 → exec (.yieldInChange t true) s =
      .next ((s.at t).after fun u => (pin u true).notReady)) ∧
    (s.graft.yieldIn = true ∨ (s.graft.state ≠ 2 ∧ s.graft.state ≠ 3) → exec (.yieldInChange t true) s =
      .next ((s.at t).after fun u => pin u true)) ∧
    (s.graft.state ≠ 1 → exec (.yieldInChange t false) s = .next ((s.at t).after fun u => pin u false)) ∧
    (s.graft.state = 1 → s.graft.owner = true → s.graft.planned = false → exec (.yieldInChange t false) s =
      .next ((s.at t).after fun u => (pin u false).conflict))) ∧
  (∀ (s : State) (h : Nat) (p : Bool), (s.takeover h p).graft.state = 1 ∧ (s.takeover h p).graft.owner = true ∧
    (s.takeover h p).graft.holding = true ∧ (s.takeover h p).fire.resume = h + 32 ∧
    (s.takeover h p).graft.number = s.graft.number + 1) ∧
  (∀ (s : State) (t role : Nat), role < 4 →
    (s.graftRuns = false → exec (.graftRoleChange t role) s =
      .next ((s.at t).after fun u => { u with graft := { u.graft with pins := role } })) ∧
    (s.graftRuns = true → ((role = 0) = (s.graft.pins = 0) ∨ (s.power.state = 1 ∧ s.power.target = 0xff)) →
      exec (.graftRoleChange t role) s = .next ((s.at t).after fun u => u.takeRole role)) ∧
    (s.graftRuns = true → (role = 0) ≠ (s.graft.pins = 0) → s.power.state ≠ 1 →
      exec (.graftRoleChange t role) s = .next ((s.at t).after fun u =>
        ({ u with graft := { u.graft with waiting := some role } } : State).event 0x3f 5 0))) ∧
  (∀ (s : State) (t : Nat), s.mirrorHears = true →
    (∀ m : HelloMsg,
      let heard (v : State) : State :=
        (({ v with graft := { v.graft with partner := some ⟨m.nonce, m.serial, m.capacity, m.role⟩ } } : State).wr O.PARTNER_SERIAL
          m.serial).graftSend 0x21 (v.quote m.nonce)
      (s.graft.forming ≠ none → exec (.hello t m) s = .next ((s.at t).after fun u => heard (u.mirrorGot 56))) ∧
      (s.graft.forming = none → exec (.hello t m) s = .next ((s.at t).after fun u => heard ((u.mirrorGot 56).startForming)))) ∧
    (∀ (q : QuoteMsg) (t0 : Nat) (p : Partner), s.graft.forming = some t0 → s.graft.partner = some p →
      (s.quoteFails p q ≠ 0 → exec (.graftQuote t q) s = .next ((s.at t).after fun u =>
        { u.mirrorGot 664 with graft := { u.graft with failed := u.quoteFails p q, accepted := false } })) ∧
      (s.quoteFails p q = 0 → q.partnerAccepts = true → (s.at t).now ≤ t0 + 50 * ms →
        exec (.graftQuote t q) s = .next ((s.at t).after fun u =>
          ({ u.mirrorGot 664 with graft := { u.graft with failed := 0, accepted := true } } : State).pairFormed))) ∧
    (∀ (idx sub : Nat) (data : List Byte) (r : ObjRow), s.control = false → sub < 256 → Dict.row? idx sub = some r →
      isMirrored (256 * idx + sub) = true → (r.ty ≠ .dom → data.length = r.ty.size) →
      exec (.statePacket t idx sub r.ty.code data) s = .next ((s.at t).after fun u =>
        ((u.mirrorGot (8 + data.length)).applyForwarded (256 * idx + sub) r data).mirrorAnswer 0x14 0 0
          (ackBody none none 1 false))) ∧
    (∀ pos, s.graft.state = 2 → exec (.syncMark t pos) s = .next ((s.at t).after fun u =>
      { u.mirrorGot 8 with graft := { u.graft with
        syncPos := some (pos / 65536), mismatch := false, seeded := false, differing := 0 } })) ∧
    (∀ r : List Byte, r.length = 48 → exec (.graftReport t r) s = .next ((s.at t).after fun u =>
      let v := (u.mirrorGot 48).domPatch 0x3620 (48 * (u32At r 0 % 64)) r
      { v with graft := { v.graft with number := max v.graft.number (u32At r 0) } })) ∧
    ∀ (count : Int) (pos hw n : Nat), s.graft.paired = true →
      let got (u : State) : State := { u.mirrorGot 32 with graft := { u.graft with heard := u.now } }
      (s.graft.syncPos = none ∨ s.graft.state ≠ 2 ∨ s.graft.seeded = true → exec (.positionRecord t count pos hw n) s =
        .next ((s.at t).after fun u => ((got u).compareRecord count pos hw).checkReady)) ∧
      ∀ p, s.graft.syncPos = some p → s.graft.state = 2 → s.graft.seeded = false → exec (.positionRecord t count pos hw n) s =
        .next ((s.at t).after fun u => ((got u).reseed count pos hw p).checkReady)) ∧
  (∀ (s : State) (t t0 : Nat), s.graft.forming = some t0 → t0 + 50 * ms ≤ (s.at t).now →
    exec (.formRefused t) s = .next ((s.at t).after fun u =>
      ({ u.dropWaiting with graft := { u.graft with paired := false, forming := none, retryAt := some (u.now + 10 * sec) } } :
        State).event 0x3f 1
        u.graft.failed)) ∧
  (∀ (s : State) (t : Nat), s.mirror.link = 2 → s.graft.paired = true →
    exec (.positionSend t) s = .next ((s.at t).after fun u =>
      ({ u with graft := { u.graft with seq := (u.graft.seq + 1) % 2 ^ 32, sentAt := u.now } } : State).graftSend 0x23
        (natLE 8 (ofInt 64 u.sourceCount) ++ natLE 8 (to4816 u.web.pos) ++ natLE 8 (to4816 u.web.hwm) ++
          natLE 4 u.graft.seq ++ natLE 4 0))) ∧
  ∀ (s : State) (t : Nat), s.graft.state = 3 → s.graft.heard + s.rd O.MIRROR_HOLD * ms ≤ (s.at t).now →
    exec (.mirrorHold t) s = .next ((s.at t).after fun u =>
      ({ u with graft := { u.graft with state := 2 } } : State).event 0x3f 4 0)

/-! ### Axes (spec/20) -/

/-- R79, R805 to R812, R819, R820, R822, R825, R826, R829, R830: the records and commands of an axis, in the states that take them;
which MOVE_REPLAN is EMPTY and which ramp it refuses is DEDUCED (log 166). -/
def Obligations.AxisRequests : Prop :=
  (∀ t a, a < 4 →
    Applies (fun h => .axisConfigApply t h a 1) t (0x3700 + a)
      (fun _ v => v.axisOk a = true ∧ (v.axis a).state = 0 ∧ v.rdB (O.AXIS_ENABLE a) = true)
      (fun _ v => (v.updAxis a fun x => { x.takeCoil (v.rd (O.STANDSTILL_MODE a)) with state := 1 }).gateCoils a) ∧
    Applies (fun h => .axisConfigApply t h a 1) t (0x3700 + a)
      (fun _ v => v.axisOk a = true ∧ (v.axis a).state = 1 ∧ v.rdB (O.AXIS_ENABLE a) = true) (fun _ v => v.gateCoils a) ∧
    Applies (fun h => .axisConfigApply t h a 1) t (0x3700 + a)
      (fun _ v => v.axisOk a = true ∧ ((v.axis a).state ≤ 1 ∨ (v.axis a).state = 6) ∧ v.rdB (O.AXIS_ENABLE a) = false)
      (fun _ v => (v.updAxis a fun x =>
        { x with state := 0, coil := .off, flags := setBit x.flags 2 false, endedAt := none }).gateCoils a) ∧
    Applies (fun h => .rampApply t h a 1) t (0x3710 + a) (fun _ _ => True) (fun _ v => v) ∧
    (∀ target : Int, Applies (fun h => .moveApply t h a 1) t (0x3720 + a)
      (fun _ v => target = (if v.rdB (O.MOVE_RELATIVE a) then (v.axis a).pos + v.rdI 32 (O.MOVE_TARGET a)
          else v.rdI 32 (O.MOVE_TARGET a)) ∧ -(2 ^ 31) ≤ target ∧ target < 2 ^ 31 ∧ v.motionBarred a = false ∧
        v.liftBarred a = false ∧ (a ≠ 0 ∨ v.checkLevel = v) ∧ (v.axis a).state = 1 ∧ target ≠ (v.axis a).pos)
      (fun _ v => (v.inc (O.AXIS_MOVES a)).startMove a target) ∧
      Applies (fun h => .moveApply t h a 1) t (0x3720 + a)
      (fun _ v => target = (if v.rdB (O.MOVE_RELATIVE a) then (v.axis a).pos + v.rdI 32 (O.MOVE_TARGET a)
          else v.rdI 32 (O.MOVE_TARGET a)) ∧ -(2 ^ 31) ≤ target ∧ target < 2 ^ 31 ∧ v.motionBarred a = false ∧
        v.liftBarred a = false ∧ (a ≠ 0 ∨ v.checkLevel = v) ∧ (v.axis a).state = 2)
      (fun _ v => (v.updAxis a fun x => { x with target := target }).testMove a)) ∧
    Applies (fun h => .homeConfigApply t h a 1) t (0x3730 + a) (fun _ v => (v.axis a).state ≠ 5) (fun _ v => v) ∧
    Writes (fun h => .moveReplan t h (2 ^ a)) t O.MOVE_REPLAN [toByte (2 ^ a)]
      (fun u => (u.linked = false ∨ 2 ≤ a) ∧ (u.axis a).moving = true ∧ u.rampFail a = none ∧
        (u.staged (0x3710 + a) ≠ [] ∨ u.rampPending a = true)) (·.replanOn a) ∧
    Writes (fun h => .moveStop t h (2 ^ a)) t O.MOVE_STOP [toByte (2 ^ a)]
      (fun u => (u.linked = false ∨ 2 ≤ a) ∧ (u.axis a).moving = true) (·.stopAxis a) ∧
    Writes (fun h => .home t h (2 ^ a)) t O.HOME [toByte (2 ^ a)]
      (fun u => (u.linked = false ∨ 2 ≤ a) ∧ u.motionBarred a = false ∧ (u.axis a).state = 1) (fun u => u.startHome a a)) ∧
  (∀ t,
    (∀ v, v = 1 ∨ v = 2 ∨ v = 3 → Writes (fun h => .moveStop t h v) t O.MOVE_STOP [toByte v]
      (fun u => u.linked = true ∧ (u.axis 0).state = 2) (·.stopAxis 0)) ∧
    Writes (fun h => .home t h 3) t O.HOME [3#8]
      (fun u => u.linked = true ∧ u.motionBarred 0 = false ∧ u.motionBarred 1 = false ∧ (u.axis 0).state = 1 ∧ (u.axis 1).state = 1)
      (fun u => (u.startHome 0 0).startHome 1 0) ∧
    Applies (fun h => .levelApply t h 1) t 0x3750
      (fun _ v => (v.axis 0).state ≤ 1 ∧ (v.axis 1).state ≤ 1 ∧ v.linked = false) (fun _ v => v) ∧
    Applies (fun h => .levelApply t h 1) t 0x3750
      (fun _ v => (v.axis 0).state ≤ 1 ∧ (v.axis 1).state ≤ 1 ∧ v.linked = true ∧ v.axes.length = 4 ∧
        ((v.axis 1).pos - (v.axis 0).pos - v.rdI 32 O.LEVEL_OFFSET).natAbs ≤ v.rd O.LEVEL_TOL)
      (fun _ v => (v.updAxis 0 fun x => { x with flags := setBit x.flags 3 false }).updAxis 1 fun x =>
        { x with flags := setBit x.flags 3 false }) ∧
    Applies (fun h => .levelApply t h 1) t 0x3750
      (fun _ v => (v.axis 0).state ≤ 1 ∧ (v.axis 1).state ≤ 1 ∧ v.linked = true ∧ v.axes.length = 4 ∧
        v.rd O.LEVEL_TOL < ((v.axis 1).pos - (v.axis 0).pos - v.rdI 32 O.LEVEL_OFFSET).natAbs)
      (fun _ v => ((v.updAxis 0 fun x => { x with flags := setBit (setBit x.flags 3 false) 3 true }).updAxis 1 fun x =>
        { x with flags := setBit (setBit x.flags 3 false) 3 true }).event 0xe 3 0)) ∧
  (∀ (u : State) (a : Nat), a < 4 → (u.linked = false ∨ 2 ≤ a) →
    (u.staged (0x3710 + a) = [] → u.rampPending a = false → u.replan (2 ^ a) = .of Status.empty u) ∧
    ∀ sub, (u.axis a).moving = true → u.rampFail a = some sub →
      u.replan (2 ^ a) = ⟨Status.range, [toByte sub, 0#8, 0#8, 0#8], u.dropStage (0x3710 + a)⟩) ∧
  (∀ (u : State) (a : Nat), a < 4 → u.staged (0x3710 + a) ≠ [] → stageFail (u.staged (0x3710 + a)) = none →
    let r := (u.wrs (u.staged (0x3710 + a))).rampOf a
    ¬(r.vstart ≤ r.v1 ∧ r.vstop ≤ r.v1 ∧ r.v1 ≤ r.vmax ∧ 1 ≤ r.a1 ∧ 1 ≤ r.amax ∧ 1 ≤ r.dmax ∧ 1 ≤ r.d1) →
    ∃ sub, u.recordApply (0x3710 + a) = ⟨Status.range, [toByte sub, 0#8, 0#8, 0#8], u.dropStage (0x3710 + a)⟩) ∧
  (∀ (u : State) (a : Nat), u.motionBarred a = true → -(2 ^ 31) ≤ u.rdI 32 (O.MOVE_TARGET a) →
    u.rdI 32 (O.MOVE_TARGET a) < 2 ^ 31 → u.rdB (O.MOVE_RELATIVE a) = false → u.moveApply a = .of Status.state u) ∧
  (∀ (u : State) (a : Nat), u.safe.active = true ∨ 2 ≤ u.power.state → u.motionBarred a = true) ∧
  (∀ (u : State) (a : Nat) (target : Int), a < u.axes.length → u.linked = false →
    ((u.startMove a target).axis a).state = 2 ∧ ((u.startMove a target).axis a).target = target ∧
    ((u.startMove a target).axis a).speed = 1000000 * u.rd (O.VSTART a) ∧ ((u.startMove a target).axis a).pos = (u.axis a).pos) ∧
  ∀ (r : Ramp) (v s12 : Nat), r.ok = true → v ≤ 1000000 * r.vmax →
    r.next v s12 ≤ 1000000 * r.vmax ∧ v ≤ r.next v s12 + 256 * max r.dmax r.d1 ∧
    (1000000 * r.vstop ≤ v → r.next v s12 ≤ v + 256 * max r.a1 r.amax)

/-- R803, R805, R806, R810, R815, R817 to R821, R832: what the µs of a ramp, the home switch, the coils and the reversal do; no
half-bridge has both its gates on, and a gate comes on DEAD_TIME after the other went off; a threshold DAC has the nearest code. -/
def Obligations.AxisEvents : Prop :=
  (∀ (s : State) (t a : Nat), (s.axis a).moving = false ∨ (s.axis a).dwellSince.isSome = true →
    exec (.rampTick t a) s = .next ((s.at t).after fun u => u.chopAxis a) ∧
    ((s.axis a).coil = .off ∨ (s.axis a).coil = .short → exec (.rampTick t a) s = .next ((s.at t).after fun u => u))) ∧
  (∀ (s : State) (t a : Nat), (s.axis a).moving = true → (s.axis a).dwellSince = none → (s.axis a).phase ≠ some .waiting →
    ¬(a = 1 ∧ s.slaved = true) →
    let x := s.axis a
    let v := x.ramp.next x.speed ((x.goal - x.pos).natAbs * 10 ^ 12 - x.part)
    exec (.rampTick t a) s = .next ((s.at t).after fun u =>
      let m := ((u.updAxis a fun y => { y with speed := v, part := (x.part + v) % 10 ^ 12 }).unitSteps a
        ((x.part + v) / 10 ^ 12)).sync a
      let e := if (m.axis a).pos = (m.axis a).goal then m.reached a else m.checkHome a
      (if a = 0 then e.checkLevel else e).chopAxis a)) ∧
  (∀ (s : State) (t a : Nat), (s.axis a).state = 5 →
    ((s.axis a).phase = some .search → exec (.homeSwitchFound t a) s = .next ((s.at t).after fun u =>
      (u.runOut a 5 0).updAxis a fun x => { x with phase := some .found })) ∧
    ((s.axis a).phase = some .slow → exec (.homeEdge t a) s = .next ((s.at t).after fun u =>
      ((u.updAxis a fun x => { x with pos := u.rdI 32 (O.HOME_POS a), part := 0 }).runOut a 5 0).updAxis a fun x =>
        { x with phase := some .edge }))) ∧
  (∀ (s : State) (t a : Nat), (s.axis a).state ≠ 5 → exec (.homeSwitchFound t a) s = .next ((s.at t).after fun u => u) ∧
    exec (.homeEdge t a) s = .next ((s.at t).after fun u => u)) ∧
  (∀ (s : State) (t a : Nat), (s.axis a).state ≠ 0 → (s.axis a).state ≠ 6 → s.slaved = false →
    exec (.overcurrent t a) s = .next ((s.at t).after fun u =>
      ((u.updAxis a fun x => { x with
        state := 6, coil := .off, speed := 0, part := 0, phase := none, dwellSince := none, endedAt := none, lastResult := 4
        flags := setBit (setBit x.flags 2 true) 0 false }).gateCoils a).event 0xe 1 a)) ∧
  (∀ (s : State) (t a : Nat), (s.at t).driveStuck a 0 = false ∧ (s.at t).driveStuck a 1 = false →
    exec (.driveSaturated t a) s = .next ((s.at t).after fun u => u)) ∧
  (∀ (s : State) (t a : Nat), (s.at t).driveStuck a 0 = true → (s.at t).driveStuck a 1 = false →
    exec (.driveSaturated t a) s = .next ((s.at t).after fun u =>
      ((u.updAxis a fun x => { x with flags := setBit x.flags 4 true }).beginPart a 0 false u.now).event 0xe 5 a)) ∧
  (∀ (s : State) (t a t0 : Nat), (s.axis a).endedAt = some t0 → (s.axis a).state = 1 →
    t0 + s.rd (O.HOLD_DELAY a) * ms ≤ (s.at t).now → exec (.holdDelay t a) s = .next ((s.at t).after fun u =>
      (u.updAxis a fun x => x.takeCoil (u.rd (O.STANDSTILL_MODE a))).gateCoils a)) ∧
  (∀ (s : State) (t a t0 : Nat), (s.axis a).dwellSince = some t0 → (s.axis a).state = 3 →
    t0 + (s.axis a).ramp.dwell * ms ≤ (s.at t).now → ¬(a = 1 ∧ s.slaved = true) →
    ((s.axis a).pos = (s.axis a).target → exec (.reverseDwell t a) s = .next ((s.at t).after fun u => u.endMove a 1)) ∧
    ((s.axis a).pos ≠ (s.axis a).target → exec (.reverseDwell t a) s =
      .next ((s.at t).after fun u => u.startMove a (s.axis a).target))) ∧
  (∀ (p : CoilPhase) (want : List Bool) (dead now : Nat), p.on.length = 4 → want.length = 4 → 0 < dead → apart p.on = true →
    apart want = true →
    let r := p.drive want dead now
    apart r.1.on = true ∧ (∀ e ∈ r.2, apart e.1 = true) ∧
    (∀ g t, r.1.next = some (g, t) → g = want ∧ ∀ k, k < 4 → want.getD k false = true → p.on.getD k false = false →
      (if p.on.getD (partnerGate k) false then now else p.offAt.getD (partnerGate k) 0) + dead ≤ t) ∧
    ∀ e ∈ r.2, ∀ k, k < 4 → e.1.getD k false = true → p.on.getD k false = false →
      p.on.getD (partnerGate k) false = false ∧ p.offAt.getD (partnerGate k) 0 + dead ≤ e.2) ∧
  (∀ negative : Bool, apart (gatesDrive negative) = true ∧ apart gatesLow = true ∧ gatesOff.all (fun b => !b) = true) ∧
  ∀ (i : Int) (sense : Nat) (c : Int × Int), 0 < c.1 →
    dacCode i sense c ≤ 1023 ∧
    (0 < dacCode i sense c → dacCode i sense c < 1023 →
      2 * ((i * sense - 1000 * c.2) * 65536 - 1000 * c.1 * dacCode i sense c).natAbs ≤ (1000 * c.1).natAbs)

/-! ### Calibration and displays (spec/21, spec/22) -/

/-- R834, R838, R839, R843 to R854: a strobe output whose edges lie at 10.0 ns and its trim keeps its CODE; a run starts, its passes, the decision, the holdoff and the slewing. -/
def Obligations.Calibration : Prop :=
  (∀ t,
    Writes (fun h => .calStart t h 1) t O.CAL_START [1#8] (fun u => u.calState ≠ 1 ∧ u.calState ≠ 2) State.calRun ∧
    ∀ data : List Byte, data.length = 32 → (∀ i, i < 16 → octAt 2 (leNat data) i ≤ 2500) →
      Writes (fun h => .strobeTrimWrite t h data) t O.STROBE_TRIM data (fun _ => True)
        (fun u => (u.setNow O.STROBE_TRIM (leNat data)).hostTouch [] none)) ∧
  (∀ u : State, u.calState = 1 ∨ u.calState = 2 → u.calStart 1 = .of Status.busy u) ∧
  (∀ u : State, u.calRun.calState = 1 ∧ u.calRun.rd O.LAST_RUN = u.mono ∧ u.calRun.cal.first = [] ∧ u.calRun.cal.refCoeff = u.coeff 8 ∧
    u.calRun.cal.refValue = u.rd O.CAL_REF_VALUE ∧ u.calRun.cal.since = u.now ∧ u.pendingRun.cal.pending = false) ∧
  (∀ (s : State) (t : Nat) (r : CalPass),
    let ref : Int := (s.cal.refValue : Nat)
    let off := (((r.refCode : Int) * s.cal.refCoeff.1).tdiv 65536 + s.cal.refCoeff.2 - ref).natAbs * 50
    (s.calState = 1 → off ≤ ref.natAbs → exec (.calPassDone t r) s = .next ((s.at t).after fun u =>
      ({ u with cal := { u.cal with first := u.passResults r, bins := r.bins } } : State).startPass.wr O.CAL_STATUS_STATE 2)) ∧
    (s.calState = 2 → off ≤ ref.natAbs → exec (.calPassDone t r) s = .next ((s.at t).after fun u =>
      ({ u with cal := { u.cal with bins := r.bins } } : State).calDecide (u.passResults r))) ∧
    (s.calState = 1 ∨ s.calState = 2 → ref.natAbs < off → exec (.calPassDone t r) s =
      .next ((s.at t).after fun u => (u.event 0x3e 3 0).calHoldoff)) ∧
    (s.calState = 0 ∨ s.calState = 3 → exec (.calPassDone t r) s = .next ((s.at t).after fun u => u))) ∧
  (∀ (s : State) (r : CalPass) (i sum : Nat), i < 16 → 0 < r.bins → r.strobes.getD i none = some sum →
    (s.cal.edges.getD i 0 < 64 → (s.passResults r).getD (56 + i) none = none) ∧ (64 ≤ s.cal.edges.getD i 0 →
    (s.passResults r).getD (56 + i) none = some (s.strobeCode i r.bins sum, 0) ∧
    (binDelay sum = (10000 + s.fire.trims.getD i 0) * 64 * r.bins → s.strobeCode i r.bins sum = (s.coeff (56 + i)).1))) ∧
  (∀ (s : State) (i : Nat) (a b : Int × Int), plausible i a = true → plausible i b = true →
    (s.agree i a b = true → s.itemOutcome i (some a) (some b) = 1) ∧
    (s.agree i a b = false → s.itemOutcome i (some a) (some b) = 2)) ∧
  (∀ (s : State) (i : Nat) (a b : Int × Int), plausible i a = false → s.itemOutcome i (some a) (some b) = 3) ∧
  (∀ (s : State) (t : Nat) (cs : List Nat), s.awake = true →
    let shown := (List.range 8).map fun k => clampI (-32768) 32767
      (((cs.getD k 0 * s.slope k / 65536 : Nat) : Int) + toInt 16 (s.fuses.tempOffset.getD k 0))
    let read (u : State) : State := (u.wr O.TEMP_READINGS (octOf 2 (shown.map (ofInt 16)))).taskDone 3
    (s.rdB O.CAL_AUTO = false ∨ s.cal.referenced = false →
      exec (.calTempTrigger t cs) s = .next ((s.at t).after read)) ∧
    (∀ k, k < 8 → s.rdB O.CAL_AUTO = true → s.cal.referenced = true → s.calState = 0 →
      s.rd O.CAL_DELTA_T < (shown.getD k 0 - toInt 16 (octAt 2 (s.rd O.REF_TEMPS) k)).natAbs →
      exec (.calTempTrigger t cs) s = .next ((s.at t).after fun u => (read u).calRun))) ∧
  (∀ (s : State) (t : Nat), s.calState = 3 → s.cal.since + 60 * sec ≤ (s.at t).now →
    (s.cal.pending = false → exec (.holdoffEnd t) s = .next ((s.at t).after fun u => u.wr O.CAL_STATUS_STATE 0)) ∧
    (s.cal.pending = true → exec (.holdoffEnd t) s = .next ((s.at t).after State.pendingRun))) ∧
  (∀ (s : State) (t : Nat), s.cal.slews = [] → exec (.calSlew t) s = .next ((s.at t).after fun u => u)) ∧
  (∀ (s : State) (t : Nat) (x : Slew), s.cal.slews = [x] →
    (x.ms + 1 < x.span → exec (.calSlew t) s = .next ((s.at t).after fun u =>
      ({ u with cal := { u.cal with slews := [{ x with ms := x.ms + 1 }] } } : State).setCoeff x.item
        (Slew.value { x with ms := x.ms + 1 }))) ∧
    (x.span ≤ x.ms + 1 → exec (.calSlew t) s = .next ((s.at t).after fun u =>
      ({ u with cal := { u.cal with slews := [] } } : State).setCoeff x.item (x.to0, x.to1)))) ∧
  ∀ x : Slew, x.ms < x.span → (x.from0 ≤ x.to0 → x.from0 ≤ x.value.1 ∧ x.value.1 ≤ x.to0) ∧
    (x.to0 ≤ x.from0 → x.to0 ≤ x.value.1 ∧ x.value.1 ≤ x.from0)

/-- R857 to R869: the timing record, a frame start, a line, an underrun, and the end of a lengthened porch; what the pairs carry
outside the active area is the model's reading (log 176). -/
def Obligations.Displays : Prop :=
  (∀ t x, x < 2 → Applies (fun h => .dispTimingApply t h x 1) t (0x3900 + x) (fun _ _ => True) (fun _ v => v.dispApply x)) ∧
  (∀ (s : State) (x : Nat), x < s.disps.length →
    ((s.disp x).running = true → s.dispApply x = s.updDisp x fun d => { d with next := some (s.timing x) }) ∧
    ((s.disp x).running = false → (s.timing x).resizes (s.disp x).timing = false → s.dispApply x =
      (s.updDisp x fun d => { d with timing := s.timing x, running := s.rdB (O.DISP_ENABLE x) && s.displaysRun, next := none, still := 0,
                                     reduced := false, frameStart := none }).drivePairs x false) ∧
    ((s.disp x).running = false → (s.timing x).resizes (s.disp x).timing = true →
      ((s.dispApply x).disp x).graphics = [] ∧ ((s.dispApply x).dom (0x3910 + x)).size = 0)) ∧
  (∀ (s : State) (x : Nat) (was : Bool), ((s.disp x).running = was → s.drivePairs x was = s) ∧
    ((s.disp x).running ≠ was → s.drivePairs x was = s.emit (.displayPairs x (s.disp x).running))) ∧
  (∀ (s : State) (t x : Nat), x < 2 → (List.range 4).foldl State.deliverDone (s.at t) = s.at t →
    ((s.disp x).running = false → exec (.dispFrameStart t x) s = .next ((s.at t).after fun u => u)) ∧
    ∀ d, s.disp x = d → d.running = true → s.displaysRun = true →
      let lines := d.timing.vtotal + if d.reduced then (s.rd (O.STATIC_DIV x) - 1) * d.timing.vtotal else 0
      let ended := ∀ t0, d.frameStart = some t0 →
        t0 * d.timing.clock + lines * d.timing.htotal * ms ≤ (s.at t).now * d.timing.clock
      (¬ended → exec (.dispFrameStart t x) s = .next ((s.at t).after fun u => u)) ∧
      (∀ n, ended → d.next = some n → n.enable = false → n.resizes d.timing = false →
        exec (.dispFrameStart t x) s = .next ((s.at t).after fun u =>
          (u.updDisp x fun d => { d with running := false, timing := n, next := none, still := 0, reduced := false
                                         frameStart := none }).emit (.displayPairs x false))) ∧
      (ended → d.next = none → d.timing.enable = true → s.dispChange x = false → exec (.dispFrameStart t x) s =
        .next ((s.at t).after fun u => ((((u.updDisp x fun e =>
          { e with preview := u.previewOf x, still := d.still + 1
                   reduced := u.rd (O.STATIC_FRAMES x) != 0 && u.rd (O.STATIC_FRAMES x) ≤ d.still + 1
                   frameStart := some u.now }).inc (O.DISP_STATUS_FRAMES x)).wr
            (O.PREVIEW_FRAME x) (((u.previewOf x).map (·.info.no)).getD 0 % 2 ^ 32)).emit
              (.displayBlank x d.timing.vsync (d.timing.blankLine true))).emit
                (.displayBlank x d.timing.vbp (d.timing.blankLine false))))) ∧
  (∀ (s : State) (t x line : Nat), x < 2 → (s.disp x).running = true → s.displaysRun = true → line < (s.disp x).timing.vactive →
    exec (.dispLineFetch t x line none) s = .next ((s.at t).after fun u => (u.emit (.display x line
      (((List.range (u.disp x).timing.hactive).map fun c => lvdsWord (u.disp x).timing.flags (u.dispPixel x c line)) ++
        (u.disp x).timing.lineEnd false))).frontPorch x line) ∧
    ∀ c, c < (s.disp x).timing.hactive → ∃ u ws, exec (.dispLineFetch t x line (some c)) s = .next ((s.at t).after fun _ => u) ∧
      Out.display x line ws ∈ u.out ∧ u.rd (O.UNDERRUNS x) = min (Dict.top (O.UNDERRUNS x)) (s.rd (O.UNDERRUNS x) + 1) ∧
      ws.length = (s.disp x).timing.hactive + ((s.disp x).timing.lineEnd false).length ∧
      ws.getD c 0 = lvdsWord (s.disp x).timing.flags
        [bits (s.rd (O.BG_COLOUR x)) 23 16, bits (s.rd (O.BG_COLOUR x)) 15 8, bits (s.rd (O.BG_COLOUR x)) 7 0]) ∧
  (∀ (s : State) (x line : Nat), (line + 1 ≠ (s.disp x).timing.vactive → s.frontPorch x line = s) ∧
    (line + 1 = (s.disp x).timing.vactive → (s.disp x).reduced = true → s.frontPorch x line = s.emit (.displayBlank x
      ((s.disp x).timing.vfp + (s.rd (O.STATIC_DIV x) - 1) * (s.disp x).timing.vtotal) ((s.disp x).timing.blankLine false)))) ∧
  ∀ (s : State) (t x : Nat),
    let passed := ∀ t0, (s.disp x).frameStart = some t0 → t0 * (s.disp x).timing.clock +
      (s.disp x).timing.vtotal * (s.disp x).timing.htotal * ms ≤ (s.at t).now * (s.disp x).timing.clock
    ((s.disp x).reduced = true → s.dispChange x = true → passed → exec (.porchEnd t x) s =
      .next ((s.at t).after fun u => u.updDisp x fun d => { d with reduced := false, still := 0 })) ∧
    ((s.disp x).reduced = false ∨ s.dispChange x = false ∨ ¬passed →
      exec (.porchEnd t x) s = .next ((s.at t).after fun u => u))
end

