-- ==== Sys2Proof/Laws/State.lean ====
section
/-! SUPPORT. What the updates of one field leave alone: one lemma for each field and update. -/

namespace Sys2Proof.Machine

/-! ### at -/

@[simp] theorem State.at_draws (s : State) (t : Nat) : (s.at t).draws = s.draws := rfl
@[simp] theorem State.at_objs (s : State) (t : Nat) : (s.at t).objs = s.objs := rfl
@[simp] theorem State.at_doms (s : State) (t : Nat) : (s.at t).doms = s.doms := rfl
@[simp] theorem State.at_tdp (s : State) (t : Nat) : (s.at t).tdp = s.tdp := rfl
@[simp] theorem State.at_net (s : State) (t : Nat) : (s.at t).net = s.net := rfl
@[simp] theorem State.at_fuses (s : State) (t : Nat) : (s.at t).fuses = s.fuses := rfl
@[simp] theorem State.at_flash (s : State) (t : Nat) : (s.at t).flash = s.flash := rfl
@[simp] theorem State.at_boot (s : State) (t : Nat) : (s.at t).boot = s.boot := rfl
@[simp] theorem State.at_bank (s : State) (t : Nat) : (s.at t).bank = s.bank := rfl
@[simp] theorem State.at_power (s : State) (t : Nat) : (s.at t).power = s.power := rfl
@[simp] theorem State.at_access (s : State) (t : Nat) : (s.at t).access = s.access := rfl
@[simp] theorem State.at_faults (s : State) (t : Nat) : (s.at t).faults = s.faults := rfl
@[simp] theorem State.at_safe (s : State) (t : Nat) : (s.at t).safe = s.safe := rfl
@[simp] theorem State.at_acts (s : State) (t : Nat) : (s.at t).acts = s.acts := rfl
@[simp] theorem State.at_time (s : State) (t : Nat) : (s.at t).time = s.time := rfl
@[simp] theorem State.at_jobs (s : State) (t : Nat) : (s.at t).jobs = s.jobs := rfl
@[simp] theorem State.at_ingest (s : State) (t : Nat) : (s.at t).ingest = s.ingest := rfl
@[simp] theorem State.at_mirror (s : State) (t : Nat) : (s.at t).mirror = s.mirror := rfl
@[simp] theorem State.at_compose (s : State) (t : Nat) : (s.at t).compose = s.compose := rfl
@[simp] theorem State.at_nozzle (s : State) (t : Nat) : (s.at t).nozzle = s.nozzle := rfl
@[simp] theorem State.at_web (s : State) (t : Nat) : (s.at t).web = s.web := rfl
@[simp] theorem State.at_fire (s : State) (t : Nat) : (s.at t).fire = s.fire := rfl
@[simp] theorem State.at_heads (s : State) (t : Nat) : (s.at t).heads = s.heads := rfl
@[simp] theorem State.at_lanes (s : State) (t : Nat) : (s.at t).lanes = s.lanes := rfl
@[simp] theorem State.at_cams (s : State) (t : Nat) : (s.at t).cams = s.cams := rfl
@[simp] theorem State.at_inspect (s : State) (t : Nat) : (s.at t).inspect = s.inspect := rfl
@[simp] theorem State.at_disps (s : State) (t : Nat) : (s.at t).disps = s.disps := rfl
@[simp] theorem State.at_dram (s : State) (t : Nat) : (s.at t).dram = s.dram := rfl
@[simp] theorem State.at_movers (s : State) (t : Nat) : (s.at t).movers = s.movers := rfl
@[simp] theorem State.at_graft (s : State) (t : Nat) : (s.at t).graft = s.graft := rfl
@[simp] theorem State.at_axes (s : State) (t : Nat) : (s.at t).axes = s.axes := rfl
@[simp] theorem State.at_cal (s : State) (t : Nat) : (s.at t).cal = s.cal := rfl
@[simp] theorem State.at_under (s : State) (t : Nat) : (s.at t).under = s.under := rfl
@[simp] theorem State.at_rd_eq (s : State) (t : Nat) (j : Nat) : (s.at t).rd j = s.rd j := rfl
@[simp] theorem State.at_dom_eq (s : State) (t : Nat) (j : Nat) : (s.at t).dom j = s.dom j := rfl
@[simp] theorem State.at_faultRec_eq (s : State) (t : Nat) (j : Nat) : (s.at t).faultRec j = s.faultRec j := rfl

/-! ### wr -/

@[simp] theorem State.wr_now (s : State) (k v : Nat) : (s.wr k v).now = s.now := rfl
@[simp] theorem State.wr_pending (s : State) (k v : Nat) : (s.wr k v).pending = s.pending := rfl
@[simp] theorem State.wr_out (s : State) (k v : Nat) : (s.wr k v).out = s.out := rfl
@[simp] theorem State.wr_draws (s : State) (k v : Nat) : (s.wr k v).draws = s.draws := rfl
@[simp] theorem State.wr_doms (s : State) (k v : Nat) : (s.wr k v).doms = s.doms := rfl
@[simp] theorem State.wr_tdp (s : State) (k v : Nat) : (s.wr k v).tdp = s.tdp := rfl
@[simp] theorem State.wr_net (s : State) (k v : Nat) : (s.wr k v).net = s.net := rfl
@[simp] theorem State.wr_fuses (s : State) (k v : Nat) : (s.wr k v).fuses = s.fuses := rfl
@[simp] theorem State.wr_flash (s : State) (k v : Nat) : (s.wr k v).flash = s.flash := rfl
@[simp] theorem State.wr_boot (s : State) (k v : Nat) : (s.wr k v).boot = s.boot := rfl
@[simp] theorem State.wr_bank (s : State) (k v : Nat) : (s.wr k v).bank = s.bank := rfl
@[simp] theorem State.wr_power (s : State) (k v : Nat) : (s.wr k v).power = s.power := rfl
@[simp] theorem State.wr_access (s : State) (k v : Nat) : (s.wr k v).access = s.access := rfl
@[simp] theorem State.wr_faults (s : State) (k v : Nat) : (s.wr k v).faults = s.faults := rfl
@[simp] theorem State.wr_safe (s : State) (k v : Nat) : (s.wr k v).safe = s.safe := rfl
@[simp] theorem State.wr_acts (s : State) (k v : Nat) : (s.wr k v).acts = s.acts := rfl
@[simp] theorem State.wr_time (s : State) (k v : Nat) : (s.wr k v).time = s.time := rfl
@[simp] theorem State.wr_jobs (s : State) (k v : Nat) : (s.wr k v).jobs = s.jobs := rfl
@[simp] theorem State.wr_ingest (s : State) (k v : Nat) : (s.wr k v).ingest = s.ingest := rfl
@[simp] theorem State.wr_mirror (s : State) (k v : Nat) : (s.wr k v).mirror = s.mirror := rfl
@[simp] theorem State.wr_compose (s : State) (k v : Nat) : (s.wr k v).compose = s.compose := rfl
@[simp] theorem State.wr_nozzle (s : State) (k v : Nat) : (s.wr k v).nozzle = s.nozzle := rfl
@[simp] theorem State.wr_web (s : State) (k v : Nat) : (s.wr k v).web = s.web := rfl
@[simp] theorem State.wr_fire (s : State) (k v : Nat) : (s.wr k v).fire = s.fire := rfl
@[simp] theorem State.wr_heads (s : State) (k v : Nat) : (s.wr k v).heads = s.heads := rfl
@[simp] theorem State.wr_lanes (s : State) (k v : Nat) : (s.wr k v).lanes = s.lanes := rfl
@[simp] theorem State.wr_cams (s : State) (k v : Nat) : (s.wr k v).cams = s.cams := rfl
@[simp] theorem State.wr_inspect (s : State) (k v : Nat) : (s.wr k v).inspect = s.inspect := rfl
@[simp] theorem State.wr_disps (s : State) (k v : Nat) : (s.wr k v).disps = s.disps := rfl
@[simp] theorem State.wr_dram (s : State) (k v : Nat) : (s.wr k v).dram = s.dram := rfl
@[simp] theorem State.wr_movers (s : State) (k v : Nat) : (s.wr k v).movers = s.movers := rfl
@[simp] theorem State.wr_graft (s : State) (k v : Nat) : (s.wr k v).graft = s.graft := rfl
@[simp] theorem State.wr_axes (s : State) (k v : Nat) : (s.wr k v).axes = s.axes := rfl
@[simp] theorem State.wr_cal (s : State) (k v : Nat) : (s.wr k v).cal = s.cal := rfl
@[simp] theorem State.wr_under (s : State) (k v : Nat) : (s.wr k v).under = s.under := rfl
@[simp] theorem State.wr_dom_eq (s : State) (k v : Nat) (j : Nat) : (s.wr k v).dom j = s.dom j := rfl
@[simp] theorem State.wr_faultRec_eq (s : State) (k v : Nat) (j : Nat) : (s.wr k v).faultRec j = s.faultRec j := rfl

/-! ### inc -/

@[simp] theorem State.inc_now (s : State) (k : Nat) : (s.inc k).now = s.now := rfl
@[simp] theorem State.inc_pending (s : State) (k : Nat) : (s.inc k).pending = s.pending := rfl
@[simp] theorem State.inc_out (s : State) (k : Nat) : (s.inc k).out = s.out := rfl
@[simp] theorem State.inc_draws (s : State) (k : Nat) : (s.inc k).draws = s.draws := rfl
@[simp] theorem State.inc_doms (s : State) (k : Nat) : (s.inc k).doms = s.doms := rfl
@[simp] theorem State.inc_tdp (s : State) (k : Nat) : (s.inc k).tdp = s.tdp := rfl
@[simp] theorem State.inc_net (s : State) (k : Nat) : (s.inc k).net = s.net := rfl
@[simp] theorem State.inc_fuses (s : State) (k : Nat) : (s.inc k).fuses = s.fuses := rfl
@[simp] theorem State.inc_flash (s : State) (k : Nat) : (s.inc k).flash = s.flash := rfl
@[simp] theorem State.inc_boot (s : State) (k : Nat) : (s.inc k).boot = s.boot := rfl
@[simp] theorem State.inc_bank (s : State) (k : Nat) : (s.inc k).bank = s.bank := rfl
@[simp] theorem State.inc_power (s : State) (k : Nat) : (s.inc k).power = s.power := rfl
@[simp] theorem State.inc_access (s : State) (k : Nat) : (s.inc k).access = s.access := rfl
@[simp] theorem State.inc_faults (s : State) (k : Nat) : (s.inc k).faults = s.faults := rfl
@[simp] theorem State.inc_safe (s : State) (k : Nat) : (s.inc k).safe = s.safe := rfl
@[simp] theorem State.inc_acts (s : State) (k : Nat) : (s.inc k).acts = s.acts := rfl
@[simp] theorem State.inc_time (s : State) (k : Nat) : (s.inc k).time = s.time := rfl
@[simp] theorem State.inc_jobs (s : State) (k : Nat) : (s.inc k).jobs = s.jobs := rfl
@[simp] theorem State.inc_ingest (s : State) (k : Nat) : (s.inc k).ingest = s.ingest := rfl
@[simp] theorem State.inc_mirror (s : State) (k : Nat) : (s.inc k).mirror = s.mirror := rfl
@[simp] theorem State.inc_compose (s : State) (k : Nat) : (s.inc k).compose = s.compose := rfl
@[simp] theorem State.inc_nozzle (s : State) (k : Nat) : (s.inc k).nozzle = s.nozzle := rfl
@[simp] theorem State.inc_web (s : State) (k : Nat) : (s.inc k).web = s.web := rfl
@[simp] theorem State.inc_fire (s : State) (k : Nat) : (s.inc k).fire = s.fire := rfl
@[simp] theorem State.inc_heads (s : State) (k : Nat) : (s.inc k).heads = s.heads := rfl
@[simp] theorem State.inc_lanes (s : State) (k : Nat) : (s.inc k).lanes = s.lanes := rfl
@[simp] theorem State.inc_cams (s : State) (k : Nat) : (s.inc k).cams = s.cams := rfl
@[simp] theorem State.inc_inspect (s : State) (k : Nat) : (s.inc k).inspect = s.inspect := rfl
@[simp] theorem State.inc_disps (s : State) (k : Nat) : (s.inc k).disps = s.disps := rfl
@[simp] theorem State.inc_dram (s : State) (k : Nat) : (s.inc k).dram = s.dram := rfl
@[simp] theorem State.inc_movers (s : State) (k : Nat) : (s.inc k).movers = s.movers := rfl
@[simp] theorem State.inc_graft (s : State) (k : Nat) : (s.inc k).graft = s.graft := rfl
@[simp] theorem State.inc_axes (s : State) (k : Nat) : (s.inc k).axes = s.axes := rfl
@[simp] theorem State.inc_cal (s : State) (k : Nat) : (s.inc k).cal = s.cal := rfl
@[simp] theorem State.inc_under (s : State) (k : Nat) : (s.inc k).under = s.under := rfl
@[simp] theorem State.inc_dom_eq (s : State) (k : Nat) (j : Nat) : (s.inc k).dom j = s.dom j := rfl
@[simp] theorem State.inc_faultRec_eq (s : State) (k : Nat) (j : Nat) : (s.inc k).faultRec j = s.faultRec j := rfl

/-! ### emit -/

@[simp] theorem State.emit_now (s : State) (o : Out) : (s.emit o).now = s.now := rfl
@[simp] theorem State.emit_pending (s : State) (o : Out) : (s.emit o).pending = s.pending := rfl
@[simp] theorem State.emit_draws (s : State) (o : Out) : (s.emit o).draws = s.draws := rfl
@[simp] theorem State.emit_objs (s : State) (o : Out) : (s.emit o).objs = s.objs := rfl
@[simp] theorem State.emit_doms (s : State) (o : Out) : (s.emit o).doms = s.doms := rfl
@[simp] theorem State.emit_tdp (s : State) (o : Out) : (s.emit o).tdp = s.tdp := rfl
@[simp] theorem State.emit_net (s : State) (o : Out) : (s.emit o).net = s.net := rfl
@[simp] theorem State.emit_fuses (s : State) (o : Out) : (s.emit o).fuses = s.fuses := rfl
@[simp] theorem State.emit_flash (s : State) (o : Out) : (s.emit o).flash = s.flash := rfl
@[simp] theorem State.emit_boot (s : State) (o : Out) : (s.emit o).boot = s.boot := rfl
@[simp] theorem State.emit_bank (s : State) (o : Out) : (s.emit o).bank = s.bank := rfl
@[simp] theorem State.emit_power (s : State) (o : Out) : (s.emit o).power = s.power := rfl
@[simp] theorem State.emit_access (s : State) (o : Out) : (s.emit o).access = s.access := rfl
@[simp] theorem State.emit_faults (s : State) (o : Out) : (s.emit o).faults = s.faults := rfl
@[simp] theorem State.emit_safe (s : State) (o : Out) : (s.emit o).safe = s.safe := rfl
@[simp] theorem State.emit_acts (s : State) (o : Out) : (s.emit o).acts = s.acts := rfl
@[simp] theorem State.emit_time (s : State) (o : Out) : (s.emit o).time = s.time := rfl
@[simp] theorem State.emit_jobs (s : State) (o : Out) : (s.emit o).jobs = s.jobs := rfl
@[simp] theorem State.emit_ingest (s : State) (o : Out) : (s.emit o).ingest = s.ingest := rfl
@[simp] theorem State.emit_mirror (s : State) (o : Out) : (s.emit o).mirror = s.mirror := rfl
@[simp] theorem State.emit_compose (s : State) (o : Out) : (s.emit o).compose = s.compose := rfl
@[simp] theorem State.emit_nozzle (s : State) (o : Out) : (s.emit o).nozzle = s.nozzle := rfl
@[simp] theorem State.emit_web (s : State) (o : Out) : (s.emit o).web = s.web := rfl
@[simp] theorem State.emit_fire (s : State) (o : Out) : (s.emit o).fire = s.fire := rfl
@[simp] theorem State.emit_heads (s : State) (o : Out) : (s.emit o).heads = s.heads := rfl
@[simp] theorem State.emit_lanes (s : State) (o : Out) : (s.emit o).lanes = s.lanes := rfl
@[simp] theorem State.emit_cams (s : State) (o : Out) : (s.emit o).cams = s.cams := rfl
@[simp] theorem State.emit_inspect (s : State) (o : Out) : (s.emit o).inspect = s.inspect := rfl
@[simp] theorem State.emit_disps (s : State) (o : Out) : (s.emit o).disps = s.disps := rfl
@[simp] theorem State.emit_dram (s : State) (o : Out) : (s.emit o).dram = s.dram := rfl
@[simp] theorem State.emit_movers (s : State) (o : Out) : (s.emit o).movers = s.movers := rfl
@[simp] theorem State.emit_graft (s : State) (o : Out) : (s.emit o).graft = s.graft := rfl
@[simp] theorem State.emit_axes (s : State) (o : Out) : (s.emit o).axes = s.axes := rfl
@[simp] theorem State.emit_cal (s : State) (o : Out) : (s.emit o).cal = s.cal := rfl
@[simp] theorem State.emit_under (s : State) (o : Out) : (s.emit o).under = s.under := rfl
@[simp] theorem State.emit_rd_eq (s : State) (o : Out) (j : Nat) : (s.emit o).rd j = s.rd j := rfl
@[simp] theorem State.emit_dom_eq (s : State) (o : Out) (j : Nat) : (s.emit o).dom j = s.dom j := rfl
@[simp] theorem State.emit_faultRec_eq (s : State) (o : Out) (j : Nat) : (s.emit o).faultRec j = s.faultRec j := rfl

/-! ### setDom -/

@[simp] theorem State.setDom_now (s : State) (i : Nat) (d : Dom) : (s.setDom i d).now = s.now := rfl
@[simp] theorem State.setDom_pending (s : State) (i : Nat) (d : Dom) : (s.setDom i d).pending = s.pending := rfl
@[simp] theorem State.setDom_out (s : State) (i : Nat) (d : Dom) : (s.setDom i d).out = s.out := rfl
@[simp] theorem State.setDom_draws (s : State) (i : Nat) (d : Dom) : (s.setDom i d).draws = s.draws := rfl
@[simp] theorem State.setDom_objs (s : State) (i : Nat) (d : Dom) : (s.setDom i d).objs = s.objs := rfl
@[simp] theorem State.setDom_tdp (s : State) (i : Nat) (d : Dom) : (s.setDom i d).tdp = s.tdp := rfl
@[simp] theorem State.setDom_net (s : State) (i : Nat) (d : Dom) : (s.setDom i d).net = s.net := rfl
@[simp] theorem State.setDom_fuses (s : State) (i : Nat) (d : Dom) : (s.setDom i d).fuses = s.fuses := rfl
@[simp] theorem State.setDom_flash (s : State) (i : Nat) (d : Dom) : (s.setDom i d).flash = s.flash := rfl
@[simp] theorem State.setDom_boot (s : State) (i : Nat) (d : Dom) : (s.setDom i d).boot = s.boot := rfl
@[simp] theorem State.setDom_bank (s : State) (i : Nat) (d : Dom) : (s.setDom i d).bank = s.bank := rfl
@[simp] theorem State.setDom_power (s : State) (i : Nat) (d : Dom) : (s.setDom i d).power = s.power := rfl
@[simp] theorem State.setDom_access (s : State) (i : Nat) (d : Dom) : (s.setDom i d).access = s.access := rfl
@[simp] theorem State.setDom_faults (s : State) (i : Nat) (d : Dom) : (s.setDom i d).faults = s.faults := rfl
@[simp] theorem State.setDom_safe (s : State) (i : Nat) (d : Dom) : (s.setDom i d).safe = s.safe := rfl
@[simp] theorem State.setDom_acts (s : State) (i : Nat) (d : Dom) : (s.setDom i d).acts = s.acts := rfl
@[simp] theorem State.setDom_time (s : State) (i : Nat) (d : Dom) : (s.setDom i d).time = s.time := rfl
@[simp] theorem State.setDom_jobs (s : State) (i : Nat) (d : Dom) : (s.setDom i d).jobs = s.jobs := rfl
@[simp] theorem State.setDom_ingest (s : State) (i : Nat) (d : Dom) : (s.setDom i d).ingest = s.ingest := rfl
@[simp] theorem State.setDom_mirror (s : State) (i : Nat) (d : Dom) : (s.setDom i d).mirror = s.mirror := rfl
@[simp] theorem State.setDom_compose (s : State) (i : Nat) (d : Dom) : (s.setDom i d).compose = s.compose := rfl
@[simp] theorem State.setDom_nozzle (s : State) (i : Nat) (d : Dom) : (s.setDom i d).nozzle = s.nozzle := rfl
@[simp] theorem State.setDom_web (s : State) (i : Nat) (d : Dom) : (s.setDom i d).web = s.web := rfl
@[simp] theorem State.setDom_fire (s : State) (i : Nat) (d : Dom) : (s.setDom i d).fire = s.fire := rfl
@[simp] theorem State.setDom_heads (s : State) (i : Nat) (d : Dom) : (s.setDom i d).heads = s.heads := rfl
@[simp] theorem State.setDom_lanes (s : State) (i : Nat) (d : Dom) : (s.setDom i d).lanes = s.lanes := rfl
@[simp] theorem State.setDom_cams (s : State) (i : Nat) (d : Dom) : (s.setDom i d).cams = s.cams := rfl
@[simp] theorem State.setDom_inspect (s : State) (i : Nat) (d : Dom) : (s.setDom i d).inspect = s.inspect := rfl
@[simp] theorem State.setDom_disps (s : State) (i : Nat) (d : Dom) : (s.setDom i d).disps = s.disps := rfl
@[simp] theorem State.setDom_dram (s : State) (i : Nat) (d : Dom) : (s.setDom i d).dram = s.dram := rfl
@[simp] theorem State.setDom_movers (s : State) (i : Nat) (d : Dom) : (s.setDom i d).movers = s.movers := rfl
@[simp] theorem State.setDom_graft (s : State) (i : Nat) (d : Dom) : (s.setDom i d).graft = s.graft := rfl
@[simp] theorem State.setDom_axes (s : State) (i : Nat) (d : Dom) : (s.setDom i d).axes = s.axes := rfl
@[simp] theorem State.setDom_cal (s : State) (i : Nat) (d : Dom) : (s.setDom i d).cal = s.cal := rfl
@[simp] theorem State.setDom_under (s : State) (i : Nat) (d : Dom) : (s.setDom i d).under = s.under := rfl
@[simp] theorem State.setDom_rd_eq (s : State) (i : Nat) (d : Dom) (j : Nat) : (s.setDom i d).rd j = s.rd j := rfl
@[simp] theorem State.setDom_faultRec_eq (s : State) (i : Nat) (d : Dom) (j : Nat) : (s.setDom i d).faultRec j = s.faultRec j := rfl

/-! ### updSession -/

@[simp] theorem State.updSession_now (s : State) (f : Session → Session) : (s.updSession f).now = s.now := rfl
@[simp] theorem State.updSession_pending (s : State) (f : Session → Session) : (s.updSession f).pending = s.pending := rfl
@[simp] theorem State.updSession_out (s : State) (f : Session → Session) : (s.updSession f).out = s.out := rfl
@[simp] theorem State.updSession_draws (s : State) (f : Session → Session) : (s.updSession f).draws = s.draws := rfl
@[simp] theorem State.updSession_objs (s : State) (f : Session → Session) : (s.updSession f).objs = s.objs := rfl
@[simp] theorem State.updSession_doms (s : State) (f : Session → Session) : (s.updSession f).doms = s.doms := rfl
@[simp] theorem State.updSession_net (s : State) (f : Session → Session) : (s.updSession f).net = s.net := rfl
@[simp] theorem State.updSession_fuses (s : State) (f : Session → Session) : (s.updSession f).fuses = s.fuses := rfl
@[simp] theorem State.updSession_flash (s : State) (f : Session → Session) : (s.updSession f).flash = s.flash := rfl
@[simp] theorem State.updSession_boot (s : State) (f : Session → Session) : (s.updSession f).boot = s.boot := rfl
@[simp] theorem State.updSession_bank (s : State) (f : Session → Session) : (s.updSession f).bank = s.bank := rfl
@[simp] theorem State.updSession_power (s : State) (f : Session → Session) : (s.updSession f).power = s.power := rfl
@[simp] theorem State.updSession_access (s : State) (f : Session → Session) : (s.updSession f).access = s.access := rfl
@[simp] theorem State.updSession_faults (s : State) (f : Session → Session) : (s.updSession f).faults = s.faults := rfl
@[simp] theorem State.updSession_safe (s : State) (f : Session → Session) : (s.updSession f).safe = s.safe := rfl
@[simp] theorem State.updSession_acts (s : State) (f : Session → Session) : (s.updSession f).acts = s.acts := rfl
@[simp] theorem State.updSession_time (s : State) (f : Session → Session) : (s.updSession f).time = s.time := rfl
@[simp] theorem State.updSession_jobs (s : State) (f : Session → Session) : (s.updSession f).jobs = s.jobs := rfl
@[simp] theorem State.updSession_ingest (s : State) (f : Session → Session) : (s.updSession f).ingest = s.ingest := rfl
@[simp] theorem State.updSession_mirror (s : State) (f : Session → Session) : (s.updSession f).mirror = s.mirror := rfl
@[simp] theorem State.updSession_compose (s : State) (f : Session → Session) : (s.updSession f).compose = s.compose := rfl
@[simp] theorem State.updSession_nozzle (s : State) (f : Session → Session) : (s.updSession f).nozzle = s.nozzle := rfl
@[simp] theorem State.updSession_web (s : State) (f : Session → Session) : (s.updSession f).web = s.web := rfl
@[simp] theorem State.updSession_fire (s : State) (f : Session → Session) : (s.updSession f).fire = s.fire := rfl
@[simp] theorem State.updSession_heads (s : State) (f : Session → Session) : (s.updSession f).heads = s.heads := rfl
@[simp] theorem State.updSession_lanes (s : State) (f : Session → Session) : (s.updSession f).lanes = s.lanes := rfl
@[simp] theorem State.updSession_cams (s : State) (f : Session → Session) : (s.updSession f).cams = s.cams := rfl
@[simp] theorem State.updSession_inspect (s : State) (f : Session → Session) : (s.updSession f).inspect = s.inspect := rfl
@[simp] theorem State.updSession_disps (s : State) (f : Session → Session) : (s.updSession f).disps = s.disps := rfl
@[simp] theorem State.updSession_dram (s : State) (f : Session → Session) : (s.updSession f).dram = s.dram := rfl
@[simp] theorem State.updSession_movers (s : State) (f : Session → Session) : (s.updSession f).movers = s.movers := rfl
@[simp] theorem State.updSession_graft (s : State) (f : Session → Session) : (s.updSession f).graft = s.graft := rfl
@[simp] theorem State.updSession_axes (s : State) (f : Session → Session) : (s.updSession f).axes = s.axes := rfl
@[simp] theorem State.updSession_cal (s : State) (f : Session → Session) : (s.updSession f).cal = s.cal := rfl
@[simp] theorem State.updSession_under (s : State) (f : Session → Session) : (s.updSession f).under = s.under := rfl
@[simp] theorem State.updSession_rd_eq (s : State) (f : Session → Session) (j : Nat) : (s.updSession f).rd j = s.rd j := rfl
@[simp] theorem State.updSession_dom_eq (s : State) (f : Session → Session) (j : Nat) : (s.updSession f).dom j = s.dom j := rfl
@[simp] theorem State.updSession_faultRec_eq (s : State) (f : Session → Session) (j : Nat) : (s.updSession f).faultRec j = s.faultRec j := rfl

/-! ### setFaultRec -/

@[simp] theorem State.setFaultRec_now (s : State) (b : Nat) (r : FaultRec) : (s.setFaultRec b r).now = s.now := rfl
@[simp] theorem State.setFaultRec_pending (s : State) (b : Nat) (r : FaultRec) : (s.setFaultRec b r).pending = s.pending := rfl
@[simp] theorem State.setFaultRec_out (s : State) (b : Nat) (r : FaultRec) : (s.setFaultRec b r).out = s.out := rfl
@[simp] theorem State.setFaultRec_draws (s : State) (b : Nat) (r : FaultRec) : (s.setFaultRec b r).draws = s.draws := rfl
@[simp] theorem State.setFaultRec_objs (s : State) (b : Nat) (r : FaultRec) : (s.setFaultRec b r).objs = s.objs := rfl
@[simp] theorem State.setFaultRec_doms (s : State) (b : Nat) (r : FaultRec) : (s.setFaultRec b r).doms = s.doms := rfl
@[simp] theorem State.setFaultRec_tdp (s : State) (b : Nat) (r : FaultRec) : (s.setFaultRec b r).tdp = s.tdp := rfl
@[simp] theorem State.setFaultRec_net (s : State) (b : Nat) (r : FaultRec) : (s.setFaultRec b r).net = s.net := rfl
@[simp] theorem State.setFaultRec_fuses (s : State) (b : Nat) (r : FaultRec) : (s.setFaultRec b r).fuses = s.fuses := rfl
@[simp] theorem State.setFaultRec_flash (s : State) (b : Nat) (r : FaultRec) : (s.setFaultRec b r).flash = s.flash := rfl
@[simp] theorem State.setFaultRec_boot (s : State) (b : Nat) (r : FaultRec) : (s.setFaultRec b r).boot = s.boot := rfl
@[simp] theorem State.setFaultRec_bank (s : State) (b : Nat) (r : FaultRec) : (s.setFaultRec b r).bank = s.bank := rfl
@[simp] theorem State.setFaultRec_power (s : State) (b : Nat) (r : FaultRec) : (s.setFaultRec b r).power = s.power := rfl
@[simp] theorem State.setFaultRec_access (s : State) (b : Nat) (r : FaultRec) : (s.setFaultRec b r).access = s.access := rfl
@[simp] theorem State.setFaultRec_safe (s : State) (b : Nat) (r : FaultRec) : (s.setFaultRec b r).safe = s.safe := rfl
@[simp] theorem State.setFaultRec_acts (s : State) (b : Nat) (r : FaultRec) : (s.setFaultRec b r).acts = s.acts := rfl
@[simp] theorem State.setFaultRec_time (s : State) (b : Nat) (r : FaultRec) : (s.setFaultRec b r).time = s.time := rfl
@[simp] theorem State.setFaultRec_jobs (s : State) (b : Nat) (r : FaultRec) : (s.setFaultRec b r).jobs = s.jobs := rfl
@[simp] theorem State.setFaultRec_ingest (s : State) (b : Nat) (r : FaultRec) : (s.setFaultRec b r).ingest = s.ingest := rfl
@[simp] theorem State.setFaultRec_mirror (s : State) (b : Nat) (r : FaultRec) : (s.setFaultRec b r).mirror = s.mirror := rfl
@[simp] theorem State.setFaultRec_compose (s : State) (b : Nat) (r : FaultRec) : (s.setFaultRec b r).compose = s.compose := rfl
@[simp] theorem State.setFaultRec_nozzle (s : State) (b : Nat) (r : FaultRec) : (s.setFaultRec b r).nozzle = s.nozzle := rfl
@[simp] theorem State.setFaultRec_web (s : State) (b : Nat) (r : FaultRec) : (s.setFaultRec b r).web = s.web := rfl
@[simp] theorem State.setFaultRec_fire (s : State) (b : Nat) (r : FaultRec) : (s.setFaultRec b r).fire = s.fire := rfl
@[simp] theorem State.setFaultRec_heads (s : State) (b : Nat) (r : FaultRec) : (s.setFaultRec b r).heads = s.heads := rfl
@[simp] theorem State.setFaultRec_lanes (s : State) (b : Nat) (r : FaultRec) : (s.setFaultRec b r).lanes = s.lanes := rfl
@[simp] theorem State.setFaultRec_cams (s : State) (b : Nat) (r : FaultRec) : (s.setFaultRec b r).cams = s.cams := rfl
@[simp] theorem State.setFaultRec_inspect (s : State) (b : Nat) (r : FaultRec) : (s.setFaultRec b r).inspect = s.inspect := rfl
@[simp] theorem State.setFaultRec_disps (s : State) (b : Nat) (r : FaultRec) : (s.setFaultRec b r).disps = s.disps := rfl
@[simp] theorem State.setFaultRec_dram (s : State) (b : Nat) (r : FaultRec) : (s.setFaultRec b r).dram = s.dram := rfl
@[simp] theorem State.setFaultRec_movers (s : State) (b : Nat) (r : FaultRec) : (s.setFaultRec b r).movers = s.movers := rfl
@[simp] theorem State.setFaultRec_graft (s : State) (b : Nat) (r : FaultRec) : (s.setFaultRec b r).graft = s.graft := rfl
@[simp] theorem State.setFaultRec_axes (s : State) (b : Nat) (r : FaultRec) : (s.setFaultRec b r).axes = s.axes := rfl
@[simp] theorem State.setFaultRec_cal (s : State) (b : Nat) (r : FaultRec) : (s.setFaultRec b r).cal = s.cal := rfl
@[simp] theorem State.setFaultRec_under (s : State) (b : Nat) (r : FaultRec) : (s.setFaultRec b r).under = s.under := rfl
@[simp] theorem State.setFaultRec_rd_eq (s : State) (b : Nat) (r : FaultRec) (j : Nat) : (s.setFaultRec b r).rd j = s.rd j := rfl
@[simp] theorem State.setFaultRec_dom_eq (s : State) (b : Nat) (r : FaultRec) (j : Nat) : (s.setFaultRec b r).dom j = s.dom j := rfl

/-! ### requestSafe -/

@[simp] theorem State.requestSafe_now (s : State) (b k c : Nat) : (s.requestSafe b k c).now = s.now := rfl
@[simp] theorem State.requestSafe_pending (s : State) (b k c : Nat) : (s.requestSafe b k c).pending = s.pending := rfl
@[simp] theorem State.requestSafe_out (s : State) (b k c : Nat) : (s.requestSafe b k c).out = s.out := rfl
@[simp] theorem State.requestSafe_draws (s : State) (b k c : Nat) : (s.requestSafe b k c).draws = s.draws := rfl
@[simp] theorem State.requestSafe_objs (s : State) (b k c : Nat) : (s.requestSafe b k c).objs = s.objs := rfl
@[simp] theorem State.requestSafe_doms (s : State) (b k c : Nat) : (s.requestSafe b k c).doms = s.doms := rfl
@[simp] theorem State.requestSafe_tdp (s : State) (b k c : Nat) : (s.requestSafe b k c).tdp = s.tdp := rfl
@[simp] theorem State.requestSafe_net (s : State) (b k c : Nat) : (s.requestSafe b k c).net = s.net := rfl
@[simp] theorem State.requestSafe_fuses (s : State) (b k c : Nat) : (s.requestSafe b k c).fuses = s.fuses := rfl
@[simp] theorem State.requestSafe_flash (s : State) (b k c : Nat) : (s.requestSafe b k c).flash = s.flash := rfl
@[simp] theorem State.requestSafe_boot (s : State) (b k c : Nat) : (s.requestSafe b k c).boot = s.boot := rfl
@[simp] theorem State.requestSafe_bank (s : State) (b k c : Nat) : (s.requestSafe b k c).bank = s.bank := rfl
@[simp] theorem State.requestSafe_power (s : State) (b k c : Nat) : (s.requestSafe b k c).power = s.power := rfl
@[simp] theorem State.requestSafe_access (s : State) (b k c : Nat) : (s.requestSafe b k c).access = s.access := rfl
@[simp] theorem State.requestSafe_faults (s : State) (b k c : Nat) : (s.requestSafe b k c).faults = s.faults := rfl
@[simp] theorem State.requestSafe_safe (s : State) (b k c : Nat) : (s.requestSafe b k c).safe = s.safe := rfl
@[simp] theorem State.requestSafe_time (s : State) (b k c : Nat) : (s.requestSafe b k c).time = s.time := rfl
@[simp] theorem State.requestSafe_jobs (s : State) (b k c : Nat) : (s.requestSafe b k c).jobs = s.jobs := rfl
@[simp] theorem State.requestSafe_ingest (s : State) (b k c : Nat) : (s.requestSafe b k c).ingest = s.ingest := rfl
@[simp] theorem State.requestSafe_mirror (s : State) (b k c : Nat) : (s.requestSafe b k c).mirror = s.mirror := rfl
@[simp] theorem State.requestSafe_compose (s : State) (b k c : Nat) : (s.requestSafe b k c).compose = s.compose := rfl
@[simp] theorem State.requestSafe_nozzle (s : State) (b k c : Nat) : (s.requestSafe b k c).nozzle = s.nozzle := rfl
@[simp] theorem State.requestSafe_web (s : State) (b k c : Nat) : (s.requestSafe b k c).web = s.web := rfl
@[simp] theorem State.requestSafe_fire (s : State) (b k c : Nat) : (s.requestSafe b k c).fire = s.fire := rfl
@[simp] theorem State.requestSafe_heads (s : State) (b k c : Nat) : (s.requestSafe b k c).heads = s.heads := rfl
@[simp] theorem State.requestSafe_lanes (s : State) (b k c : Nat) : (s.requestSafe b k c).lanes = s.lanes := rfl
@[simp] theorem State.requestSafe_cams (s : State) (b k c : Nat) : (s.requestSafe b k c).cams = s.cams := rfl
@[simp] theorem State.requestSafe_inspect (s : State) (b k c : Nat) : (s.requestSafe b k c).inspect = s.inspect := rfl
@[simp] theorem State.requestSafe_disps (s : State) (b k c : Nat) : (s.requestSafe b k c).disps = s.disps := rfl
@[simp] theorem State.requestSafe_dram (s : State) (b k c : Nat) : (s.requestSafe b k c).dram = s.dram := rfl
@[simp] theorem State.requestSafe_movers (s : State) (b k c : Nat) : (s.requestSafe b k c).movers = s.movers := rfl
@[simp] theorem State.requestSafe_graft (s : State) (b k c : Nat) : (s.requestSafe b k c).graft = s.graft := rfl
@[simp] theorem State.requestSafe_axes (s : State) (b k c : Nat) : (s.requestSafe b k c).axes = s.axes := rfl
@[simp] theorem State.requestSafe_cal (s : State) (b k c : Nat) : (s.requestSafe b k c).cal = s.cal := rfl
@[simp] theorem State.requestSafe_under (s : State) (b k c : Nat) : (s.requestSafe b k c).under = s.under := rfl
@[simp] theorem State.requestSafe_rd_eq (s : State) (b k c : Nat) (j : Nat) : (s.requestSafe b k c).rd j = s.rd j := rfl
@[simp] theorem State.requestSafe_dom_eq (s : State) (b k c : Nat) (j : Nat) : (s.requestSafe b k c).dom j = s.dom j := rfl
@[simp] theorem State.requestSafe_faultRec_eq (s : State) (b k c : Nat) (j : Nat) : (s.requestSafe b k c).faultRec j = s.faultRec j := rfl

/-! ### updTime -/

@[simp] theorem State.updTime_now (s : State) (f : TimeState → TimeState) : (s.updTime f).now = s.now := rfl
@[simp] theorem State.updTime_pending (s : State) (f : TimeState → TimeState) : (s.updTime f).pending = s.pending := rfl
@[simp] theorem State.updTime_out (s : State) (f : TimeState → TimeState) : (s.updTime f).out = s.out := rfl
@[simp] theorem State.updTime_draws (s : State) (f : TimeState → TimeState) : (s.updTime f).draws = s.draws := rfl
@[simp] theorem State.updTime_objs (s : State) (f : TimeState → TimeState) : (s.updTime f).objs = s.objs := rfl
@[simp] theorem State.updTime_doms (s : State) (f : TimeState → TimeState) : (s.updTime f).doms = s.doms := rfl
@[simp] theorem State.updTime_tdp (s : State) (f : TimeState → TimeState) : (s.updTime f).tdp = s.tdp := rfl
@[simp] theorem State.updTime_net (s : State) (f : TimeState → TimeState) : (s.updTime f).net = s.net := rfl
@[simp] theorem State.updTime_fuses (s : State) (f : TimeState → TimeState) : (s.updTime f).fuses = s.fuses := rfl
@[simp] theorem State.updTime_flash (s : State) (f : TimeState → TimeState) : (s.updTime f).flash = s.flash := rfl
@[simp] theorem State.updTime_boot (s : State) (f : TimeState → TimeState) : (s.updTime f).boot = s.boot := rfl
@[simp] theorem State.updTime_bank (s : State) (f : TimeState → TimeState) : (s.updTime f).bank = s.bank := rfl
@[simp] theorem State.updTime_power (s : State) (f : TimeState → TimeState) : (s.updTime f).power = s.power := rfl
@[simp] theorem State.updTime_access (s : State) (f : TimeState → TimeState) : (s.updTime f).access = s.access := rfl
@[simp] theorem State.updTime_faults (s : State) (f : TimeState → TimeState) : (s.updTime f).faults = s.faults := rfl
@[simp] theorem State.updTime_safe (s : State) (f : TimeState → TimeState) : (s.updTime f).safe = s.safe := rfl
@[simp] theorem State.updTime_acts (s : State) (f : TimeState → TimeState) : (s.updTime f).acts = s.acts := rfl
@[simp] theorem State.updTime_jobs (s : State) (f : TimeState → TimeState) : (s.updTime f).jobs = s.jobs := rfl
@[simp] theorem State.updTime_ingest (s : State) (f : TimeState → TimeState) : (s.updTime f).ingest = s.ingest := rfl
@[simp] theorem State.updTime_mirror (s : State) (f : TimeState → TimeState) : (s.updTime f).mirror = s.mirror := rfl
@[simp] theorem State.updTime_compose (s : State) (f : TimeState → TimeState) : (s.updTime f).compose = s.compose := rfl
@[simp] theorem State.updTime_nozzle (s : State) (f : TimeState → TimeState) : (s.updTime f).nozzle = s.nozzle := rfl
@[simp] theorem State.updTime_web (s : State) (f : TimeState → TimeState) : (s.updTime f).web = s.web := rfl
@[simp] theorem State.updTime_fire (s : State) (f : TimeState → TimeState) : (s.updTime f).fire = s.fire := rfl
@[simp] theorem State.updTime_heads (s : State) (f : TimeState → TimeState) : (s.updTime f).heads = s.heads := rfl
@[simp] theorem State.updTime_lanes (s : State) (f : TimeState → TimeState) : (s.updTime f).lanes = s.lanes := rfl
@[simp] theorem State.updTime_cams (s : State) (f : TimeState → TimeState) : (s.updTime f).cams = s.cams := rfl
@[simp] theorem State.updTime_inspect (s : State) (f : TimeState → TimeState) : (s.updTime f).inspect = s.inspect := rfl
@[simp] theorem State.updTime_disps (s : State) (f : TimeState → TimeState) : (s.updTime f).disps = s.disps := rfl
@[simp] theorem State.updTime_dram (s : State) (f : TimeState → TimeState) : (s.updTime f).dram = s.dram := rfl
@[simp] theorem State.updTime_movers (s : State) (f : TimeState → TimeState) : (s.updTime f).movers = s.movers := rfl
@[simp] theorem State.updTime_graft (s : State) (f : TimeState → TimeState) : (s.updTime f).graft = s.graft := rfl
@[simp] theorem State.updTime_axes (s : State) (f : TimeState → TimeState) : (s.updTime f).axes = s.axes := rfl
@[simp] theorem State.updTime_cal (s : State) (f : TimeState → TimeState) : (s.updTime f).cal = s.cal := rfl
@[simp] theorem State.updTime_under (s : State) (f : TimeState → TimeState) : (s.updTime f).under = s.under := rfl
@[simp] theorem State.updTime_rd_eq (s : State) (f : TimeState → TimeState) (j : Nat) : (s.updTime f).rd j = s.rd j := rfl
@[simp] theorem State.updTime_dom_eq (s : State) (f : TimeState → TimeState) (j : Nat) : (s.updTime f).dom j = s.dom j := rfl
@[simp] theorem State.updTime_faultRec_eq (s : State) (f : TimeState → TimeState) (j : Nat) : (s.updTime f).faultRec j = s.faultRec j := rfl

/-! ### updSet -/

@[simp] theorem State.updSet_now (s : State) (act : Bool) (f : JobSet → JobSet) : (s.updSet act f).now = s.now := rfl
@[simp] theorem State.updSet_pending (s : State) (act : Bool) (f : JobSet → JobSet) : (s.updSet act f).pending = s.pending := rfl
@[simp] theorem State.updSet_out (s : State) (act : Bool) (f : JobSet → JobSet) : (s.updSet act f).out = s.out := rfl
@[simp] theorem State.updSet_draws (s : State) (act : Bool) (f : JobSet → JobSet) : (s.updSet act f).draws = s.draws := rfl
@[simp] theorem State.updSet_objs (s : State) (act : Bool) (f : JobSet → JobSet) : (s.updSet act f).objs = s.objs := rfl
@[simp] theorem State.updSet_doms (s : State) (act : Bool) (f : JobSet → JobSet) : (s.updSet act f).doms = s.doms := rfl
@[simp] theorem State.updSet_tdp (s : State) (act : Bool) (f : JobSet → JobSet) : (s.updSet act f).tdp = s.tdp := rfl
@[simp] theorem State.updSet_net (s : State) (act : Bool) (f : JobSet → JobSet) : (s.updSet act f).net = s.net := rfl
@[simp] theorem State.updSet_fuses (s : State) (act : Bool) (f : JobSet → JobSet) : (s.updSet act f).fuses = s.fuses := rfl
@[simp] theorem State.updSet_flash (s : State) (act : Bool) (f : JobSet → JobSet) : (s.updSet act f).flash = s.flash := rfl
@[simp] theorem State.updSet_boot (s : State) (act : Bool) (f : JobSet → JobSet) : (s.updSet act f).boot = s.boot := rfl
@[simp] theorem State.updSet_bank (s : State) (act : Bool) (f : JobSet → JobSet) : (s.updSet act f).bank = s.bank := rfl
@[simp] theorem State.updSet_power (s : State) (act : Bool) (f : JobSet → JobSet) : (s.updSet act f).power = s.power := rfl
@[simp] theorem State.updSet_access (s : State) (act : Bool) (f : JobSet → JobSet) : (s.updSet act f).access = s.access := rfl
@[simp] theorem State.updSet_faults (s : State) (act : Bool) (f : JobSet → JobSet) : (s.updSet act f).faults = s.faults := rfl
@[simp] theorem State.updSet_safe (s : State) (act : Bool) (f : JobSet → JobSet) : (s.updSet act f).safe = s.safe := rfl
@[simp] theorem State.updSet_acts (s : State) (act : Bool) (f : JobSet → JobSet) : (s.updSet act f).acts = s.acts := rfl
@[simp] theorem State.updSet_time (s : State) (act : Bool) (f : JobSet → JobSet) : (s.updSet act f).time = s.time := rfl
@[simp] theorem State.updSet_ingest (s : State) (act : Bool) (f : JobSet → JobSet) : (s.updSet act f).ingest = s.ingest := rfl
@[simp] theorem State.updSet_mirror (s : State) (act : Bool) (f : JobSet → JobSet) : (s.updSet act f).mirror = s.mirror := rfl
@[simp] theorem State.updSet_compose (s : State) (act : Bool) (f : JobSet → JobSet) : (s.updSet act f).compose = s.compose := rfl
@[simp] theorem State.updSet_nozzle (s : State) (act : Bool) (f : JobSet → JobSet) : (s.updSet act f).nozzle = s.nozzle := rfl
@[simp] theorem State.updSet_web (s : State) (act : Bool) (f : JobSet → JobSet) : (s.updSet act f).web = s.web := rfl
@[simp] theorem State.updSet_fire (s : State) (act : Bool) (f : JobSet → JobSet) : (s.updSet act f).fire = s.fire := rfl
@[simp] theorem State.updSet_heads (s : State) (act : Bool) (f : JobSet → JobSet) : (s.updSet act f).heads = s.heads := rfl
@[simp] theorem State.updSet_lanes (s : State) (act : Bool) (f : JobSet → JobSet) : (s.updSet act f).lanes = s.lanes := rfl
@[simp] theorem State.updSet_cams (s : State) (act : Bool) (f : JobSet → JobSet) : (s.updSet act f).cams = s.cams := rfl
@[simp] theorem State.updSet_inspect (s : State) (act : Bool) (f : JobSet → JobSet) : (s.updSet act f).inspect = s.inspect := rfl
@[simp] theorem State.updSet_disps (s : State) (act : Bool) (f : JobSet → JobSet) : (s.updSet act f).disps = s.disps := rfl
@[simp] theorem State.updSet_dram (s : State) (act : Bool) (f : JobSet → JobSet) : (s.updSet act f).dram = s.dram := rfl
@[simp] theorem State.updSet_movers (s : State) (act : Bool) (f : JobSet → JobSet) : (s.updSet act f).movers = s.movers := rfl
@[simp] theorem State.updSet_graft (s : State) (act : Bool) (f : JobSet → JobSet) : (s.updSet act f).graft = s.graft := rfl
@[simp] theorem State.updSet_axes (s : State) (act : Bool) (f : JobSet → JobSet) : (s.updSet act f).axes = s.axes := rfl
@[simp] theorem State.updSet_cal (s : State) (act : Bool) (f : JobSet → JobSet) : (s.updSet act f).cal = s.cal := rfl
@[simp] theorem State.updSet_under (s : State) (act : Bool) (f : JobSet → JobSet) : (s.updSet act f).under = s.under := rfl
@[simp] theorem State.updSet_rd_eq (s : State) (act : Bool) (f : JobSet → JobSet) (j : Nat) : (s.updSet act f).rd j = s.rd j := rfl
@[simp] theorem State.updSet_dom_eq (s : State) (act : Bool) (f : JobSet → JobSet) (j : Nat) : (s.updSet act f).dom j = s.dom j := rfl
@[simp] theorem State.updSet_faultRec_eq (s : State) (act : Bool) (f : JobSet → JobSet) (j : Nat) : (s.updSet act f).faultRec j = s.faultRec j := rfl

/-! ### updRow -/

@[simp] theorem State.updRow_now (s : State) (seg row : Nat) (f : RowState → RowState) : (s.updRow seg row f).now = s.now := rfl
@[simp] theorem State.updRow_pending (s : State) (seg row : Nat) (f : RowState → RowState) : (s.updRow seg row f).pending = s.pending := rfl
@[simp] theorem State.updRow_out (s : State) (seg row : Nat) (f : RowState → RowState) : (s.updRow seg row f).out = s.out := rfl
@[simp] theorem State.updRow_draws (s : State) (seg row : Nat) (f : RowState → RowState) : (s.updRow seg row f).draws = s.draws := rfl
@[simp] theorem State.updRow_objs (s : State) (seg row : Nat) (f : RowState → RowState) : (s.updRow seg row f).objs = s.objs := rfl
@[simp] theorem State.updRow_doms (s : State) (seg row : Nat) (f : RowState → RowState) : (s.updRow seg row f).doms = s.doms := rfl
@[simp] theorem State.updRow_tdp (s : State) (seg row : Nat) (f : RowState → RowState) : (s.updRow seg row f).tdp = s.tdp := rfl
@[simp] theorem State.updRow_net (s : State) (seg row : Nat) (f : RowState → RowState) : (s.updRow seg row f).net = s.net := rfl
@[simp] theorem State.updRow_fuses (s : State) (seg row : Nat) (f : RowState → RowState) : (s.updRow seg row f).fuses = s.fuses := rfl
@[simp] theorem State.updRow_flash (s : State) (seg row : Nat) (f : RowState → RowState) : (s.updRow seg row f).flash = s.flash := rfl
@[simp] theorem State.updRow_boot (s : State) (seg row : Nat) (f : RowState → RowState) : (s.updRow seg row f).boot = s.boot := rfl
@[simp] theorem State.updRow_bank (s : State) (seg row : Nat) (f : RowState → RowState) : (s.updRow seg row f).bank = s.bank := rfl
@[simp] theorem State.updRow_power (s : State) (seg row : Nat) (f : RowState → RowState) : (s.updRow seg row f).power = s.power := rfl
@[simp] theorem State.updRow_access (s : State) (seg row : Nat) (f : RowState → RowState) : (s.updRow seg row f).access = s.access := rfl
@[simp] theorem State.updRow_faults (s : State) (seg row : Nat) (f : RowState → RowState) : (s.updRow seg row f).faults = s.faults := rfl
@[simp] theorem State.updRow_safe (s : State) (seg row : Nat) (f : RowState → RowState) : (s.updRow seg row f).safe = s.safe := rfl
@[simp] theorem State.updRow_acts (s : State) (seg row : Nat) (f : RowState → RowState) : (s.updRow seg row f).acts = s.acts := rfl
@[simp] theorem State.updRow_time (s : State) (seg row : Nat) (f : RowState → RowState) : (s.updRow seg row f).time = s.time := rfl
@[simp] theorem State.updRow_jobs (s : State) (seg row : Nat) (f : RowState → RowState) : (s.updRow seg row f).jobs = s.jobs := rfl
@[simp] theorem State.updRow_ingest (s : State) (seg row : Nat) (f : RowState → RowState) : (s.updRow seg row f).ingest = s.ingest := rfl
@[simp] theorem State.updRow_mirror (s : State) (seg row : Nat) (f : RowState → RowState) : (s.updRow seg row f).mirror = s.mirror := rfl
@[simp] theorem State.updRow_compose (s : State) (seg row : Nat) (f : RowState → RowState) : (s.updRow seg row f).compose = s.compose := rfl
@[simp] theorem State.updRow_nozzle (s : State) (seg row : Nat) (f : RowState → RowState) : (s.updRow seg row f).nozzle = s.nozzle := rfl
@[simp] theorem State.updRow_web (s : State) (seg row : Nat) (f : RowState → RowState) : (s.updRow seg row f).web = s.web := rfl
@[simp] theorem State.updRow_heads (s : State) (seg row : Nat) (f : RowState → RowState) : (s.updRow seg row f).heads = s.heads := rfl
@[simp] theorem State.updRow_lanes (s : State) (seg row : Nat) (f : RowState → RowState) : (s.updRow seg row f).lanes = s.lanes := rfl
@[simp] theorem State.updRow_cams (s : State) (seg row : Nat) (f : RowState → RowState) : (s.updRow seg row f).cams = s.cams := rfl
@[simp] theorem State.updRow_inspect (s : State) (seg row : Nat) (f : RowState → RowState) : (s.updRow seg row f).inspect = s.inspect := rfl
@[simp] theorem State.updRow_disps (s : State) (seg row : Nat) (f : RowState → RowState) : (s.updRow seg row f).disps = s.disps := rfl
@[simp] theorem State.updRow_dram (s : State) (seg row : Nat) (f : RowState → RowState) : (s.updRow seg row f).dram = s.dram := rfl
@[simp] theorem State.updRow_movers (s : State) (seg row : Nat) (f : RowState → RowState) : (s.updRow seg row f).movers = s.movers := rfl
@[simp] theorem State.updRow_graft (s : State) (seg row : Nat) (f : RowState → RowState) : (s.updRow seg row f).graft = s.graft := rfl
@[simp] theorem State.updRow_axes (s : State) (seg row : Nat) (f : RowState → RowState) : (s.updRow seg row f).axes = s.axes := rfl
@[simp] theorem State.updRow_cal (s : State) (seg row : Nat) (f : RowState → RowState) : (s.updRow seg row f).cal = s.cal := rfl
@[simp] theorem State.updRow_under (s : State) (seg row : Nat) (f : RowState → RowState) : (s.updRow seg row f).under = s.under := rfl
@[simp] theorem State.updRow_rd_eq (s : State) (seg row : Nat) (f : RowState → RowState) (j : Nat) : (s.updRow seg row f).rd j = s.rd j := rfl
@[simp] theorem State.updRow_dom_eq (s : State) (seg row : Nat) (f : RowState → RowState) (j : Nat) : (s.updRow seg row f).dom j = s.dom j := rfl
@[simp] theorem State.updRow_faultRec_eq (s : State) (seg row : Nat) (f : RowState → RowState) (j : Nat) : (s.updRow seg row f).faultRec j = s.faultRec j := rfl

/-! ### updHead -/

@[simp] theorem State.updHead_now (s : State) (seg : Nat) (f : Head → Head) : (s.updHead seg f).now = s.now := rfl
@[simp] theorem State.updHead_pending (s : State) (seg : Nat) (f : Head → Head) : (s.updHead seg f).pending = s.pending := rfl
@[simp] theorem State.updHead_out (s : State) (seg : Nat) (f : Head → Head) : (s.updHead seg f).out = s.out := rfl
@[simp] theorem State.updHead_draws (s : State) (seg : Nat) (f : Head → Head) : (s.updHead seg f).draws = s.draws := rfl
@[simp] theorem State.updHead_objs (s : State) (seg : Nat) (f : Head → Head) : (s.updHead seg f).objs = s.objs := rfl
@[simp] theorem State.updHead_doms (s : State) (seg : Nat) (f : Head → Head) : (s.updHead seg f).doms = s.doms := rfl
@[simp] theorem State.updHead_tdp (s : State) (seg : Nat) (f : Head → Head) : (s.updHead seg f).tdp = s.tdp := rfl
@[simp] theorem State.updHead_net (s : State) (seg : Nat) (f : Head → Head) : (s.updHead seg f).net = s.net := rfl
@[simp] theorem State.updHead_fuses (s : State) (seg : Nat) (f : Head → Head) : (s.updHead seg f).fuses = s.fuses := rfl
@[simp] theorem State.updHead_flash (s : State) (seg : Nat) (f : Head → Head) : (s.updHead seg f).flash = s.flash := rfl
@[simp] theorem State.updHead_boot (s : State) (seg : Nat) (f : Head → Head) : (s.updHead seg f).boot = s.boot := rfl
@[simp] theorem State.updHead_bank (s : State) (seg : Nat) (f : Head → Head) : (s.updHead seg f).bank = s.bank := rfl
@[simp] theorem State.updHead_power (s : State) (seg : Nat) (f : Head → Head) : (s.updHead seg f).power = s.power := rfl
@[simp] theorem State.updHead_access (s : State) (seg : Nat) (f : Head → Head) : (s.updHead seg f).access = s.access := rfl
@[simp] theorem State.updHead_faults (s : State) (seg : Nat) (f : Head → Head) : (s.updHead seg f).faults = s.faults := rfl
@[simp] theorem State.updHead_safe (s : State) (seg : Nat) (f : Head → Head) : (s.updHead seg f).safe = s.safe := rfl
@[simp] theorem State.updHead_acts (s : State) (seg : Nat) (f : Head → Head) : (s.updHead seg f).acts = s.acts := rfl
@[simp] theorem State.updHead_time (s : State) (seg : Nat) (f : Head → Head) : (s.updHead seg f).time = s.time := rfl
@[simp] theorem State.updHead_jobs (s : State) (seg : Nat) (f : Head → Head) : (s.updHead seg f).jobs = s.jobs := rfl
@[simp] theorem State.updHead_ingest (s : State) (seg : Nat) (f : Head → Head) : (s.updHead seg f).ingest = s.ingest := rfl
@[simp] theorem State.updHead_mirror (s : State) (seg : Nat) (f : Head → Head) : (s.updHead seg f).mirror = s.mirror := rfl
@[simp] theorem State.updHead_compose (s : State) (seg : Nat) (f : Head → Head) : (s.updHead seg f).compose = s.compose := rfl
@[simp] theorem State.updHead_nozzle (s : State) (seg : Nat) (f : Head → Head) : (s.updHead seg f).nozzle = s.nozzle := rfl
@[simp] theorem State.updHead_web (s : State) (seg : Nat) (f : Head → Head) : (s.updHead seg f).web = s.web := rfl
@[simp] theorem State.updHead_fire (s : State) (seg : Nat) (f : Head → Head) : (s.updHead seg f).fire = s.fire := rfl
@[simp] theorem State.updHead_lanes (s : State) (seg : Nat) (f : Head → Head) : (s.updHead seg f).lanes = s.lanes := rfl
@[simp] theorem State.updHead_cams (s : State) (seg : Nat) (f : Head → Head) : (s.updHead seg f).cams = s.cams := rfl
@[simp] theorem State.updHead_inspect (s : State) (seg : Nat) (f : Head → Head) : (s.updHead seg f).inspect = s.inspect := rfl
@[simp] theorem State.updHead_disps (s : State) (seg : Nat) (f : Head → Head) : (s.updHead seg f).disps = s.disps := rfl
@[simp] theorem State.updHead_dram (s : State) (seg : Nat) (f : Head → Head) : (s.updHead seg f).dram = s.dram := rfl
@[simp] theorem State.updHead_movers (s : State) (seg : Nat) (f : Head → Head) : (s.updHead seg f).movers = s.movers := rfl
@[simp] theorem State.updHead_graft (s : State) (seg : Nat) (f : Head → Head) : (s.updHead seg f).graft = s.graft := rfl
@[simp] theorem State.updHead_axes (s : State) (seg : Nat) (f : Head → Head) : (s.updHead seg f).axes = s.axes := rfl
@[simp] theorem State.updHead_cal (s : State) (seg : Nat) (f : Head → Head) : (s.updHead seg f).cal = s.cal := rfl
@[simp] theorem State.updHead_under (s : State) (seg : Nat) (f : Head → Head) : (s.updHead seg f).under = s.under := rfl
@[simp] theorem State.updHead_rd_eq (s : State) (seg : Nat) (f : Head → Head) (j : Nat) : (s.updHead seg f).rd j = s.rd j := rfl
@[simp] theorem State.updHead_dom_eq (s : State) (seg : Nat) (f : Head → Head) (j : Nat) : (s.updHead seg f).dom j = s.dom j := rfl
@[simp] theorem State.updHead_faultRec_eq (s : State) (seg : Nat) (f : Head → Head) (j : Nat) : (s.updHead seg f).faultRec j = s.faultRec j := rfl

/-! ### updLane -/

@[simp] theorem State.updLane_now (s : State) (n : Nat) (f : Lane → Lane) : (s.updLane n f).now = s.now := rfl
@[simp] theorem State.updLane_pending (s : State) (n : Nat) (f : Lane → Lane) : (s.updLane n f).pending = s.pending := rfl
@[simp] theorem State.updLane_out (s : State) (n : Nat) (f : Lane → Lane) : (s.updLane n f).out = s.out := rfl
@[simp] theorem State.updLane_draws (s : State) (n : Nat) (f : Lane → Lane) : (s.updLane n f).draws = s.draws := rfl
@[simp] theorem State.updLane_objs (s : State) (n : Nat) (f : Lane → Lane) : (s.updLane n f).objs = s.objs := rfl
@[simp] theorem State.updLane_doms (s : State) (n : Nat) (f : Lane → Lane) : (s.updLane n f).doms = s.doms := rfl
@[simp] theorem State.updLane_tdp (s : State) (n : Nat) (f : Lane → Lane) : (s.updLane n f).tdp = s.tdp := rfl
@[simp] theorem State.updLane_net (s : State) (n : Nat) (f : Lane → Lane) : (s.updLane n f).net = s.net := rfl
@[simp] theorem State.updLane_fuses (s : State) (n : Nat) (f : Lane → Lane) : (s.updLane n f).fuses = s.fuses := rfl
@[simp] theorem State.updLane_flash (s : State) (n : Nat) (f : Lane → Lane) : (s.updLane n f).flash = s.flash := rfl
@[simp] theorem State.updLane_boot (s : State) (n : Nat) (f : Lane → Lane) : (s.updLane n f).boot = s.boot := rfl
@[simp] theorem State.updLane_bank (s : State) (n : Nat) (f : Lane → Lane) : (s.updLane n f).bank = s.bank := rfl
@[simp] theorem State.updLane_power (s : State) (n : Nat) (f : Lane → Lane) : (s.updLane n f).power = s.power := rfl
@[simp] theorem State.updLane_access (s : State) (n : Nat) (f : Lane → Lane) : (s.updLane n f).access = s.access := rfl
@[simp] theorem State.updLane_faults (s : State) (n : Nat) (f : Lane → Lane) : (s.updLane n f).faults = s.faults := rfl
@[simp] theorem State.updLane_safe (s : State) (n : Nat) (f : Lane → Lane) : (s.updLane n f).safe = s.safe := rfl
@[simp] theorem State.updLane_acts (s : State) (n : Nat) (f : Lane → Lane) : (s.updLane n f).acts = s.acts := rfl
@[simp] theorem State.updLane_time (s : State) (n : Nat) (f : Lane → Lane) : (s.updLane n f).time = s.time := rfl
@[simp] theorem State.updLane_jobs (s : State) (n : Nat) (f : Lane → Lane) : (s.updLane n f).jobs = s.jobs := rfl
@[simp] theorem State.updLane_ingest (s : State) (n : Nat) (f : Lane → Lane) : (s.updLane n f).ingest = s.ingest := rfl
@[simp] theorem State.updLane_mirror (s : State) (n : Nat) (f : Lane → Lane) : (s.updLane n f).mirror = s.mirror := rfl
@[simp] theorem State.updLane_compose (s : State) (n : Nat) (f : Lane → Lane) : (s.updLane n f).compose = s.compose := rfl
@[simp] theorem State.updLane_nozzle (s : State) (n : Nat) (f : Lane → Lane) : (s.updLane n f).nozzle = s.nozzle := rfl
@[simp] theorem State.updLane_web (s : State) (n : Nat) (f : Lane → Lane) : (s.updLane n f).web = s.web := rfl
@[simp] theorem State.updLane_fire (s : State) (n : Nat) (f : Lane → Lane) : (s.updLane n f).fire = s.fire := rfl
@[simp] theorem State.updLane_heads (s : State) (n : Nat) (f : Lane → Lane) : (s.updLane n f).heads = s.heads := rfl
@[simp] theorem State.updLane_cams (s : State) (n : Nat) (f : Lane → Lane) : (s.updLane n f).cams = s.cams := rfl
@[simp] theorem State.updLane_inspect (s : State) (n : Nat) (f : Lane → Lane) : (s.updLane n f).inspect = s.inspect := rfl
@[simp] theorem State.updLane_disps (s : State) (n : Nat) (f : Lane → Lane) : (s.updLane n f).disps = s.disps := rfl
@[simp] theorem State.updLane_dram (s : State) (n : Nat) (f : Lane → Lane) : (s.updLane n f).dram = s.dram := rfl
@[simp] theorem State.updLane_movers (s : State) (n : Nat) (f : Lane → Lane) : (s.updLane n f).movers = s.movers := rfl
@[simp] theorem State.updLane_graft (s : State) (n : Nat) (f : Lane → Lane) : (s.updLane n f).graft = s.graft := rfl
@[simp] theorem State.updLane_axes (s : State) (n : Nat) (f : Lane → Lane) : (s.updLane n f).axes = s.axes := rfl
@[simp] theorem State.updLane_cal (s : State) (n : Nat) (f : Lane → Lane) : (s.updLane n f).cal = s.cal := rfl
@[simp] theorem State.updLane_under (s : State) (n : Nat) (f : Lane → Lane) : (s.updLane n f).under = s.under := rfl
@[simp] theorem State.updLane_rd_eq (s : State) (n : Nat) (f : Lane → Lane) (j : Nat) : (s.updLane n f).rd j = s.rd j := rfl
@[simp] theorem State.updLane_dom_eq (s : State) (n : Nat) (f : Lane → Lane) (j : Nat) : (s.updLane n f).dom j = s.dom j := rfl
@[simp] theorem State.updLane_faultRec_eq (s : State) (n : Nat) (f : Lane → Lane) (j : Nat) : (s.updLane n f).faultRec j = s.faultRec j := rfl

/-! ### updCam -/

@[simp] theorem State.updCam_now (s : State) (k : Nat) (f : Cam → Cam) : (s.updCam k f).now = s.now := rfl
@[simp] theorem State.updCam_pending (s : State) (k : Nat) (f : Cam → Cam) : (s.updCam k f).pending = s.pending := rfl
@[simp] theorem State.updCam_out (s : State) (k : Nat) (f : Cam → Cam) : (s.updCam k f).out = s.out := rfl
@[simp] theorem State.updCam_draws (s : State) (k : Nat) (f : Cam → Cam) : (s.updCam k f).draws = s.draws := rfl
@[simp] theorem State.updCam_objs (s : State) (k : Nat) (f : Cam → Cam) : (s.updCam k f).objs = s.objs := rfl
@[simp] theorem State.updCam_doms (s : State) (k : Nat) (f : Cam → Cam) : (s.updCam k f).doms = s.doms := rfl
@[simp] theorem State.updCam_tdp (s : State) (k : Nat) (f : Cam → Cam) : (s.updCam k f).tdp = s.tdp := rfl
@[simp] theorem State.updCam_net (s : State) (k : Nat) (f : Cam → Cam) : (s.updCam k f).net = s.net := rfl
@[simp] theorem State.updCam_fuses (s : State) (k : Nat) (f : Cam → Cam) : (s.updCam k f).fuses = s.fuses := rfl
@[simp] theorem State.updCam_flash (s : State) (k : Nat) (f : Cam → Cam) : (s.updCam k f).flash = s.flash := rfl
@[simp] theorem State.updCam_boot (s : State) (k : Nat) (f : Cam → Cam) : (s.updCam k f).boot = s.boot := rfl
@[simp] theorem State.updCam_bank (s : State) (k : Nat) (f : Cam → Cam) : (s.updCam k f).bank = s.bank := rfl
@[simp] theorem State.updCam_power (s : State) (k : Nat) (f : Cam → Cam) : (s.updCam k f).power = s.power := rfl
@[simp] theorem State.updCam_access (s : State) (k : Nat) (f : Cam → Cam) : (s.updCam k f).access = s.access := rfl
@[simp] theorem State.updCam_faults (s : State) (k : Nat) (f : Cam → Cam) : (s.updCam k f).faults = s.faults := rfl
@[simp] theorem State.updCam_safe (s : State) (k : Nat) (f : Cam → Cam) : (s.updCam k f).safe = s.safe := rfl
@[simp] theorem State.updCam_acts (s : State) (k : Nat) (f : Cam → Cam) : (s.updCam k f).acts = s.acts := rfl
@[simp] theorem State.updCam_time (s : State) (k : Nat) (f : Cam → Cam) : (s.updCam k f).time = s.time := rfl
@[simp] theorem State.updCam_jobs (s : State) (k : Nat) (f : Cam → Cam) : (s.updCam k f).jobs = s.jobs := rfl
@[simp] theorem State.updCam_ingest (s : State) (k : Nat) (f : Cam → Cam) : (s.updCam k f).ingest = s.ingest := rfl
@[simp] theorem State.updCam_mirror (s : State) (k : Nat) (f : Cam → Cam) : (s.updCam k f).mirror = s.mirror := rfl
@[simp] theorem State.updCam_compose (s : State) (k : Nat) (f : Cam → Cam) : (s.updCam k f).compose = s.compose := rfl
@[simp] theorem State.updCam_nozzle (s : State) (k : Nat) (f : Cam → Cam) : (s.updCam k f).nozzle = s.nozzle := rfl
@[simp] theorem State.updCam_web (s : State) (k : Nat) (f : Cam → Cam) : (s.updCam k f).web = s.web := rfl
@[simp] theorem State.updCam_fire (s : State) (k : Nat) (f : Cam → Cam) : (s.updCam k f).fire = s.fire := rfl
@[simp] theorem State.updCam_heads (s : State) (k : Nat) (f : Cam → Cam) : (s.updCam k f).heads = s.heads := rfl
@[simp] theorem State.updCam_lanes (s : State) (k : Nat) (f : Cam → Cam) : (s.updCam k f).lanes = s.lanes := rfl
@[simp] theorem State.updCam_inspect (s : State) (k : Nat) (f : Cam → Cam) : (s.updCam k f).inspect = s.inspect := rfl
@[simp] theorem State.updCam_disps (s : State) (k : Nat) (f : Cam → Cam) : (s.updCam k f).disps = s.disps := rfl
@[simp] theorem State.updCam_dram (s : State) (k : Nat) (f : Cam → Cam) : (s.updCam k f).dram = s.dram := rfl
@[simp] theorem State.updCam_movers (s : State) (k : Nat) (f : Cam → Cam) : (s.updCam k f).movers = s.movers := rfl
@[simp] theorem State.updCam_graft (s : State) (k : Nat) (f : Cam → Cam) : (s.updCam k f).graft = s.graft := rfl
@[simp] theorem State.updCam_axes (s : State) (k : Nat) (f : Cam → Cam) : (s.updCam k f).axes = s.axes := rfl
@[simp] theorem State.updCam_cal (s : State) (k : Nat) (f : Cam → Cam) : (s.updCam k f).cal = s.cal := rfl
@[simp] theorem State.updCam_under (s : State) (k : Nat) (f : Cam → Cam) : (s.updCam k f).under = s.under := rfl
@[simp] theorem State.updCam_rd_eq (s : State) (k : Nat) (f : Cam → Cam) (j : Nat) : (s.updCam k f).rd j = s.rd j := rfl
@[simp] theorem State.updCam_dom_eq (s : State) (k : Nat) (f : Cam → Cam) (j : Nat) : (s.updCam k f).dom j = s.dom j := rfl
@[simp] theorem State.updCam_faultRec_eq (s : State) (k : Nat) (f : Cam → Cam) (j : Nat) : (s.updCam k f).faultRec j = s.faultRec j := rfl

/-! ### updDisp -/

@[simp] theorem State.updDisp_now (s : State) (x : Nat) (f : Disp → Disp) : (s.updDisp x f).now = s.now := rfl
@[simp] theorem State.updDisp_pending (s : State) (x : Nat) (f : Disp → Disp) : (s.updDisp x f).pending = s.pending := rfl
@[simp] theorem State.updDisp_out (s : State) (x : Nat) (f : Disp → Disp) : (s.updDisp x f).out = s.out := rfl
@[simp] theorem State.updDisp_draws (s : State) (x : Nat) (f : Disp → Disp) : (s.updDisp x f).draws = s.draws := rfl
@[simp] theorem State.updDisp_objs (s : State) (x : Nat) (f : Disp → Disp) : (s.updDisp x f).objs = s.objs := rfl
@[simp] theorem State.updDisp_doms (s : State) (x : Nat) (f : Disp → Disp) : (s.updDisp x f).doms = s.doms := rfl
@[simp] theorem State.updDisp_tdp (s : State) (x : Nat) (f : Disp → Disp) : (s.updDisp x f).tdp = s.tdp := rfl
@[simp] theorem State.updDisp_net (s : State) (x : Nat) (f : Disp → Disp) : (s.updDisp x f).net = s.net := rfl
@[simp] theorem State.updDisp_fuses (s : State) (x : Nat) (f : Disp → Disp) : (s.updDisp x f).fuses = s.fuses := rfl
@[simp] theorem State.updDisp_flash (s : State) (x : Nat) (f : Disp → Disp) : (s.updDisp x f).flash = s.flash := rfl
@[simp] theorem State.updDisp_boot (s : State) (x : Nat) (f : Disp → Disp) : (s.updDisp x f).boot = s.boot := rfl
@[simp] theorem State.updDisp_bank (s : State) (x : Nat) (f : Disp → Disp) : (s.updDisp x f).bank = s.bank := rfl
@[simp] theorem State.updDisp_power (s : State) (x : Nat) (f : Disp → Disp) : (s.updDisp x f).power = s.power := rfl
@[simp] theorem State.updDisp_access (s : State) (x : Nat) (f : Disp → Disp) : (s.updDisp x f).access = s.access := rfl
@[simp] theorem State.updDisp_faults (s : State) (x : Nat) (f : Disp → Disp) : (s.updDisp x f).faults = s.faults := rfl
@[simp] theorem State.updDisp_safe (s : State) (x : Nat) (f : Disp → Disp) : (s.updDisp x f).safe = s.safe := rfl
@[simp] theorem State.updDisp_acts (s : State) (x : Nat) (f : Disp → Disp) : (s.updDisp x f).acts = s.acts := rfl
@[simp] theorem State.updDisp_time (s : State) (x : Nat) (f : Disp → Disp) : (s.updDisp x f).time = s.time := rfl
@[simp] theorem State.updDisp_jobs (s : State) (x : Nat) (f : Disp → Disp) : (s.updDisp x f).jobs = s.jobs := rfl
@[simp] theorem State.updDisp_ingest (s : State) (x : Nat) (f : Disp → Disp) : (s.updDisp x f).ingest = s.ingest := rfl
@[simp] theorem State.updDisp_mirror (s : State) (x : Nat) (f : Disp → Disp) : (s.updDisp x f).mirror = s.mirror := rfl
@[simp] theorem State.updDisp_compose (s : State) (x : Nat) (f : Disp → Disp) : (s.updDisp x f).compose = s.compose := rfl
@[simp] theorem State.updDisp_nozzle (s : State) (x : Nat) (f : Disp → Disp) : (s.updDisp x f).nozzle = s.nozzle := rfl
@[simp] theorem State.updDisp_web (s : State) (x : Nat) (f : Disp → Disp) : (s.updDisp x f).web = s.web := rfl
@[simp] theorem State.updDisp_fire (s : State) (x : Nat) (f : Disp → Disp) : (s.updDisp x f).fire = s.fire := rfl
@[simp] theorem State.updDisp_heads (s : State) (x : Nat) (f : Disp → Disp) : (s.updDisp x f).heads = s.heads := rfl
@[simp] theorem State.updDisp_lanes (s : State) (x : Nat) (f : Disp → Disp) : (s.updDisp x f).lanes = s.lanes := rfl
@[simp] theorem State.updDisp_cams (s : State) (x : Nat) (f : Disp → Disp) : (s.updDisp x f).cams = s.cams := rfl
@[simp] theorem State.updDisp_inspect (s : State) (x : Nat) (f : Disp → Disp) : (s.updDisp x f).inspect = s.inspect := rfl
@[simp] theorem State.updDisp_dram (s : State) (x : Nat) (f : Disp → Disp) : (s.updDisp x f).dram = s.dram := rfl
@[simp] theorem State.updDisp_movers (s : State) (x : Nat) (f : Disp → Disp) : (s.updDisp x f).movers = s.movers := rfl
@[simp] theorem State.updDisp_graft (s : State) (x : Nat) (f : Disp → Disp) : (s.updDisp x f).graft = s.graft := rfl
@[simp] theorem State.updDisp_axes (s : State) (x : Nat) (f : Disp → Disp) : (s.updDisp x f).axes = s.axes := rfl
@[simp] theorem State.updDisp_cal (s : State) (x : Nat) (f : Disp → Disp) : (s.updDisp x f).cal = s.cal := rfl
@[simp] theorem State.updDisp_under (s : State) (x : Nat) (f : Disp → Disp) : (s.updDisp x f).under = s.under := rfl
@[simp] theorem State.updDisp_rd_eq (s : State) (x : Nat) (f : Disp → Disp) (j : Nat) : (s.updDisp x f).rd j = s.rd j := rfl
@[simp] theorem State.updDisp_dom_eq (s : State) (x : Nat) (f : Disp → Disp) (j : Nat) : (s.updDisp x f).dom j = s.dom j := rfl
@[simp] theorem State.updDisp_faultRec_eq (s : State) (x : Nat) (f : Disp → Disp) (j : Nat) : (s.updDisp x f).faultRec j = s.faultRec j := rfl

/-! ### updDram -/

@[simp] theorem State.updDram_now (s : State) (c : Nat) (f : DramChannel → DramChannel) : (s.updDram c f).now = s.now := rfl
@[simp] theorem State.updDram_pending (s : State) (c : Nat) (f : DramChannel → DramChannel) : (s.updDram c f).pending = s.pending := rfl
@[simp] theorem State.updDram_out (s : State) (c : Nat) (f : DramChannel → DramChannel) : (s.updDram c f).out = s.out := rfl
@[simp] theorem State.updDram_draws (s : State) (c : Nat) (f : DramChannel → DramChannel) : (s.updDram c f).draws = s.draws := rfl
@[simp] theorem State.updDram_objs (s : State) (c : Nat) (f : DramChannel → DramChannel) : (s.updDram c f).objs = s.objs := rfl
@[simp] theorem State.updDram_doms (s : State) (c : Nat) (f : DramChannel → DramChannel) : (s.updDram c f).doms = s.doms := rfl
@[simp] theorem State.updDram_tdp (s : State) (c : Nat) (f : DramChannel → DramChannel) : (s.updDram c f).tdp = s.tdp := rfl
@[simp] theorem State.updDram_net (s : State) (c : Nat) (f : DramChannel → DramChannel) : (s.updDram c f).net = s.net := rfl
@[simp] theorem State.updDram_fuses (s : State) (c : Nat) (f : DramChannel → DramChannel) : (s.updDram c f).fuses = s.fuses := rfl
@[simp] theorem State.updDram_flash (s : State) (c : Nat) (f : DramChannel → DramChannel) : (s.updDram c f).flash = s.flash := rfl
@[simp] theorem State.updDram_boot (s : State) (c : Nat) (f : DramChannel → DramChannel) : (s.updDram c f).boot = s.boot := rfl
@[simp] theorem State.updDram_bank (s : State) (c : Nat) (f : DramChannel → DramChannel) : (s.updDram c f).bank = s.bank := rfl
@[simp] theorem State.updDram_power (s : State) (c : Nat) (f : DramChannel → DramChannel) : (s.updDram c f).power = s.power := rfl
@[simp] theorem State.updDram_access (s : State) (c : Nat) (f : DramChannel → DramChannel) : (s.updDram c f).access = s.access := rfl
@[simp] theorem State.updDram_faults (s : State) (c : Nat) (f : DramChannel → DramChannel) : (s.updDram c f).faults = s.faults := rfl
@[simp] theorem State.updDram_safe (s : State) (c : Nat) (f : DramChannel → DramChannel) : (s.updDram c f).safe = s.safe := rfl
@[simp] theorem State.updDram_acts (s : State) (c : Nat) (f : DramChannel → DramChannel) : (s.updDram c f).acts = s.acts := rfl
@[simp] theorem State.updDram_time (s : State) (c : Nat) (f : DramChannel → DramChannel) : (s.updDram c f).time = s.time := rfl
@[simp] theorem State.updDram_jobs (s : State) (c : Nat) (f : DramChannel → DramChannel) : (s.updDram c f).jobs = s.jobs := rfl
@[simp] theorem State.updDram_ingest (s : State) (c : Nat) (f : DramChannel → DramChannel) : (s.updDram c f).ingest = s.ingest := rfl
@[simp] theorem State.updDram_mirror (s : State) (c : Nat) (f : DramChannel → DramChannel) : (s.updDram c f).mirror = s.mirror := rfl
@[simp] theorem State.updDram_compose (s : State) (c : Nat) (f : DramChannel → DramChannel) : (s.updDram c f).compose = s.compose := rfl
@[simp] theorem State.updDram_nozzle (s : State) (c : Nat) (f : DramChannel → DramChannel) : (s.updDram c f).nozzle = s.nozzle := rfl
@[simp] theorem State.updDram_web (s : State) (c : Nat) (f : DramChannel → DramChannel) : (s.updDram c f).web = s.web := rfl
@[simp] theorem State.updDram_fire (s : State) (c : Nat) (f : DramChannel → DramChannel) : (s.updDram c f).fire = s.fire := rfl
@[simp] theorem State.updDram_heads (s : State) (c : Nat) (f : DramChannel → DramChannel) : (s.updDram c f).heads = s.heads := rfl
@[simp] theorem State.updDram_lanes (s : State) (c : Nat) (f : DramChannel → DramChannel) : (s.updDram c f).lanes = s.lanes := rfl
@[simp] theorem State.updDram_cams (s : State) (c : Nat) (f : DramChannel → DramChannel) : (s.updDram c f).cams = s.cams := rfl
@[simp] theorem State.updDram_inspect (s : State) (c : Nat) (f : DramChannel → DramChannel) : (s.updDram c f).inspect = s.inspect := rfl
@[simp] theorem State.updDram_disps (s : State) (c : Nat) (f : DramChannel → DramChannel) : (s.updDram c f).disps = s.disps := rfl
@[simp] theorem State.updDram_movers (s : State) (c : Nat) (f : DramChannel → DramChannel) : (s.updDram c f).movers = s.movers := rfl
@[simp] theorem State.updDram_graft (s : State) (c : Nat) (f : DramChannel → DramChannel) : (s.updDram c f).graft = s.graft := rfl
@[simp] theorem State.updDram_axes (s : State) (c : Nat) (f : DramChannel → DramChannel) : (s.updDram c f).axes = s.axes := rfl
@[simp] theorem State.updDram_cal (s : State) (c : Nat) (f : DramChannel → DramChannel) : (s.updDram c f).cal = s.cal := rfl
@[simp] theorem State.updDram_under (s : State) (c : Nat) (f : DramChannel → DramChannel) : (s.updDram c f).under = s.under := rfl
@[simp] theorem State.updDram_rd_eq (s : State) (c : Nat) (f : DramChannel → DramChannel) (j : Nat) : (s.updDram c f).rd j = s.rd j := rfl
@[simp] theorem State.updDram_dom_eq (s : State) (c : Nat) (f : DramChannel → DramChannel) (j : Nat) : (s.updDram c f).dom j = s.dom j := rfl
@[simp] theorem State.updDram_faultRec_eq (s : State) (c : Nat) (f : DramChannel → DramChannel) (j : Nat) : (s.updDram c f).faultRec j = s.faultRec j := rfl

/-! ### updMove -/

@[simp] theorem State.updMove_now (s : State) (m : Nat) (f : HostMove → HostMove) : (s.updMove m f).now = s.now := rfl
@[simp] theorem State.updMove_pending (s : State) (m : Nat) (f : HostMove → HostMove) : (s.updMove m f).pending = s.pending := rfl
@[simp] theorem State.updMove_out (s : State) (m : Nat) (f : HostMove → HostMove) : (s.updMove m f).out = s.out := rfl
@[simp] theorem State.updMove_draws (s : State) (m : Nat) (f : HostMove → HostMove) : (s.updMove m f).draws = s.draws := rfl
@[simp] theorem State.updMove_objs (s : State) (m : Nat) (f : HostMove → HostMove) : (s.updMove m f).objs = s.objs := rfl
@[simp] theorem State.updMove_doms (s : State) (m : Nat) (f : HostMove → HostMove) : (s.updMove m f).doms = s.doms := rfl
@[simp] theorem State.updMove_tdp (s : State) (m : Nat) (f : HostMove → HostMove) : (s.updMove m f).tdp = s.tdp := rfl
@[simp] theorem State.updMove_net (s : State) (m : Nat) (f : HostMove → HostMove) : (s.updMove m f).net = s.net := rfl
@[simp] theorem State.updMove_fuses (s : State) (m : Nat) (f : HostMove → HostMove) : (s.updMove m f).fuses = s.fuses := rfl
@[simp] theorem State.updMove_flash (s : State) (m : Nat) (f : HostMove → HostMove) : (s.updMove m f).flash = s.flash := rfl
@[simp] theorem State.updMove_boot (s : State) (m : Nat) (f : HostMove → HostMove) : (s.updMove m f).boot = s.boot := rfl
@[simp] theorem State.updMove_bank (s : State) (m : Nat) (f : HostMove → HostMove) : (s.updMove m f).bank = s.bank := rfl
@[simp] theorem State.updMove_power (s : State) (m : Nat) (f : HostMove → HostMove) : (s.updMove m f).power = s.power := rfl
@[simp] theorem State.updMove_access (s : State) (m : Nat) (f : HostMove → HostMove) : (s.updMove m f).access = s.access := rfl
@[simp] theorem State.updMove_faults (s : State) (m : Nat) (f : HostMove → HostMove) : (s.updMove m f).faults = s.faults := rfl
@[simp] theorem State.updMove_safe (s : State) (m : Nat) (f : HostMove → HostMove) : (s.updMove m f).safe = s.safe := rfl
@[simp] theorem State.updMove_acts (s : State) (m : Nat) (f : HostMove → HostMove) : (s.updMove m f).acts = s.acts := rfl
@[simp] theorem State.updMove_time (s : State) (m : Nat) (f : HostMove → HostMove) : (s.updMove m f).time = s.time := rfl
@[simp] theorem State.updMove_jobs (s : State) (m : Nat) (f : HostMove → HostMove) : (s.updMove m f).jobs = s.jobs := rfl
@[simp] theorem State.updMove_ingest (s : State) (m : Nat) (f : HostMove → HostMove) : (s.updMove m f).ingest = s.ingest := rfl
@[simp] theorem State.updMove_mirror (s : State) (m : Nat) (f : HostMove → HostMove) : (s.updMove m f).mirror = s.mirror := rfl
@[simp] theorem State.updMove_compose (s : State) (m : Nat) (f : HostMove → HostMove) : (s.updMove m f).compose = s.compose := rfl
@[simp] theorem State.updMove_nozzle (s : State) (m : Nat) (f : HostMove → HostMove) : (s.updMove m f).nozzle = s.nozzle := rfl
@[simp] theorem State.updMove_web (s : State) (m : Nat) (f : HostMove → HostMove) : (s.updMove m f).web = s.web := rfl
@[simp] theorem State.updMove_fire (s : State) (m : Nat) (f : HostMove → HostMove) : (s.updMove m f).fire = s.fire := rfl
@[simp] theorem State.updMove_heads (s : State) (m : Nat) (f : HostMove → HostMove) : (s.updMove m f).heads = s.heads := rfl
@[simp] theorem State.updMove_lanes (s : State) (m : Nat) (f : HostMove → HostMove) : (s.updMove m f).lanes = s.lanes := rfl
@[simp] theorem State.updMove_cams (s : State) (m : Nat) (f : HostMove → HostMove) : (s.updMove m f).cams = s.cams := rfl
@[simp] theorem State.updMove_inspect (s : State) (m : Nat) (f : HostMove → HostMove) : (s.updMove m f).inspect = s.inspect := rfl
@[simp] theorem State.updMove_disps (s : State) (m : Nat) (f : HostMove → HostMove) : (s.updMove m f).disps = s.disps := rfl
@[simp] theorem State.updMove_dram (s : State) (m : Nat) (f : HostMove → HostMove) : (s.updMove m f).dram = s.dram := rfl
@[simp] theorem State.updMove_graft (s : State) (m : Nat) (f : HostMove → HostMove) : (s.updMove m f).graft = s.graft := rfl
@[simp] theorem State.updMove_axes (s : State) (m : Nat) (f : HostMove → HostMove) : (s.updMove m f).axes = s.axes := rfl
@[simp] theorem State.updMove_cal (s : State) (m : Nat) (f : HostMove → HostMove) : (s.updMove m f).cal = s.cal := rfl
@[simp] theorem State.updMove_under (s : State) (m : Nat) (f : HostMove → HostMove) : (s.updMove m f).under = s.under := rfl
@[simp] theorem State.updMove_rd_eq (s : State) (m : Nat) (f : HostMove → HostMove) (j : Nat) : (s.updMove m f).rd j = s.rd j := rfl
@[simp] theorem State.updMove_dom_eq (s : State) (m : Nat) (f : HostMove → HostMove) (j : Nat) : (s.updMove m f).dom j = s.dom j := rfl
@[simp] theorem State.updMove_faultRec_eq (s : State) (m : Nat) (f : HostMove → HostMove) (j : Nat) : (s.updMove m f).faultRec j = s.faultRec j := rfl

/-! ### graftState -/

@[simp] theorem State.graftState_now (s : State) (st : Nat) : (s.graftState st).now = s.now := rfl
@[simp] theorem State.graftState_pending (s : State) (st : Nat) : (s.graftState st).pending = s.pending := rfl
@[simp] theorem State.graftState_out (s : State) (st : Nat) : (s.graftState st).out = s.out := rfl
@[simp] theorem State.graftState_draws (s : State) (st : Nat) : (s.graftState st).draws = s.draws := rfl
@[simp] theorem State.graftState_objs (s : State) (st : Nat) : (s.graftState st).objs = s.objs := rfl
@[simp] theorem State.graftState_doms (s : State) (st : Nat) : (s.graftState st).doms = s.doms := rfl
@[simp] theorem State.graftState_tdp (s : State) (st : Nat) : (s.graftState st).tdp = s.tdp := rfl
@[simp] theorem State.graftState_net (s : State) (st : Nat) : (s.graftState st).net = s.net := rfl
@[simp] theorem State.graftState_fuses (s : State) (st : Nat) : (s.graftState st).fuses = s.fuses := rfl
@[simp] theorem State.graftState_flash (s : State) (st : Nat) : (s.graftState st).flash = s.flash := rfl
@[simp] theorem State.graftState_boot (s : State) (st : Nat) : (s.graftState st).boot = s.boot := rfl
@[simp] theorem State.graftState_bank (s : State) (st : Nat) : (s.graftState st).bank = s.bank := rfl
@[simp] theorem State.graftState_power (s : State) (st : Nat) : (s.graftState st).power = s.power := rfl
@[simp] theorem State.graftState_access (s : State) (st : Nat) : (s.graftState st).access = s.access := rfl
@[simp] theorem State.graftState_faults (s : State) (st : Nat) : (s.graftState st).faults = s.faults := rfl
@[simp] theorem State.graftState_safe (s : State) (st : Nat) : (s.graftState st).safe = s.safe := rfl
@[simp] theorem State.graftState_acts (s : State) (st : Nat) : (s.graftState st).acts = s.acts := rfl
@[simp] theorem State.graftState_time (s : State) (st : Nat) : (s.graftState st).time = s.time := rfl
@[simp] theorem State.graftState_jobs (s : State) (st : Nat) : (s.graftState st).jobs = s.jobs := rfl
@[simp] theorem State.graftState_ingest (s : State) (st : Nat) : (s.graftState st).ingest = s.ingest := rfl
@[simp] theorem State.graftState_mirror (s : State) (st : Nat) : (s.graftState st).mirror = s.mirror := rfl
@[simp] theorem State.graftState_compose (s : State) (st : Nat) : (s.graftState st).compose = s.compose := rfl
@[simp] theorem State.graftState_nozzle (s : State) (st : Nat) : (s.graftState st).nozzle = s.nozzle := rfl
@[simp] theorem State.graftState_web (s : State) (st : Nat) : (s.graftState st).web = s.web := rfl
@[simp] theorem State.graftState_fire (s : State) (st : Nat) : (s.graftState st).fire = s.fire := rfl
@[simp] theorem State.graftState_heads (s : State) (st : Nat) : (s.graftState st).heads = s.heads := rfl
@[simp] theorem State.graftState_lanes (s : State) (st : Nat) : (s.graftState st).lanes = s.lanes := rfl
@[simp] theorem State.graftState_cams (s : State) (st : Nat) : (s.graftState st).cams = s.cams := rfl
@[simp] theorem State.graftState_inspect (s : State) (st : Nat) : (s.graftState st).inspect = s.inspect := rfl
@[simp] theorem State.graftState_disps (s : State) (st : Nat) : (s.graftState st).disps = s.disps := rfl
@[simp] theorem State.graftState_dram (s : State) (st : Nat) : (s.graftState st).dram = s.dram := rfl
@[simp] theorem State.graftState_movers (s : State) (st : Nat) : (s.graftState st).movers = s.movers := rfl
@[simp] theorem State.graftState_axes (s : State) (st : Nat) : (s.graftState st).axes = s.axes := rfl
@[simp] theorem State.graftState_cal (s : State) (st : Nat) : (s.graftState st).cal = s.cal := rfl
@[simp] theorem State.graftState_under (s : State) (st : Nat) : (s.graftState st).under = s.under := rfl
@[simp] theorem State.graftState_rd_eq (s : State) (st : Nat) (j : Nat) : (s.graftState st).rd j = s.rd j := rfl
@[simp] theorem State.graftState_dom_eq (s : State) (st : Nat) (j : Nat) : (s.graftState st).dom j = s.dom j := rfl
@[simp] theorem State.graftState_faultRec_eq (s : State) (st : Nat) (j : Nat) : (s.graftState st).faultRec j = s.faultRec j := rfl

/-! ### updAxis -/

@[simp] theorem State.updAxis_now (s : State) (a : Nat) (f : Axis → Axis) : (s.updAxis a f).now = s.now := rfl
@[simp] theorem State.updAxis_pending (s : State) (a : Nat) (f : Axis → Axis) : (s.updAxis a f).pending = s.pending := rfl
@[simp] theorem State.updAxis_out (s : State) (a : Nat) (f : Axis → Axis) : (s.updAxis a f).out = s.out := rfl
@[simp] theorem State.updAxis_draws (s : State) (a : Nat) (f : Axis → Axis) : (s.updAxis a f).draws = s.draws := rfl
@[simp] theorem State.updAxis_objs (s : State) (a : Nat) (f : Axis → Axis) : (s.updAxis a f).objs = s.objs := rfl
@[simp] theorem State.updAxis_doms (s : State) (a : Nat) (f : Axis → Axis) : (s.updAxis a f).doms = s.doms := rfl
@[simp] theorem State.updAxis_tdp (s : State) (a : Nat) (f : Axis → Axis) : (s.updAxis a f).tdp = s.tdp := rfl
@[simp] theorem State.updAxis_net (s : State) (a : Nat) (f : Axis → Axis) : (s.updAxis a f).net = s.net := rfl
@[simp] theorem State.updAxis_fuses (s : State) (a : Nat) (f : Axis → Axis) : (s.updAxis a f).fuses = s.fuses := rfl
@[simp] theorem State.updAxis_flash (s : State) (a : Nat) (f : Axis → Axis) : (s.updAxis a f).flash = s.flash := rfl
@[simp] theorem State.updAxis_boot (s : State) (a : Nat) (f : Axis → Axis) : (s.updAxis a f).boot = s.boot := rfl
@[simp] theorem State.updAxis_bank (s : State) (a : Nat) (f : Axis → Axis) : (s.updAxis a f).bank = s.bank := rfl
@[simp] theorem State.updAxis_power (s : State) (a : Nat) (f : Axis → Axis) : (s.updAxis a f).power = s.power := rfl
@[simp] theorem State.updAxis_access (s : State) (a : Nat) (f : Axis → Axis) : (s.updAxis a f).access = s.access := rfl
@[simp] theorem State.updAxis_faults (s : State) (a : Nat) (f : Axis → Axis) : (s.updAxis a f).faults = s.faults := rfl
@[simp] theorem State.updAxis_safe (s : State) (a : Nat) (f : Axis → Axis) : (s.updAxis a f).safe = s.safe := rfl
@[simp] theorem State.updAxis_acts (s : State) (a : Nat) (f : Axis → Axis) : (s.updAxis a f).acts = s.acts := rfl
@[simp] theorem State.updAxis_time (s : State) (a : Nat) (f : Axis → Axis) : (s.updAxis a f).time = s.time := rfl
@[simp] theorem State.updAxis_jobs (s : State) (a : Nat) (f : Axis → Axis) : (s.updAxis a f).jobs = s.jobs := rfl
@[simp] theorem State.updAxis_ingest (s : State) (a : Nat) (f : Axis → Axis) : (s.updAxis a f).ingest = s.ingest := rfl
@[simp] theorem State.updAxis_mirror (s : State) (a : Nat) (f : Axis → Axis) : (s.updAxis a f).mirror = s.mirror := rfl
@[simp] theorem State.updAxis_compose (s : State) (a : Nat) (f : Axis → Axis) : (s.updAxis a f).compose = s.compose := rfl
@[simp] theorem State.updAxis_nozzle (s : State) (a : Nat) (f : Axis → Axis) : (s.updAxis a f).nozzle = s.nozzle := rfl
@[simp] theorem State.updAxis_web (s : State) (a : Nat) (f : Axis → Axis) : (s.updAxis a f).web = s.web := rfl
@[simp] theorem State.updAxis_fire (s : State) (a : Nat) (f : Axis → Axis) : (s.updAxis a f).fire = s.fire := rfl
@[simp] theorem State.updAxis_heads (s : State) (a : Nat) (f : Axis → Axis) : (s.updAxis a f).heads = s.heads := rfl
@[simp] theorem State.updAxis_lanes (s : State) (a : Nat) (f : Axis → Axis) : (s.updAxis a f).lanes = s.lanes := rfl
@[simp] theorem State.updAxis_cams (s : State) (a : Nat) (f : Axis → Axis) : (s.updAxis a f).cams = s.cams := rfl
@[simp] theorem State.updAxis_inspect (s : State) (a : Nat) (f : Axis → Axis) : (s.updAxis a f).inspect = s.inspect := rfl
@[simp] theorem State.updAxis_disps (s : State) (a : Nat) (f : Axis → Axis) : (s.updAxis a f).disps = s.disps := rfl
@[simp] theorem State.updAxis_dram (s : State) (a : Nat) (f : Axis → Axis) : (s.updAxis a f).dram = s.dram := rfl
@[simp] theorem State.updAxis_movers (s : State) (a : Nat) (f : Axis → Axis) : (s.updAxis a f).movers = s.movers := rfl
@[simp] theorem State.updAxis_graft (s : State) (a : Nat) (f : Axis → Axis) : (s.updAxis a f).graft = s.graft := rfl
@[simp] theorem State.updAxis_cal (s : State) (a : Nat) (f : Axis → Axis) : (s.updAxis a f).cal = s.cal := rfl
@[simp] theorem State.updAxis_under (s : State) (a : Nat) (f : Axis → Axis) : (s.updAxis a f).under = s.under := rfl
@[simp] theorem State.updAxis_rd_eq (s : State) (a : Nat) (f : Axis → Axis) (j : Nat) : (s.updAxis a f).rd j = s.rd j := rfl
@[simp] theorem State.updAxis_dom_eq (s : State) (a : Nat) (f : Axis → Axis) (j : Nat) : (s.updAxis a f).dom j = s.dom j := rfl
@[simp] theorem State.updAxis_faultRec_eq (s : State) (a : Nat) (f : Axis → Axis) (j : Nat) : (s.updAxis a f).faultRec j = s.faultRec j := rfl

/-! ### autoStore -/

@[simp] theorem State.autoStore_now (s : State) : (s.autoStore).now = s.now := rfl
@[simp] theorem State.autoStore_pending (s : State) : (s.autoStore).pending = s.pending := rfl
@[simp] theorem State.autoStore_out (s : State) : (s.autoStore).out = s.out := rfl
@[simp] theorem State.autoStore_draws (s : State) : (s.autoStore).draws = s.draws := rfl
@[simp] theorem State.autoStore_objs (s : State) : (s.autoStore).objs = s.objs := rfl
@[simp] theorem State.autoStore_doms (s : State) : (s.autoStore).doms = s.doms := rfl
@[simp] theorem State.autoStore_tdp (s : State) : (s.autoStore).tdp = s.tdp := rfl
@[simp] theorem State.autoStore_net (s : State) : (s.autoStore).net = s.net := rfl
@[simp] theorem State.autoStore_fuses (s : State) : (s.autoStore).fuses = s.fuses := rfl
@[simp] theorem State.autoStore_flash (s : State) : (s.autoStore).flash = s.flash := rfl
@[simp] theorem State.autoStore_boot (s : State) : (s.autoStore).boot = s.boot := rfl
@[simp] theorem State.autoStore_power (s : State) : (s.autoStore).power = s.power := rfl
@[simp] theorem State.autoStore_access (s : State) : (s.autoStore).access = s.access := rfl
@[simp] theorem State.autoStore_faults (s : State) : (s.autoStore).faults = s.faults := rfl
@[simp] theorem State.autoStore_safe (s : State) : (s.autoStore).safe = s.safe := rfl
@[simp] theorem State.autoStore_acts (s : State) : (s.autoStore).acts = s.acts := rfl
@[simp] theorem State.autoStore_time (s : State) : (s.autoStore).time = s.time := rfl
@[simp] theorem State.autoStore_jobs (s : State) : (s.autoStore).jobs = s.jobs := rfl
@[simp] theorem State.autoStore_ingest (s : State) : (s.autoStore).ingest = s.ingest := rfl
@[simp] theorem State.autoStore_mirror (s : State) : (s.autoStore).mirror = s.mirror := rfl
@[simp] theorem State.autoStore_compose (s : State) : (s.autoStore).compose = s.compose := rfl
@[simp] theorem State.autoStore_nozzle (s : State) : (s.autoStore).nozzle = s.nozzle := rfl
@[simp] theorem State.autoStore_web (s : State) : (s.autoStore).web = s.web := rfl
@[simp] theorem State.autoStore_fire (s : State) : (s.autoStore).fire = s.fire := rfl
@[simp] theorem State.autoStore_heads (s : State) : (s.autoStore).heads = s.heads := rfl
@[simp] theorem State.autoStore_lanes (s : State) : (s.autoStore).lanes = s.lanes := rfl
@[simp] theorem State.autoStore_cams (s : State) : (s.autoStore).cams = s.cams := rfl
@[simp] theorem State.autoStore_inspect (s : State) : (s.autoStore).inspect = s.inspect := rfl
@[simp] theorem State.autoStore_disps (s : State) : (s.autoStore).disps = s.disps := rfl
@[simp] theorem State.autoStore_dram (s : State) : (s.autoStore).dram = s.dram := rfl
@[simp] theorem State.autoStore_movers (s : State) : (s.autoStore).movers = s.movers := rfl
@[simp] theorem State.autoStore_graft (s : State) : (s.autoStore).graft = s.graft := rfl
@[simp] theorem State.autoStore_axes (s : State) : (s.autoStore).axes = s.axes := rfl
@[simp] theorem State.autoStore_cal (s : State) : (s.autoStore).cal = s.cal := rfl
@[simp] theorem State.autoStore_under (s : State) : (s.autoStore).under = s.under := rfl
@[simp] theorem State.autoStore_rd_eq (s : State) (j : Nat) : (s.autoStore).rd j = s.rd j := rfl
@[simp] theorem State.autoStore_dom_eq (s : State) (j : Nat) : (s.autoStore).dom j = s.dom j := rfl
@[simp] theorem State.autoStore_faultRec_eq (s : State) (j : Nat) : (s.autoStore).faultRec j = s.faultRec j := rfl

end Sys2Proof.Machine
end

