-- ==== Sys2Proof/Laws/At.lean ====
section
/-! SUPPORT. The present moves on: what does not read the clock reads as before. -/

namespace Sys2Proof.Machine

@[simp] theorem State.at_head_eq (s : State) (t : Nat) (seg : Nat) : (s.at t).head seg = s.head seg := rfl
@[simp] theorem State.at_lane_eq (s : State) (t : Nat) (n : Nat) : (s.at t).lane n = s.lane n := rfl
@[simp] theorem State.at_pitch_eq (s : State) (t : Nat) : (s.at t).pitch = s.pitch := rfl
@[simp] theorem State.at_delay_eq (s : State) (t : Nat) (seg row : Nat) : (s.at t).delay seg row = s.delay seg row := rfl
@[simp] theorem State.at_phase_eq (s : State) (t : Nat) (seg row : Nat) : (s.at t).phase seg row = s.phase seg row := rfl
@[simp] theorem State.at_rowDelayValue_eq (s : State) (t : Nat) : (s.at t).rowDelayValue = s.rowDelayValue := rfl
@[simp] theorem State.at_pendingValue_eq (s : State) (t : Nat) : (s.at t).pendingValue = s.pendingValue := rfl
@[simp] theorem State.at_segEnabled_eq (s : State) (t : Nat) (seg : Nat) : (s.at t).segEnabled seg = s.segEnabled seg := rfl
@[simp] theorem State.at_fitted_eq (s : State) (t : Nat) (seg row : Nat) : (s.at t).fitted seg row = s.fitted seg row := rfl
@[simp] theorem State.at_fittedRows_eq (s : State) (t : Nat) : (s.at t).fittedRows = s.fittedRows := rfl
@[simp] theorem State.at_xShift_eq (s : State) (t : Nat) (seg row : Nat) : (s.at t).xShift seg row = s.xShift seg row := rfl
@[simp] theorem State.at_stitchPos_eq (s : State) (t : Nat) (seg : Nat) : (s.at t).stitchPos seg = s.stitchPos seg := rfl
@[simp] theorem State.at_columnOf_eq (s : State) (t : Nat) (seg row n : Nat) : (s.at t).columnOf seg row n = s.columnOf seg row n := rfl
@[simp] theorem State.at_nozzleAt_eq (s : State) (t : Nat) (seg row x : Nat) : (s.at t).nozzleAt seg row x = s.nozzleAt seg row x := rfl
@[simp] theorem State.at_nozzleEntry_eq (s : State) (t : Nat) (seg row n : Nat) : (s.at t).nozzleEntry seg row n = s.nozzleEntry seg row n := rfl
@[simp] theorem State.at_fineDelay_eq (s : State) (t : Nat) (seg row n : Nat) : (s.at t).fineDelay seg row n = s.fineDelay seg row n := rfl
@[simp] theorem State.at_fineDelays_eq (s : State) (t : Nat) (seg row : Nat) : (s.at t).fineDelays seg row = s.fineDelays seg row := rfl
@[simp] theorem State.at_fineMax_eq (s : State) (t : Nat) (seg row : Nat) : (s.at t).fineMax seg row = s.fineMax seg row := rfl
@[simp] theorem State.at_hwmLine_eq (s : State) (t : Nat) : (s.at t).hwmLine = s.hwmLine := rfl
@[simp] theorem State.at_loaderOk_eq (s : State) (t : Nat) (env : BootEnv) (k : Nat) : (s.at t).loaderOk env k = s.loaderOk env k := rfl
@[simp] theorem State.at_chooseSlot_eq (s : State) (t : Nat) (env : BootEnv) : (s.at t).chooseSlot env = s.chooseSlot env := rfl
@[simp] theorem State.at_loadSlot_eq (s : State) (t : Nat) : (s.at t).loadSlot = s.loadSlot := rfl
@[simp] theorem State.at_calState_eq (s : State) (t : Nat) : (s.at t).calState = s.calState := rfl
@[simp] theorem State.at_slope_eq (s : State) (t : Nat) (k : Nat) : (s.at t).slope k = s.slope k := rfl
@[simp] theorem State.at_coeff_eq (s : State) (t : Nat) (i : Nat) : (s.at t).coeff i = s.coeff i := rfl
@[simp] theorem State.at_tempCoeffValue_eq (s : State) (t : Nat) : (s.at t).tempCoeffValue = s.tempCoeffValue := rfl
@[simp] theorem State.at_adcMicrovolts_eq (s : State) (t : Nat) (i c : Nat) : (s.at t).adcMicrovolts i c = s.adcMicrovolts i c := rfl
@[simp] theorem State.at_dacMeasurable_eq (s : State) (t : Nat) (a : Nat) : (s.at t).dacMeasurable a = s.dacMeasurable a := rfl
@[simp] theorem State.at_passResults_eq (s : State) (t : Nat) (r : CalPass) : (s.at t).passResults r = s.passResults r := rfl
@[simp] theorem State.at_agree_eq (s : State) (t : Nat) (i : Nat) (a b : Int × Int) : (s.at t).agree i a b = s.agree i a b := rfl
@[simp] theorem State.at_itemOutcome_eq (s : State) (t : Nat) (i : Nat) (a b : Option (Int × Int)) : (s.at t).itemOutcome i a b = s.itemOutcome i a b := rfl
@[simp] theorem State.at_cam_eq (s : State) (t : Nat) (k : Nat) : (s.at t).cam k = s.cam k := rfl
@[simp] theorem State.at_camRuns_eq (s : State) (t : Nat) (k : Nat) : (s.at t).camRuns k = s.camRuns k := rfl
@[simp] theorem State.at_freeRunning_eq (s : State) (t : Nat) (k : Nat) : (s.at t).freeRunning k = s.freeRunning k := rfl
@[simp] theorem State.at_camSwapPos_eq (s : State) (t : Nat) (k : Nat) : (s.at t).camSwapPos k = s.camSwapPos k := rfl
@[simp] theorem State.at_camSet_eq (s : State) (t : Nat) (k w : Nat) : (s.at t).camSet k w = s.camSet k w := rfl
@[simp] theorem State.at_genValues_eq (s : State) (t : Nat) (k : Nat) (g : Option Gen) : (s.at t).genValues k g = s.genValues k g := rfl
@[simp] theorem State.at_liveValues_eq (s : State) (t : Nat) (k : Nat) : (s.at t).liveValues k = s.liveValues k := rfl
@[simp] theorem State.at_newestValues_eq (s : State) (t : Nat) (k : Nat) : (s.at t).newestValues k = s.newestValues k := rfl
@[simp] theorem State.at_mayAdmit_eq (s : State) (t : Nat) (k : Nat) : (s.at t).mayAdmit k = s.mayAdmit k := rfl
@[simp] theorem State.at_swapDue_eq (s : State) (t : Nat) (k pos48 : Nat) : (s.at t).swapDue k pos48 = s.swapDue k pos48 := rfl
@[simp] theorem State.at_flatCorner_eq (s : State) (t : Nat) (k i j : Nat) : (s.at t).flatCorner k i j = s.flatCorner k i j := rfl
@[simp] theorem State.at_flatField_eq (s : State) (t : Nat) (k x y raw : Nat) : (s.at t).flatField k x y raw = s.flatField k x y raw := rfl
@[simp] theorem State.at_channels_eq (s : State) (t : Nat) (k : Nat) (lines : List (List Nat)) : (s.at t).channels k lines = s.channels k lines := rfl
@[simp] theorem State.at_statsWindow_eq (s : State) (t : Nat) (k h : Nat) : (s.at t).statsWindow k h = s.statsWindow k h := rfl
@[simp] theorem State.at_statsValid_eq (s : State) (t : Nat) (k : Nat) (f : CamFrame) : (s.at t).statsValid k f = s.statsValid k f := rfl
@[simp] theorem State.at_flatOk_eq (s : State) (t : Nat) (k : Nat) (bs : List Byte) : (s.at t).flatOk k bs = s.flatOk k bs := rfl
@[simp] theorem State.at_camPortOk_eq (s : State) (t : Nat) (k : Nat) : (s.at t).camPortOk k = s.camPortOk k := rfl
@[simp] theorem State.at_cmpDriven_eq (s : State) (t : Nat) (k : Nat) : (s.at t).cmpDriven k = s.cmpDriven k := rfl
@[simp] theorem State.at_unit_eq (s : State) (t : Nat) (k : Nat) : (s.at t).unit k = s.unit k := rfl
@[simp] theorem State.at_cmpList_eq (s : State) (t : Nat) (k : Nat) : (s.at t).cmpList k = s.cmpList k := rfl
@[simp] theorem State.at_cmpMatch_eq (s : State) (t : Nat) (k i : Nat) : (s.at t).cmpMatch k i = s.cmpMatch k i := rfl
@[simp] theorem State.at_cmpPassed_eq (s : State) (t : Nat) (k pos : Nat) : (s.at t).cmpPassed k pos = s.cmpPassed k pos := rfl
@[simp] theorem State.at_cmpNext_eq (s : State) (t : Nat) (k : Nat) : (s.at t).cmpNext k = s.cmpNext k := rfl
@[simp] theorem State.at_cmpIdle_eq (s : State) (t : Nat) (k : Nat) : (s.at t).cmpIdle k = s.cmpIdle k := rfl
@[simp] theorem State.at_encoDriven_eq (s : State) (t : Nat) : (s.at t).encoDriven = s.encoDriven := rfl
@[simp] theorem State.at_repTarget_eq (s : State) (t : Nat) : (s.at t).repTarget = s.repTarget := rfl
@[simp] theorem State.at_reaching_eq (s : State) (t : Nat) (row x : Nat) : (s.at t).reaching row x = s.reaching row x := rfl
@[simp] theorem State.at_printing_eq (s : State) (t : Nat) (set : JobSet) (printsEntry : Nat → Bool) (row k l x : Nat) : (s.at t).printing set printsEntry row k l x = s.printing set printsEntry row k l x := rfl
@[simp] theorem State.at_column_eq (s : State) (t : Nat) (set : JobSet) (bypass : Bool) (row k l x : Nat) : (s.at t).column set bypass row k l x = s.column set bypass row k l x := rfl
@[simp] theorem State.at_patternRow_eq (s : State) (t : Nat) (pattern rows level row l : Nat) : (s.at t).patternRow pattern rows level row l = s.patternRow pattern rows level row l := rfl
@[simp] theorem State.at_disp_eq (s : State) (t : Nat) (x : Nat) : (s.at t).disp x = s.disp x := rfl
@[simp] theorem State.at_timing_eq (s : State) (t : Nat) (x : Nat) : (s.at t).timing x = s.timing x := rfl
@[simp] theorem State.at_displaysRun_eq (s : State) (t : Nat) : (s.at t).displaysRun = s.displaysRun := rfl
@[simp] theorem State.at_previewOf_eq (s : State) (t : Nat) (x : Nat) : (s.at t).previewOf x = s.previewOf x := rfl
@[simp] theorem State.at_dispChange_eq (s : State) (t : Nat) (x : Nat) : (s.at t).dispChange x = s.dispChange x := rfl
@[simp] theorem State.at_dispPixel_eq (s : State) (t : Nat) (x col line : Nat) : (s.at t).dispPixel x col line = s.dispPixel x col line := rfl
@[simp] theorem State.at_dispState_eq (s : State) (t : Nat) (x : Nat) : (s.at t).dispState x = s.dispState x := rfl
@[simp] theorem State.at_graphicsOk_eq (s : State) (t : Nat) (x n : Nat) : (s.at t).graphicsOk x n = s.graphicsOk x n := rfl
@[simp] theorem State.at_channel_eq (s : State) (t : Nat) (c : Nat) : (s.at t).channel c = s.channel c := rfl
@[simp] theorem State.at_allPasses_eq (s : State) (t : Nat) : (s.at t).allPasses = s.allPasses := rfl
@[simp] theorem State.at_marginOk_eq (s : State) (t : Nat) (v : Nat) : (s.at t).marginOk v = s.marginOk v := rfl
@[simp] theorem State.at_nowRefusal_eq (s : State) (t : Nat) (key v : Nat) : (s.at t).nowRefusal key v = s.nowRefusal key v := rfl
@[simp] theorem State.at_alignRows_eq (s : State) (t : Nat) (key v : Nat) : (s.at t).alignRows key v = s.alignRows key v := rfl
@[simp] theorem State.at_domOk_eq (s : State) (t : Nat) (idx : Nat) (bs : List Byte) : (s.at t).domOk idx bs = s.domOk idx bs := rfl
@[simp] theorem State.at_domRefused_eq (s : State) (t : Nat) (idx : Nat) : (s.at t).domRefused idx = s.domRefused idx := rfl
@[simp] theorem State.at_recordFail_eq (s : State) (t : Nat) (idx : Nat) : (s.at t).recordFail idx = s.recordFail idx := rfl
@[simp] theorem State.at_armFail_eq (s : State) (t : Nat) : (s.at t).armFail = s.armFail := rfl
@[simp] theorem State.at_recordRefusal_eq (s : State) (t : Nat) (idx : Nat) (old : State) : (s.at t).recordRefusal idx old = s.recordRefusal idx old := rfl
@[simp] theorem State.at_classEntry_eq (s : State) (t : Nat) (b c : Nat) : (s.at t).classEntry b c = s.classEntry b c := rfl
@[simp] theorem State.at_safeClassSevere_eq (s : State) (t : Nat) (b : Nat) : (s.at t).safeClassSevere b = s.safeClassSevere b := rfl
@[simp] theorem State.at_composedAt_eq (s : State) (t : Nat) (w : Nat) : (s.at t).composedAt w = s.composedAt w := rfl
@[simp] theorem State.at_outside_eq (s : State) (t : Nat) (w : Nat) : (s.at t).outside w = s.outside w := rfl
@[simp] theorem State.at_outsideRun_eq (s : State) (t : Nat) (w n : Nat) : (s.at t).outsideRun w n = s.outsideRun w n := rfl
@[simp] theorem State.at_adoptsAt_eq (s : State) (t : Nat) (seg row w : Nat) : (s.at t).adoptsAt seg row w = s.adoptsAt seg row w := rfl
@[simp] theorem State.at_ownersOf_eq (s : State) (t : Nat) (w d : Nat) (fines : List Nat) : (s.at t).ownersOf w d fines = s.ownersOf w d fines := rfl
@[simp] theorem State.at_fireLevels_eq (s : State) (t : Nat) (seg row w d mask : Nat) (fines : List Nat) : (s.at t).fireLevels seg row w d mask fines = s.fireLevels seg row w d mask fines := rfl
@[simp] theorem State.at_lineSkips_eq (s : State) (t : Nat) (row line : Nat) : (s.at t).lineSkips row line = s.lineSkips row line := rfl
@[simp] theorem State.at_slotAt_eq (s : State) (t : Nat) (seg row w : Nat) : (s.at t).slotAt seg row w = s.slotAt seg row w := rfl
@[simp] theorem State.at_nextPulse_eq (s : State) (t : Nat) (seg : Nat) : (s.at t).nextPulse seg = s.nextPulse seg := rfl
@[simp] theorem State.at_pwEffectiveValue_eq (s : State) (t : Nat) : (s.at t).pwEffectiveValue = s.pwEffectiveValue := rfl
@[simp] theorem State.at_limitPeriodValue_eq (s : State) (t : Nat) : (s.at t).limitPeriodValue = s.limitPeriodValue := rfl
@[simp] theorem State.at_interlockState_eq (s : State) (t : Nat) (i : Nat) : (s.at t).interlockState i = s.interlockState i := rfl
@[simp] theorem State.at_mirrorHears_eq (s : State) (t : Nat) : (s.at t).mirrorHears = s.mirrorHears := rfl
@[simp] theorem State.at_allowed_eq (s : State) (t : Nat) (serial : Nat) (digest : List Byte) : (s.at t).allowed serial digest = s.allowed serial digest := rfl
@[simp] theorem State.at_quoteFails_eq (s : State) (t : Nat) (p : Partner) (q : QuoteMsg) : (s.at t).quoteFails p q = s.quoteFails p q := rfl
@[simp] theorem State.at_sourceCount_eq (s : State) (t : Nat) : (s.at t).sourceCount = s.sourceCount := rfl
@[simp] theorem State.at_atCount_eq (s : State) (t : Nat) (count : Int) : (s.at t).atCount count = s.atCount count := rfl
@[simp] theorem State.at_swapping_eq (s : State) (t : Nat) : (s.at t).swapping = s.swapping := rfl
@[simp] theorem State.at_graftRuns_eq (s : State) (t : Nat) : (s.at t).graftRuns = s.graftRuns := rfl
@[simp] theorem State.at_delayMax_eq (s : State) (t : Nat) : (s.at t).delayMax = s.delayMax := rfl
@[simp] theorem State.at_syncReached_eq (s : State) (t : Nat) : (s.at t).syncReached = s.syncReached := rfl
@[simp] theorem State.at_partnerReady_eq (s : State) (t : Nat) : (s.at t).partnerReady = s.partnerReady := rfl
@[simp] theorem State.at_takenPages_eq (s : State) (t : Nat) : (s.at t).takenPages = s.takenPages := rfl
@[simp] theorem State.at_pulsedBefore_eq (s : State) (t : Nat) (b : Nat) : (s.at t).pulsedBefore b = s.pulsedBefore b := rfl
@[simp] theorem State.at_lineReady_eq (s : State) (t : Nat) (seg : Nat) : (s.at t).lineReady seg = s.lineReady seg := rfl
@[simp] theorem State.at_laneCarries_eq (s : State) (t : Nat) (n : Nat) : (s.at t).laneCarries n = s.laneCarries n := rfl
@[simp] theorem State.at_nextFirePos_eq (s : State) (t : Nat) (seg row : Nat) : (s.at t).nextFirePos seg row = s.nextFirePos seg row := rfl
@[simp] theorem State.at_pwTargets_eq (s : State) (t : Nat) (seg row : Nat) (j : JobSet) : (s.at t).pwTargets seg row j = s.pwTargets seg row j := rfl
@[simp] theorem State.at_limitPeriod_eq (s : State) (t : Nat) (seg row : Nat) : (s.at t).limitPeriod seg row = s.limitPeriod seg row := rfl
@[simp] theorem State.at_rateLimit_eq (s : State) (t : Nat) : (s.at t).rateLimit = s.rateLimit := rfl
@[simp] theorem State.at_tripped_eq (s : State) (t : Nat) (i : Nat) : (s.at t).tripped i = s.tripped i := rfl
@[simp] theorem State.at_latchedTrip_eq (s : State) (t : Nat) (i : Nat) : (s.at t).latchedTrip i = s.latchedTrip i := rfl
@[simp] theorem State.at_inhibited_eq (s : State) (t : Nat) : (s.at t).inhibited = s.inhibited := rfl
@[simp] theorem State.at_firing_eq (s : State) (t : Nat) : (s.at t).firing = s.firing := rfl
@[simp] theorem State.at_sendsInhibit_eq (s : State) (t : Nat) : (s.at t).sendsInhibit = s.sendsInhibit := rfl
@[simp] theorem State.at_idleWord_eq (s : State) (t : Nat) (seg seq : Nat) : (s.at t).idleWord seg seq = s.idleWord seg seq := rfl
@[simp] theorem State.at_received_eq (s : State) (t : Nat) (idx : Nat) : (s.at t).received idx = s.received idx := rfl
@[simp] theorem State.at_refusalBody_eq (s : State) (t : Nat) (opcode : Nat) (b : List Byte) (mine : Bool) : (s.at t).refusalBody opcode b mine = s.refusalBody opcode b mine := rfl
@[simp] theorem State.at_proofsOk_eq (s : State) (t : Nat) (c : Challenge) (key : List Byte) (f : Frame) : (s.at t).proofsOk c key f = s.proofsOk c key f := rfl
@[simp] theorem State.at_identifyBody_eq (s : State) (t : Nat) : (s.at t).identifyBody = s.identifyBody := rfl
@[simp] theorem State.at_isStaged_eq (s : State) (t : Nat) (key : Nat) : (s.at t).isStaged key = s.isStaged key := rfl
@[simp] theorem State.at_slotUnread_eq (s : State) (t : Nat) (idx : Nat) : (s.at t).slotUnread idx = s.slotUnread idx := rfl
@[simp] theorem State.at_authorityRefused_eq (s : State) (t : Nat) (key : Nat) : (s.at t).authorityRefused key = s.authorityRefused key := rfl
@[simp] theorem State.at_staged_eq (s : State) (t : Nat) (idx : Nat) : (s.at t).staged idx = s.staged idx := rfl
@[simp] theorem State.at_segRefused_eq (s : State) (t : Nat) (idx : Nat) : (s.at t).segRefused idx = s.segRefused idx := rfl
@[simp] theorem State.at_online_eq (s : State) (t : Nat) : (s.at t).online = s.online := rfl
@[simp] theorem State.at_wantsWithdraw_eq (s : State) (t : Nat) : (s.at t).wantsWithdraw = s.wantsWithdraw := rfl
@[simp] theorem State.at_lanesUp_eq (s : State) (t : Nat) (first : Nat) : (s.at t).lanesUp first = s.lanesUp first := rfl
@[simp] theorem State.at_setOf_eq (s : State) (t : Nat) (job : Nat) : (s.at t).setOf job = s.setOf job := rfl
@[simp] theorem State.at_takeSet_eq (s : State) (t : Nat) (job kind : Nat) : (s.at t).takeSet job kind = s.takeSet job kind := rfl
@[simp] theorem State.at_backlogCredits_eq (s : State) (t : Nat) : (s.at t).backlogCredits = s.backlogCredits := rfl
@[simp] theorem State.at_refDepth_eq (s : State) (t : Nat) : (s.at t).refDepth = s.refDepth := rfl
@[simp] theorem State.at_refHas_eq (s : State) (t : Nat) (w : Int) : (s.at t).refHas w = s.refHas w := rfl
@[simp] theorem State.at_refPixel_eq (s : State) (t : Nat) (k i m : Nat) : (s.at t).refPixel k i m = s.refPixel k i m := rfl
@[simp] theorem State.at_spanAt_eq (s : State) (t : Nat) (w : Nat) : (s.at t).spanAt w = s.spanAt w := rfl
@[simp] theorem State.at_resp_eq (s : State) (t : Nat) (cam c k a : Nat) : (s.at t).resp cam c k a = s.resp cam c k a := rfl
@[simp] theorem State.at_predictRef_eq (s : State) (t : Nat) (cam c : Nat) (i m : Nat) (sh : Option PlaneShift) : (s.at t).predictRef cam c i m sh = s.predictRef cam c i m sh := rfl
@[simp] theorem State.at_predict_eq (s : State) (t : Nat) (t9 : Shot) (c u r : Nat) (ax ay : Int) (sh : Option PlaneShift) : (s.at t).predict t9 c u r ax ay sh = s.predict t9 c u r ax ay sh := rfl
@[simp] theorem State.at_attributed_eq (s : State) (t : Nat) (cam c k : Nat) : (s.at t).attributed cam c k = s.attributed cam c k := rfl
@[simp] theorem State.at_rowsOfChannel_eq (s : State) (t : Nat) (cam c : Nat) (j : JobSet) : (s.at t).rowsOfChannel cam c j = s.rowsOfChannel cam c j := rfl
@[simp] theorem State.at_attributableRows_eq (s : State) (t : Nat) (t9 : Shot) (j : JobSet) : (s.at t).attributableRows t9 j = s.attributableRows t9 j := rfl
@[simp] theorem State.at_judgedFrom_eq (s : State) (t : Nat) (seg row n : Nat) : (s.at t).judgedFrom seg row n = s.judgedFrom seg row n := rfl
@[simp] theorem State.at_anchors_eq (s : State) (t : Nat) (t9 : Shot) (p : Span) (px : List (Nat × Nat)) : (s.at t).anchors t9 p px = s.anchors t9 p px := rfl
@[simp] theorem State.at_spansOf_eq (s : State) (t : Nat) (t9 : Shot) : (s.at t).spansOf t9 = s.spansOf t9 := rfl
@[simp] theorem State.at_observedLines_eq (s : State) (t : Nat) (f : FrameFindings) (seg row n : Nat) : (s.at t).observedLines f seg row n = s.observedLines f seg row n := rfl
@[simp] theorem State.at_registerMean_eq (s : State) (t : Nat) (fs : List FrameFindings) (key : Nat) : (s.at t).registerMean fs key = s.registerMean fs key := rfl
@[simp] theorem State.at_densityStepOf_eq (s : State) (t : Nat) (rho : Int) : (s.at t).densityStepOf rho = s.densityStepOf rho := rfl
@[simp] theorem State.at_cameraFail_eq (s : State) (t : Nat) (j : JobSet) : (s.at t).cameraFail j = s.cameraFail j := rfl
@[simp] theorem State.at_capacity_eq (s : State) (t : Nat) : (s.at t).capacity = s.capacity := rfl
@[simp] theorem State.at_largestDelay_eq (s : State) (t : Nat) (row : Nat) : (s.at t).largestDelay row = s.largestDelay row := rfl
@[simp] theorem State.at_plan_eq (s : State) (t : Nat) : (s.at t).plan = s.plan := rfl
@[simp] theorem State.at_depthOk_eq (s : State) (t : Nat) (row d : Nat) : (s.at t).depthOk row d = s.depthOk row d := rfl
@[simp] theorem State.at_armRefusal_eq (s : State) (t : Nat) (mode boundary flags : Nat) (graftActive : Bool) : (s.at t).armRefusal mode boundary flags graftActive = s.armRefusal mode boundary flags graftActive := rfl
@[simp] theorem State.at_armBoundary_eq (s : State) (t : Nat) (mode boundary : Nat) : (s.at t).armBoundary mode boundary = s.armBoundary mode boundary := rfl
@[simp] theorem State.at_shadowOpen_eq (s : State) (t : Nat) : (s.at t).shadowOpen = s.shadowOpen := rfl
@[simp] theorem State.at_laneEnabled_eq (s : State) (t : Nat) (n : Nat) : (s.at t).laneEnabled n = s.laneEnabled n := rfl
@[simp] theorem State.at_laneMax_eq (s : State) (t : Nat) (n : Nat) : (s.at t).laneMax n = s.laneMax n := rfl
@[simp] theorem State.at_dieTemp_eq (s : State) (t : Nat) : (s.at t).dieTemp = s.dieTemp := rfl
@[simp] theorem State.at_leads_eq (s : State) (t : Nat) (n peer : Nat) : (s.at t).leads n peer = s.leads n peer := rfl
@[simp] theorem State.at_control_eq (s : State) (t : Nat) : (s.at t).control = s.control := rfl
@[simp] theorem State.at_loops_eq (s : State) (t : Nat) (i : Nat) : (s.at t).loops i = s.loops i := rfl
@[simp] theorem State.at_objectBytes_eq (s : State) (t : Nat) (key : Nat) : (s.at t).objectBytes key = s.objectBytes key := rfl
@[simp] theorem State.at_axis_eq (s : State) (t : Nat) (a : Nat) : (s.at t).axis a = s.axis a := rfl
@[simp] theorem State.at_rampOf_eq (s : State) (t : Nat) (a : Nat) : (s.at t).rampOf a = s.rampOf a := rfl
@[simp] theorem State.at_linked_eq (s : State) (t : Nat) : (s.at t).linked = s.linked := rfl
@[simp] theorem State.at_slaved_eq (s : State) (t : Nat) : (s.at t).slaved = s.slaved := rfl
@[simp] theorem State.at_offLevel_eq (s : State) (t : Nat) : (s.at t).offLevel = s.offLevel := rfl
@[simp] theorem State.at_motionBarred_eq (s : State) (t : Nat) (a : Nat) : (s.at t).motionBarred a = s.motionBarred a := rfl
@[simp] theorem State.at_liftBarred_eq (s : State) (t : Nat) (a : Nat) : (s.at t).liftBarred a = s.liftBarred a := rfl
@[simp] theorem State.at_namedAxes_eq (s : State) (t : Nat) (v : Nat) : (s.at t).namedAxes v = s.namedAxes v := rfl
@[simp] theorem State.at_rampPending_eq (s : State) (t : Nat) (a : Nat) : (s.at t).rampPending a = s.rampPending a := rfl
@[simp] theorem State.at_axisOk_eq (s : State) (t : Nat) (a : Nat) : (s.at t).axisOk a = s.axisOk a := rfl
@[simp] theorem State.at_chain_eq (s : State) (t : Nat) (m : Nat) : (s.at t).chain m = s.chain m := rfl
@[simp] theorem State.at_inDram_eq (s : State) (t : Nat) (a n : Nat) : (s.at t).inDram a n = s.inDram a n := rfl
@[simp] theorem State.at_descriptorOk_eq (s : State) (t : Nat) (d : Descriptor) : (s.at t).descriptorOk d = s.descriptorOk d := rfl
@[simp] theorem State.at_captureBase_eq (s : State) (t : Nat) : (s.at t).captureBase = s.captureBase := rfl
@[simp] theorem State.at_memByte_eq (s : State) (t : Nat) (d a : Nat) : (s.at t).memByte d a = s.memByte d a := rfl
@[simp] theorem State.at_move_eq (s : State) (t : Nat) (m : Nat) : (s.at t).move m = s.move m := rfl
@[simp] theorem State.at_dmaState_eq (s : State) (t : Nat) (n : Nat) : (s.at t).dmaState n = s.dmaState n := rfl
@[simp] theorem State.at_window_eq (s : State) (t : Nat) (m : Nat) (d : Descriptor) : (s.at t).window m d = s.window m d := rfl
@[simp] theorem State.at_moveAt_eq (s : State) (t : Nat) (m : Nat) : (s.at t).moveAt m = s.moveAt m := rfl
@[simp] theorem State.at_chainFail_eq (s : State) (t : Nat) (m : Nat) : (s.at t).chainFail m = s.chainFail m := rfl
@[simp] theorem State.at_domInUse_eq (s : State) (t : Nat) (idx : Nat) : (s.at t).domInUse idx = s.domInUse idx := rfl
@[simp] theorem State.at_channelsIn_eq (s : State) (t : Nat) (st : Nat) : (s.at t).channelsIn st = s.channelsIn st := rfl
@[simp] theorem State.at_effective_eq (s : State) (t : Nat) (key : Nat) : (s.at t).effective key = s.effective key := rfl
@[simp] theorem State.at_awake_eq (s : State) (t : Nat) : (s.at t).awake = s.awake := rfl
@[simp] theorem State.at_rowPosOk_eq (s : State) (t : Nat) (v : Nat) : (s.at t).rowPosOk v = s.rowPosOk v := rfl
@[simp] theorem State.at_loopRow_eq (s : State) (t : Nat) (key : Nat) : (s.at t).loopRow key = s.loopRow key := rfl
@[simp] theorem State.at_mapDiff_eq (s : State) (t : Nat) (seg : Nat) (bs : List Byte) : (s.at t).mapDiff seg bs = s.mapDiff seg bs := rfl
@[simp] theorem State.at_mapSerial_eq (s : State) (t : Nat) (seg : Nat) : (s.at t).mapSerial seg = s.mapSerial seg := rfl
@[simp] theorem State.at_columnPrints_eq (s : State) (t : Nat) (row x : Nat) : (s.at t).columnPrints row x = s.columnPrints row x := rfl
@[simp] theorem State.at_uncoverableAt_eq (s : State) (t : Nat) (row x : Nat) : (s.at t).uncoverableAt row x = s.uncoverableAt row x := rfl
@[simp] theorem State.at_columnSegment_eq (s : State) (t : Nat) (row x : Nat) : (s.at t).columnSegment row x = s.columnSegment row x := rfl
@[simp] theorem State.at_countState_eq (s : State) (t : Nat) (st : Nat) : (s.at t).countState st = s.countState st := rfl
@[simp] theorem State.at_testOpen_eq (s : State) (t : Nat) : (s.at t).testOpen = s.testOpen := rfl
@[simp] theorem State.at_dashState_eq (s : State) (t : Nat) (d : Bool × Nat × Nat) : (s.at t).dashState d = s.dashState d := rfl
@[simp] theorem State.at_rdB_eq (s : State) (t : Nat) (k : Nat) : (s.at t).rdB k = s.rdB k := rfl
@[simp] theorem State.at_rdI_eq (s : State) (t : Nat) (w k : Nat) : (s.at t).rdI w k = s.rdI w k := rfl
@[simp] theorem State.at_shadowRd_eq (s : State) (t : Nat) (k : Nat) : (s.at t).shadowRd k = s.shadowRd k := rfl
@[simp] theorem State.at_activeRd_eq (s : State) (t : Nat) (k : Nat) : (s.at t).activeRd k = s.activeRd k := rfl
@[simp] theorem State.at_domRead_eq (s : State) (t : Nat) (idx o n : Nat) : (s.at t).domRead idx o n = s.domRead idx o n := rfl
@[simp] theorem State.at_domAll_eq (s : State) (t : Nat) (idx : Nat) : (s.at t).domAll idx = s.domAll idx := rfl
@[simp] theorem State.at_lastFire_eq (s : State) (t : Nat) (seg row w : Nat) : (s.at t).lastFire seg row w = s.lastFire seg row w := rfl
@[simp] theorem State.at_inspects_eq (s : State) (t : Nat) (k : Nat) (j : JobSet) : (s.at t).inspects k j = s.inspects k j := rfl
@[simp] theorem State.at_begun_eq (s : State) (t : Nat) (p : Page) : (s.at t).begun p = s.begun p := rfl
@[simp] theorem State.at_firstDue_eq (s : State) (t : Nat) : (s.at t).firstDue = s.firstDue := rfl
@[simp] theorem State.at_setFor_eq (s : State) (t : Nat) (job : Nat) : (s.at t).setFor job = s.setFor job := rfl
@[simp] theorem State.at_getSet_eq (s : State) (t : Nat) (act : Bool) : (s.at t).getSet act = s.getSet act := rfl
@[simp] theorem State.at_sets_eq (s : State) (t : Nat) : (s.at t).sets = s.sets := rfl
@[simp] theorem State.at_openPages_eq (s : State) (t : Nat) : (s.at t).openPages = s.openPages := rfl
@[simp] theorem State.at_unfinishedPages_eq (s : State) (t : Nat) : (s.at t).unfinishedPages = s.unfinishedPages := rfl
@[simp] theorem State.at_lastEnd_eq (s : State) (t : Nat) : (s.at t).lastEnd = s.lastEnd := rfl
@[simp] theorem State.at_incomingJob_eq (s : State) (t : Nat) : (s.at t).incomingJob = s.incomingJob := rfl
@[simp] theorem State.at_activeJob_eq (s : State) (t : Nat) : (s.at t).activeJob = s.activeJob := rfl
@[simp] theorem State.at_camDist_eq (s : State) (t : Nat) (k : Nat) : (s.at t).camDist k = s.camDist k := rfl
@[simp] theorem State.at_camTriggered_eq (s : State) (t : Nat) (k : Nat) : (s.at t).camTriggered k = s.camTriggered k := rfl
@[simp] theorem State.at_camFarthest_eq (s : State) (t : Nat) : (s.at t).camFarthest = s.camFarthest := rfl
@[simp] theorem State.at_jobGapG_eq (s : State) (t : Nat) (a b : JobSet) : (s.at t).jobGapG a b = s.jobGapG a b := rfl
@[simp] theorem State.at_switchPos_eq (s : State) (t : Nat) (seg row : Nat) : (s.at t).switchPos seg row = s.switchPos seg row := rfl
@[simp] theorem State.at_rowSet_eq (s : State) (t : Nat) (seg row w : Nat) : (s.at t).rowSet seg row w = s.rowSet seg row w := rfl
@[simp] theorem State.at_lineSet_eq (s : State) (t : Nat) (w : Nat) : (s.at t).lineSet w = s.lineSet w := rfl
@[simp] theorem State.at_debugReachable_eq (s : State) (t : Nat) : (s.at t).debugReachable = s.debugReachable := rfl
@[simp] theorem State.at_debugKey_eq (s : State) (t : Nat) : (s.at t).debugKey = s.debugKey := rfl
@[simp] theorem State.at_moving_eq (s : State) (t : Nat) : (s.at t).moving = s.moving := rfl
@[simp] theorem State.at_canWake_eq (s : State) (t : Nat) (target : Nat) : (s.at t).canWake target = s.canWake target := rfl
@[simp] theorem State.at_speedPlace_eq (s : State) (t : Nat) : (s.at t).speedPlace = s.speedPlace := rfl
@[simp] theorem State.at_ptpRuns_eq (s : State) (t : Nat) : (s.at t).ptpRuns = s.ptpRuns := rfl
@[simp] theorem State.at_fromMaster_eq (s : State) (t : Nat) (m : PtpMsg) : (s.at t).fromMaster m = s.fromMaster m := rfl
@[simp] theorem State.at_identityValue_eq (s : State) (t : Nat) (sub : Nat) : (s.at t).identityValue sub = s.identityValue sub := rfl
@[simp] theorem State.at_bootValue_eq (s : State) (t : Nat) (sub : Nat) : (s.at t).bootValue sub = s.bootValue sub := rfl
@[simp] theorem State.at_slotValue_eq (s : State) (t : Nat) (sub : Nat) : (s.at t).slotValue sub = s.slotValue sub := rfl
@[simp] theorem State.at_trustValue_eq (s : State) (t : Nat) (key : Nat) : (s.at t).trustValue key = s.trustValue key := rfl
@[simp] theorem State.at_powerValue_eq (s : State) (t : Nat) (key : Nat) : (s.at t).powerValue key = s.powerValue key := rfl
@[simp] theorem State.at_faultValue_eq (s : State) (t : Nat) (b sub : Nat) : (s.at t).faultValue b sub = s.faultValue b sub := rfl
@[simp] theorem State.at_safeCausesValue_eq (s : State) (t : Nat) : (s.at t).safeCausesValue = s.safeCausesValue := rfl
@[simp] theorem State.at_severeBlocksValue_eq (s : State) (t : Nat) : (s.at t).severeBlocksValue = s.severeBlocksValue := rfl
@[simp] theorem State.at_safeValue_eq (s : State) (t : Nat) (key : Nat) : (s.at t).safeValue key = s.safeValue key := rfl
@[simp] theorem State.at_backgroundValue_eq (s : State) (t : Nat) (key : Nat) : (s.at t).backgroundValue key = s.backgroundValue key := rfl
@[simp] theorem State.at_setValue_eq (s : State) (t : Nat) (sub : Nat) : (s.at t).setValue sub = s.setValue sub := rfl
@[simp] theorem State.at_ingestValue_eq (s : State) (t : Nat) (sub : Nat) : (s.at t).ingestValue sub = s.ingestValue sub := rfl
@[simp] theorem State.at_queueValue_eq (s : State) (t : Nat) (sub : Nat) : (s.at t).queueValue sub = s.queueValue sub := rfl
@[simp] theorem State.at_mirrorValue_eq (s : State) (t : Nat) (sub : Nat) : (s.at t).mirrorValue sub = s.mirrorValue sub := rfl
@[simp] theorem State.at_firingValue_eq (s : State) (t : Nat) : (s.at t).firingValue = s.firingValue := rfl
@[simp] theorem State.at_pressValue_eq (s : State) (t : Nat) (key : Nat) : (s.at t).pressValue key = s.pressValue key := rfl
@[simp] theorem State.at_headValue_eq (s : State) (t : Nat) (seg sub : Nat) : (s.at t).headValue seg sub = s.headValue seg sub := rfl
@[simp] theorem State.at_camValue_eq (s : State) (t : Nat) (key : Nat) : (s.at t).camValue key = s.camValue key := rfl
@[simp] theorem State.at_channelShare_eq (s : State) (t : Nat) (n : Nat) : (s.at t).channelShare n = s.channelShare n := rfl
@[simp] theorem State.at_channelPriority_eq (s : State) (t : Nat) (n : Nat) : (s.at t).channelPriority n = s.channelPriority n := rfl
@[simp] theorem State.at_groundValue_eq (s : State) (t : Nat) (key : Nat) : (s.at t).groundValue key = s.groundValue key := rfl
@[simp] theorem State.at_graftValue_eq (s : State) (t : Nat) (sub : Nat) : (s.at t).graftValue sub = s.graftValue sub := rfl
@[simp] theorem State.at_axisValue_eq (s : State) (t : Nat) (a sub : Nat) : (s.at t).axisValue a sub = s.axisValue a sub := rfl
@[simp] theorem State.at_lateValue_eq (s : State) (t : Nat) (key : Nat) : (s.at t).lateValue key = s.lateValue key := rfl
@[simp] theorem State.at_openValues_eq (s : State) (t : Nat) (key : Nat) : (s.at t).openValues key = s.openValues key := rfl
@[simp] theorem State.at_domHead_eq (s : State) (t : Nat) (idx : Nat) : (s.at t).domHead idx = s.domHead idx := rfl
@[simp] theorem State.at_domBytes_eq (s : State) (t : Nat) (idx o n : Nat) : (s.at t).domBytes idx o n = s.domBytes idx o n := rfl
@[simp] theorem State.at_activeDom_eq (s : State) (t : Nat) (idx : Nat) : (s.at t).activeDom idx = s.activeDom idx := rfl
@[simp] theorem State.at_segHead_eq (s : State) (t : Nat) (idx sub : Nat) : (s.at t).segHead idx sub = s.segHead idx sub := rfl
@[simp] theorem State.at_infoBody_eq (s : State) (t : Nat) (r : ObjRow) (idx sub : Nat) (staged : Bool) : (s.at t).infoBody r idx sub staged = s.infoBody r idx sub staged := rfl
@[simp] theorem State.at_causePresent_eq (s : State) (t : Nat) : (s.at t).causePresent = s.causePresent := rfl
@[simp] theorem State.at_meas_eq (s : State) (t : Nat) (n : Nat) : (s.at t).meas n = s.meas n := rfl
@[simp] theorem State.at_lifecycle_eq (s : State) (t : Nat) : (s.at t).lifecycle = s.lifecycle := rfl
@[simp] theorem State.at_bootImage_eq (s : State) (t : Nat) : (s.at t).bootImage = s.bootImage := rfl
@[simp] theorem State.at_sessionKey_eq (s : State) (t : Nat) : (s.at t).sessionKey = s.sessionKey := rfl
@[simp] theorem State.at_bodyNow_eq (s : State) (t : Nat) : (s.at t).bodyNow = s.bodyNow := rfl
@[simp] theorem State.at_storedObjs_eq (s : State) (t : Nat) : (s.at t).storedObjs = s.storedObjs := rfl
@[simp] theorem State.at_livePositions_eq (s : State) (t : Nat) : (s.at t).livePositions = s.livePositions := rfl
@[simp] theorem State.at_storePos_eq (s : State) (t : Nat) (start : Nat) : (s.at t).storePos start = s.storePos start := rfl
@[simp] theorem State.at_storeBusy_eq (s : State) (t : Nat) : (s.at t).storeBusy = s.storeBusy := rfl
@[simp] theorem State.at_returnBody_eq (s : State) (t : Nat) : (s.at t).returnBody = s.returnBody := rfl
@[simp] theorem State.at_programmingSlot_eq (s : State) (t : Nat) (k : Nat) : (s.at t).programmingSlot k = s.programmingSlot k := rfl
@[simp] theorem State.at_telemetryCounts_eq (s : State) (t : Nat) : (s.at t).telemetryCounts = s.telemetryCounts := rfl
@[simp] theorem State.at_maxErases_eq (s : State) (t : Nat) : (s.at t).maxErases = s.maxErases := rfl
@[simp] theorem State.at_pageToCompose_eq (s : State) (t : Nat) (w : Nat) : (s.at t).pageToCompose w = s.pageToCompose w := rfl
@[simp] theorem State.at_keepDepth_eq (s : State) (t : Nat) : (s.at t).keepDepth = s.keepDepth := rfl
@[simp] theorem State.at_sourceRatio_eq (s : State) (t : Nat) (source : Nat) : (s.at t).sourceRatio source = s.sourceRatio source := rfl
@[simp] theorem State.at_standstillPs_eq (s : State) (t : Nat) : (s.at t).standstillPs = s.standstillPs := rfl
@[simp] theorem State.at_counting_eq (s : State) (t : Nat) : (s.at t).counting = s.counting := rfl
@[simp] theorem State.at_scaleOk_eq (s : State) (t : Nat) (pitch : Nat) : (s.at t).scaleOk pitch = s.scaleOk pitch := rfl
@[simp] theorem State.at_strobeCode_eq (s : State) (t : Nat) (i bins sum : Nat) : (s.at t).strobeCode i bins sum = s.strobeCode i bins sum := rfl
@[simp] theorem State.at_cciEntries_eq (s : State) (t : Nat) (k sect exposure gain : Nat) : (s.at t).cciEntries k sect exposure gain = s.cciEntries k sect exposure gain := rfl
@[simp] theorem State.at_sensorReading_eq (s : State) (t : Nat) (k c : Nat) : (s.at t).sensorReading k c = s.sensorReading k c := rfl
@[simp] theorem State.at_coilCurrent_eq (s : State) (t : Nat) (a : Nat) : (s.at t).coilCurrent a = s.coilCurrent a := rfl
@[simp] theorem State.at_targetCurrent_eq (s : State) (t : Nat) (a p : Nat) : (s.at t).targetCurrent a p = s.targetCurrent a p := rfl
@[simp] theorem State.at_threshold_eq (s : State) (t : Nat) (a p : Nat) (upper : Bool) : (s.at t).threshold a p upper = s.threshold a p upper := rfl
@[simp] theorem State.at_dacLevel_eq (s : State) (t : Nat) (i c : Nat) : (s.at t).dacLevel i c = s.dacLevel i c := rfl
@[simp] theorem State.at_nextAngle_eq (s : State) (t : Nat) (a : Nat) (up : Bool) : (s.at t).nextAngle a up = s.nextAngle a up := rfl
@[simp] theorem State.at_meanCurrent_eq (s : State) (t : Nat) (a p code : Nat) : (s.at t).meanCurrent a p code = s.meanCurrent a p code := rfl
@[simp] theorem State.at_nextOffset_eq (s : State) (t : Nat) (a p : Nat) (mean offset : Int) : (s.at t).nextOffset a p mean offset = s.nextOffset a p mean offset := rfl
@[simp] theorem State.at_encoWant_eq (s : State) (t : Nat) : (s.at t).encoWant = s.encoWant := rfl
@[simp] theorem State.at_inOverlap_eq (s : State) (t : Nat) (b row x : Nat) : (s.at t).inOverlap b row x = s.inOverlap b row x := rfl
@[simp] theorem State.at_frameLines_eq (s : State) (t : Nat) (x : Nat) : (s.at t).frameLines x = s.frameLines x := rfl
@[simp] theorem State.at_unassembled_eq (s : State) (t : Nat) (seg row w : Nat) : (s.at t).unassembled seg row w = s.unassembled seg row w := rfl
@[simp] theorem State.at_pulseInstant_eq (s : State) (t : Nat) (seg : Nat) (p : Placed) : (s.at t).pulseInstant seg p = s.pulseInstant seg p := rfl
@[simp] theorem State.at_holding_eq (s : State) (t : Nat) : (s.at t).holding = s.holding := rfl
@[simp] theorem State.at_firesAt_eq (s : State) (t : Nat) (w : Nat) : (s.at t).firesAt w = s.firesAt w := rfl
@[simp] theorem State.at_levelActive_eq (s : State) (t : Nat) (i : Nat) : (s.at t).levelActive i = s.levelActive i := rfl
@[simp] theorem State.at_limitAt_eq (s : State) (t : Nat) (seg row w : Nat) : (s.at t).limitAt seg row w = s.limitAt seg row w := rfl
@[simp] theorem State.at_arbiterOk_eq (s : State) (t : Nat) (c : Challenge) (f : Frame) : (s.at t).arbiterOk c f = s.arbiterOk c f := rfl
@[simp] theorem State.at_isUnmirrored_eq (s : State) (t : Nat) (job page : Nat) : (s.at t).isUnmirrored job page = s.isUnmirrored job page := rfl
@[simp] theorem State.at_inComplete_eq (s : State) (t : Nat) (p : TplPacket) : (s.at t).inComplete p = s.inComplete p := rfl
@[simp] theorem State.at_descTaken_eq (s : State) (t : Nat) (p : TplPacket) : (s.at t).descTaken p = s.descTaken p := rfl
@[simp] theorem State.at_pageRefusal_eq (s : State) (t : Nat) (j : JobSet) (seq : Nat) (d : List Byte) : (s.at t).pageRefusal j seq d = s.pageRefusal j seq d := rfl
@[simp] theorem State.at_ackWaits_eq (s : State) (t : Nat) (job page : Nat) : (s.at t).ackWaits job page = s.ackWaits job page := rfl
@[simp] theorem State.at_refLinesNeeded_eq (s : State) (t : Nat) : (s.at t).refLinesNeeded = s.refLinesNeeded := rfl
@[simp] theorem State.at_refShort_eq (s : State) (t : Nat) : (s.at t).refShort = s.refShort := rfl
@[simp] theorem State.at_mirrorMay_eq (s : State) (t : Nat) (p : MirrorPacket) : (s.at t).mirrorMay p = s.mirrorMay p := rfl
@[simp] theorem State.at_refusedBurst_eq (s : State) (t : Nat) (m : Nat) (d : Descriptor) : (s.at t).refusedBurst m d = s.refusedBurst m d := rfl
@[simp] theorem State.at_engineQueue_eq (s : State) (t : Nat) (f : Nat) : (s.at t).engineQueue f = s.engineQueue f := rfl
@[simp] theorem State.at_enginesBusy_eq (s : State) (t : Nat) (f : Nat) : (s.at t).enginesBusy f = s.enginesBusy f := rfl
@[simp] theorem State.at_enteringRun_eq (s : State) (t : Nat) : (s.at t).enteringRun = s.enteringRun := rfl
@[simp] theorem State.at_carries_eq (s : State) (t : Nat) (seg row b : Nat) : (s.at t).carries seg row b = s.carries seg row b := rfl
@[simp] theorem State.at_bondState_eq (s : State) (t : Nat) (link first : Nat) : (s.at t).bondState link first = s.bondState link first := rfl
@[simp] theorem State.at_retraining_eq (s : State) (t : Nat) : (s.at t).retraining = s.retraining := rfl
@[simp] theorem State.at_certs_eq (s : State) (t : Nat) : (s.at t).certs = s.certs := rfl
@[simp] theorem State.at_opens_eq (s : State) (t : Nat) (c : Option Sealed) : (s.at t).opens c = s.opens c := rfl
@[simp] theorem State.at_scanActs_eq (s : State) (t : Nat) : (s.at t).scanActs = s.scanActs := rfl
@[simp] theorem State.at_ballsTaken_eq (s : State) (t : Nat) : (s.at t).ballsTaken = s.ballsTaken := rfl

end Sys2Proof.Machine
end

