-- ==== Sys2Proof/Laws/Bytes.lean ====
section
/-! SUPPORT. Numbers laid out in bytes, and read back (R7). -/

namespace Sys2Proof

theorem toByte_toNat (n : Nat) : (toByte n).toNat = n % 256 := by simp [toByte]

@[simp] theorem natLE_length (w n : Nat) : (natLE w n).length = w := by
  induction w generalizing n with
  | zero => rfl
  | succ w ih => simp [natLE, ih]

/-- A number reads back from its bytes, up to their width. -/
theorem leNat_natLE (w n : Nat) : leNat (natLE w n) = n % 256 ^ w := by
  induction w generalizing n with
  | zero => simp [natLE, leNat, Nat.mod_one]
  | succ w ih =>
    rw [natLE, leNat, ih, toByte_toNat, Nat.pow_succ, Nat.mul_comm (256 ^ w) 256, Nat.mod_mul]

theorem leNat_lt (bs : List Byte) : leNat bs < 256 ^ bs.length := by
  induction bs with
  | nil => simp [leNat]
  | cons b bs ih =>
    have hb : b.toNat < 256 := b.isLt
    rw [leNat, List.length_cons, Nat.pow_succ]
    omega

theorem u16At_two (a b : Byte) (rest : List Byte) : u16At (a :: b :: rest) 0 = a.toNat + 256 * b.toNat := by
  simp [u16At, leNat]

theorem u8At_two (a b c : Byte) (rest : List Byte) : u8At (a :: b :: c :: rest) 2 = c.toNat := by
  simp [u8At, leNat]

theorem u16At_four (a b c d e f : Byte) (rest : List Byte) :
    u16At (a :: b :: c :: d :: e :: f :: rest) 4 = e.toNat + 256 * f.toNat := by
  simp [u16At, leNat]

theorem natLE_two (n : Nat) : natLE 2 n = [toByte n, toByte (n / 256)] := rfl

theorem toByte_pair (n : Nat) (h : n < 65536) : (toByte n).toNat + 256 * (toByte (n / 256)).toNat = n := by
  rw [toByte_toNat, toByte_toNat]; omega

end Sys2Proof
end

