-- ==== Sys2Proof/Laws/Store.lean ====
section
/-! SUPPORT. The sparse maps and the object store: what is read after a write, and that writes keep the canonical form. -/

namespace Sys2Proof.Machine

theorem mapErase_cons {α : Type} (e : Nat × α) (m : List (Nat × α)) (j : Nat) :
    mapErase (e :: m) j = if e.1 = j then mapErase m j else e :: mapErase m j := by
  by_cases h : e.1 = j <;> simp [mapErase, h]

theorem mapGet_cons {α : Type} (e : Nat × α) (m : List (Nat × α)) (k : Nat) (d : α) :
    mapGet (e :: m) k d = if e.1 = k then e.2 else mapGet m k d := rfl

theorem mapGet_mapErase {α : Type} (m : List (Nat × α)) (j k : Nat) (d : α) :
    mapGet (mapErase m j) k d = if j = k then d else mapGet m k d := by
  induction m with
  | nil => simp [mapErase, mapGet]
  | cons e rest ih =>
    rw [mapErase_cons, mapGet_cons]
    by_cases h : e.1 = j
    · rw [if_pos h, ih, h]; split <;> rfl
    · rw [if_neg h, mapGet_cons, ih]
      by_cases h2 : e.1 = k
      · simp [h2, show ¬ j = k from fun e => h (h2.trans e.symm)]
      · simp [h2]

theorem mapGet_mapPut {α : Type} (m : List (Nat × α)) (j k : Nat) (v d : α) (h : ∀ e ∈ m, e.1 ≠ j) :
    mapGet (mapPut m j v) k d = if j = k then v else mapGet m k d := by
  induction m with
  | nil => simp [mapPut, mapGet]
  | cons e rest ih =>
    have h1 : e.1 ≠ j := h e (by simp)
    have ih := ih fun x hx => h x (by simp [hx])
    simp only [mapPut]
    split
    · rw [mapGet_cons, mapGet_cons]
    · rw [mapGet_cons, mapGet_cons, ih]
      by_cases hk : j = k
      · subst hk; simp [h1]
      · simp [hk]

theorem mapErase_ne {α : Type} (m : List (Nat × α)) (j : Nat) : ∀ e ∈ mapErase m j, e.1 ≠ j := by
  intro e he
  simpa [mapErase] using (List.mem_filter.mp he).2

/-- A sparse map reads what was set last, and every other key as before. -/
theorem mapGet_mapSet {α : Type} [DecidableEq α] (m : List (Nat × α)) (j k : Nat) (v d : α) :
    mapGet (mapSet m j v d) k d = if j = k then v else mapGet m k d := by
  unfold mapSet
  split
  · next h => rw [mapGet_mapErase, h]
  · rw [mapGet_mapPut _ _ _ _ _ (mapErase_ne m j), mapGet_mapErase]
    split <;> rfl

theorem mapErase_sorted {α : Type} (m : List (Nat × α)) (j : Nat) (h : mapSorted m = true) : mapSorted (mapErase m j) = true := by
  induction m with
  | nil => rfl
  | cons e rest ih =>
    simp only [mapSorted, Bool.and_eq_true, List.all_eq_true] at h
    rw [mapErase_cons]
    split
    · exact ih h.2
    · simp only [mapSorted, Bool.and_eq_true, List.all_eq_true]
      exact ⟨fun x hx => h.1 x (List.mem_filter.mp hx).1, ih h.2⟩

theorem mem_mapPut {α : Type} (m : List (Nat × α)) (j : Nat) (v : α) (x : Nat × α) :
    x ∈ mapPut m j v ↔ x = (j, v) ∨ x ∈ m := by
  induction m with
  | nil => simp [mapPut]
  | cons e rest ih =>
    simp only [mapPut]
    split
    · simp
    · simp only [List.mem_cons, ih]
      exact ⟨fun h => by rcases h with h | h | h <;> simp [h], fun h => by rcases h with h | h | h <;> simp [h]⟩

theorem mapPut_sorted {α : Type} (m : List (Nat × α)) (j : Nat) (v : α) (h : mapSorted m = true) (hj : ∀ e ∈ m, e.1 ≠ j) :
    mapSorted (mapPut m j v) = true := by
  induction m with
  | nil => rfl
  | cons e rest ih =>
    have h' := h
    simp only [mapSorted, Bool.and_eq_true, List.all_eq_true, decide_eq_true_eq] at h
    have hne : e.1 ≠ j := hj e (by simp)
    simp only [mapPut]
    split
    · next hlt =>
      simp only [mapSorted, Bool.and_eq_true, List.all_eq_true, decide_eq_true_eq, List.mem_cons]
      refine ⟨fun x hx => ?_, h⟩
      rcases hx with rfl | hx
      · exact hlt
      · exact Nat.lt_trans hlt (h.1 x hx)
    · next hge =>
      simp only [mapSorted, Bool.and_eq_true, List.all_eq_true, decide_eq_true_eq]
      refine ⟨fun x hx => ?_, ih h.2 fun y hy => hj y (by simp [hy])⟩
      rcases (mem_mapPut rest j v x).mp hx with rfl | hx
      · show e.1 < j; omega
      · exact h.1 x hx

/-- Setting an entry keeps the canonical form of a sparse map. -/
theorem mapSet_sorted {α : Type} [DecidableEq α] (m : List (Nat × α)) (j : Nat) (v d : α) (h : mapSorted m = true) :
    mapSorted (mapSet m j v d) = true := by
  unfold mapSet
  split
  · exact mapErase_sorted m j h
  · exact mapPut_sorted _ _ _ (mapErase_sorted m j h) (mapErase_ne m j)

/-! ### Objects -/

theorem State.rd_wr (s : State) (j k v : Nat) : (s.wr j v).rd k = if j = k then v else s.rd k := by
  unfold State.rd State.wr
  by_cases h : j = k
  · subst h; simp [mapGet_mapSet]
  · have : mapGet (mapSet s.objs j v (Dict.dflt j)) k (Dict.dflt k) = mapGet s.objs k (Dict.dflt k) := by
      unfold mapSet
      split
      · rw [mapGet_mapErase, if_neg h]
      · rw [mapGet_mapPut _ _ _ _ _ (mapErase_ne _ j), mapGet_mapErase, if_neg h, if_neg h]
    simp [h, this]

@[simp] theorem State.rd_wr_same (s : State) (k v : Nat) : (s.wr k v).rd k = v := by simp [State.rd_wr]

theorem State.rd_wr_ne (s : State) (j k v : Nat) (h : j ≠ k) : (s.wr j v).rd k = s.rd k := by simp [State.rd_wr, h]

theorem State.rd_add (s : State) (j k n : Nat) :
    (s.add j n).rd k = if j = k then min (Dict.top j) (s.rd j + n) else s.rd k := by
  unfold State.add; exact State.rd_wr s j k _

theorem State.rd_inc (s : State) (j k : Nat) :
    (s.inc j).rd k = if j = k then min (Dict.top j) (s.rd j + 1) else s.rd k := State.rd_add s j k 1

/-- A write of an object keeps the object list in canonical form. -/
theorem State.wr_objsWf (s : State) (k v : Nat) (h : objsWf s.objs = true) : objsWf (s.wr k v).objs = true := by
  simp only [objsWf, Bool.and_eq_true, List.all_eq_true] at h ⊢
  refine ⟨mapSet_sorted _ _ _ _ h.1, ?_⟩
  show ∀ x ∈ mapSet s.objs k v (Dict.dflt k), _
  unfold mapSet
  split
  · exact fun x hx => h.2 x (List.mem_filter.mp hx).1
  · next hv =>
    intro x hx
    rcases (mem_mapPut _ _ _ x).mp hx with rfl | hx
    · simpa using hv
    · exact h.2 x (List.mem_filter.mp hx).1

theorem State.reset_objsWf : objsWf State.reset.objs = true := rfl

/-! ### Bytes of a DOM -/

/-- A byte of a DOM after one byte was written. -/
theorem Dom.byte_set (d : Dom) (fill : Nat → Byte) (i j : Nat) (b : Byte) :
    (d.set fill i b).byte fill j = if i = j then b else d.byte fill j := by
  unfold Dom.set Dom.byte
  by_cases h : i = j
  · subst h; simp [mapGet_mapSet]
  · simp only [mapSet]
    split
    · rw [mapGet_mapErase]; simp [h]
    · rw [mapGet_mapPut _ _ _ _ _ (mapErase_ne _ i), mapGet_mapErase]; simp [h]

/-- The cells of a DOM keep their canonical form. -/
theorem Dom.set_sorted (d : Dom) (fill : Nat → Byte) (i : Nat) (b : Byte) (h : mapSorted d.cells = true) :
    mapSorted (d.set fill i b).cells = true := mapSet_sorted _ _ _ _ h

theorem cellsOf_ge (fill : Nat → Byte) (bs : List Byte) : ∀ o, ∀ e ∈ cellsOf fill o bs, o ≤ e.1 := by
  induction bs with
  | nil => intro o e he; simp [cellsOf] at he
  | cons b bs ih =>
    intro o e he
    simp only [cellsOf] at he
    split at he
    · exact Nat.le_of_succ_le (ih (o + 1) e he)
    · rcases List.mem_cons.mp he with rfl | he
      · exact Nat.le_refl _
      · exact Nat.le_of_succ_le (ih (o + 1) e he)

/-- A DOM put down whole is in canonical form. -/
theorem cellsOf_sorted (fill : Nat → Byte) (bs : List Byte) : ∀ o, mapSorted (cellsOf fill o bs) = true := by
  induction bs with
  | nil => intro o; rfl
  | cons b bs ih =>
    intro o
    simp only [cellsOf]
    split
    · exact ih (o + 1)
    · simp only [mapSorted, Bool.and_eq_true, List.all_eq_true, decide_eq_true_eq]
      exact ⟨fun e he => cellsOf_ge fill bs (o + 1) e he, ih (o + 1)⟩

/-- A byte of a byte string put down whole from o. -/
theorem mapGet_cellsOf (fill : Nat → Byte) (bs : List Byte) :
    ∀ o k, mapGet (cellsOf fill o bs) k (fill k) = if o ≤ k ∧ k - o < bs.length then bs.getD (k - o) 0#8 else fill k := by
  induction bs with
  | nil => intro o k; simp [cellsOf, mapGet]
  | cons b bs ih =>
    intro o k
    simp only [cellsOf]
    by_cases hk : o = k
    · subst hk
      split
      · next h => rw [ih, if_neg (by omega)]; simp [h]
      · simp [mapGet_cons]
    · have key : mapGet (cellsOf fill (o + 1) bs) k (fill k) =
          if o ≤ k ∧ k - o < (b :: bs).length then (b :: bs).getD (k - o) 0#8 else fill k := by
        rw [ih]
        by_cases hlt : o + 1 ≤ k
        · have h1 : k - o = (k - (o + 1)) + 1 := by omega
          rw [h1]
          simp only [List.length_cons, List.getD_cons_succ]
          have : (o + 1 ≤ k ∧ k - (o + 1) < bs.length) ↔ (o ≤ k ∧ k - (o + 1) + 1 < bs.length + 1) := by omega
          simp only [this]
        · rw [if_neg (by omega), if_neg (by omega)]
      split
      · exact key
      · rw [mapGet_cons, if_neg hk]; exact key

/-- R87: a DOM that was replaced reads the new bytes. -/
theorem Dom.replace_byte (idx : Nat) (old : Dom) (bs : List Byte) (i : Nat) (h : i < bs.length) :
    (Dom.replace idx old bs).byte (domFill idx) i = bs.getD i 0#8 := by
  unfold Dom.replace Dom.byte
  rw [mapGet_cellsOf]
  simp [h]

/-- A DOM written back reads as put. -/
theorem State.dom_setDom (s : State) (i j : Nat) (d : Dom) : (s.setDom i d).dom j = if i = j then d else s.dom j := by
  unfold State.dom State.setDom
  by_cases h : i = j
  · subst h; simp [mapGet_mapSet]
  · simp only [mapSet]
    split
    · rw [mapGet_mapErase]; simp [h]
    · rw [mapGet_mapPut _ _ _ _ _ (mapErase_ne _ i), mapGet_mapErase]; simp [h]

end Sys2Proof.Machine
end

