-- ==== Sys2Proof/Laws/Events.lean ====
section
/-! SUPPORT. What a notice and an event can change: everything else of the state stays. -/

namespace Sys2Proof.Machine

/-- u is s but for the session, what was sent, and the count of lost notices. -/
def State.NoticeFrom (s u : State) : Prop :=
  u = { s with tdp := u.tdp, out := u.out, objs := u.objs } ∧ ∀ k, k ≠ O.NOTICES_LOST → u.rd k = s.rd k

/-- u is s but for what a notice changes, the fault record of block b, the actions that are called for, and the entries that
wait for the flash log. -/
def State.EventFrom (s u : State) (b : Nat) : Prop :=
  u = { s with tdp := u.tdp, out := u.out, objs := u.objs, faults := u.faults, acts := u.acts, under := u.under } ∧
  (∀ k, k ≠ O.NOTICES_LOST → u.rd k = s.rd k) ∧ (∀ d, d ≠ b → u.faultRec d = s.faultRec d) ∧ ∃ l, u.acts = s.acts ++ l

theorem State.NoticeFrom.refl (s : State) : s.NoticeFrom s := ⟨rfl, fun _ _ => rfl⟩

theorem State.NoticeFrom.trans {s u v : State} (h : s.NoticeFrom u) (k : u.NoticeFrom v) : s.NoticeFrom v := by
  refine ⟨?_, fun j hj => (k.2 j hj).trans (h.2 j hj)⟩
  rw [k.1, h.1]

theorem State.EventFrom.trans {s u v : State} {b : Nat} (h : s.EventFrom u b) (k : u.EventFrom v b) : s.EventFrom v b := by
  obtain ⟨l, hl⟩ := h.2.2.2
  obtain ⟨m, hm⟩ := k.2.2.2
  refine ⟨?_, fun j hj => (k.2.1 j hj).trans (h.2.1 j hj), fun d hd => (k.2.2.1 d hd).trans (h.2.2.1 d hd), l ++ m, ?_⟩
  · rw [k.1, h.1]
  · rw [hm, hl, List.append_assoc]

theorem State.NoticeFrom.event {s u : State} {b : Nat} (h : s.NoticeFrom u) : s.EventFrom u b := by
  have ha : u.acts = s.acts := by rw [h.1]
  have hf : u.faults = s.faults := by rw [h.1]
  refine ⟨?_, h.2, fun d _ => ?_, [], ?_⟩
  · rw [h.1]
  · unfold State.faultRec; rw [hf]
  · rw [ha, List.append_nil]

theorem State.sendNotices_from (x : Session) (ms : List SentNotice) (s : State) :
    s.NoticeFrom (ms.foldl (fun s m => s.sendNotice x m) s) := by
  induction ms generalizing s with
  | nil => exact .refl s
  | cons m ms ih => exact State.NoticeFrom.trans (u := s.sendNotice x m) ⟨rfl, fun _ _ => rfl⟩ (ih _)

theorem State.pumpNotices_from (s : State) : s.NoticeFrom s.pumpNotices := by
  unfold State.pumpNotices
  split
  · exact State.NoticeFrom.trans ⟨rfl, fun _ _ => rfl⟩ (State.sendNotices_from _ _ _)
  · exact .refl s

theorem State.notice_from (s : State) (kind block code index sub : Nat) (data : List Byte) :
    s.NoticeFrom (s.notice kind block code index sub data) := by
  unfold State.notice
  split
  · split
    · exact .refl s
    · split
      · refine ⟨rfl, fun k hk => ?_⟩
        rw [State.rd_inc, if_neg (fun h => hk h.symm)]; rfl
      · exact State.NoticeFrom.trans ⟨rfl, fun _ _ => rfl⟩ (State.pumpNotices_from _)
  · exact .refl s

theorem State.warn_from (s : State) (block code index sub : Nat) (data : List Byte) :
    s.NoticeFrom (s.warn block code index sub data) := State.notice_from _ _ _ _ _ _ _

theorem State.faultRec_setFaultRec (s : State) (b d : Nat) (r : FaultRec) :
    (s.setFaultRec b r).faultRec d = if b = d then r else s.faultRec d := by
  unfold State.setFaultRec State.faultRec
  rw [mapGet_mapSet]

theorem State.updRec_from (s : State) (b : Nat) (r : FaultRec) :
    s.EventFrom (s.updRec b r) b ∧ (s.updRec b r).faultRec b = r ∧ (s.updRec b r).acts = s.acts ∧
      (s.updRec b r).under = s.under := by
  have h0 : s.EventFrom (s.setFaultRec b r) b :=
    ⟨rfl, fun _ _ => rfl, fun d hd => by rw [State.faultRec_setFaultRec, if_neg (fun h => hd h.symm)], [], by simp⟩
  have h1 : (s.setFaultRec b r).faultRec b = r := by rw [State.faultRec_setFaultRec, if_pos rfl]
  unfold State.updRec
  dsimp only
  split
  · exact ⟨h0, h1, rfl, rfl⟩
  · have hn := State.notice_from (s.setFaultRec b r) 1 b r.flags (0x1500 + b) 1 []
    refine ⟨h0.trans hn.event, ?_, ?_, ?_⟩
    · have : ((s.setFaultRec b r).notice 1 b r.flags (0x1500 + b) 1 []).faults = (s.setFaultRec b r).faults := by rw [hn.1]
      unfold State.faultRec at h1 ⊢
      rw [this]; exact h1
    · rw [hn.1]; rfl
    · rw [hn.1]; rfl

theorem State.EventFrom.called (s : State) (b : Nat) (l : List Act) (x : Understorey) :
    s.EventFrom { s with acts := s.acts ++ l, under := x } b :=
  ⟨rfl, fun _ _ => rfl, fun _ _ => rfl, l, rfl⟩

theorem State.EventFrom.severe (s : State) {u : State} {b : Nat} (h : s.EventFrom u b) (kind block code index sub : Nat)
    (data : List Byte) (l : List Act) (x : Understorey) (r : FaultRec) :
    s.EventFrom (State.updRec { u.notice kind block code index sub data with
      acts := (u.notice kind block code index sub data).acts ++ l, under := x } b r) b :=
  ((h.trans (State.notice_from u kind block code index sub data).event).trans (.called _ b l x)).trans
    (State.updRec_from _ b r).1

/-- An event of block b changes nothing but what EventFrom names. -/
theorem State.event_from (s : State) (b code data : Nat) : s.EventFrom (s.event b code data) b := by
  have hr : s.EventFrom s b := ⟨rfl, fun _ _ => rfl, fun _ _ => rfl, [], by simp⟩
  unfold State.event
  split
  · exact hr
  · dsimp only
    split
    · exact hr
    · split
      · exact State.EventFrom.severe s (State.updRec_from s b _).1 2 b code (0x1610 + b) 0 _ _ _ _
      · exact (State.updRec_from s b _).1

/-- The objects but one, and every field that EventFrom does not name, read as before. -/
theorem State.event_rd (s : State) (b code data k : Nat) (h : k ≠ O.NOTICES_LOST) : (s.event b code data).rd k = s.rd k :=
  (State.event_from s b code data).2.1 k h

end Sys2Proof.Machine
end

