-- ==== Sys2Proof/Laws/Queue.lean ====
section
/-! SUPPORT. What every command does beside its own effect: the present moves on, the queue stays, the actions that it called
for are taken, and the credits follow their causes. -/

namespace Sys2Proof.Machine

@[simp] theorem State.at_out (s : State) (t : Nat) : (s.at t).out = [] := rfl
@[simp] theorem State.at_now (s : State) (t : Nat) : (s.at t).now = max s.now t := rfl
@[simp] theorem State.at_pending (s : State) (t : Nat) : (s.at t).pending = s.pending := rfl


@[simp] theorem State.after_pending (s : State) (op : State → State) : (s.after op).pending = s.pending := by unfold State.after; rfl
@[simp] theorem State.after_now (s : State) (op : State → State) : (s.after op).now = s.now := by unfold State.after; rfl

theorem State.runActs_quiet (s : State) (n : Nat) (h : s.acts = []) : s.runActs n = s := by
  cases n with
  | zero => show ({ s with acts := [] } : State) = s; rw [← h]
  | succ n => simp [State.runActs, h]

theorem State.updateCredits_quiet (s : State) (h : s.CreditsFollow) : s.updateCredits = s := by
  unfold State.updateCredits
  split
  · next hc =>
    simp only [Bool.and_eq_true, decide_eq_true_eq, bne_iff_ne, ne_eq] at hc
    exact absurd (h hc.1) hc.2
  · rfl

theorem State.settle_quiet (s : State) (h : s.Quiet) : s.settle = s := by
  unfold State.settle
  rw [State.runActs_quiet s 8 h.acts, State.updateCredits_quiet s h.credits]

/-- Where nothing follows by itself, the end of a step changes nothing. -/
theorem State.finish_quiet (s : State) (h : s.Quiet) : s.finish = s := by
  unfold State.finish
  have hc : s.checkRun = s := by unfold State.checkRun; simp [h.run]
  rw [hc, State.settle_quiet s h]
  have he : s.checkEntry = s := by
    unfold State.checkEntry
    simp [h.target.1, h.target.2]
  rw [he]
  have hr : s.checkRole = s := by unfold State.checkRole; rw [h.role]
  rw [hr, State.settle_quiet s h]

/-- A command whose effect leaves nothing to follow is its effect, and nothing else. -/
theorem State.after_quiet (s : State) (op : State → State) (h : (op s).Quiet) :
    s.after op = { op s with pending := s.pending, now := s.now } := by
  unfold State.after; rw [State.finish_quiet _ h]

/-- No action is left after a command. -/
theorem State.runActs_acts (n : Nat) : ∀ s : State, (s.runActs n).acts = [] := by
  induction n with
  | zero => intro s; rfl
  | succ n ih =>
    intro s
    simp only [State.runActs]
    split
    · next h => simpa using h
    · exact ih _

theorem State.tplSend_keeps (s : State) (ty job page flags : Nat) (body : List Byte) :
    (s.tplSend ty job page flags body).acts = s.acts ∧
    (s.tplSend ty job page flags body).ingest.link = s.ingest.link ∧
    (s.tplSend ty job page flags body).ingest.withdrawn = s.ingest.withdrawn ∧
    (s.tplSend ty job page flags body).wantsWithdraw = s.wantsWithdraw := by
  unfold State.tplSend
  split <;> exact ⟨rfl, rfl, rfl, rfl⟩

theorem State.grant_keeps (s : State) : s.grant.acts = s.acts ∧ s.grant.ingest.link = s.ingest.link ∧
    s.grant.ingest.withdrawn = s.ingest.withdrawn ∧ s.grant.wantsWithdraw = s.wantsWithdraw := by
  unfold State.grant
  dsimp only
  split <;> exact ⟨rfl, rfl, rfl, rfl⟩

theorem State.sendCredit_keeps (s : State) : s.sendCredit.acts = s.acts ∧ s.sendCredit.ingest.link = s.ingest.link ∧
    s.sendCredit.ingest.withdrawn = s.ingest.withdrawn ∧ s.sendCredit.wantsWithdraw = s.wantsWithdraw := by
  have h := s.grant_keeps
  have h2 := State.tplSend_keeps ({ s.grant with ingest := { s.grant.ingest with lastCredit := s.now } } : State) 0x10 0 0
    (2 * b2n s.grant.ingest.withdrawn) (natLE 4 s.grant.ingest.limit ++ natLE 4 s.grant.ingest.consumed ++ natLE 2 4096 ++
      [toByte s.grant.ingest.width, toByte s.grant.ingest.grade] ++ natLE 4 0)
  exact ⟨h2.1.trans h.1, h2.2.1.trans h.2.1, h2.2.2.1.trans h.2.2.1, h2.2.2.2.trans h.2.2.2⟩

/-- The end of a step leaves no action, and the credits follow their causes. -/
theorem State.settle_settled (s : State) : s.settle.acts = [] ∧ s.settle.CreditsFollow := by
  have ha := State.runActs_acts 8 s
  unfold State.settle
  generalize s.runActs 8 = u at ha
  unfold State.updateCredits
  split
  · have h := State.sendCredit_keeps ({ u with ingest := { u.ingest with withdrawn := u.wantsWithdraw } } : State)
    refine ⟨h.1.trans ha, fun _ => ?_⟩
    rw [h.2.2.1, h.2.2.2]; rfl
  · next hc =>
    refine ⟨ha, fun hl => ?_⟩
    simpa [hl] using hc

theorem State.after_settled (s : State) (op : State → State) : (s.after op).Settled ∧ (s.after op).CreditsFollow :=
  (State.settle_settled _)

/-! ### Every command and every step -/

/-- Two operations that agree on the state at the command's moment leave the same behind. -/
theorem State.after_congr (s : State) (op op' : State → State) (h : op s = op' s) : s.after op = s.after op' := by
  simp only [State.after, h]

/-- What a command answers, by any account of its operation that is right at its moment. -/
theorem State.does_eq (s : State) (t : Nat) (op op' : State → State) (h : op (s.at t) = op' (s.at t)) :
    s.does t op = .next ((s.at t).after op') := by
  rw [State.does, State.after_congr _ _ _ h]

/-- Every command has an effect that does's shape describes: it is some operation at some moment. -/
theorem exec_does (c : Instr) (s : State) : ∃ t op, exec c s = s.does t op := by
  cases c <;> exact ⟨_, _, rfl⟩

theorem step_pending (s : State) (c : Instr) (rest : List Instr) (h : s.pending = c :: rest) :
    step s = exec c { s with pending := rest } := by unfold step; rw [h]

theorem step_idle (s : State) (h : s.pending = []) : step s = .next s := by unfold step; rw [h]

end Sys2Proof.Machine
end

