-- ==== Sys2Proof/Laws/Turn.lean ====
section
/-! SUPPORT. A request of the open session in its turn: what the checks of R47 to R51 let through, and what a WRITE of one
object does. -/

namespace Sys2Proof.Machine

/-- A request in its turn is executed in the state that the frame left. -/
theorem State.hostFrame_turn (s : State) (t opcode : Nat) (f : Frame) (x : Session) (h : s.Turn t opcode f x)
    (hd : definedOpcode opcode = true) (hs : isSessionless opcode = false) (hn : opcode ≠ 0x20) :
    (s.at t).hostFrame opcode f =
      ((s.heard t x).execute (x.leased s t) opcode f).runHeld 7 := by
  have hl : ((s.at t).inc O.FRAMES_RX).rd O.LEASE_TIME = s.rd O.LEASE_TIME := by
    rw [State.rd_inc, if_neg (by decide)]; rfl
  unfold State.hostFrame
  rw [h.online, h.timers]
  simp only [Bool.not_true, Bool.false_eq_true, ↓reduceIte, h.magic, h.version, bne_self_eq_false]
  unfold State.thisVersion
  have h1 : (f.rest.length != f.length + (if f.sid = 0 then 0 else 16) || (f.sid != 0 && isSessionless opcode)) = false := by
    rw [hs, if_neg h.inSession, h.size]; simp
  rw [h1]
  simp only [Bool.false_eq_true, ↓reduceIte, if_neg h.inSession]
  have h2 : ((s.at t).inc O.FRAMES_RX).tdp.session = some x := h.session
  rw [h2]
  have h3 : (x.addr != f.addr || x.port != f.port) = false := by simp [h.addr, h.port]
  have h4 : (x.sid != f.sid) = false := by simp [h.sid]
  simp only [h3, h4, h.tag, Bool.not_true, Bool.false_eq_true, ↓reduceIte]
  unfold State.acceptFrame
  have h5 : (opcode = 0x20 && bit f.flags 0) = false := by simp [hn]
  simp only [h.request, hd, hs, hn, Bool.and_false, Bool.false_eq_true, ↓reduceIte, Bool.not_true, Bool.or_self, decide_false]
  unfold State.inSequence
  simp only [h.turn, ↓reduceIte]
  rw [hl]
  unfold State.updSession
  rw [h2]
  rfl

theorem State.answer_leased (s u : State) (t : Nat) (x : Session) (opcode seq st : Nat) (body : List Byte) :
    u.answer (x.leased s t) opcode seq st body = u.answer x opcode seq st body := by
  unfold State.answer State.tagged Session.leased; rfl

theorem State.heard_turned (s : State) (t : Nat) (x : Session) (seq : Nat) :
    (s.heard t x).updSession (fun y => { y with expected := (seq + 1) % 65536 }) = s.turned t x seq := by
  unfold State.updSession State.heard State.turned Session.turned Session.leased; rfl

/-- A WRITE in its turn of an object that is no DOM: the value is written, and the answer goes out. -/
theorem State.hostWrite_turn (s : State) (t : Nat) (h : Hdr) (key : Nat) (data : List Byte) (x : Session) (r : ObjRow)
    (ht : s.Turn t 0x11 (writeFrame h (key / 256) (key % 256) data) x) (hk : key / 256 < 0x8000)
    (hr : findObject (key / 256) (key % 256) = .ok r) (ha : (r.acc == .ro) = false) (hy : (r.ty == Ty.dom) = false)
    (hn : data.length = r.ty.size) (hn2 : data.length < 65536) :
    (s.at t).hostWrite h key data =
      let a := (s.turned t x h.seq).valueWrite r (key / 256) (key % 256) (leNat data)
      a.state.replied x 0x11 h.seq a.status
        (natLE 2 (key / 256) ++ [toByte (key % 256), 0#8] ++ (if a.status = Status.ok then [] else a.data)) := by
  have hb : frameBody (writeFrame h (key / 256) (key % 256) data) =
      toByte (key / 256) :: toByte (key / 256 / 256) :: toByte (key % 256) :: 0#8 :: toByte data.length ::
        toByte (data.length / 256) :: data := by
    simp [frameBody, writeFrame, natLE_two]
  have e1 (rest : List Byte) : u16At (toByte (key / 256) :: toByte (key / 256 / 256) :: rest) 0 = key / 256 := by
    rw [u16At_two, toByte_pair _ (by omega)]
  have e2 (a b : Byte) (rest : List Byte) : u8At (a :: b :: toByte (key % 256) :: rest) 2 = key % 256 := by
    rw [u8At_two, toByte_toNat]; omega
  have e3 (a b c d : Byte) (rest : List Byte) :
      u16At (a :: b :: c :: d :: toByte data.length :: toByte (data.length / 256) :: rest) 4 = data.length := by
    rw [u16At_four, toByte_pair _ hn2]
  have hu := State.heard_turned s t x h.seq
  have hw : (s.turned t x h.seq).request 0x11 (frameBody (writeFrame h (key / 256) (key % 256) data)) h.seq =
      (writeAnswer (key / 256) (key % 256)
        ((s.turned t x h.seq).valueWrite r (key / 256) (key % 256) (leNat data)).status
        ((s.turned t x h.seq).valueWrite r (key / 256) (key % 256) (leNat data)).data,
       ((s.turned t x h.seq).valueWrite r (key / 256) (key % 256) (leNat data)).state) := by
    unfold State.request
    simp only [show ((0x11 : Nat) = 0x10) = False by simp, ↓reduceIte]
    unfold State.writeReq
    rw [hb]
    simp only [e1, e2, e3, List.drop_succ_cons, List.drop_zero]
    rw [hr]
    have h1 : ((toByte (key / 256) :: toByte (key / 256 / 256) :: toByte (key % 256) :: 0#8 :: toByte data.length ::
        toByte (data.length / 256) :: data).length != 6 + data.length) = false := by simp; omega
    have h2 : ¬ 0x8000 ≤ key / 256 := by omega
    have h3 : (r.ty == Ty.dom || data.length != r.ty.size) = false := by rw [hy, hn]; simp
    simp only [h1, h2, ha, h3, Bool.false_eq_true, ↓reduceIte]
  unfold State.hostWrite
  rw [State.hostFrame_turn s t 0x11 _ x ht rfl rfl (by decide)]
  unfold State.execute
  have hs : (writeFrame h (key / 256) (key % 256) data).seq = h.seq := rfl
  rw [hs, hu]
  dsimp only
  rw [hw]
  simp only [writeAnswer, show ((0x11 : Nat) = 3) = False by simp, decide_false, Bool.false_and, Bool.false_eq_true, ↓reduceIte, State.answer_leased,
    State.replied]

/-- A row of the table that is a WRITE of one object has the effect that a write of that value has. -/
theorem writes_of (c : Hdr → Instr) (t key : Nat) (data : List Byte) (r : ObjRow) (pre : State → Prop) (op : State → State)
    (hc : ∀ h s, exec (c h) s = s.does t fun u => u.hostWrite h key data) (hk : key / 256 < 0x8000)
    (hr : findObject (key / 256) (key % 256) = .ok r) (ha : (r.acc == .ro) = false) (hy : (r.ty == Ty.dom) = false)
    (hn : data.length = r.ty.size) (hn2 : data.length < 65536)
    (hv : ∀ u, pre u → u.valueWrite r (key / 256) (key % 256) (leNat data) = .of Status.ok (op u)) :
    Writes c t key data pre op := by
  intro h s x ht hp
  rw [hc]
  apply State.does_eq
  rw [State.hostWrite_turn s t h key data x r ht hk hr ha hy hn hn2, hv _ hp]
  simp [Reply.of, State.wrote]

/-- An object that is not mirrored is not forwarded. -/
theorem State.forwardBytes_plain (s : State) (key : Nat) (data : List Byte) (h : isMirrored key = false) :
    s.forwardBytes key data = s := by
  unfold State.forwardBytes; simp [h]

/-- A write of a CMD object that is not mirrored does what its command does. -/
theorem State.valueWrite_cmd (s : State) (r : ObjRow) (key v : Nat) (u : State)
    (h1 : (key % 256 = 0xff && Dict.hasApply (key / 256)) = false) (h2 : (r.app == .apply && Dict.hasApply (key / 256)) = false)
    (h3 : valueOk r v = true) (h4 : key ≠ O.JOB_CONTROL) (h5 : isMirrored key = false)
    (h6 : s.commandOp key v = some (.of Status.ok u)) : s.valueWrite r (key / 256) (key % 256) v = .of Status.ok u := by
  have hkey : 256 * (key / 256) + key % 256 = key := by omega
  unfold State.valueWrite
  have ha : s.authorityRefused key = false := by simp [State.authorityRefused, h5, h4]
  have ho : s.objectOp key v = .of Status.ok u := by unfold State.objectOp; rw [h6]
  simp only [hkey, h1, h2, h3, ha, ho, Bool.not_true, Bool.false_eq_true, ↓reduceIte, Bool.false_and, Reply.of,
    State.forwardBytes_plain _ _ _ h5]
  split <;> rfl

/-- A record's block takes the staged values: the APPLY of a record whose block does op. -/
theorem State.valueWrite_apply (s : State) (r : ObjRow) (idx : Nat) (u : State) (hi : Dict.hasApply idx = true) (h21 : idx ≠ 0x1321)
    (ha : s.authorityRefused (256 * idx + 255) = false) (hs : s.staged idx ≠ []) (hf : stageFail (s.staged idx) = none)
    (ho : s.recordOp idx (s.staged idx) = .of Status.ok u) :
    s.valueWrite r idx 255 1 = .of Status.ok ((u.dropStage idx).forwardRecord idx (s.staged idx)) := by
  unfold State.valueWrite State.applyWrite State.recordApply
  have he : (s.staged idx).isEmpty = false := by
    cases h : s.staged idx with
    | nil => exact absurd h hs
    | cons _ _ => rfl
  simp [hi, h21, ha, he, hf, ho, Reply.of]

/-- A row of the table that writes 1 to FFh of a record has the effect that the record's block gives it. -/
theorem applies_of (c : Hdr → Instr) (t idx : Nat) (r : ObjRow) (pre : State → State → Prop) (op : State → State → State)
    (hc : ∀ h s, exec (c h) s = s.does t fun u => u.hostWrite h (256 * idx + 255) [1#8]) (hk : idx < 0x8000)
    (hr : findObject idx 255 = .ok r) (ha : (r.acc == .ro) = false) (hy : (r.ty == Ty.dom) = false) (hn : r.ty.size = 1)
    (hi : Dict.hasApply idx = true) (h21 : idx ≠ 0x1321)
    (hv : ∀ u, (u.wrs (u.staged idx)).recordFail idx = none → (u.wrs (u.staged idx)).recordRefusal idx u = false →
      pre u (u.wrs (u.staged idx)) → u.recordOp idx (u.staged idx) = .of Status.ok (op u (u.wrs (u.staged idx)))) :
    Applies c t idx pre op := by
  have h1 : (256 * idx + 255) / 256 = idx := by omega
  have h2 : (256 * idx + 255) % 256 = 255 := by omega
  refine writes_of c t _ _ r _ _ hc (by rw [h1]; exact hk) (by rw [h1, h2]; exact hr) ha hy (by rw [hn]; rfl) (by decide) ?_
  rintro u ⟨ha, hs, hf, hrf, hrr, hp⟩
  rw [h1, h2]
  exact State.valueWrite_apply u r idx _ hi h21 ha hs hf (hv u hrf hrr hp)

/-- What a record's block does, where it takes the values. -/
theorem State.recordOp_taken (u : State) (idx : Nat) (h21 : idx ≠ 0x1321) (hl : ¬(0x3014 ≤ idx ∧ idx ≤ 0x3017))
    (hf : (u.wrs (u.staged idx)).recordFail idx = none) (hr : (u.wrs (u.staged idx)).recordRefusal idx u = false) :
    u.recordOp idx (u.staged idx) =
      let v := u.wrs (u.staged idx)
      if idx = 0x2003 then v.armApply
      else if idx = 0x2500 then
        v.nozzleEdit (v.rd O.NOZZLE_EDIT_SEGMENT) (v.rd O.NOZZLE_EDIT_ROW) (v.rd O.NOZZLE_EDIT_FIRST)
          (v.rd O.NOZZLE_EDIT_COUNT) (v.rd O.NOZZLE_EDIT_ENTRY)
      else if idx = 0x2540 then
        v.placeTest (v.rd O.TEST_PATTERN) (v.rd O.TEST_ROWS) (v.rd O.TEST_LEVEL) (v.rd O.TEST_FLAGS) (v.rd O.TEST_REPEAT)
      else if idx = 0x3503 then v.ptpStep (v.rd O.PTP_STEP_MODE) (v.rd O.PTP_STEP_VALUE)
      else if 0x3700 ≤ idx && idx ≤ 0x3703 then v.axisApply (idx - 0x3700)
      else if 0x3720 ≤ idx && idx ≤ 0x3723 then v.moveApply (idx - 0x3720)
      else if 0x3730 ≤ idx && idx ≤ 0x3733 then v.homeConfigApply (idx - 0x3730)
      else if idx = 0x3750 then v.levelApply
      else .of Status.ok (v.recordEffect idx u) := by
  unfold State.recordOp
  have hl' : (decide (0x3014 ≤ idx) && decide (idx ≤ 0x3017)) = false := by simpa using hl
  simp only [h21, hl', hf, hr, ↓reduceIte, Bool.false_eq_true]

end Sys2Proof.Machine
end

