-- ==== Sys2Proof/Tests/Slice0.lean ====
section
/-! SUPPORT. The model's own tests: commands that no wire can carry are ill formed; values worked out by hand from the manual;
and for each statement of Obligations.lean that has hypotheses, a state and operands that meet them, clause by clause. -/

namespace Sys2Proof.Tests

open Sys2Proof.Machine

set_option Elab.async false

/-! ### A session, and a frame in its turn -/

/-- A session with an all-zero key that has run no request. -/
def sess : Session :=
  { sid := 7, addr := 9, port := 5, key := List.replicate 32 0#8, leaseEnd := 10 ^ 18, expected := 1, held := [], cache := [], stages := []
    transfer := none, notices := [], sent := [], noticeSeq := 0, charged := 0, newKey := none }

/-- The tag of a frame under the key of a session. -/
def tagOf (x : Session) (opcode : Nat) (f : Frame) : List Byte := (hmac256 x.key (frameSigned f opcode)).take 16

/-- The frame of session x with this body, in its turn. -/
def frameOf (x : Session) (opcode : Nat) (body : List Byte) : Frame :=
  let f : Frame := { addr := x.addr, port := x.port, magic := 0x4454, version := 1, seq := x.expected, status := 0, sid := x.sid
                     length := body.length, flags := 0, rest := body }
  { f with rest := body ++ tagOf x opcode f }

/-- The head of a WRITE of session x, in its turn. -/
def hdrOf (x : Session) (idx sub : Nat) (data : List Byte) : Hdr :=
  let h : Hdr := ⟨x.addr, x.port, x.expected, x.sid, []⟩
  { h with tag := tagOf x 0x11 (writeFrame h idx sub data) }

theorem rounds_length (k : Sha.Kind) (cs : List Nat) : ∀ ws h : List Nat, h.length = 8 → (Sha.rounds k cs ws h).length = 8 := by
  induction cs with
  | nil => intro ws h hh; exact hh
  | cons c cs ih => intro ws h _; unfold Sha.rounds; exact ih _ _ rfl

theorem blocks_length (k : Sha.Kind) (n : Nat) : ∀ (bs : List Byte) (h : List Nat), h.length = 8 → (Sha.blocks k n bs h).length = 8 := by
  induction n with
  | zero => intro bs h hh; exact hh
  | succ n ih => intro bs h hh; unfold Sha.blocks; exact ih _ _ (by simp [hh, rounds_length])

theorem sha256_length (bs : List Byte) : (sha256 bs).length = 32 := by
  unfold sha256 Sha.hash
  have h := blocks_length Sha.kind256 ((Sha.pad Sha.kind256 bs).length / (2 * Sha.kind256.w)) (Sha.pad Sha.kind256 bs) Sha.iv256 rfl
  have e (l : List Nat) : (l.flatMap (natBE (Sha.kind256.w / 8))).length = 4 * l.length := by
    induction l with
    | nil => rfl
    | cons a l ih => simp only [List.flatMap_cons, List.length_append, ih, List.length_cons, natBE, List.length_reverse,
        natLE_length]; simp only [Sha.kind256]; omega
  simp [e, h]

theorem tagOf_length (x : Session) (opcode : Nat) (f : Frame) : (tagOf x opcode f).length = 16 := by
  simp [tagOf, hmac256, hmacOf, sha256_length]

/-- The part is online with session x open, and no timer of a session has run out. -/
def ready (s : State) (x : Session) : Bool :=
  decide (s.tdp.session = some x) && decide (s.tdp.challenge = none) && decide (s.tdp.authLockUntil = 0) && decide (0 < x.leaseEnd) &&
    s.now == 0 && s.out.isEmpty && (s.cams.all fun c => c.outs.isEmpty) &&
    (x.stages.all fun g => !s.due g.since (s.rd O.REC_STAGE_TIMEOUT * ms)) && s.online && x.sid != 0 &&
    seqDiff 16 x.expected x.expected == 0 && !s.enteringRun

theorem deliverDone_none (s : State) (k : Nat) (h : ∀ c ∈ s.cams, c.outs = []) : s.deliverDone k = s := by
  have hk : (s.cam k).outs = [] := by
    unfold State.cam
    rw [List.getD_eq_getElem?_getD]
    cases hc : s.cams[k]? with
    | none => rfl
    | some c => exact h c (List.mem_of_getElem? hc)
  have hm : s.cams.modify k (fun c => { c with outs := c.outs.filter (fun f => decide (s.now < f.finish)) }) = s.cams := by
    apply List.ext_getElem? ; intro i
    rw [List.getElem?_modify]
    split
    · cases hc : s.cams[i]? with
      | none => rfl
      | some c => have := h c (List.mem_of_getElem? hc); cases c; simp_all
    · simp
  unfold State.deliverDone
  simp only [hk, List.filter_nil, List.foldl_nil]
  unfold State.updCam
  rw [hm]

theorem stageExpired_none (s : State) (x : Session) (i : Nat) (hs : s.tdp.session = some x)
    (h : ∀ g ∈ x.stages, s.due g.since (s.rd O.REC_STAGE_TIMEOUT * ms) = false) : s.stageExpired i = s := by
  unfold State.stageExpired
  rw [hs]
  simp only [Option.bind_some]
  split
  next g hg => rw [if_neg]; rw [h g (List.mem_of_find?_eq_some hg)]; decide
  · rfl

theorem stagesExpired_none (s : State) (x : Session) (is : List Nat) (hs : s.tdp.session = some x)
    (h : ∀ g ∈ x.stages, s.due g.since (s.rd O.REC_STAGE_TIMEOUT * ms) = false) : is.foldl State.stageExpired s = s := by
  induction is with
  | nil => rfl
  | cons i is ih => rw [List.foldl_cons, stageExpired_none s x i hs h, ih]

theorem timers_of (s : State) (x : Session) (h : ready s x = true) : (s.at 0).hostTimers = s.at 0 ∧ s.at 0 = s := by
  simp only [ready, Bool.and_eq_true, decide_eq_true_eq, bne_iff_ne, ne_eq, beq_iff_eq, List.all_eq_true, List.isEmpty_iff,
    Bool.not_eq_true'] at h
  obtain ⟨⟨⟨⟨⟨⟨⟨⟨⟨⟨⟨hs, hc⟩, ha⟩, hl⟩, hn⟩, hu⟩, hm⟩, hg⟩, -⟩, -⟩, -⟩, hr⟩ := h
  have h0 : s.at 0 = s := by unfold State.at; rw [Nat.max_eq_left (Nat.zero_le _), ← hu]
  rw [h0]
  refine ⟨?_, rfl⟩
  have e1 : s.leaseExpired = s := by unfold State.leaseExpired; rw [hs]; simp only; rw [if_neg (by omega)]
  have e2 : s.challengeExpired = s := by unfold State.challengeExpired; rw [hc]
  have e3 : s.authLockExpired = s := by
    unfold State.authLockExpired; rw [if_pos (by omega), ← ha]
  have e0 : s.checkRun = s := by unfold State.checkRun; rw [hr]; rfl
  unfold State.hostTimers
  rw [e0, e1, e2, e3]
  have e4 : (List.range 4).foldl State.deliverDone s = s := by
    have (ks : List Nat) : ks.foldl State.deliverDone s = s := by
      induction ks with
      | nil => rfl
      | cons k ks ih => rw [List.foldl_cons, deliverDone_none s k hm, ih]
    exact this _
  simp only [e4, hs]
  exact stagesExpired_none s x _ hs hg

/-- A frame of the open session is in its turn. -/
theorem turn_of (s : State) (x : Session) (opcode : Nat) (body : List Byte) (h : ready s x = true) :
    s.Turn 0 opcode (frameOf x opcode body) x := by
  have ht := timers_of s x h
  simp only [ready, Bool.and_eq_true, decide_eq_true_eq, bne_iff_ne, ne_eq, beq_iff_eq] at h
  obtain ⟨⟨⟨⟨⟨⟨⟨⟨⟨⟨⟨hs, -⟩, -⟩, -⟩, -⟩, -⟩, -⟩, -⟩, ho⟩, h0⟩, hq⟩, -⟩ := h
  exact { timers := ht.1, online := by rw [ht.2]; exact ho, session := hs, magic := rfl, version := rfl, sid := rfl, inSession := h0, addr := rfl
          port := rfl, size := by simp [frameOf, tagOf_length]
          tag := by simp [frameOf, frameTagOk, tagOf, frameSigned, frameBody], request := by show bit 0 0 = false; decide, turn := hq }

/-- A WRITE of the open session is in its turn. -/
theorem write_of (s : State) (x : Session) (idx sub : Nat) (data : List Byte) (h : ready s x = true) :
    s.Turn 0 0x11 (writeFrame (hdrOf x idx sub data) idx sub data) x := by
  have hx : x.sid ≠ 0 := by
    simp only [ready, Bool.and_eq_true, decide_eq_true_eq, bne_iff_ne, ne_eq, beq_iff_eq] at h; exact h.1.1.2
  have e : writeFrame (hdrOf x idx sub data) idx sub data =
      frameOf x 0x11 (natLE 2 idx ++ [toByte sub, 0#8] ++ natLE 2 data.length ++ data) := by
    simp [writeFrame, hdrOf, frameOf, hx, tagOf, frameSigned, frameBody]
  rw [e]
  exact turn_of s x 0x11 _ h

/-- The row that writes data to the object with this key is met in some state in whose turn pre holds: the hypotheses of a
statement of Writes. -/
def Met (key : Nat) (data : List Byte) (pre : State → Prop) : Prop :=
  ∃ (h : Hdr) (s : State) (x : Session), s.Turn 0 0x11 (writeFrame h (key / 256) (key % 256) data) x ∧ pre (s.turned 0 x h.seq)

theorem met (s : State) (x : Session) (key : Nat) (data : List Byte) (pre : State → Prop) (h : ready s x = true)
    (hp : pre (s.turned 0 x x.expected)) : Met key data pre :=
  ⟨hdrOf x (key / 256) (key % 256) data, s, x, write_of s x _ _ data h, hp⟩

/-- The same of an APPLY of record idx: the hypotheses of a statement of Applies. -/
def MetApply (idx : Nat) (pre : State → State → Prop) : Prop :=
  Met (256 * idx + 255) [1#8] fun u => u.authorityRefused (256 * idx + 255) = false ∧ u.staged idx ≠ [] ∧
    stageFail (u.staged idx) = none ∧ (u.wrs (u.staged idx)).recordFail idx = none ∧
    (u.wrs (u.staged idx)).recordRefusal idx u = false ∧ pre u (u.wrs (u.staged idx))

/-- A part alone, booted, in PAUSE, with an address and the session open. -/
def base : State :=
  { State.reset with
    boot := { Boot.init with phase := .ready }
    net := { Net.init with linkUp := true, addr := 0x0a000002 }
    tdp := { Tdp.init with session := some sess }
    graft := { Graft.init with state := 0 } }

/-- The session with values of one record staged. -/
def staging (idx : Nat) (vals : List (Nat × Nat)) : Session := { sess with stages := [⟨idx, 0, vals⟩] }

/-- A state with that session open. -/
def stagedIn (s : State) (idx : Nat) (vals : List (Nat × Nat)) : State :=
  { s with tdp := { s.tdp with session := some (staging idx vals) } }

theorem base_ready : ready base sess = true := by decide +kernel

/-! ### Ill-formed commands -/

/-- R46: a SESSION_ID has 32 bits. -/
theorem test_wf_frame : (Instr.keepalive 0 ⟨9, 5, 0x4454, 1, 1, 0, 2 ^ 32, 0, 0, []⟩).wf = false ∧
    (Instr.keepalive 0 ⟨9, 5, 0x4454, 1, 1, 0, 2 ^ 32 - 1, 0, 0, []⟩).wf = true := by decide

/-- R55: a host write in a session has a TAG of 16 bytes. -/
theorem test_wf_host_write : (Instr.store 0 ⟨9, 5, 1, 7, []⟩ 1).wf = false ∧ (Instr.store 0 ⟨9, 5, 1, 7, List.replicate 16 0#8⟩ 256).wf = false ∧
    (Instr.store 0 ⟨9, 5, 1, 7, List.replicate 16 0#8⟩ 1).wf = true := by decide

/-- The other checks, one ill-formed command for each. -/
theorem test_wf_refused :
    (Instr.badOpcode 0 256 ⟨9, 5, 0x4454, 1, 1, 0, 0, 0, 0, []⟩).wf = false ∧ (Instr.badVersion 0 256 ⟨9, 5, 0x4454, 2, 1, 0, 0, 0, 0, []⟩).wf = false ∧
    (Instr.powerOnReset 0 ⟨0, 4, false, false, false, true, true⟩).wf = false ∧ (Instr.watchdogReset 0 2).wf = false ∧
    (Instr.debugAuth 0 1 []).wf = false ∧ (Instr.fwSlotProgrammed 0 2 true).wf = false ∧ (Instr.tapInstruction 0 ⟨32, [], []⟩).wf = false ∧
    (Instr.tapFlashAccess 0 14 none).wf = false ∧ (Instr.netLinkUp 0 11).wf = false ∧ (Instr.networkWake 0 (.udp 0x4454) 256).wf = false ∧
    (Instr.dhcpLeaseObtained 0 (2 ^ 32) 0 0 0).wf = false ∧ (Instr.noticeResend 0 65536).wf = false ∧
    (Instr.pageQuery 0 ⟨0x5054, 1, 5, 2 ^ 32, 0, 0, 0, 0, 0, 0, 0, 0, 0, 0, []⟩).wf = false ∧ (Instr.mirrorAck 0 (2 ^ 32) 0).wf = false ∧
    (Instr.mirrorCredit 0 (2 ^ 32)).wf = false ∧ (Instr.testResultReady 0 ⟨true, [(331776, true, 0, 100)], [], []⟩).wf = false ∧
    (Instr.comparePulseEnd 0 16).wf = false ∧ (Instr.fireCrossing 0 (2 ^ 48)).wf = false ∧ (Instr.firePulse 0 16 0).wf = false ∧
    (Instr.firePulse 0 0 6).wf = false ∧ (Instr.interlockTrip 0 4).wf = false ∧ (Instr.headLinkUp 0 0 []).wf = false ∧
    (Instr.headStatus 0 0 ⟨0, 0, 0, [], [], 0, 0⟩).wf = false ∧ (Instr.headNak 0 16 0 1).wf = false ∧ (Instr.signalPresent 0 24).wf = false ∧
    (Instr.laneControlWord 0 0 (2 ^ 56)).wf = false ∧ (Instr.lpEntry 0 0 4).wf = false ∧ (Instr.frameStart 0 4).wf = false ∧
    (Instr.csiPacket 0 0 ⟨4, 0, false, false, false, []⟩).wf = false ∧ (Instr.cciScriptDone 0 0 3 true).wf = false ∧
    (Instr.dramFreeze 0 4 ⟨0, 0, 0, 0, 0, 0, 0, 0⟩).wf = false ∧ (Instr.alertLow 0 0 ⟨0, 8, 0, 0, 0, 0, 0, 0⟩).wf = false ∧
    (Instr.refreshDue 0 0 4 true).wf = false ∧ (Instr.patrolScrub 0 0 ⟨2 ^ 64, [], none, false⟩).wf = false ∧
    (Instr.descriptorEnd 0 32 none).wf = false ∧ (Instr.syncRx 0 ⟨0, 256, 0, false, false, 0, 0, 0, [], 0⟩).wf = false ∧
    (Instr.blockEvent 0 66 0 0).wf = false ∧ (Instr.thermalRead 0 []).wf = false ∧ (Instr.telemetrySample 0 []).wf = false ∧
    (Instr.taskLate 0 7).wf = false ∧ (Instr.hello 0 ⟨[], 0, 0, 0, 0⟩).wf = false ∧ (Instr.graftQuote 0 ⟨true, 0, 0, [], [], true⟩).wf = false ∧
    (Instr.graftRoleChange 0 4).wf = false ∧ (Instr.statePacket 0 0 256 0 []).wf = false ∧ (Instr.positionRecord 0 0 (2 ^ 64) 0 0).wf = false ∧
    (Instr.syncMark 0 (2 ^ 64)).wf = false ∧ (Instr.graftReport 0 []).wf = false ∧ (Instr.rampTick 0 4).wf = false ∧
    (Instr.calPassDone 0 ⟨0, 0, [], [], [], 0, []⟩).wf = false ∧ (Instr.porchEnd 0 2).wf = false := by decide

/-! ### Values worked out by hand -/

/-- R43: with S = 1 234 567 the address is 169.254.128.252: 1 234 567 = 254 × 4 860 + 127, and 4 860 mod 256 = 252. -/
theorem test_link_local : 1 + 1234567 % 254 = 128 ∧ 1234567 / 254 % 256 = 252 := by decide

/-- R10: a sequence number that wrapped is the later one. -/
theorem test_seqDiff : seqDiff 16 0 65535 = 1 ∧ seqDiff 16 65535 0 = -1 ∧ seqLater 32 0 (2 ^ 32 - 1) = true ∧
    seqLater 32 5 5 = false := by decide

/-- FIPS 180-4's own example: SHA-256 of "abc" begins BA7816BFh. -/
theorem test_sha256 : (sha256 (ascii "abc")).take 4 = [0xba#8, 0x78#8, 0x16#8, 0xbf#8] := by decide +kernel

/-- FIPS 197's own example of AES-256 begins 8EA2B7CAh (log 142). -/
theorem test_aes : (Aes.block (Aes.roundKeys (List.range 32)) ((List.range 16).map (17 * ·))).take 4 = [0x8e, 0xa2, 0xb7, 0xca] := by
  decide +kernel

/-- R116: CRC-32C of "123456789" is E306_9283h, the check value that RFC 3720's polynomial is known by. -/
theorem test_crc32c : crc32c (ascii "123456789") = 0xe3069283 := by decide +kernel

/-- R310: the default tone curve runs from 0 to 4 095. -/
theorem test_tone : octAt 2 O.toneLinear 0 = 0 ∧ octAt 2 O.toneLinear 255 = 4095 := by decide +kernel

/-! ### The queue and the objects -/

theorem witness_ResetSettled_and_idle : State.reset.Settled ∧ State.reset.CreditsFollow ∧ State.reset.pending = [] ∧ step State.reset = .next State.reset :=
  ⟨rfl, fun h => absurd h (by decide), rfl, rfl⟩

/-- StepKeepsSettled and QueueIsServed: one command waits, and the step runs it. -/
theorem witness_StepKeepsSettled_QueueIsServed :
    let s : State := { base with pending := [.pwUpdate 5] }
    s.Settled ∧ s.CreditsFollow ∧ s.pending.length = 1 ∧ ∃ u, step s = .next u :=
  ⟨rfl, fun h => absurd h (by decide), rfl, _, rfl⟩

theorem witness_QuietEffectIsAll : (base.inc O.FRAMES_RX).Quiet :=
  ⟨by decide +kernel, by decide +kernel, by decide +kernel, by decide +kernel, fun h => absurd h (by decide +kernel)⟩

theorem witness_ObjectsAndDoms : O.FRAMES_RX ≠ O.FRAMES_DISCARDED ∧ objsWf base.objs = true ∧ objsWf (base.inc O.FRAMES_RX).objs = true := by
  decide +kernel

theorem witness_ObjectsAndDoms_dom : (0x2420 : Nat) ≠ 0x2720 := by decide

/-! ### Frames -/

/-- A KEEPALIVE of the session with a TAG of zeros. -/
def untagged : Frame := { frameOf sess 4 [] with rest := List.replicate 16 0#8 }

theorem untagged_wrong : frameTagOk untagged 4 sess.key = false := by decide +kernel

/-- Each of the faults of R47, in a KEEPALIVE or in an IDENTIFY. -/
theorem witness_BadFramesDiscarded :
    let f := frameOf sess 4 []
    (base.at 0).online = true ∧ (base.at 0).hostTimers = base.at 0 ∧ base.tdp.session = some sess ∧
    ({ f with magic := 0x4455 } : Frame).magic ≠ 0x4454 ∧ f.magic = 0x4454 ∧ f.version = 1 ∧ f.sid ≠ 0 ∧ f.sid = sess.sid ∧
    ({ f with rest := [] } : Frame).rest.length ≠ f.length + (if f.sid = 0 then 0 else 16) ∧ 0x32 ∈ [0x01, 0x02, 0x30, 0x31, 0x32] ∧
    sess.addr ≠ ({ f with addr := 10 } : Frame).addr ∧ sess.port ≠ ({ f with port := 6 } : Frame).port ∧
    untagged.rest.length = untagged.length + 16 ∧ 4 ∉ [0x01, 0x02, 0x30, 0x31, 0x32] ∧ untagged.sid = sess.sid ∧
    sess.addr = untagged.addr ∧ sess.port = untagged.port ∧ frameTagOk untagged 4 sess.key = false := by
  rw [untagged_wrong]; decide +kernel

theorem witness_WrongTagDoesNothing :
    let f := untagged
    (base.at 0).online = true ∧ (base.at 0).hostTimers = base.at 0 ∧ base.tdp.session = some sess ∧ f.magic = 0x4454 ∧
    f.version = 1 ∧ f.sid ≠ 0 ∧ f.sid = sess.sid ∧ f.addr = sess.addr ∧ f.port = sess.port ∧ frameTagOk f 4 sess.key = false := by
  simp only [untagged_wrong]; decide +kernel

/-- OtherVersionAnswered; and BadOpcodeAnswered outside the session (an opcode that no host sends, a notice acknowledgement
without RESPONSE, a READ with it) and in it. -/
theorem witness_FramesAnsweredWithErrors :
    let f := frameOf sess 0x40 []
    (base.at 0).online = true ∧ (base.at 0).hostTimers = base.at 0 ∧ (base.at 0).mayAnswer 0 = true ∧ f.magic = 0x4454 ∧
    ({ f with version := 2 } : Frame).version ≠ 1 ∧ f.version = 1 ∧ definedOpcode 0x40 = false ∧ bit f.flags 0 = false ∧
    bit ({ f with flags := 1 } : Frame).flags 0 = true ∧ ({ f with sid := 0, rest := [] } : Frame).rest.length = f.length ∧
    base.tdp.session = some sess ∧ f.sid = sess.sid ∧ f.sid ≠ 0 ∧ f.addr = sess.addr ∧ f.port = sess.port ∧
    isSessionless 0x40 = false ∧ f.rest.length = f.length + 16 ∧ frameTagOk f 0x40 sess.key = true := by
  simp only [(turn_of base sess 0x40 [] base_ready).tag]; decide +kernel

/-- A request outside any session. -/
def askOf (body : List Byte) : Frame := ⟨9, 5, 0x4454, 1, 1, 0, 0, body.length, 0, body⟩

theorem hears_of (s : State) (opcode : Nat) (body : List Byte) (ht : (s.at 0).hostTimers = s.at 0) (ho : (s.at 0).online = true)
    (hm : (s.at 0).mayAnswer opcode = true) : s.Hears 0 opcode (askOf body) :=
  { timers := ht, online := ho, magic := rfl, version := rfl, sid := rfl, size := rfl, request := by show bit 0 0 = false; decide
    limits := hm }

/-- A part on which a challenge stands and no session is open. -/
def challenged : State :=
  { base with tdp := { Tdp.init with challenge := some { sid := 3, hostNonce := List.replicate 16 1#8, partNonce := List.replicate 16 2#8
                                                         issued := 0, preempts := false, sameAddr := false, addr := 9 } } }

theorem hmac256_length (key msg : List Byte) : (hmac256 key msg).length = 32 := by simp [hmac256, hmacOf, sha256_length]

/-- The key of a part that is not OWNED. -/
def partKey : List Byte := natLE 32 Config.transportKey.toNat

/-- An OPEN with the right proof. -/
def opening : List Byte := proof partKey "TDP-OPEN" (List.replicate 16 2#8) (List.replicate 16 1#8) 3

/-- IDENTIFY, QUOTE, CERT, OPEN_REQ and OPEN, each in a state that takes it. -/
theorem witness_SessionlessRequests :
    (challenged.Hears 0 0x32 (askOf []) ∧ frameBody (askOf []) = []) ∧
    (challenged.Hears 0 0x30 (askOf (List.replicate 32 0#8)) ∧ (frameBody (askOf (List.replicate 32 0#8))).length = 32) ∧
    (challenged.Hears 0 0x31 (askOf [0#8, 0#8, 0#8, 0#8, 0#8, 4#8]) ∧ u16At (frameBody (askOf [0#8, 0#8, 0#8, 0#8, 0#8, 4#8])) 4 = 1024 ∧
      u16At (frameBody (askOf [0#8, 0#8, 0#8, 0#8, 0#8, 4#8])) 4 ≠ 0 ∧
      u32At (frameBody (askOf [0#8, 0#8, 0#8, 0#8, 0#8, 4#8])) 0 ≤ challenged.certs.length) ∧
    (challenged.Hears 0 1 (askOf (List.replicate 16 1#8)) ∧ challenged.boot.phase = .ready ∧ challenged.access.level ≠ 2 ∧
      challenged.tdp.authLockUntil ≤ (challenged.at 0).now ∧ (challenged.asked 0 1).sessionKey.isSome = true ∧
      challenged.tdp.session = none) ∧
    (challenged.Hears 0 2 (askOf opening) ∧ (challenged.asked 0 2).sessionKey = some partKey ∧ bit (askOf opening).flags 2 = false ∧
      challenged.tdp.challenge.map (fun c => (c.partNonce, c.hostNonce, c.sid, c.preempts)) =
        some (List.replicate 16 2#8, List.replicate 16 1#8, 3, false) ∧
      frameBody (askOf opening) = opening ∧ opening.length = 32) := by
  have h (opcode : Nat) (body : List Byte) (hm : (challenged.at 0).mayAnswer opcode = true) : challenged.Hears 0 opcode (askOf body) :=
    hears_of challenged opcode body (by decide +kernel) (by decide +kernel) hm
  refine ⟨⟨h _ _ (by decide +kernel), rfl⟩, ⟨h _ _ (by decide +kernel), rfl⟩,
    ⟨h _ _ (by decide +kernel), by decide, by decide, Nat.zero_le _⟩,
    ⟨h _ _ (by decide +kernel), rfl, by decide, by decide +kernel, rfl, rfl⟩,
    ⟨h _ _ (by decide +kernel), rfl, by show bit 0 2 = false; decide, by decide +kernel, ?_, ?_⟩⟩
  · simp [frameBody, askOf]
  · exact hmac256_length _ _

/-! ### Requests of the open session -/

/-- The row of the dictionary for an object. -/
def rowOf (key : Nat) : ObjRow :=
  (Dict.row? (key / 256) (key % 256)).getD ⟨0, 0, 0, 0, .u8, .ro, false, 0, .any, .now⟩

/-- The object idx.sub has this row. -/
def hasRow (idx sub : Nat) (r : ObjRow) : Bool :=
  match findObject idx sub with | .ok q => decide (q = r) | .error _ => false

theorem found (idx sub : Nat) (r : ObjRow) (h : hasRow idx sub r = true) : findObject idx sub = .ok r := by
  unfold hasRow at h
  split at h
  next q hq => rw [hq, of_decide_eq_true h]
  · cases h

/-- The object idx.sub is refused with this status. -/
def hasNone (idx sub st : Nat) : Bool :=
  match findObject idx sub with | .ok _ => false | .error e => decide (e = st)

theorem foundNone (idx sub st : Nat) (h : hasNone idx sub st = true) : findObject idx sub = .error st := by
  unfold hasNone at h
  split at h
  · cases h
  next e he => rw [he, of_decide_eq_true h]

/-- READ and INFO of LEASE_TIME, READ_SEG of FIRMWARE's neighbour 2420h from its start, KEEPALIVE and CLOSE. -/
theorem witness_ReadingRequests :
    let rd := natLE 2 (O.LEASE_TIME / 256) ++ [toByte (O.LEASE_TIME % 256), 0#8]
    let sg := natLE 2 0x2420 ++ [0#8, 0#8] ++ natLE 4 0 ++ natLE 2 1024 ++ natLE 4 0
    let u := base.turned 0 sess 1
    (base.Turn 0 0x10 (frameOf sess 0x10 rd) sess ∧ base.Turn 0 0x14 (frameOf sess 0x14 rd) sess ∧
      base.Turn 0 0x12 (frameOf sess 0x12 sg) sess ∧ base.Turn 0 4 (frameOf sess 4 []) sess ∧ base.Turn 0 3 (frameOf sess 3 []) sess) ∧
    findObject (u16At rd 0) (u8At rd 2) = .ok (rowOf O.LEASE_TIME) ∧ findObject (u16At sg 0) (u8At sg 2) = .ok (rowOf 0x242000) ∧
    rd.length = 4 ∧ ((rowOf O.LEASE_TIME).acc == .wo) = false ∧
    ((rowOf O.LEASE_TIME).ty == .dom) = false ∧
    sg.length = 14 ∧ ((rowOf 0x242000).acc == .wo) = false ∧
    (rowOf 0x242000).ty = .dom ∧ u.slotUnread 0x2420 = false ∧ u16At sg 8 = 1024 ∧ u32At sg 10 = 0 ∧ u32At sg 4 ≤ (u.segHead 0x2420 0).1 :=
  ⟨⟨turn_of _ _ _ _ base_ready, turn_of _ _ _ _ base_ready, turn_of _ _ _ _ base_ready, turn_of _ _ _ _ base_ready,
    turn_of _ _ _ _ base_ready⟩, found _ _ _ (by decide +kernel), found _ _ _ (by decide +kernel), by decide +kernel⟩

/-- A READ of an index and of a subindex that do not exist, of a write-only object (OWNER_KEY) and of a DOM, and a WRITE of
PHASE (03h of 1018h). -/
theorem witness_ReadingRequests_refused :
    (base.Turn 0 0x10 (frameOf sess 0x10 [0#8, 0#8, 0#8, 0#8]) sess ∧
      base.Turn 0 0x11 (frameOf sess 0x11 (natLE 2 0x1018 ++ [1#8, 0#8, 4#8, 0#8, 0#8, 0#8, 0#8, 0#8])) sess) ∧
    findObject 0 0 = .error Status.noObject ∧ findObject 0x1018 0x77 = .error Status.noSubindex ∧
    findObject (O.OWNER_KEY / 256) (O.OWNER_KEY % 256) = .ok (rowOf O.OWNER_KEY) ∧
    findObject 0x2420 0 = .ok (rowOf 0x242000) ∧ findObject 0x1018 1 = .ok (rowOf 0x101801) ∧
    (rowOf O.OWNER_KEY).acc = .wo ∧ (rowOf 0x242000).acc ≠ .wo ∧ (rowOf 0x242000).ty = .dom ∧ (rowOf 0x101801).acc = .ro :=
  ⟨⟨turn_of _ _ _ _ base_ready, turn_of _ _ _ _ base_ready⟩, foundNone _ _ _ (by decide +kernel), foundNone _ _ _ (by decide +kernel),
    found _ _ _ (by decide +kernel), found _ _ _ (by decide +kernel), found _ _ _ (by decide +kernel), by decide +kernel⟩

/-- A WRITE of LEASE_TIME; a value out of its range; one in range. -/
theorem witness_WriteRequests :
    let key := O.LEASE_TIME
    let r := rowOf key
    base.Turn 0 0x11 (writeFrame (hdrOf sess (key / 256) (key % 256) (natLE 4 3000)) (key / 256) (key % 256) (natLE 4 3000)) sess ∧
    findObject (key / 256) (key % 256) = .ok r ∧ key / 256 < 0x8000 ∧ (r.acc == .ro) = false ∧ (r.ty == .dom) = false ∧
    (natLE 4 3000).length = r.ty.size ∧ (key % 256 = 0xff && Dict.hasApply (key / 256)) = false ∧
    (r.app == .apply && Dict.hasApply (key / 256)) = false ∧ valueOk r 0 = false ∧ valueOk r 3000 = true ∧ base.control = true ∧
    (natLE 4 3000).length < 65536 ∧ isMirrored key = false ∧ base.commandOp key 3000 = none ∧ Dict.jobScoped (key / 256) = false ∧ base.nowRefusal key 3000 = none ∧
    base.alignRows key 3000 = [] := ⟨write_of _ _ _ _ _ base_ready, found _ _ _ (by decide +kernel), by decide +kernel⟩

/-- A field of WEB_SCALE, with nothing, with a good value and with a bad value staged. -/
theorem witness_RecordsStage :
    let r := rowOf 0x260101
    r.app = .apply ∧ Dict.hasApply 0x2601 = true ∧ base.authorityRefused 0x260101 = false ∧ base.staged 0x2601 = [] ∧
    (stagedIn base 0x2601 [(0x260101, 0)]).staged 0x2601 ≠ [] ∧ stageFail [(0x260101, 0)] = some 1 ∧
    (stagedIn base 0x2601 [(0x260101, 0)]).staged 0x2601 = [(0x260101, 0)] ∧ (0x2601 : Nat) ≠ 0x1321 ∧ Dict.hasApply 0x1321 = true ∧
    base.lifecycle ≠ 1 ∧ stageFail [(O.ARM_MODE, 3)] = some (O.ARM_MODE % 256) ∧
    (stagedIn base 0x2003 [(O.ARM_MODE, 3)]).staged 0x2003 = [(O.ARM_MODE, 3)] := by decide +kernel

theorem skewMap_ok (n : Nat) : base.domOk 0x2720 (List.replicate n 63#8) = (n == 20736) := by
  simp [State.domOk, List.all_replicate]

/-- A WRITE_SEG of 2420h with FIRST, of one byte of 49 152; of all of a zero-sized one with FIRST and LAST; and of bytes of the
wrong size. -/
theorem witness_SegmentedWrites :
    let b := natLE 2 0x2420 ++ [0#8, 1#8] ++ natLE 4 0 ++ natLE 4 49152 ++ natLE 2 1 ++ [7#8]
    let e := natLE 2 0x2420 ++ [0#8, 3#8] ++ natLE 4 0 ++ natLE 4 0 ++ natLE 2 0
    let w := natLE 2 0x2420 ++ [0#8, 3#8] ++ natLE 4 0 ++ natLE 4 1 ++ natLE 2 1 ++ [7#8]
    let u := base.turned 0 sess 1
    let v := u.updSession fun y => { y with transfer := none }
    (∀ body, base.Turn 0 0x13 (frameOf sess 0x13 body) sess) ∧ findObject 0x2420 0 = .ok (rowOf 0x242000) ∧
    (rowOf 0x242000).acc ≠ .ro ∧ (rowOf 0x242000).ty = .dom ∧
    (14 ≤ b.length ∧ (b.drop 14).length = u16At b 12 ∧ u16At b 0 = 0x2420 ∧ u8At b 2 = 0 ∧ bit (u8At b 3) 0 = true ∧ u32At b 4 = 0 ∧
      bit (u8At b 3) 1 = false ∧ u.segRefused 0x2420 = false ∧ u16At b 12 ≤ u32At b 8 ∧ u16At b 12 ≤ 1024 ∧ (0x2420 : Nat) < 0x8000) ∧
    (14 ≤ e.length ∧ (e.drop 14).length = u16At e 12 ∧ bit (u8At e 3) 0 = true ∧ bit (u8At e 3) 1 = true ∧ u32At e 8 = u16At e 12 ∧
      u16At e 12 = 0 ∧ admitsZero 0x2420 = true ∧ (v.domWrite 0x2420 (e.drop 14)).status = Status.ok) ∧
    (14 ≤ w.length ∧ (w.drop 14).length = u16At w 12 ∧ bit (u8At w 3) 0 = true ∧ bit (u8At w 3) 1 = true ∧ u32At w 8 = u16At w 12 ∧
      u16At w 12 ≠ 0 ∧ (v.domWrite 0x2420 (w.drop 14)).status ≠ Status.ok) ∧
    base.domOk 0x2420 [7#8] = false ∧ base.domOk 0x2420 [] = true ∧ base.control = true ∧ base.domRefused 0x2420 = false ∧
    base.domRefused 0x2720 = false ∧ base.domOk 0x2720 (List.replicate 20736 63#8) = true :=
  ⟨fun _ => turn_of _ _ _ _ base_ready, found _ _ _ (by decide +kernel), by decide +kernel, by decide +kernel, by decide +kernel,
    by decide +kernel, by decide +kernel, by decide +kernel, by decide +kernel, by decide +kernel, by decide +kernel,
    by decide +kernel, by rw [skewMap_ok]; rfl⟩

/-- SEQ from 9 behind the expected one to 8 ahead of it, with an answer kept for the one 8 behind. -/
theorem witness_SequenceWindow :
    let x : Session := { sess with expected := 3, cache := [⟨0x10, 65531, 0, []⟩] }
    seqDiff 16 3 x.expected = 0 ∧ seqDiff 16 4 x.expected = 1 ∧ seqDiff 16 10 x.expected = 7 ∧ (∀ h ∈ x.held, h.frame.seq ≠ 4) ∧
    seqDiff 16 65531 x.expected = -8 ∧ (x.cache.find? (fun c => c.seq == 65531)).isSome = true ∧ seqDiff 16 65530 x.expected = -9 ∧
    seqDiff 16 11 x.expected = 8 ∧ seqDiff 16 2 x.expected = -1 ∧ x.cache.find? (fun c => c.seq == 2) = none := by decide +kernel

/-- An acknowledgement of the open session; a notice that was sent once, and one that was sent ten times, 100 ms ago; a session
whose mask bars a kind; and no session. -/
theorem witness_Notices :
    let f : Frame := { frameOf sess 0x20 [] with flags := 1 }
    let g : Frame := { f with rest := tagOf sess 0x20 f }
    let n : Notice := ⟨0, 3, 1, 1, 0, 0, 0, []⟩
    let sent (k : Nat) : Session := { sess with sent := [⟨1, n, 0, k, 0⟩] }
    let s (k : Nat) : State := { base with tdp := { base.tdp with session := some (sent k) } }
    ((base.at 0).hostTimers = base.at 0 ∧ (base.at 0).online = true ∧ base.tdp.session = some sess ∧ g.magic = 0x4454 ∧ g.version = 1 ∧
      g.sid = sess.sid ∧ g.sid ≠ 0 ∧ g.addr = sess.addr ∧ g.port = sess.port ∧ g.rest.length = g.length + 16 ∧
      frameTagOk g 0x20 sess.key = true ∧ bit g.flags 0 = true) ∧
    ((s 1).tdp.session = some (sent 1) ∧ (sent 1).sent.find? (fun m => m.seq == 1) = some ⟨1, n, 0, 1, 0⟩ ∧
      (⟨1, n, 0, 1, 0⟩ : SentNotice).last + 100 * ms ≤ ((s 1).at (100 * ms)).now ∧ (⟨1, n, 0, 9, 0⟩ : SentNotice).sendings < 10 ∧
      10 ≤ (⟨1, n, 0, 10, 0⟩ : SentNotice).sendings ∧ (sent 10).sent.find? (fun m => m.seq == 1) = some ⟨1, n, 0, 10, 0⟩) ∧
    bit ((base.wr O.NOTICE_MASK 0).rd O.NOTICE_MASK) 3 = false ∧ State.reset.tdp.session = none := by
  refine ⟨⟨by decide +kernel, by decide +kernel, rfl, rfl, rfl, rfl, by decide, rfl, rfl, ?_, ?_, by show bit 1 0 = true; decide⟩,
    by decide +kernel⟩
  · simp [frameOf, tagOf_length]
  · simp [frameTagOk, tagOf, frameSigned, frameBody, frameOf]

/-- A challenge one second old; a lockout and a lease that have run out, with each LEASE_LOSS_ACTION; a stage as old as
REC_STAGE_TIMEOUT. -/
theorem witness_SessionTimers :
    let late := 10 ^ 18
    (challenged.tdp.challenge.map (·.issued)) = some 0 ∧ 0 + sec ≤ (challenged.at sec).now ∧
    base.tdp.authLockUntil ≤ (base.at 0).now ∧ base.tdp.session = some sess ∧ sess.leaseEnd ≤ (base.at late).now ∧
    (base.rd O.LEASE_LOSS_ACTION ≠ 2 ∧ base.rd O.LEASE_LOSS_ACTION ≠ 3) ∧
    (base.wr O.LEASE_LOSS_ACTION 2).rd O.LEASE_LOSS_ACTION = 2 ∧ (base.wr O.LEASE_LOSS_ACTION 3).rd O.LEASE_LOSS_ACTION = 3 ∧
    (staging 0x2601 []).stages.find? (fun g => g.index == 0x2601) = some ⟨0x2601, 0, []⟩ ∧
    0 + (stagedIn base 0x2601 []).rd O.REC_STAGE_TIMEOUT * ms ≤ ((stagedIn base 0x2601 []).at late).now := by decide +kernel

/-! ### The address -/

/-- The link comes up in NET_MODE 2 and in mode 0; a lease with no address, with the same and with another before it; DHCP_TIMEOUT
without a lease; the first, the fifteenth and the sixteenth conflict; 60 s after the sixteenth; 60 s on the link-local address. -/
theorem witness_AddressAcquisition :
    let s (n : Net) : State := { base with net := n }
    let up : Net := { Net.init with linkUp := true }
    base.awake = true ∧ base.effective O.NET_MODE ≠ 0 ∧
    ({ base with boot := { base.boot with effect := [(O.NET_MODE, 0)] } } : State).effective O.NET_MODE = 0 ∧
    base.net.linkUp = true ∧ (0x0a000003 : Nat) ≠ 0 ∧ (s up).net.addr = 0 ∧ base.net.addr ≠ 0 ∧ base.net.addr ≠ 0x0a000003 ∧
    (s up).effective O.NET_MODE = 2 ∧ (s up).net.probing = false ∧ (s up).net.conflicts = 0 ∧
    (s up).net.since + (s up).effective O.DHCP_TIMEOUT * sec ≤ ((s up).at (3600 * sec)).now ∧
    (s { up with probing := true, conflicts := 14 }).net.conflicts < 15 ∧ (s { up with probing := true, conflicts := 15 }).net.conflicts = 15 ∧
    (s { up with probing := true }).net.since + 4 * sec ≤ ((s { up with probing := true }).at (4 * sec)).now ∧
    (s { up with conflicts := 16 }).net.since + 60 * sec ≤ ((s { up with conflicts := 16 }).at (60 * sec)).now ∧
    (s { up with source := 2 }).net.source = 2 ∧ (s { up with source := 2 }).net.since + 60 * sec ≤ ((s { up with source := 2 }).at (60 * sec)).now := by
  decide +kernel

/-! ### Reset, boot and the TAP -/

/-- A firmware image of 128 bytes: a header and no body. -/
def image : List Byte :=
  let head := natLE 4 0x49574654 ++ natLE 2 1 ++ natLE 6 0 ++ natLE 4 128 ++ natLE 4 (crc32c []) ++ natLE 8 0
  let rest : List Byte := List.replicate 96 0#8
  head ++ natLE 4 (crc32c (head ++ rest)) ++ rest

/-- A part whose slot A holds that image. -/
def flashed : State := { base with flash := { Flash.blank with slotA := image }, boot := { Boot.init with phase := .hold } }

/-- What a reset finds when nothing is wrong outside the part. -/
def env : BootEnv := ⟨0, 0, false, false, false, true, true⟩

/-- A reset that has waited its 10 ms; a watchdog failure in PAUSE after boot and before step 11. -/
theorem witness_ResetsTakeEffect :
    let r : State := { base with boot := { base.boot with pendingReset := some (3, 0) } }
    r.boot.pendingReset = some (3, 0) ∧ 0 + 10 * ms ≤ (r.at (10 * ms)).now ∧ (1 : Nat) < 2 ∧ base.power.state < 3 ∧
    base.boot.pendingReset = none ∧ base.boot.phase = .ready ∧
    ({ base with boot := { base.boot with phase := .applied } } : State).boot.phase = .applied := by decide +kernel

/-- The ROM holds for each of its reasons; a slot that runs is chosen; boot's last step. -/
theorem witness_BootRom :
    let s (n : Nat) : State := { flashed with boot := { flashed.boot with straps := n } }
    (s 3).boot.straps % 4 = 3 ∧ ((s 24).boot.straps % 4 ≠ 3 ∧ bits (s 24).boot.straps 4 3 = 3) ∧
    ((s 0).boot.straps % 4 = 0 ∧ bits (s 0).boot.straps 4 3 ≠ 3 ∧ env.pllFail = false ∧ ({ env with parityBad := true } : BootEnv).parityBad = true ∧
      env.parityBad = false) ∧
    (State.reset.loaderOk env 0 = false ∧ State.reset.loaderOk env 1 = false ∧ State.reset.boot.watchdogCount < 3) ∧
    (match flashed.chooseSlot env with | .ok p => decide (p = (0, 0)) | .error _ => false) = true ∧ env.latePllFail = false ∧
    ({ env with latePllFail := true } : BootEnv).latePllFail = true ∧
    (match (s 1).chooseSlot { env with loaderA := false } with | .ok _ => false | .error e => decide (e = 0x82)) = true ∧
    ({ base with boot := { base.boot with phase := .applied } } : State).boot.phase = .applied ∧
    (({ base with boot := { base.boot with phase := .applied } } : State).wr O.CAL_STATUS_STATE 1).calState ≠ 0 := by decide +kernel

/-- TAP instructions outside ROM hold and safe state, in them, while the part trains, and in OFF; flash access in ROM hold and
outside it; each kind of area. -/
theorem witness_TapAccess :
    base.boot.phase ≠ .hold ∧ base.safe.active = false ∧ flashed.boot.phase = .hold ∧ base.power.state ≠ 4 ∧
    ({ base with power := { base.power with state := 4 } } : State).power.state = 4 ∧
    ({ base with safe := { base.safe with active := true } } : State).safe.active = true ∧
    (let s : State := { base with boot := { base.boot with phase := .training, code := 6 } }
     s.boot.phase = .training ∧ s.boot.code < 7 ∧ s.power.state ≠ 4) ∧ base.boot.phase ≠ .training ∧
    (∀ area ∈ [0, 1, 2, 9, 10, 11, 13], area < 14) ∧ ([5#8] : List Byte).length ≤ 16646144 := by decide +kernel

/-! ### The bank store and the lifecycle -/

/-- A part in OWNED with the owner's key unsealed. -/
def owned : State :=
  { base with
    fuses := { base.fuses with lifecycleBits := 1 }
    bank := { Bank.init with current := some ⟨List.replicate 6 [], []⟩, key := some (List.replicate 32 0#8), unsealResult := 1 } }

/-- Each host write that begins a store or a reset, in a state that takes it. -/
theorem witness_StoreAndLifecycleRequests :
    Met O.STORE [1#8] (fun u => u.storeBusy = false ∧ 2 ≤ u.livePositions.length) ∧
    Met O.RESTORE_DEFAULTS [1#8] (fun u => u.openPages = false ∧ u.storeBusy = false ∧ 2 ≤ u.livePositions.length) ∧
    Met O.SLOT_SELECT [0#8] (fun u => u.programmingSlot 0 = false ∧ imageValid (u.flash.slot 0) = true ∧ u.storeBusy = false) ∧
    Met O.OWNER_KEY (List.replicate 32 1#8) (fun u => u.lifecycle = 1 ∧ u.storeBusy = false) ∧
    Met O.OWNER_KEY (List.replicate 32 1#8) (fun u => u.lifecycle ≠ 1) ∧
    Met 0x1321ff [1#8] (fun u => u.lifecycle = 1 ∧ u.storeBusy = false ∧ u.bank.key = some (List.replicate 32 0#8) ∧ u.staged 0x1321 ≠ [] ∧
      stageFail (u.staged 0x1321) = none) ∧
    Met O.RESET [1#8] (fun u => u.boot.pendingReset = none) :=
  ⟨met base sess _ _ _ base_ready (by decide +kernel), met base sess _ _ _ base_ready (by decide +kernel),
    met { base with flash := flashed.flash } sess _ _ _ (by decide +kernel) (by decide +kernel),
    met owned sess _ _ _ (by decide +kernel) (by decide +kernel), met base sess _ _ _ base_ready (by decide +kernel),
    met (stagedIn owned 0x1321 [(O.PRESEAL_MEAS 0, 5)]) (staging 0x1321 [(O.PRESEAL_MEAS 0, 5)]) _ _ _ (by decide +kernel) (by decide +kernel),
    met base sess _ _ _ base_ready (by decide +kernel)⟩

/-- To OWNED from MANUFACTURE, with a key written in the session; to RETURN from OWNED. -/
theorem witness_StoreAndLifecycleRequests_lifecycle :
    let x : Session := { sess with newKey := some (List.replicate 32 1#8) }
    Met O.LIFECYCLE_REQUEST [1#8] (fun u => u.lifecycle ≠ 1 ∧ u.fuses.lifecycleBits < 16 ∧ u.openPages = false ∧
      (u.tdp.session.bind (·.newKey)).isSome = true ∧ u.storeBusy = false ∧ u.boot.pendingReset = none ∧ 2 ≤ u.livePositions.length) ∧
    Met O.LIFECYCLE_REQUEST [2#8] (fun u => u.lifecycle = 1 ∧ u.fuses.lifecycleBits < 16 ∧ u.openPages = false ∧ u.storeBusy = false ∧
      u.boot.pendingReset = none ∧ 2 ≤ u.livePositions.length) ∧ x.sid ≠ 0 :=
  ⟨met { base with tdp := { base.tdp with session := some { sess with newKey := some (List.replicate 32 1#8) } } }
      { sess with newKey := some (List.replicate 32 1#8) } _ _ _ (by decide +kernel) (by decide +kernel),
    met owned sess _ _ _ (by decide +kernel) (by decide +kernel), by decide⟩

/-- A store that runs, its end and its time-out; the automatic store; a slot under programming. -/
theorem witness_StoresRun :
    let job : StoreJob := ⟨0, BankSlot.erased, 0, 0⟩
    let s : State := { base with bank := { Bank.init with pendingAuto := true } }
    let r : State := { base with bank := { Bank.init with job := some job } }
    let p (k : Nat) : State := { base with bank := { Bank.init with programming := some ⟨k, image⟩ } }
    (s.bank.pendingAuto = true ∧ s.storeBusy = false ∧ s.bank.lastStore = none ∧
      (s.bank.recent.filter fun m => (s.at 0).now < m + 24 * 3600 * sec).length < 72) ∧
    (r.bank.job = some job ∧ r.boot.railFallen = false ∧ r.bank.transition = none ∧ job.since + 60 * sec ≤ (r.at (60 * sec)).now) ∧
    (p 0).bank.programming = some ⟨0, image⟩ ∧ (p 1).bank.programming = some ⟨1, image⟩ ∧ (p 1).boot.railFallen = false ∧
    ({ base with boot := { base.boot with railFallen := true } } : State).boot.railFallen = true := by decide +kernel

/-- A bank slot written out byte by byte from *Bank slot header*: SEQUENCE 7, CAUSE 1, BOOT_SLOT 1, position 2 retired, and a body
of two entries, STORE_MIN_INTERVAL 700 and one whose type differs (R116, R128); the CRCs were computed apart. -/
def slotImage : List Byte :=
  [0x54#8, 0x42#8, 0x4e#8, 0x4b#8, 1#8, 0#8, 0#8, 0#8, 7#8, 0#8, 0#8, 0#8, 24#8, 0#8, 0#8, 0#8, 0xef#8, 0x7e#8, 0xc2#8, 0xb1#8,
   4#8, 1#8, 1#8, 0#8, 0#8, 0#8, 2#8, 3#8, 9#8, 0#8, 0#8, 0#8, 5#8, 0#8, 0#8, 0#8, 0#8, 0#8, 0#8, 0#8] ++ List.replicate 20 0#8 ++
  [0x35#8, 0x8b#8, 0x93#8, 0x5c#8, 5#8, 0x12#8, 0#8, 4#8, 4#8, 0#8, 0#8, 0#8, 0xbc#8, 2#8, 0#8, 0#8,
   0#8, 0x12#8, 0#8, 3#8, 2#8, 0#8, 0#8, 0#8, 1#8, 0#8, 0#8, 0#8]

theorem test_slotRead :
    let b := BankSlot.read slotImage
    b.valid = true ∧ b.bodyCrc = true ∧ (b.sequence, b.length, b.retired, b.cause, b.bootSlot, b.cycles, b.timeNs) = (7, 24, 4, 1, 1, 9, 5) ∧
      b.body.objs = [(0x120500, 700)] ∧ b.body.misfits = 1 ∧
      (BankSlot.read (slotImage.set 8 8#8)).valid = false ∧ (BankSlot.read (slotImage.take 80)).bodyCrc = false := by decide +kernel

/-! ### Power and debug -/

/-- The part with an active set, in this power state. -/
def powered (n : Nat) : State :=
  { base with power := { Power.init with state := n }, jobs := { Jobs.init with active := some JobSet.empty } }

/-- Every power request in a state that takes it; the refusals of REQUEST_RUN; an orderly pause at its end. -/
theorem witness_PowerRequests :
    Met O.POWER_REQUEST [0#8] (fun u => u.moving = false ∧ u.power.state = 1 ∧ u.jobs.active.isSome = true ∧ u.safe.active = false ∧
      u.access.level ≠ 2) ∧
    Met O.POWER_REQUEST [0#8] (fun u => u.moving = false ∧ u.power.state = 2 ∧ u.jobs.active.isSome = true ∧ u.safe.active = false ∧
      u.access.level ≠ 2) ∧
    Met O.POWER_REQUEST [1#8] (fun u => u.moving = false ∧ u.power.state = 0) ∧
    Met O.POWER_REQUEST [1#8] (fun u => u.moving = false ∧ u.power.state = 2) ∧
    Met O.POWER_REQUEST [2#8] (fun u => u.graft.state < 2 ∧ u.moving = false ∧ u.power.state = 1) ∧
    Met O.POWER_REQUEST [2#8] (fun u => u.graft.state < 2 ∧ u.moving = false ∧ u.power.state = 0) ∧
    Met O.POWER_REQUEST [3#8] (fun u => (u.canWake 3 = true ∧ u.canWake 4 = true) ∧ u.openPages = false ∧ u.graft.state = 0 ∧
      u.moving = false ∧ u.bank.programming = none ∧ u.power.state ≠ 0) :=
  ⟨met (powered 1) sess _ _ _ (by decide +kernel) (by decide +kernel), met (powered 2) sess _ _ _ (by decide +kernel) (by decide +kernel),
    met (powered 0) sess _ _ _ (by decide +kernel) (by decide +kernel), met (powered 2) sess _ _ _ (by decide +kernel) (by decide +kernel),
    met (powered 1) sess _ _ _ (by decide +kernel) (by decide +kernel), met (powered 0) sess _ _ _ (by decide +kernel) (by decide +kernel),
    met (powered 1) sess _ _ _ (by decide +kernel) (by decide +kernel)⟩

theorem witness_PowerRequests_refused :
    ({ base with power := { base.power with target := 2 } } : State).moving = true ∧ base.moving = false ∧ base.power.state ≠ 0 ∧
    base.jobs.active = none ∧ (powered 1).jobs.active.isSome = true ∧ (powered 1).safe.active = false ∧
    ({ powered 1 with access := { Debug.init with level := 2 } } : State).access.level = 2 ∧
    (let s : State := { powered 0 with power := { Power.init with state := 0, pausing := true, target := 1 } }
     s.power.pausing = true ∧ s.pauseDone = true ∧ s.power.target = 1) ∧ base.canWake 3 = true ∧ base.canWake 4 = true := by decide +kernel

/-- An entry to RUN under way, before and at its moment, and without an active set. -/
theorem witness_PowerRequests_run :
    let s : State := { powered 1 with power := { Power.init with state := 1, target := 0, enableAt := 9 } }
    let v : State := { s with jobs := Jobs.init }
    s.power.state = 1 ∧ s.power.target = 0 ∧ s.jobs.active.isSome = true ∧ s.access.level ≠ 2 ∧ s.safe.active = false ∧ s.now < s.power.enableAt ∧
    (s.at 9).power.enableAt ≤ (s.at 9).now ∧ v.power.state = 1 ∧ v.power.target = 0 ∧ v.jobs.active = none := by decide +kernel

/-- Each wake source in SLEEP and OFF, and WAKE_N not enabled. -/
theorem witness_WakeEvents :
    let s (n : Nat) : State := { base with power := { Power.init with state := n, timerAtEntry := 5 } }
    bit (base.rd O.WAKE_SOURCES) 0 = true ∧ (s 3).power.state = 3 ∧ (s 4).power.state = 4 ∧
    bit ((base.wr O.WAKE_SOURCES 2).rd O.WAKE_SOURCES) 0 = false ∧ bit ((base.wr O.WAKE_SOURCES 2).rd O.WAKE_SOURCES) 1 = true ∧
    (let e : State := { base with power := { Power.init with target := 3 } }
     e.power.state ≠ 3 ∧ e.power.target = 3) ∧
    (s 3).power.timerAtEntry ≠ 0 ∧ (s 3).power.entered + (s 3).power.timerAtEntry * sec ≤ ((s 3).at (5 * sec)).now := by decide +kernel

/-- A live nonce, with no, one and two wrong proofs in the last 10 s; a lock; the ends of the nonce and of the lock. -/
theorem witness_DebugAuthorisation :
    let s (w : List Nat) (l : Nat) : State := { base with access := { Debug.init with nonce := some ([1#8], 0), wrong := w, lockUntil := l } }
    base.debugReachable = true ∧ ((s [] 0).at 0).debugOpen 1 = true ∧ (s [] 0).access.nonce = some ([1#8], 0) ∧
    ((s [] 0).at 0).now < 0 + 10 * sec ∧ 2 ≤ ((s [0, 0] 0).access.wrong.filter fun m => ((s [0, 0] 0).at 0).now < m + 10 * sec).length ∧
    ((s [] 1).at 0).debugOpen (2 ^ (1 - 1)) = false ∧ ((s [] 1).at 0).debugOpen (2 ^ (2 - 1)) = false ∧
    0 + 10 * sec ≤ ((s [] 0).at (10 * sec)).now ∧ (s [] 1).access.lockUntil ≤ ((s [] 1).at 1).now := by decide +kernel

theorem witness_DebugAuthorisation_close : Met O.DEBUG_CLOSE [1#8] (fun _ => True) := met base sess _ _ _ base_ready trivial

/-! ### Records and job sets -/

/-- WEB_SCALE with one value staged, LINE_PITCH 600. -/
theorem witness_RecordApplies :
    findObject 0x2601 255 = .ok (rowOf 0x2601ff) ∧ Dict.hasApply 0x2601 = true ∧ (rowOf 0x2601ff).ty.size = 1 ∧
    ((rowOf 0x2601ff).acc == .ro) = false ∧ ((rowOf 0x2601ff).ty == .dom) = false ∧
    Met 0x2601ff [1#8] (fun u => u.authorityRefused 0x2601ff = false ∧ u.staged 0x2601 ≠ [] ∧ stageFail (u.staged 0x2601) = none ∧
      (u.recordOp 0x2601 (u.staged 0x2601)).status = Status.ok ∧ (u.recordOp 0x2601 (u.staged 0x2601)).data = []) :=
  ⟨found _ _ _ (by decide +kernel), by decide +kernel, by decide +kernel, by decide +kernel, by decide +kernel,
    met (stagedIn base 0x2601 [(0x260101, 600)]) (staging 0x2601 [(0x260101, 600)]) _ _ _ (by decide +kernel) (by decide +kernel)⟩

/-- A shadow set that passes the commit checks. -/
def goodSet : JobSet :=
  { JobSet.empty with vals := [(O.JOB_ID, 5)]
                      doms := (List.range 6).map (fun p => (0x2410 + p, ⟨1, 1, []⟩)) ++ [(0x2420, ⟨1, 1, []⟩)] }

/-- The part with a shadow set in this state. -/
def shadowed (st : SetState) (j : JobSet) : State := { base with jobs := { Jobs.init with state := st, shadow := j } }

/-- A plan that fits 16 GiB, and one of two sets that does not: each has six planes of 26 688 × 40 000 pixels, 6.4 GB, and a page
queue of 4 GiB. -/
theorem witness_PlansAndSetStates_plan :
    let big : JobSet := { goodSet with vals := [(O.JOB_ID, 5), (O.BG_PLANES, 63), (O.BG_WIDTH, 26688), (O.BG_HEIGHT, 40000), (O.PAGE_QUEUE_SIZE, 2 ^ 32)] }
    let s : State := { base with jobs := { Jobs.init with state := .planning, shadow := big, active := some big } }
    (shadowed .planning goodSet).jobs.state = .planning ∧ base.graft.state < 2 ∧ 0 ≤ (shadowed .planning goodSet).plan.free ∧
    s.jobs.state = .planning ∧ s.plan.free < 0 := by decide +kernel

/-- JOB_CONTROL 1 to 4 in the states that take them. -/
theorem witness_PlansAndSetStates :
    Met O.JOB_CONTROL [1#8] (fun u => u.control = true ∧ u.jobs.state = .building ∧ u.jobs.shadow.jobId ≠ 0 ∧
      ¬(u.jobs.active.isSome = true ∧ u.jobs.shadow.jobId = u.activeJob) ∧ u.jobs.shadow.commitFail = none ∧
      u.jobs.shadow.firingFail = none ∧ u.cameraFail u.jobs.shadow = none ∧ u.jobs.shadow.inspectFail = none) ∧
    Met O.JOB_CONTROL [2#8] (fun u => u.control = true ∧ u.jobs.state = .armed) ∧
    Met O.JOB_CONTROL [3#8] (fun u => u.control = true ∧ u.jobs.state = .committed) ∧
    Met O.JOB_CONTROL [4#8] (fun u => u.control = true ∧ (u.jobs.state = .building ∨ u.jobs.state = .committed)) ∧
    Met O.JOB_CONTROL [4#8] (fun u => u.control = true ∧ u.jobs.state = .armed) :=
  ⟨met (shadowed .building goodSet) sess _ _ _ (by decide +kernel) (by decide +kernel),
    met (shadowed .armed goodSet) sess _ _ _ (by decide +kernel) (by decide +kernel),
    met (shadowed .committed goodSet) sess _ _ _ (by decide +kernel) (by decide +kernel),
    met (shadowed .building goodSet) sess _ _ _ (by decide +kernel) (by decide +kernel),
    met (shadowed .armed goodSet) sess _ _ _ (by decide +kernel) (by decide +kernel)⟩

/-- Each set state of the refusals, and a BUILDING set without a JOB_ID. -/
theorem witness_PlansAndSetStates_refused :
    (shadowed .planning goodSet).jobs.state = .planning ∧ State.reset.jobs.state = .empty ∧ (shadowed .armed goodSet).jobs.state ≠ .building ∧
    (shadowed .armed goodSet).jobs.state ≠ .planning ∧ (shadowed .building goodSet).jobs.state ≠ .armed ∧
    (shadowed .building goodSet).jobs.state ≠ .committed ∧ (shadowed .latched goodSet).jobs.state = .latched ∧
    (shadowed .retiring goodSet).jobs.state = .retiring ∧ (shadowed .building JobSet.empty).jobs.shadow.jobId = 0 := by decide +kernel

/-- ARM in mode 1 at line 1 000 with an active set, and in mode 0 without one, the set COMMITTED. -/
theorem witness_ArmApplies :
    MetApply 0x2003 (fun _ v => v.armFail = none ∧ v.rd O.ARM_MODE ≠ 0) ∧ MetApply 0x2003 (fun _ v => v.armFail = none ∧ v.rd O.ARM_MODE = 0) :=
  ⟨met (stagedIn { base with jobs := { Jobs.init with state := .committed, shadow := goodSet, active := some JobSet.empty } } 0x2003
      [(O.ARM_MODE, 1), (O.ARM_BOUNDARY, 65536000)]) (staging 0x2003 [(O.ARM_MODE, 1), (O.ARM_BOUNDARY, 65536000)]) _ _ _
      (by decide +kernel) (by decide +kernel),
    met (stagedIn (shadowed .committed goodSet) 0x2003 [(O.ARM_MODE, 0)]) (staging 0x2003 [(O.ARM_MODE, 0)]) _ _ _
      (by decide +kernel) (by decide +kernel)⟩

/-! ### The page link and the mirror -/

/-- The part with four lanes of ingest and four of the mirror up at G1, and the ingest bond formed. -/
def linked : State :=
  { base with
    lanes := (List.range 24).map fun n => if 16 ≤ n then { Lane.init with state := 3, grade := 1 } else Lane.init
    ingest := { Ingest.init with link := 2, limit := 4096 } }

theorem witness_IngestBond :
    let s : State := { linked with ingest := Ingest.init }
    s.ingest.link ≠ 2 ∧ (bondOf (s.lanesUp 16) (s.rd O.MIN_BOND_WIDTH)).isSome = true ∧ linked.ingest.link = 2 := by
  decide +kernel

/-- A packet with both CRCs right. -/
def packet (ty seq inflated : Nat) (payload : List Byte) : TplPacket :=
  let p : TplPacket := { magic := 0x5054, version := 1, ty := ty, linkSeq := seq, job := 5, page := 1, offset := 0, object := 0, flags := 0
                         length := payload.length, reserved := 0, inflated := inflated, payloadCrc := crc32c payload, headerCrc := 0
                         payload := payload }
  { p with headerCrc := crc32c (packetHead p) }

/-- A packet of every TYPE in its turn and within the credits; one of another TYPE; one whose CRC is wrong. -/
theorem witness_PagePackets :
    linked.ingest.link = 2 ∧ linked.rdB O.CAPTURE_ENABLE = false ∧
    seqLater 32 ((linked.ingest.spent + packetCost (packet 1 0 1 [7#8]).length) % 2 ^ 32) linked.ingest.limit = false ∧
    (∀ ty ∈ [1, 2, 3, 5, 9], packetOk (packet ty 0 1 [7#8]) = true ∧ (packet ty 0 1 [7#8]).linkSeq = linked.ingest.expect ∧
      (packet ty 0 1 [7#8]).magic = 0x5054 ∧ (packet ty 0 1 [7#8]).version = 1 ∧ (packet ty 0 1 [7#8]).length ≤ 16384 ∧
      (packet ty 0 1 [7#8]).inflated ≠ 0) ∧
    packetOk (packet 3 0 0 []) = true ∧ (packet 3 0 0 []).inflated = 0 ∧ 9 ∉ [1, 2, 3, 5] ∧
    packetOk { packet 1 0 1 [7#8] with payload := [8#8] } = false := by decide +kernel

/-- Set 5, with a background plane of 4 × 4 bytes announced. -/
def printing : JobSet :=
  { JobSet.empty with vals := [(O.JOB_ID, 5), (O.BG_PLANES, 1), (O.BG_WIDTH, 4), (O.BG_HEIGHT, 4)], start := 100, begun := true }

/-- The part with that set COMMITTED. -/
def press : State := { linked with jobs := { Jobs.init with shadow := printing, state := .committed } }

/-- A descriptor of page n with the given length in lines and no object. -/
def bareDesc (n lines : Nat) : TplPacket :=
  let d := natLE 4 lines ++ List.replicate 28 0#8
  { packet 2 0 32 d with page := n }

/-- Bytes of the background of the set, then whole; an object for a set that the part does not have; a descriptor of a page of
length 0; the active set with its queue closed. -/
theorem witness_PagePackets_content :
    let p := packet 1 0 1 [7#8]
    let put : JobSet := { printing with planes := mapSet printing.planes p.object (putBytes (mapGet printing.planes p.object []) p.offset [7#8]) [] }
    let whole : JobSet := { printing with planes := [(0, indexed (List.replicate 16 7#8))] }
    (press.inComplete p = false ∧ (match press.takeSet p.job 1 with | .ok a => !a | .error _ => false) = true ∧
      press.getSet false = some printing ∧ p.object ≤ 5 ∧
      bit (printing.rd O.BG_PLANES) p.object = true ∧ p.offset + p.inflated ≤ printing.planeSize ∧
      bit p.flags 0 = false ∧ packetContent p = some [7#8] ∧ put.bgDone = false) ∧
    ({ press with jobs := { press.jobs with shadow := whole } } : State).inComplete p = true ∧
    ((match base.takeSet 5 3 with | .ok _ => false | .error e => decide (e = .noSet)) = true ∧ (5 : Nat) ≠ 0 ∧
      base.jobs.active = none ∧ base.jobs.shadow.jobId ≠ 5 ∧ base.inComplete (packet 3 0 1 [7#8]) = false) ∧
    (let a : JobSet := { printing with closed := true }
     let s : State := { press with jobs := { Jobs.init with active := some a } }
     s.jobs.active = some a ∧ a.closed = true ∧ a.jobId ≠ 0) ∧
    (let q := bareDesc 1 0
     let bs := natLE 4 0 ++ List.replicate 28 0#8
     press.descTaken q = false ∧ (match press.takeSet q.job 2 with | .ok a => !a | .error _ => false) = true ∧
     ((printing.page? q.page).bind (·.outcome)).isSome = false ∧ q.offset = 0 ∧ 32 ≤ q.inflated ∧ bit q.flags 0 = false ∧
     packetContent q = some bs ∧ descSize (putBytes [] 0 bs) = (putBytes [] 0 bs).length ∧
     press.pageRefusal printing q.page ((putBytes [] 0 bs).map (·.2)) = some (.length, [])) := by decide +kernel

/-- The mirror bond formed, the part ACTIVE in a pair. -/
def paired : State :=
  { linked with
    mirror := { Mirror.init with link := 2, limit := 4096, sent := [(0, ⟨3, 5, 1, 0, 0, 0, 1, [7#8], 1⟩), (1, ⟨3, 5, 1, 1, 0, 0, 1, [8#8], 1⟩)] }
    graft := { Graft.init with state := 1, pins := 1, owner := true, paired := true }
    ingest := { linked.ingest with acks := [⟨5, 1, 0⟩], freed := 64 } }

/-- A CREDIT that is due; the partner's MIRROR_ACK, its absence, its CREDIT and RESYNC; the bond that forms; a page packet of the
partner at a part in SYNC. -/
theorem witness_MirrorLink :
    (linked.ingest.link = 2 ∧ linked.ingest.lastCredit + 100000000 ≤ (linked.at 100000000).now ∧ linked.mirror.link ≠ 2 ∧
      64 ≤ paired.ingest.freed) ∧
    (paired.mirror.link = 2 ∧ paired.graft.pins ≠ 0 ∧ paired.ackWaits 5 1 = true) ∧
    ((paired.ingest.acks.find? fun a => a.job == 5 && a.page == 1) = some ⟨5, 1, 0⟩ ∧
      0 + paired.rd O.MIRROR_TIMEOUT * ms ≤ (paired.at sec).now) ∧
    (seqLater 32 4200 paired.mirror.limit = true ∧ paired.mirror.backlog = [] ∧ paired.mirror.again = []) ∧
    (paired.mirror.sent.filter (fun e => !seqLater 32 1 e.1) = [(1, ⟨3, 5, 1, 1, 0, 0, 1, [8#8], 1⟩)] ∧
      (⟨3, 5, 1, 1, 0, 0, 1, [8#8], 1⟩ : MirrorPacket).answers = false ∧
      seqLater 32 (paired.mirror.spent + packetCost 1) paired.mirror.limit = false ∧ seqLater 32 (4096 + packetCost 1) 4096 = true) ∧
    (let s : State := { paired with mirror := Mirror.init }
     s.mirror.link ≠ 2 ∧ (bondOf (s.lanesUp 20) (s.rd O.MIN_BOND_WIDTH)).isSome = true ∧ s.mirror.backlog = []) ∧
    (let s : State := { paired with graft := { paired.graft with state := 2, owner := false }, mirror := { paired.mirror with granted := 4096 } }
     2 ≤ s.graft.state ∧ ∀ ty ∈ [1, 2, 3], packetOk (packet ty 0 1 [7#8]) = true ∧ (packet ty 0 1 [7#8]).linkSeq = s.mirror.expect ∧
      (packet ty 0 1 [7#8]).magic = 0x5054 ∧ (packet ty 0 1 [7#8]).version = 1 ∧ (packet ty 0 1 [7#8]).inflated ≠ 0 ∧
      (packet ty 0 1 [7#8]).length ≤ 16394 ∧
      seqLater 32 ((s.mirror.used + packetCost (packet ty 0 1 [7#8]).length) % 2 ^ 32) 4096 = false) ∧
    (some 3 = ({ paired.mirror with gap := some 3 } : Mirror).gap ∧ seqLater 32 4 3 = true) ∧
    (paired.mirror.resyncs.filter fun t => paired.now ≤ t + 10 * ms).length < 16 ∧
    (let s : State := { paired with mirror := { paired.mirror with resyncs := List.replicate 16 0 } }
     16 ≤ (s.mirror.resyncs.filter fun t => s.now ≤ t + 10 * ms).length ∧ (s.mirrorLost 0).mirror.link = 0) := by
  decide +kernel

/-! ### Nozzles and test pages -/

/-- An active set that can take a test page. -/
def testable : State := { base with jobs := { Jobs.init with active := some JobSet.empty } }

theorem witness_NozzleMapsAndTestPages :
    ({ base with nozzle := { base.nozzle with changed := true } } : State).nozzle.changed = true ∧ base.awake = true ∧
    MetApply 0x2500 (fun _ v => v.rd O.NOZZLE_EDIT_COUNT ≠ 0) :=
  ⟨by decide +kernel, by decide +kernel,
    met (stagedIn base 0x2500 [(O.NOZZLE_EDIT_COUNT, 2), (O.NOZZLE_EDIT_ENTRY, 4096)])
      (staging 0x2500 [(O.NOZZLE_EDIT_COUNT, 2), (O.NOZZLE_EDIT_ENTRY, 4096)]) _ _ _ (by decide +kernel) (by decide +kernel)⟩

/-- A test page is applied and placed; it is measured, with a row outside every camera's field and with all of it seen; a result of
pattern 1 and of pattern 3 is accepted, and one whose objects the host wrote since is not. -/
theorem witness_NozzleMapsAndTestPages_test :
    MetApply 0x2540 (fun _ v => v.testOpen = false ∧ v.jobs.active.isSome = true ∧ v.jobs.active.map (·.closed) = some false) ∧
    Met O.ACCEPT [1#8] (fun u => u.authorityRefused O.ACCEPT = false ∧ u.rd O.TEST_RESULT = 1 ∧ u.nozzle.written = false ∧
      u.nozzle.test = some (1, 63, 0)) ∧
    Met O.ACCEPT [1#8] (fun u => u.authorityRefused O.ACCEPT = false ∧ u.rd O.TEST_RESULT = 1 ∧ u.nozzle.written = false ∧
      u.nozzle.test = some (3, 63, 0)) :=
  ⟨met (stagedIn testable 0x2540 [(O.TEST_PATTERN, 1), (O.TEST_ROWS, 63)]) (staging 0x2540 [(O.TEST_PATTERN, 1), (O.TEST_ROWS, 63)]) _ _ _
      (by decide +kernel) (by decide +kernel),
    met { base.wr O.TEST_RESULT 1 with nozzle := { base.nozzle with test := some (1, 63, 0) } } sess _ _ _ (by decide +kernel)
      (by decide +kernel),
    met { base.wr O.TEST_RESULT 1 with nozzle := { base.nozzle with test := some (3, 63, 0) } } sess _ _ _ (by decide +kernel)
      (by decide +kernel)⟩

theorem witness_NozzleMapsAndTestPages_measured :
    let s : State := { base.wr O.TEST_STATUS_STATE 3 with nozzle := { base.nozzle with test := some (3, 63, 0) } }
    let m (c : Bool) : TestMeasurement := ⟨c, [], [], []⟩
    testable.jobs.active = some JobSet.empty ∧ JobSet.empty.closed = false ∧ testable.testOpen = false ∧ (63 : Nat) ≠ 0 ∧
    (bit 0 0 && (1 = 2 || 1 = 5 || 1 = 6)) = false ∧ s.nozzle.test = some (3, 63, 0) ∧ s.rd O.TEST_STATUS_STATE = 3 ∧
    (m false).covered = false ∧ (m true).covered = true ∧ s.rd O.TEST_OUTCOME ≠ 2 ∧ bit 0 1 = false ∧ (m true).shifts = [] ∧
    (m true).positions = [] ∧ (s.wr O.TEST_RESULT 1).rd O.TEST_RESULT = 1 ∧
    ({ s with nozzle := { s.nozzle with written := true } } : State).nozzle.written = true := by decide +kernel

/-! ### The web position -/

/-- A valid edge of each kind: one level changes, both change; the encoder as the source and not; STEP_IN the same; an input before
boot step 10. -/
theorem witness_PositionEdges :
    let still : State := base.wr O.REPEAT_MODE 3
    base.counting = true ∧ still.counting = true ∧ still.enteringRun = false ∧ base.awake = true ∧
    (base.wr O.ENCO_FOLLOW 0).encoDriven = true ∧ (base.wr O.REPEAT_MODE 1).rd O.REPEAT_MODE = 1 ∧ (base.wr O.REPEAT_MODE 2).rd O.REPEAT_MODE = 2 ∧ (true != base.web.a) ≠ (false != base.web.b) ∧
    true ≠ base.web.a ∧ true ≠ base.web.b ∧ still.rd O.WEB_SOURCE = 0 ∧ (still.wr O.WEB_SOURCE 1).rd O.WEB_SOURCE = 1 ∧
    State.reset.counting = false := by decide +kernel

/-- The first index edge; one 10 counts off with a tolerance of 10, corrected and not; one 11 counts off. -/
theorem witness_PositionEdges_index :
    let s (n : Nat) : State := { (base.wr O.INDEX_PERIOD 1000).wr O.INDEX_TOL 10 with
      web := { Web.init with valid := true, encCount := 1000 + n, cRef := some 0 } }
    base.counting = true ∧ base.rd O.WEB_SOURCE = 0 ∧ (s 0).web.valid = true ∧ (s 0).web.pos = (s 0).web.hwm ∧ (s 0).rd O.INDEX_PERIOD ≠ 0 ∧
    ({ (s 0).web with cRef := none } : Web).cRef = none ∧ (s 10).web.cRef = some 0 ∧
    ((s 10).web.encCount - (0 + ((s 10).rd O.INDEX_PERIOD : Nat))).natAbs ≤ (s 10).rd O.INDEX_TOL ∧ (s 10).rdB O.INDEX_CORRECT = false ∧
    ((s 10).wr O.INDEX_CORRECT 1).rdB O.INDEX_CORRECT = true ∧
    (s 11).rd O.INDEX_TOL < ((s 11).web.encCount - (0 + ((s 11).rd O.INDEX_PERIOD : Nat))).natAbs := by decide +kernel

/-- A run that is as old as STANDSTILL_TIMEOUT; the virtual web not valid, short of a count and past one; a target above and below. -/
theorem witness_StandstillVirtualWebAndRepeater :
    let v : State := base.wr O.WEB_SOURCE 2
    let valid (rest : Nat) : State := { v with web := { Web.init with valid := true, rest := rest } }
    ({ base with web := { Web.init with run := [0] } } : State).web.run = [0] ∧ 0 + base.rd O.STANDSTILL_TIMEOUT * 1000 ≤ (base.at sec).now ∧
    v.counting = true ∧ v.rd O.WEB_SOURCE = 2 ∧ v.web.valid = false ∧ (valid 0).web.valid = true ∧
    (valid 0).web.rest + virtualNext (valid 0).web.virtual ((valid 0).rd O.VIRTUAL_SPEED * 1000000000) ((valid 0).rd O.VIRTUAL_ACCEL) * 5 * 2 ^ 24 < 10 ^ 18 ∧
    10 ^ 18 ≤ (valid (10 ^ 18)).web.rest + virtualNext (valid 0).web.virtual ((valid 0).rd O.VIRTUAL_SPEED * 1000000000) ((valid 0).rd O.VIRTUAL_ACCEL) * 5 * 2 ^ 24 ∧
    (0 : Nat) < 1 ∧ (1 : Nat) ≤ 1 := by decide +kernel

/-- The records of the chapter, VALIDATE, and a write of FLAGS; a pulse at its end. -/
theorem witness_PositionSettings :
    MetApply 0x2601 (fun u v => v.pitch ≠ u.pitch) ∧ MetApply 0x2601 (fun u v => v.pitch = u.pitch) ∧
    MetApply 0x2602 (fun u v => v.rd O.WEB_SOURCE ≠ u.rd O.WEB_SOURCE) ∧ MetApply 0x2605 (fun _ _ => True) ∧ MetApply 0x2606 (fun _ _ => True) ∧
    MetApply 0x262f (fun _ _ => True) ∧ Met O.VALIDATE [1#8] (fun u => u.authorityRefused O.VALIDATE = false ∧ u.web.valid = false) ∧
    Met O.POSITION_STATUS_FLAGS (natLE 2 31) (fun u => u.authorityRefused O.POSITION_STATUS_FLAGS = false) ∧ (32 : Nat) ≤ 32 :=
  ⟨met (stagedIn base 0x2601 [(0x260101, 600)]) (staging 0x2601 [(0x260101, 600)]) _ _ _ (by decide +kernel) (by decide +kernel),
    met (stagedIn base 0x2601 [(0x260101, 1200)]) (staging 0x2601 [(0x260101, 1200)]) _ _ _ (by decide +kernel) (by decide +kernel),
    met (stagedIn base 0x2602 [(O.WEB_SOURCE, 1)]) (staging 0x2602 [(O.WEB_SOURCE, 1)]) _ _ _ (by decide +kernel) (by decide +kernel),
    met (stagedIn base 0x2605 [(O.INDEX_PERIOD, 1000)]) (staging 0x2605 [(O.INDEX_PERIOD, 1000)]) _ _ _ (by decide +kernel) (by decide +kernel),
    met (stagedIn base 0x2606 [(O.CHECK_SOURCE, 0)]) (staging 0x2606 [(O.CHECK_SOURCE, 0)]) _ _ _ (by decide +kernel) (by decide +kernel),
    met (stagedIn base 0x262f [(O.CMP_MODE 15, 0)]) (staging 0x262f [(O.CMP_MODE 15, 0)]) _ _ _ (by decide +kernel) (by decide +kernel),
    met base sess _ _ _ base_ready (by decide +kernel), met base sess _ _ _ base_ready (by decide +kernel), by decide⟩

/-- A row with a pending position (R355). -/
theorem witness_PositionSettings_pending :
    ({ RowState.init with pending := some (7, 1) } : RowState).pending = some (7, 1) := by decide

theorem witness_PositionSettings_pulse :
    let s : State := { base with web := { Web.init with units := List.replicate 16 ⟨1, some 5, none⟩ } }
    (s.unit 15).pulseEnd = some 5 ∧ 5 ≤ (s.at 5).now := by decide +kernel

/-- The output count one short of its target, and one past it. -/
theorem witness_StandstillVirtualWebAndRepeater_repeater :
    let s (n : Int) : State := { base.wr O.REPEAT_MODE 3 with web := { Web.init with repCount := n }, graft := { base.graft with owner := true } }
    (s 0).rd O.REPEAT_MODE = 3 ∧ (s 0).awake = true ∧ (s 0).web.repEdge + 40000 ≤ ((s 0).at 40000).now ∧ (s 0).encoDriven = true ∧
    (s (-1)).web.repCount < (s (-1)).repTarget ∧ (s (-1)).web.enco ≠ .levels (quadrature 0).1 (quadrature 0).2 ∧
    (s 1).repTarget < (s 1).web.repCount ∧ (s 1).web.enco ≠ .levels (quadrature 0).1 (quadrature 0).2 ∧ (s 0).repTarget = (s 0).web.repCount := by decide +kernel

/-! ### Firing -/

/-- Segment 0 with row 0 fitted and an instant placed. -/
def placed : State :=
  { base.wr O.SEGMENT_ENABLE 1 with
    heads := { Head.init with rowsFitted := 1, link := 3, ownerState := 1 } :: List.replicate 15 Head.init
    fire := { Fire.init with rows := { RowState.init with placed := [⟨3, 0, true, 0⟩] } :: List.replicate 95 RowState.init, crossings := [(2, 0, 0)] } }

/-- A crossing 37.5 ns old; an instant that has come, in RUN, 200 ns into safe state, and in PAUSE; a row whose data is stale. -/
theorem witness_FiringMoments :
    let run : State := { placed with power := { Power.init with state := 0 }, graft := { placed.graft with owner := true } }
    let late : State := { placed with
      safe := { Safe.init with active := true }
      fire := { Fire.init with rows := { RowState.init with placed := [⟨3, fireNs 200 + 1, true, 0⟩] } :: List.replicate 95 RowState.init } }
    (placed.fire.crossings = [(2, 0, 0)] ∧ 0 + 37500 ≤ (placed.at 37500).now) ∧
    (run.nextPulse 0 = some (0, ⟨3, 0, true, 0⟩) ∧ run.pulseInstant 0 ⟨3, 0, true, 0⟩ ≤ run.time.fireAt (run.at 0).now ∧ run.power.state = 0 ∧
      run.safe.active = false ∧ run.graft.owner = true ∧ run.holding = false ∧
      ({ run with fire := { run.fire with held := true } } : State).holding = true) ∧
    (late.nextPulse 0 = some (0, ⟨3, fireNs 200 + 1, true, 0⟩) ∧ late.safe.active = true ∧ late.safe.rose + fireNs 200 < late.pulseInstant 0 ⟨3, fireNs 200 + 1, true, 0⟩ ∧
      late.pulseInstant 0 ⟨3, fireNs 200 + 1, true, 0⟩ ≤ late.time.fireAt (late.at sec).now) ∧
    (placed.safe.active = false ∧ placed.power.state ≠ 0 ∧ placed.power.pausing = false ∧ placed.graft.owner = false) ∧
    ({ placed.web with pos := 1, hwm := 2 } : Web).pos < 2 ∧
    ({ placed with safe := { Safe.init with active := true, rose := 1 } } : State).pulseInstant 0 ⟨3, 0, true, 0⟩ ≤ 1 + fireNs 200 ∧
    (placed.headFresh 0 = false ∧ placed.fitted 0 0 = true ∧ (placed.at 0).headFresh 0 = false ∧ (placed.head 0).stale.getD 0 false = false) := by
  decide +kernel

/-- An enabled input that is not tripped and one that is; a clear with one input at its active level, and with none. -/
theorem witness_Interlocks :
    let s : State := base.wr (O.INTERLOCK_ENABLE 3) 1
    let at1 : State := { s with fire := { Fire.init with interlocks := List.replicate 4 ⟨some (s.rdB (O.INTERLOCK_ACTIVE_LEVEL 3)), true, 0⟩ } }
    s.awake = true ∧ s.tripped 3 = false ∧ s.rdB (O.INTERLOCK_ENABLE 3) = true ∧ 3 < s.fire.interlocks.length ∧ bit 15 3 = true ∧
    at1.levelActive 3 = true ∧ at1.tripped 3 = true ∧
    (s.fire.interlocks.getD 3 ⟨none, false, 0⟩).since + s.rd (O.INTERLOCK_FILTER 3) * 5000 ≤ (s.at sec).now ∧
    (at1.fire.interlocks.getD 3 ⟨none, false, 0⟩).since + at1.rd (O.INTERLOCK_FILTER 3) * 5000 ≤ (at1.at sec).now ∧
    (s.at 0).now < (s.fire.interlocks.getD 3 ⟨none, false, 0⟩).since + s.rd (O.INTERLOCK_FILTER 3) * 5000 ∧ Met O.INTERLOCK_CLEAR [15#8]
      (fun u => u.authorityRefused O.INTERLOCK_CLEAR = false ∧ ∀ i, i < 4 → bit 15 i = true → u.levelActive i = false) :=
  ⟨by decide +kernel, by decide +kernel, by decide +kernel, by decide +kernel, by decide, by decide +kernel,
    by decide +kernel, by decide +kernel, by decide +kernel, by decide +kernel, met base sess _ _ _ base_ready (by decide +kernel)⟩

/-- A page of one line at line 100 whose web has passed, printed and spoiled; one whose outcome is final. -/
theorem witness_PageOutcomes :
    let page (o : Option Nat) : Page := { seq := 1, length := 1, useBg := false, bgLine := 0, tag := 0, desc := [], objs := [], start := some 100
                                          stored := true, test := none, spoil := ⟨[], []⟩, composed := 1, fired := true, freed := false, outcome := o, unmirrored := false }
    let set (o : Option Nat) : JobSet := { printing with pages := [page o] }
    let s (o : Option Nat) : State := { base with jobs := { Jobs.init with active := some (set o) }, web := { Web.init with pos := 2 ^ 50, hwm := 2 ^ 50 } }
    (s none).setOf 5 = some (set none) ∧ (s none).page? 5 1 = some (page none) ∧ (s none).pagePassed (set none) (page none) = true ∧
    (page none).accepted = true ∧ (page none).outcome = none ∧ (page none).test = none ∧ (s none).graft.owner = false ∧
    (s (some 0)).page? 5 1 = some (page (some 0)) ∧ (page (some 0)).outcome.isSome = true := by decide +kernel

/-! ### The head link -/

/-- Head 0 up and claimed, with an event of SEQ 9 counted, a LINE packet held and a command outstanding, on an UP lane; segment 0
enabled. -/
def headed : State :=
  { (base.wr O.SEGMENT_ENABLE 1).wr (O.LANE_CONFIG_ENABLE 0) 1 with
    lanes := { Lane.init with state := 3 } :: List.replicate 23 Lane.init
    heads := { Head.init with rowsFitted := 1, link := 3, ownerState := 1, claimed := true, events := [(9, 0)]
                              sent := [⟨40, 1, 0, 0, 0, 7, [], 0, 0⟩], commands := [⟨2, 1, [], 1, 0⟩] } :: List.replicate 15 Head.init }

/-- An identity area of zeros with FORMAT 1, MODULE 1, MAX_PER_DIE 1 and its CRC. -/
def identArea : List Byte :=
  let b : List Byte := [1#8, 0#8, 1#8] ++ List.replicate 59 0#8 ++ [1#8] ++ List.replicate 189 0#8
  b ++ natLE 4 2721498335 ++ List.replicate 256 0#8

/-- One byte of CRC-32C. -/
def crcByte (c : Nat) (b : Byte) : Nat := Crc.bitsOf 8 (c.xor b.toNat)

theorem crc32c_four (b1 b2 b3 b4 : List Byte) (c1 c2 c3 c4 : Nat) (h1 : b1.foldl crcByte 0xffffffff = c1)
    (h2 : b2.foldl crcByte c1 = c2) (h3 : b3.foldl crcByte c2 = c3) (h4 : b4.foldl crcByte c3 = c4) :
    crc32c (b1 ++ b2 ++ b3 ++ b4) = c4.xor 0xffffffff := by
  show ((b1 ++ b2 ++ b3 ++ b4).foldl crcByte 0xffffffff).xor 0xffffffff = _
  rw [List.foldl_append, List.foldl_append, List.foldl_append, h1, h2, h3, h4]

/-- The CRC of the area, a quarter at a time. -/
theorem identArea_crc : crc32c (identArea.take 252) = 2721498335 := by
  have e : identArea.take 252 = (identArea.take 63) ++ ((identArea.drop 63).take 63) ++ ((identArea.drop 126).take 63) ++
      ((identArea.drop 189).take 63) := by decide +kernel
  rw [e]
  exact crc32c_four _ _ _ _ 3519672741 2190101652 2663453392 1573468960 (by decide +kernel) (by decide +kernel) (by decide +kernel)
    (by decide +kernel)

/-- A module that fails its checks, and one that passes them. -/
theorem witness_HeadIdentityAndReports :
    (headed.lane 0).state = 3 ∧ headed.laneEnabled 0 = true ∧ (List.replicate 512 0#8).length = 512 ∧
    identityOk (List.replicate 512 0#8) = false ∧ identArea.length = 512 ∧ identityOk identArea = true := by
  refine ⟨by decide +kernel, by decide +kernel, List.length_replicate, ?_, by decide +kernel, ?_⟩
  · unfold identityOk
    simp only [show (u16At (List.replicate 512 0#8) 0 == 1) = false by decide +kernel, Bool.and_false, Bool.false_and]
  · unfold identityOk
    rw [identArea_crc]
    decide +kernel

/-- A STATUS of the owning port; one of a port whose link is down. -/
theorem witness_HeadIdentityAndReports_status :
    let st : HeadReport := ⟨1, 0, 24000, List.replicate 6 640, List.replicate 6 0, 0, 0⟩
    (headed.head 0).link ≠ 0 ∧ st.ownerState = 1 ∧ st.notDriven ≤ (headed.head 0).notDriven + (headed.head 0).ndEvents ∧
    headed.graft.taking = none ∧ (headed.head 1).link = 0 ∧ bit st.flags 0 = false ∧
    ({ headed.head 0 with contention := true } : Head).contention = true ∧ (headed.head 0).unconfirmed.filter (·.confirmedBy st) = [] ∧
    ({ headed.head 0 with reported := some 0 } : Head).reported.isSome = true ∧
    (headed.head 0).notDriven + (headed.head 0).ndEvents < ({ st with notDriven := 1 } : HeadReport).notDriven := by decide +kernel

/-- An event that is new and one that was counted; NAKs of a packet that is held and of one that is not. -/
theorem witness_HeadEvents :
    (((headed.head 0).lateCopies (headed.at 0).now).any fun e => decide (e.1 = 10)) = false ∧
    (((headed.head 0).lateCopies (headed.at 0).now).any fun e => decide (e.1 = 9)) = true ∧ (headed.head 0).ownerState = 1 ∧
    (((headed.at 0).updHead 0 fun h => h.prune (headed.at 0).now).head 0).packet? (40 % 65536) = some ⟨40, 1, 0, 0, 0, 7, [], 0, 0⟩ ∧
    0 < headed.rd O.RETX_LIMIT ∧ (((headed.at 0).updHead 0 fun h => h.prune (headed.at 0).now).head 0).packet? (41 % 65536) = none := by
  decide +kernel

/-- A command without an answer after its first and its third sending; no host request waits; HEAD_RESET of head 0 in PAUSE. -/
theorem witness_HeadCommands :
    (headed.head 0).commands = [⟨2, 1, [], 1, 0⟩] ∧ 0 + ms ≤ (headed.at ms).now ∧ (1 : Nat) < 3 ∧ (3 : Nat) ≤ 3 ∧ (headed.head 0).user = [] ∧
    ¬(2 = 5 ∧ 0 = 0) ∧ 0 < headed.heads.length ∧
    Met O.HEAD_RESET (natLE 2 1) (fun u => (∀ seg, seg < 16 → bit 1 seg = true → (u.head seg).link = 3) ∧ u.power.state ≠ 0) :=
  ⟨by decide +kernel, by decide +kernel, by decide, by decide, by decide +kernel, by decide, by decide +kernel,
    met headed sess _ _ _ (by decide +kernel) (by decide +kernel)⟩

/-! ### The serial lanes -/

/-- The part with lane 4 in this state. -/
def laned (l : Lane) : State := { base with lanes := (List.range 24).map fun n => if n = 4 then l else Lane.init }

theorem witness_LaneBringUp :
    let l (n : Nat) : Lane := { Lane.init with state := n, limit := 3 }
    (laned (l 1)).lanes.length = 24 ∧ ((laned (l 2)).lane 4).rxMode = 0 ∧ (true = (({ l 2 with rxMode := 2 } : Lane).rxMode == 2)) ∧
    ((laned (l 1)).lane 4).state = 1 ∧ ((laned (l 2)).lane 4).state = 2 ∧ ((laned (l 3)).lane 4).state = 3 ∧
    ((laned (l 3)).lane 4).grade = 0 ∧ 0 < ((laned (l 3)).lane 4).limit ∧ ((laned (l 5)).lane 4).state = 5 ∧
    ((laned (l 2)).lane 4).entered + ms ≤ ((laned (l 2)).at ms).now ∧ ((laned (l 4)).lane 4).state = 4 := by decide +kernel

theorem witness_LaneFaultsAndLowPower :
    let l (n : Nat) : Lane := { Lane.init with state := n }
    ((laned (l 3)).lane 4).state = 3 ∧ ((laned (l 6)).lane 4).state = 6 ∧ ((laned (l 2)).lane 4).state = 2 ∧ bits (2 ^ 49) 55 48 = 2 ∧
    ((laned (l 4)).lane 4).state = 4 ∧ ((laned (l 5)).lane 4).state = 5 ∧ bits 0 55 48 ≠ 2 ∧ ((laned (l 0)).lane 4).state = 0 ∧
    Met (O.LANE_CONFIG_ENABLE 23) [0#8] (fun u => u.rd (O.LANE_CONFIG_ENABLE 23) ≠ 0) ∧
    Met O.RETRAIN (natLE 4 1) (fun u => ∀ n, n < 24 → bit 1 n = true → u.rdB (O.LANE_CONFIG_ENABLE n) = true) :=
  ⟨by decide +kernel, by decide +kernel, by decide +kernel, by decide +kernel, by decide +kernel, by decide +kernel, by decide +kernel,
    by decide +kernel, met base sess _ _ _ base_ready (by decide +kernel), met headed sess _ _ _ (by decide +kernel) (by decide +kernel)⟩

/-- An UP lane and one in training asked for L1 and L2; no answer after 10 µs; a lane in L1 and in L2; eyes at EYE_WARN, one above
it and one below it, warned of and not. -/
theorem witness_LaneFaultsAndLowPower_low :
    let l (n : Nat) : Lane := { Lane.init with state := n, grade := 1, lp := some (1, 0) }
    let w := base.rd O.EYE_WARN
    ((laned (l 3)).lane 4).state = 3 ∧ ((laned (l 4)).lane 4).state = 4 ∧ ((laned (l 3)).lane 4).lp = some (1, 0) ∧
    0 + 10000000 ≤ ((laned (l 3)).at 10000000).now ∧ ((laned (l 6)).lane 4).state = 6 ∧ ((laned (l 7)).lane 4).state = 7 ∧
    ((laned (l 7)).lane 4).eqOwn = false ∧ (laned (l 3)).awake = true ∧ ((laned (l 3)).lane 4).grade ≠ 0 ∧ w = (laned (l 3)).rd O.EYE_WARN ∧
    (laned (l 3)).rd O.EYE_WARN < w + 1 ∧ w - 1 < (laned (l 3)).rd O.EYE_WARN ∧ ((laned (l 3)).lane 4).eyeLow = false ∧
    ((laned { l 3 with eyeLow := true }).lane 4).eyeLow = true := by decide +kernel

/-! ### Cameras and inspection -/

/-- Camera 0 in this STATE, with this pipeline. -/
def filmed (st : Nat) (c : Cam) : State :=
  { base.wr (O.CAM_STATUS_STATE 0) st with cams := c :: List.replicate 3 Cam.init }

/-- Scripts of a starting and of a stopping pipeline; a settings change whose script is in time and late. -/
theorem witness_CameraControl :
    let g : Gen := ⟨1, 100, 256, 50, false, some 7, false, none⟩
    let s : State := filmed 2 { Cam.init with gens := [g] }
    (filmed 1 .init).rd (O.CAM_STATUS_STATE 0) = 1 ∧ (filmed 3 .init).rd (O.CAM_STATUS_STATE 0) = 3 ∧
    (filmed 3 .init).rdB (O.CAM_PORT_ENABLE 0) = false ∧ (s.cam 0).gens.find? (fun g => g.started.isSome && g.effect.isNone) = some g ∧
    g.late = false ∧ MetApply 0x3004 (fun _ _ => True) ∧ MetApply 0x3008 (fun _ _ => True) ∧ MetApply 0x3101 (fun _ _ => True) ∧
    Met 0x3014ff [1#8] (fun u => u.authorityRefused 0x3014ff = false ∧ u.staged 0x3014 ≠ [] ∧ stageFail (u.staged 0x3014) = none ∧
      u.mayAdmit 0 = true) ∧ Met O.SNAPSHOT (natLE 2 65535) (fun _ => True) :=
  ⟨by decide +kernel, by decide +kernel, by decide +kernel, by decide +kernel, rfl,
    met (stagedIn base 0x3004 [(O.CAM_VC 0, 1)]) (staging 0x3004 [(O.CAM_VC 0, 1)]) _ _ _ (by decide +kernel) (by decide +kernel),
    met (stagedIn base 0x3008 [(O.TRIGGER_TIMEOUT 0, 10)]) (staging 0x3008 [(O.TRIGGER_TIMEOUT 0, 10)]) _ _ _ (by decide +kernel)
      (by decide +kernel),
    met (stagedIn base 0x3101 [(0x310102, 65536)]) (staging 0x3101 [(0x310102, 65536)]) _ _ _ (by decide +kernel) (by decide +kernel),
    met (stagedIn base 0x3014 [(O.LIVE_GAIN 0, 300)]) (staging 0x3014 [(O.LIVE_GAIN 0, 300)]) _ _ _ (by decide +kernel) (by decide +kernel),
    met base sess _ _ _ base_ready trivial⟩

/-- A frame start with a trigger pending and without; a packet of the pipeline's channel and data type, and of another; a trigger as
old as TRIGGER_TIMEOUT. -/
theorem witness_FramesAndInspection :
    let g : Trigger := ⟨65536, 0, 0, JobSet.empty⟩
    let f : CamFrame := ⟨⟨1, 0, 0, 65536, 0, 0, 5, 100, 256, 50⟩, JobSet.empty, ⟨0, 65536, 0, 0⟩, [], [], 0⟩
    let s : State := filmed 2 { Cam.init with pending := [g] }
    let r : State := filmed 2 { Cam.init with frame := some f }
    let p : CsiPacket := ⟨r.rd (O.CAM_VC 0), r.rd (O.DATA_TYPE 0), false, false, false, [1, 2]⟩
    (s.camRuns 0 = true ∧ s.freeRunning 0 = false ∧ (s.cam 0).frame = none ∧ (s.cam 0).pending = [g] ∧ 0 < s.cams.length ∧
      (s.at 0).dropStreams 0 = s.at 0 ∧ g.since + s.rd (O.TRIGGER_TIMEOUT 0) * ms ≤ (s.at (100 * sec)).now) ∧
    ((filmed 2 .init).camRuns 0 = true ∧ (filmed 2 .init).freeRunning 0 = false ∧ ((filmed 2 .init).cam 0).frame = none ∧
      ((filmed 2 .init).cam 0).pending = []) ∧
    (p.eccBad = false ∧ (r.cam 0).frame = some f ∧ p.overflow = false ∧ r.camRuns 0 = true ∧ f.lines.length < r.rd (O.CAM_PORT_HEIGHT 0) ∧ p.crcBad = false ∧
      ({ p with vc := p.vc + 1 } : CsiPacket).vc ≠ r.rd (O.CAM_VC 0)) := by decide +kernel

/-- A frame that waits for its comparison, without a response table and with one; a page whose outcome is final, and no such page. -/
theorem witness_FramesAndInspection_compare :
    let f : StreamFrame := { stream := 0, sink := 1, snap := false, finish := 0, info := ⟨1, 0, 0, 65536000, 0, 1, 5, 100, 256, 50⟩
                             set := JobSet.empty, map := ⟨0, 65536, 0, 0⟩, width := 1, height := 1, mask := 1, depth := 8, pixels := [7], arrived := 0 }
    let s : State := filmed 2 { Cam.init with compare := [f] }
    let r : State := { s with
      doms := [(0x3110, ⟨12288, 1, []⟩)]
      compose := { s.compose with next := 2000 } }
    let shot : Shot := ⟨f, ((f.info.pos / 65536 : Nat) : Int) - (r.camDist 0 : Nat), 0, (List.range 4).filter (bit f.mask)⟩
    let p : Span := ⟨5, 1, 0, 10, false, JobSet.empty, some 0⟩
    let q : State := { base with inspect := { base.inspect with spans := [p] } }
    ((s.at 0).deliverDone 0 = s.at 0 ∧ (s.cam 0).compare = [f] ∧ (s.dom 0x3110).size = 0 ∧ f.arrived + 10 * ms ≤ (s.at (10 * ms)).now) ∧
    ((r.at 0).deliverDone 0 = r.at 0 ∧ bit f.info.flags 0 = false ∧ bit f.info.flags 2 = false ∧ bit f.info.flags 3 = false ∧
      bit f.info.flags 5 = false ∧ (r.dom 0x3110).size ≠ 0 ∧ r.refHas shot.span.1 = true ∧ r.refHas shot.span.2 = true) ∧
    (q.inspect.spans.find? (fun p => p.job == 5 && p.page == 1 && p.outcome.isSome) = some p ∧ p.outcome ≠ some 2 ∧
      base.inspect.spans.find? (fun p => p.job == 5 && p.page == 1 && p.outcome.isSome) = none) := by decide +kernel

/-! ### Memory channels and host moves -/

/-- The four channels in these states. -/
def channels (a b c d : Nat) : State :=
  (((base.wr (O.CHANNEL_STATUS_STATE 0) a).wr (O.CHANNEL_STATUS_STATE 1) b).wr (O.CHANNEL_STATUS_STATE 2) c).wr (O.CHANNEL_STATUS_STATE 3) d

/-- A running channel and one that fills; debts below the limit and at it; scrubs that find nothing and one word; the first and the
last training; the last channel to fill, outside safe state and in a safe state that is being cleared; a retraining. -/
theorem witness_MemoryChannels :
    let s := channels 2 2 2 2
    let r : ScrubResult := ⟨64, [], none, false⟩
    let owing (n : Nat) : State := { s with dram := List.replicate 4 ⟨List.replicate 4 n, [], []⟩ }
    let boot (l : List Nat) : State := { State.reset with boot := { Boot.init with phase := .training, trained := l } }
    (s.channel 0 = 2 ∧ (channels 1 2 2 2).channel 0 = 1 ∧ channelOf 4096 = 0 ∧ channelOf (4096 + 3072) = 3) ∧
    (s.channel 0 ≠ 0 ∧ s.channel 0 ≠ 4 ∧ s.channel 0 ≠ 5 ∧ ((owing 2).dram.getD 0 ⟨[], [], []⟩).debt.getD 3 0 < 3 ∧
      3 ≤ ((owing 3).dram.getD 0 ⟨[], [], []⟩).debt.getD 3 0 ∧ (owing 3).channel 0 ≠ 0) ∧
    (r.passDone = false ∧ r.uncorrectable = none ∧ r.corrected = [] ∧ ({ r with corrected := [8] } : ScrubResult).corrected = [8]) ∧
    ((boot []).boot.phase = .training ∧ (boot []).boot.trained.contains 3 = false ∧ (boot []).boot.trained.length ≠ 3 ∧
      (boot [0, 1, 2]).boot.trained.contains 3 = false ∧ (boot [0, 1, 2]).boot.trained.length = 3) ∧
    ((channels 1 1 2 2).channel 0 = 1 ∧ (channels 1 1 2 2).safe.active = false ∧ (∃ d, d < 4 ∧ d ≠ 0 ∧ (channels 1 1 2 2).channel d ≠ 2) ∧
      (∀ d, d < 4 → d ≠ 0 → (channels 1 2 2 2).channel d = 2) ∧
      (let u : State := { channels 1 2 2 2 with safe := { Safe.init with active := true, clearing := true } }
       u.safe.active = true ∧ u.safe.clearing = true ∧ u.safe.causes = [] ∧ setBit (u.rd O.DRAM_FROZEN) 0 false = 0 ∧ ∀ d, d < 4 → d ≠ 0 → u.channel d = 2)) ∧
    ((channels 5 5 2 2).channel 0 = 5 ∧ (channels 5 5 2 2).channel 1 = 5 ∧
      (let u : State := { (channels 5 2 2 2).wr O.DRAM_FROZEN 1 with safe := { Safe.init with active := true, clearing := true } }
       u.channel 0 = 5 ∧ u.safe.active = true ∧ u.safe.clearing = true ∧ bit (u.rd O.DRAM_FROZEN) 0 = true ∧
       ∀ d, d < 4 → d ≠ 0 → u.channel d = 2)) :=
  ⟨by decide +kernel, by decide +kernel, by decide +kernel, by decide +kernel,
    ⟨by decide +kernel, by decide +kernel, ⟨1, by decide, by decide, by decide +kernel⟩, by decide +kernel, by decide +kernel⟩,
    by decide +kernel⟩

/-- A descriptor with LAST of 16 bytes between two host buffers. -/
def descBytes (op : Nat) : List Byte :=
  natLE 8 bufferBase ++ natLE 8 (bufferBase + bufferSize) ++ natLE 4 16 ++ natLE 4 16 ++ natLE 4 1 ++ natLE 4 16 ++ natLE 4 16 ++ natLE 4 1 ++
    [toByte op, 1#8] ++ List.replicate 22 0#8

/-- Host move 0 with that descriptor, in this STATE. -/
def mover (op st : Nat) : State := (base.domReplace 0x3338 (descBytes op)).wr (O.DMA_STATE 24) st

/-- A move that is idle, that is suspended, that runs; the three operations. -/
theorem witness_HostMoves :
    Met O.MOVE_START [1#8] (fun u => u.dmaState 24 ≠ 1 ∧ u.dmaState 24 ≠ 2 ∧ u.chainFail 0 = none ∧ (u.chain 0).isEmpty = false) ∧
    Met O.MOVE_START [1#8] (fun u => u.dmaState 24 = 2 ∧ inBuffers (u.rd (O.RESUME_ADDR 0)) 1 = true) ∧
    Met O.MOVE_ABORT [1#8] (fun u => u.dmaState 24 = 1 ∧ u.moveAt 0 = some (descriptorOf (descBytes 0))) ∧
    Met O.MOVE_ABORT [1#8] (fun u => u.dmaState 24 ≠ 1 ∧ u.dmaState 24 ≠ 2) ∧
    (∀ op ∈ [0, 1, 2], (mover op 1).dmaState 24 = 1 ∧ (mover op 1).moveAt 0 = some (descriptorOf (descBytes op)) ∧
      (descriptorOf (descBytes op)).op = op ∧ ((mover op 1).move 0).barred = 0 ∧
      ((descriptorOf (descBytes op)).bursts ((mover op 1).window 0 (descriptorOf (descBytes op)))).findSome?
        (fun b => b.addressOf (bufferBase + 5)) = some bufferBase) ∧
    inBuffers (bufferBase - 1) 1 = false ∧ inBuffers (bufferBase + 8 * bufferSize) 1 = false :=
  ⟨met (mover 0 0) sess _ _ _ (by decide +kernel) (by decide +kernel),
    met ((mover 0 2).wr (O.RESUME_ADDR 0) bufferBase) sess _ _ _ (by decide +kernel) (by decide +kernel),
    met (mover 0 1) sess _ _ _ (by decide +kernel) (by decide +kernel), met (mover 0 0) sess _ _ _ (by decide +kernel) (by decide +kernel),
    by decide +kernel, by decide +kernel, by decide +kernel⟩

/-- A COPY of 300 bytes that begins 8 bytes before a 128-byte boundary; a host move that holds the one engine of its kind. -/
theorem witness_AddressesBurstsAndEngines :
    let d : Descriptor := ⟨1144, 4096, 300, 300, 1, 300, 300, 1, 0, 0, true⟩
    d.empty = false ∧ (⟨some 1144, some 4096, 8⟩ : Burst) ∈ d.bursts (0, 0) ∧ d.op = 0 ∧
    [EngineUser.host 3].any EngineUser.low = true ∧ nextUser [.host 3] [.understorey, .inflate] = some .inflate := by decide +kernel

/-! ### Network time -/

/-- A part that follows the master 77, with its Sync 4 as the latest, one two-step Sync held and one exchange under way. -/
def timed : State :=
  { base.wr O.PTP_ENABLE 1 with
    time := { TimeState.init with
      masters := [⟨77, 5, [1], 1000, 0⟩], master := some 77, lastSeqs := [(77, 4)], servo := 2, sync := some (0, 5)
      held := [⟨5, 100, 0, 0⟩], exchange := some ⟨9, 50, some (60, 55, 0)⟩ } }

/-- A message of that master. -/
def msg (seq : Nat) : PtpMsg := ⟨77, timed.rd O.PTP_DOMAIN, seq, false, false, 1000, 0, 5, [1], 1000⟩

theorem witness_PtpMessages :
    let p2p : State := timed.wr O.DELAY_MECHANISM 1
    timed.fromMaster (msg 5) = true ∧ timed.time.lastSeq (msg 5).port = some 4 ∧ seqLater 16 (msg 4).seq 4 = false ∧ seqLater 16 (msg 5).seq 4 = true ∧
    (msg 5).twoStep = false ∧ ({ msg 5 with twoStep := true } : PtpMsg).twoStep = true ∧
    timed.time.held.find? (·.seq == (msg 5).seq) = some ⟨5, 100, 0, 0⟩ ∧ (timed.at 0).now ≤ 0 + sec ∧
    timed.time.held.find? (·.seq == (msg 6).seq) = none ∧ timed.rd O.DELAY_MECHANISM = 0 ∧
    timed.time.exchange = some ⟨9, 50, some (60, 55, 0)⟩ ∧ timed.time.sync = some (0, 5) ∧ (9 : Nat) = (msg 9).seq ∧
    p2p.ptpRuns = true ∧ p2p.rd O.DELAY_MECHANISM = 1 ∧ (msg 9).domain = p2p.rd O.PTP_DOMAIN ∧ (msg 9).followUp = false ∧
    ({ msg 9 with followUp := true } : PtpMsg).followUp = true ∧ timed.time.master.isSome = true ∧
    (⟨5, 100, 0, 0⟩ : HeldSync) ∈ timed.time.held ∧ 0 + sec ≤ (timed.at sec).now := by decide +kernel

/-- An Announce; a servo that is UNSYNCED, and one that is LOCKED past ANNOUNCE_TIMEOUT of the Sync interval; a step of each MODE; an
offset beyond the limit and within it; a rate one slew off, further off and equal. -/
theorem witness_PtpServo :
    let off : Int := 10 ^ 15
    let s (r : Int) : State := { timed with time := { timed.time with rate := r } }
    let slew : Int := (timed.rd O.FIRE_RATE_SLEW * 1000 : Nat)
    (timed.ptpRuns = true ∧ (msg 0).domain = timed.rd O.PTP_DOMAIN ∧ bestMaster timed.time.masters = some ⟨77, 5, [1], 1000, 0⟩ ∧
      (timed.wr O.MASTER_PORT 76).rd O.MASTER_PORT ≠ 0 ∧ (timed.wr O.MASTER_PORT 76).rd O.MASTER_PORT ≠ 77 % 2 ^ 80) ∧
    ((State.reset.at 0).freshMasters.length = State.reset.time.masters.length ∧ State.reset.time.servo = 0) ∧
    (let u : State := { timed with time := { timed.time with masters := [⟨77, 5, [1], 1000, 10 ^ 15⟩] } }
     u.time.masters.find? (fun m => u.time.master == some m.port) = some ⟨77, 5, [1], 1000, 10 ^ 15⟩ ∧
      (u.at (10 ^ 15)).freshMasters.length = u.time.masters.length ∧ u.time.servo = 2 ∧
      u.time.lastSync + u.rd O.PTP_ANNOUNCE_TIMEOUT * 1000 * ms ≤ (u.at (10 ^ 15)).now) ∧
    (base.rd O.PTP_STEP_LIMIT * 65536 < (off - 0 - base.time.pathDelay - base.rdI 32 O.DELAY_ASYMMETRY * 65536).natAbs ∧
      ((0 : Int) - 0 - base.time.pathDelay - base.rdI 32 O.DELAY_ASYMMETRY * 65536).natAbs ≤ base.rd O.PTP_STEP_LIMIT * 65536 ∧
      (base.wr O.PTP_ENABLE 0).rdB O.PTP_ENABLE = false) ∧
    ((s 0).time.rate - (s 0).time.fireRate = 0 ∧ (s slew).time.rate - (s slew).time.fireRate = slew ∧ slew ≠ 0 ∧ 0 < slew ∧
      slew < (s (slew + 1)).time.rate - (s (slew + 1)).time.fireRate ∧ (s (-slew - 1)).time.rate - (s (-slew - 1)).time.fireRate < -slew) ∧
    MetApply 0x3503 (fun _ v => v.rd O.PTP_STEP_MODE = 2) ∧
    MetApply 0x3503 (fun _ v => v.rd O.PTP_STEP_MODE ≠ 2 ∧ v.time.stepNeeded = true ∧ v.time.refused = some 7) ∧
    MetApply 0x3501 (fun _ _ => True) ∧ MetApply 0x3502 (fun _ _ => True) :=
  ⟨by decide +kernel, by decide +kernel, by decide +kernel, by decide +kernel, by decide +kernel,
    met (stagedIn base 0x3503 [(O.PTP_STEP_MODE, 2)]) (staging 0x3503 [(O.PTP_STEP_MODE, 2)]) _ _ _ (by decide +kernel) (by decide +kernel),
    met (stagedIn { base with time := { TimeState.init with stepNeeded := true, refused := some 7 } } 0x3503 [(O.PTP_STEP_MODE, 1)])
      (staging 0x3503 [(O.PTP_STEP_MODE, 1)]) _ _ _ (by decide +kernel) (by decide +kernel),
    met (stagedIn base 0x3501 [(O.PTP_DOMAIN, 3)]) (staging 0x3501 [(O.PTP_DOMAIN, 3)]) _ _ _ (by decide +kernel) (by decide +kernel),
    met (stagedIn base 0x3502 [(O.PTP_STEP_LIMIT, 2000)]) (staging 0x3502 [(O.PTP_STEP_LIMIT, 2000)]) _ _ _ (by decide +kernel)
      (by decide +kernel)⟩

/-! ### Faults, safe state and background work -/

/-- Block 3Ah with this record. -/
def faulty (r : FaultRec) : State := { base with faults := [(0x3a, r)] }

/-- An event of a known code, with the log short of sixteen and full; the sixteenth event in W; a record that a register fault took. -/
theorem witness_FaultRecords :
    let full : FaultRec := { FaultRec.empty with log := List.replicate 16 ⟨5, 4, 0, 0, 0⟩ }
    let near : FaultRec := { FaultRec.empty with windows := [(4, List.replicate 15 0)] }
    let gone : FaultRec := { FaultRec.empty with flags := 8 }
    base.awake = true ∧ classIndex 0x3a 5 = some 4 ∧ bit (base.faultRec 0x3a).flags 3 = false ∧ (base.faultRec 0x3a).log.length < 16 ∧
    bit ((faulty full).faultRec 0x3a).flags 3 = false ∧ 16 ≤ ((faulty full).faultRec 0x3a).log.length ∧
    bit ((faulty near).faultRec 0x3a).flags 3 = false ∧ ((faulty near).faultRec 0x3a).severe.contains 4 = false ∧
    severeNow (mapGet (((faulty near).faultRec 0x3a).record 4 5 0 (faulty near).mono false).windows 4 []) ((faulty near).classEntry 0x3a 4).1
      ((faulty near).classEntry 0x3a 4).2.2 (faulty near).mono = true ∧ bit ((faulty gone).faultRec 0x3a).flags 3 = true ∧
    Met (0x150009 + 256 * 0x41) [1#8] (fun _ => True) :=
  ⟨by decide +kernel, by decide +kernel, by decide +kernel, by decide +kernel, by decide +kernel, by decide +kernel, by decide +kernel,
    by decide +kernel, by decide +kernel, by decide +kernel, met base sess _ _ _ base_ready trivial⟩

/-- The part in safe state with this cause listed. -/
def halted (c : List Cause) : State := { base with safe := { Safe.init with active := true, causes := c } }

/-- Each condition of SAFE_CLEAR; a first cause in RUN, and a second one. -/
theorem witness_SafeState :
    Met O.SAFE_ENTER [1#8] (fun _ => True) ∧
    Met O.SAFE_CLEAR [1#8] (fun u => u.safe.active = true ∧ u.safe.clearing = false ∧ u.causePresent = false ∧ u.rd O.DRAM_FROZEN = 0) ∧
    Met O.SAFE_CLEAR [1#8] (fun u => u.safe.active = true ∧ u.safe.clearing = false ∧ u.causePresent = false ∧ u.rd O.DRAM_FROZEN ≠ 0) ∧
    base.safe.active = false ∧ (0 : Nat) ≠ 1 ∧
    (let s : State := { halted [] with access := { Debug.init with level := 2 } }
     s.safe.active = true ∧ s.safe.clearing = false ∧ s.causePresent = true) ∧
    ({ base with power := { Power.init with state := 0 } } : State).power.state = 0 ∧ (halted [⟨2, 5, 1⟩]).safe.active = true ∧
    (halted [⟨2, 5, 1⟩]).safe.causes.length < 16 ∧ (halted []).graft.state ≤ 1 :=
  ⟨met base sess _ _ _ base_ready trivial, met (halted []) sess _ _ _ (by decide +kernel) (by decide +kernel),
    met ((halted []).wr O.DRAM_FROZEN 1) sess _ _ _ (by decide +kernel) (by decide +kernel), by decide +kernel, by decide,
    by decide +kernel, by decide +kernel, by decide +kernel, by decide +kernel, by decide +kernel⟩

/-- Readings of 130 °C everywhere, the tenth above it in a row, and below 120 °C; telemetry off and on. -/
theorem witness_BackgroundWork :
    let even : State := base.wr O.TEMP_COEFF (octOf 4 (List.replicate 16 65536))
    let shown (c : Nat) : List Int := (List.range 8).map fun k => clampI (-32768) 32767
      ((((List.replicate 8 c).getD k 0 * even.slope k / 65536 : Nat) : Int) + toInt 16 (even.fuses.tempOffset.getD k 0))
    let hot : State := { base with safe := { Safe.init with hotReads := List.replicate 8 9 } }
    base.awake = true ∧ (∀ x ∈ shown 2080, x ≤ 2080) ∧ base.safe.hot = false ∧ 2080 < (shown 2081).getD 7 0 ∧
    9 ≤ hot.safe.hotReads.getD 7 0 ∧ hot.safe.hot = false ∧ (∀ x ∈ shown 1919, x < 1920) ∧
    (base.wr O.TELEMETRY_ENABLE 0).rdB O.TELEMETRY_ENABLE = false ∧ (base.wr O.TELEMETRY_ENABLE 1).rdB O.TELEMETRY_ENABLE = true ∧
    base.boot.railFallen = false := by decide +kernel

/-! ### Graft -/

/-- A part of a pair whose record of its partner admits a QUOTE. -/
def forming : State :=
  { paired.wr O.GRAFT_ALLOWLIST (leNat (List.replicate 8 0#8 ++ List.replicate 48 1#8)) with
    graft := { Graft.init with state := 2, pins := 1, paired := true, nonce := List.replicate 32 2#8, forming := some 0
                               partner := some ⟨List.replicate 32 3#8, 12, 17179869184, 2⟩ } }

/-- YIELD_IN at each state; the role pins; HELLO, the two ends of a QUOTE, STATE, SYNC_MARK, REPORT and POSITION of the partner; the
refusal of a pair, and the end of MIRROR_HOLD. -/
theorem witness_GraftEvents :
    let st (n : Nat) (y : Bool) : State := { paired with graft := { paired.graft with state := n, yieldIn := y } }
    let q : QuoteMsg := ⟨true, 0, 1, List.replicate 32 2#8, List.replicate 48 1#8, true⟩
    let slave : State := { paired with graft := { paired.graft with state := 2, owner := false } }
    (base.awake = true ∧ base.graftRuns = true ∧ State.reset.graftRuns = false) ∧
    ((st 3 false).graft.yieldIn = false ∧ (st 3 false).graft.state = 3 ∧ (st 2 false).graft.state = 2 ∧ (st 2 true).graft.yieldIn = true ∧
      (st 0 true).graft.state ≠ 1 ∧ (st 1 true).graft.state = 1 ∧ (st 1 true).graft.owner = true ∧ (st 1 true).graft.planned = false) ∧
    (((1 = 0) = (paired.graft.pins = 0)) ∧ (paired.power.state = 1 ∧ paired.power.target = 0xff) ∧ ((0 = 0) ≠ (paired.graft.pins = 0)) ∧
      ({ paired with power := { Power.init with state := 0 } } : State).power.state ≠ 1) ∧
    (forming.mirrorHears = true ∧ paired.mirrorHears = true ∧ paired.graft.forming = none ∧ (List.replicate 48 0#8).length = 48 ∧
      forming.graft.forming = some 0 ∧
      forming.graft.partner = some ⟨List.replicate 32 3#8, 12, 17179869184, 2⟩ ∧
      forming.quoteFails ⟨List.replicate 32 3#8, 12, 17179869184, 2⟩ q = 0 ∧
      forming.quoteFails ⟨List.replicate 32 3#8, 12, 17179869184, 2⟩ { q with signed := false } ≠ 0 ∧ q.partnerAccepts = true ∧
      (forming.at 0).now ≤ 0 + 50 * ms) ∧
    (slave.control = false ∧ Dict.row? 0x2601 1 = some (rowOf 0x260101) ∧ isMirrored 0x260101 = true ∧
      (natLE 2 600).length = (rowOf 0x260101).ty.size ∧ slave.graft.state = 2 ∧ slave.graft.paired = true ∧ slave.graft.syncPos = none ∧
      ({ slave.graft with syncPos := some 5 } : Graft).syncPos = some 5 ∧ slave.graft.seeded = false) ∧
    (0 + 50 * ms ≤ (forming.at (50 * ms)).now ∧ paired.mirror.link = 2 ∧ paired.graft.paired = true ∧
      (st 3 true).graft.heard + (st 3 true).rd O.MIRROR_HOLD * ms ≤ ((st 3 true).at sec).now) := by
  refine ⟨by decide +kernel, by decide +kernel, ?_, by decide +kernel, by decide +kernel, by decide +kernel⟩
  refine ⟨?_, by decide +kernel, ?_, by decide +kernel⟩
  · simp [paired]
  · simp [paired]

/-! ### Axes -/

/-- Axis 0 in this state. -/
def axised (x : Axis) : State := { base with axes := x :: List.replicate 3 Axis.init }

/-- The records and commands of an axis, in the states that take them. -/
theorem witness_AxisRequests :
    MetApply 0x3700 (fun _ v => v.axisOk 0 = true ∧ (v.axis 0).state = 0 ∧ v.rdB (O.AXIS_ENABLE 0) = true) ∧
    MetApply 0x3700 (fun _ v => v.axisOk 0 = true ∧ (v.axis 0).state = 1 ∧ v.rdB (O.AXIS_ENABLE 0) = true) ∧
    MetApply 0x3700 (fun _ v => v.axisOk 0 = true ∧ ((v.axis 0).state ≤ 1 ∨ (v.axis 0).state = 6) ∧ v.rdB (O.AXIS_ENABLE 0) = false) ∧
    MetApply 0x3710 (fun _ _ => True) ∧
    MetApply 0x3723 (fun _ v => (500 : Int) = (if v.rdB (O.MOVE_RELATIVE 3) then (v.axis 3).pos + v.rdI 32 (O.MOVE_TARGET 3)
      else v.rdI 32 (O.MOVE_TARGET 3)) ∧ -(2 ^ 31) ≤ (500 : Int) ∧ (500 : Int) < 2 ^ 31 ∧ v.motionBarred 3 = false ∧ v.liftBarred 3 = false ∧ (3 ≠ 0 ∨ v.checkLevel = v) ∧ (v.axis 3).state = 1 ∧ 500 ≠ (v.axis 3).pos) ∧
    MetApply 0x3723 (fun _ v => (500 : Int) = (if v.rdB (O.MOVE_RELATIVE 3) then (v.axis 3).pos + v.rdI 32 (O.MOVE_TARGET 3)
      else v.rdI 32 (O.MOVE_TARGET 3)) ∧ -(2 ^ 31) ≤ (500 : Int) ∧ (500 : Int) < 2 ^ 31 ∧ v.motionBarred 3 = false ∧ v.liftBarred 3 = false ∧ (3 ≠ 0 ∨ v.checkLevel = v) ∧ (v.axis 3).state = 2) ∧
    MetApply 0x3730 (fun _ v => (v.axis 0).state ≠ 5) ∧ Met O.MOVE_REPLAN [4#8] (fun u => (u.linked = false ∨ 2 ≤ 2) ∧ (u.axis 2).moving = true ∧ u.rampFail 2 = none ∧
      (u.staged (0x3710 + 2) ≠ [] ∨ u.rampPending 2 = true)) ∧
    Met O.MOVE_STOP [4#8] (fun u => (u.linked = false ∨ 2 ≤ 2) ∧ (u.axis 2).moving = true) ∧
    Met O.MOVE_STOP [2#8] (fun u => u.linked = true ∧ (u.axis 0).state = 2) ∧
    Met O.HOME [1#8] (fun u => (u.linked = false ∨ 2 ≤ 0) ∧ u.motionBarred 0 = false ∧ (u.axis 0).state = 1) :=
  ⟨met (stagedIn base 0x3700 [(O.AXIS_ENABLE 0, 1)]) (staging 0x3700 [(O.AXIS_ENABLE 0, 1)]) _ _ _ (by decide +kernel) (by decide +kernel),
    met (stagedIn (axised { Axis.init with state := 1 }) 0x3700 [(O.AXIS_ENABLE 0, 1)]) (staging 0x3700 [(O.AXIS_ENABLE 0, 1)]) _ _ _
      (by decide +kernel) (by decide +kernel),
    met (stagedIn base 0x3700 [(O.AXIS_ENABLE 0, 0)]) (staging 0x3700 [(O.AXIS_ENABLE 0, 0)]) _ _ _ (by decide +kernel) (by decide +kernel),
    met (stagedIn base 0x3710 [(O.VSTART 0, 100)]) (staging 0x3710 [(O.VSTART 0, 100)]) _ _ _ (by decide +kernel) (by decide +kernel),
    met (stagedIn { base with axes := List.replicate 4 { Axis.init with state := 1 } } 0x3723 [(O.MOVE_TARGET 3, 500), (O.MOVE_RELATIVE 3, 0)])
      (staging 0x3723 [(O.MOVE_TARGET 3, 500), (O.MOVE_RELATIVE 3, 0)]) _ _ _ (by decide +kernel) (by decide +kernel),
    met (stagedIn { base with axes := List.replicate 4 { Axis.init with state := 2 } } 0x3723 [(O.MOVE_TARGET 3, 500), (O.MOVE_RELATIVE 3, 1)])
      (staging 0x3723 [(O.MOVE_TARGET 3, 500), (O.MOVE_RELATIVE 3, 1)]) _ _ _ (by decide +kernel) (by decide +kernel),
    met (stagedIn base 0x3730 [(O.HOME_DIR 0, 1)]) (staging 0x3730 [(O.HOME_DIR 0, 1)]) _ _ _ (by decide +kernel) (by decide +kernel),
    met { base with axes := List.replicate 4 { Axis.init with state := 2 } } sess _ _ _ (by decide +kernel) (by decide +kernel),
    met { base with axes := List.replicate 4 { Axis.init with state := 2 } } sess _ _ _ (by decide +kernel) (by decide +kernel),
    met { base with axes := List.replicate 4 { Axis.init with state := 2 } } sess _ _ _ (by decide +kernel) (by decide +kernel),
    met ((axised { Axis.init with state := 1 }).wr O.LIFT_LINK 0) sess _ _ _ (by decide +kernel) (by decide +kernel)⟩

/-- The linked lift axes; a ramp that R812 refuses; safe state and STANDBY; the default ramp. -/
theorem witness_AxisRequests_lift :
    let two (n : Nat) : State := { base.wr O.LIFT_LINK 1 with axes := List.replicate 4 { Axis.init with state := n } }
    Met O.HOME [3#8] (fun u => u.linked = true ∧ u.motionBarred 0 = false ∧ u.motionBarred 1 = false ∧ (u.axis 0).state = 1 ∧ (u.axis 1).state = 1) ∧
    MetApply 0x3750 (fun _ v => (v.axis 0).state ≤ 1 ∧ (v.axis 1).state ≤ 1 ∧ v.linked = false) ∧
    MetApply 0x3750 (fun _ v => (v.axis 0).state ≤ 1 ∧ (v.axis 1).state ≤ 1 ∧ v.linked = true ∧ v.axes.length = 4 ∧
      ((v.axis 1).pos - (v.axis 0).pos - v.rdI 32 O.LEVEL_OFFSET).natAbs ≤ v.rd O.LEVEL_TOL) ∧
    MetApply 0x3750 (fun _ v => (v.axis 0).state ≤ 1 ∧ (v.axis 1).state ≤ 1 ∧ v.linked = true ∧ v.axes.length = 4 ∧
      v.rd O.LEVEL_TOL < ((v.axis 1).pos - (v.axis 0).pos - v.rdI 32 O.LEVEL_OFFSET).natAbs) ∧
    (let u : State := stagedIn { base with axes := List.replicate 4 { Axis.init with state := 2 } } 0x3712 [(O.VMAX 2, 1), (O.V1 2, 2)]
     (u.axis 2).moving = true ∧ u.rampFail 2 = some 1 ∧ base.staged 0x3712 = [] ∧ base.rampPending 2 = false) ∧
    (let u : State := stagedIn base 0x3710 [(O.VMAX 0, 1), (O.V1 0, 2)]
     u.staged 0x3710 ≠ [] ∧ stageFail (u.staged 0x3710) = none ∧
      ¬(((u.wrs (u.staged 0x3710)).rampOf 0).v1 ≤ ((u.wrs (u.staged 0x3710)).rampOf 0).vmax)) ∧
    (halted []).safe.active = true ∧ (halted []).motionBarred 0 = true ∧ -(2 ^ 31) ≤ base.rdI 32 (O.MOVE_TARGET 0) ∧
    base.rdI 32 (O.MOVE_TARGET 0) < 2 ^ 31 ∧ base.rdB (O.MOVE_RELATIVE 0) = false ∧ 3 < (two 1).axes.length ∧ (base.wr O.LIFT_LINK 0).linked = false ∧
    (base.rampOf 0).ok = true ∧ 1000000 * (base.rampOf 0).vmax ≤ 1000000 * (base.rampOf 0).vmax :=
  ⟨met { base.wr O.LIFT_LINK 1 with axes := List.replicate 4 { Axis.init with state := 1 } } sess _ _ _ (by decide +kernel) (by decide +kernel),
    met (stagedIn base 0x3750 [(O.LIFT_LINK, 0)]) (staging 0x3750 [(O.LIFT_LINK, 0)]) _ _ _ (by decide +kernel) (by decide +kernel),
    met (stagedIn base 0x3750 [(O.LIFT_LINK, 1)]) (staging 0x3750 [(O.LIFT_LINK, 1)]) _ _ _ (by decide +kernel) (by decide +kernel),
    met (stagedIn { base with axes := [Axis.init, { Axis.init with pos := 10 ^ 6 }, Axis.init, Axis.init] } 0x3750 [(O.LIFT_LINK, 1)])
      (staging 0x3750 [(O.LIFT_LINK, 1)]) _ _ _ (by decide +kernel) (by decide +kernel),
    by decide +kernel,
    by decide +kernel⟩

/-- An axis that stands; one that cruises short of its goal; a home search and its slow leg; an axis in hold; a reversal at its
target and short of it. -/
theorem witness_AxisEvents :
    let a (x : Axis) : State := { base.wr O.LIFT_LINK 0 with axes := List.replicate 4 x }
    let m : Axis := { Axis.init with state := 2, goal := 100, target := 100, ramp := base.rampOf 0 }
    let h (p : HomePhase) : Axis := { Axis.init with state := 5, phase := some p }
    let r : Axis := { Axis.init with state := 3, dwellSince := some 0 }
    (base.axis 0).moving = false ∧ ((a m).axis 2).moving = true ∧ ((a m).axis 2).dwellSince = none ∧ ((a m).axis 2).phase ≠ some .waiting ∧
    ¬(2 = 1 ∧ (a m).slaved = true) ∧
    ((a m).axis 2).part + ((a m).axis 2).ramp.next ((a m).axis 2).speed
      ((((a m).axis 2).goal - ((a m).axis 2).pos).natAbs * 10 ^ 12 - ((a m).axis 2).part) < 10 ^ 12 ∧ ((a m).axis 2).pos ≠ ((a m).axis 2).goal ∧
    ((a m).axis 2).state ≠ 5 ∧ ((a (h .search)).axis 2).state = 5 ∧ ((a (h .search)).axis 2).phase = some .search ∧
    ((a (h .slow)).axis 2).phase = some .slow ∧ ((a m).axis 0).state ≠ 0 ∧ ((a m).axis 0).state ≠ 6 ∧ (a m).slaved = false ∧
    (let s := a { Axis.init with state := 1, endedAt := some 0 }
     (s.axis 0).endedAt = some 0 ∧ (s.axis 0).state = 1 ∧ 0 + s.rd (O.HOLD_DELAY 0) * ms ≤ (s.at (100 * sec)).now) ∧
    ((a r).axis 0).dwellSince = some 0 ∧ ((a r).axis 0).state = 3 ∧ 0 + ((a r).axis 0).ramp.dwell * ms ≤ ((a r).at 0).now ∧
    ((a r).axis 0).pos = ((a r).axis 0).target ∧ ((a { r with target := 5 }).axis 0).pos ≠ ((a { r with target := 5 }).axis 0).target ∧
    (base.axis 0).coil = .off ∧ (base.at 0).driveStuck 2 0 = false ∧
    (let s := a { Axis.init with state := 2, coil := .run, coils := [{ CoilPhase.init with stage := some true }, CoilPhase.init] }
     (s.at sec).driveStuck 2 0 = true ∧ (s.at sec).driveStuck 2 1 = false) ∧
    (let p : CoilPhase := { CoilPhase.init with on := [true, false, false, true] }
     let want := [false, true, true, false]
     p.on.length = 4 ∧ want.length = 4 ∧ apart p.on = true ∧ apart want = true ∧ (p.drive want 250 5).1.next = some (want, 255)) ∧
    dacCode 1000 100 (65536, 0) = 100 := by
  decide +kernel

/-! ### Calibration and displays -/

/-- A run that may start; STROBE_TRIM; a pass with the reference read right and wrong in each state; plausible results that agree, that
differ, and one that is not plausible. -/
theorem witness_Calibration :
    let s (n : Nat) : State := base.wr O.CAL_STATUS_STATE n
    let off (c : Nat) : Nat := (base.adcMicrovolts 8 c - (base.rd O.CAL_REF_VALUE : Nat)).natAbs * 50
    Met O.CAL_START [1#8] (fun u => u.calState ≠ 1 ∧ u.calState ≠ 2) ∧ Met O.STROBE_TRIM (List.replicate 32 0#8) (fun _ => True) ∧
    (∀ i, i < 16 → octAt 2 (leNat (List.replicate 32 0#8)) i ≤ 2500) ∧
    ((s 1).calState = 1 ∧ (s 2).calState = 2 ∧ (s 0).calState = 0 ∧ (s 3).calState = 3 ∧ off 3277 ≤ ((base.rd O.CAL_REF_VALUE : Nat) : Int).natAbs ∧
      ((base.rd O.CAL_REF_VALUE : Nat) : Int).natAbs < off 0) ∧
    (base.cal.edges.getD 3 0 < 64 ∧ (let e : State := { base with cal := { base.cal with edges := List.replicate 16 64 } }
      64 ≤ e.cal.edges.getD 3 0 ∧ (List.replicate 16 (some 5)).getD 3 none = some 5 ∧
      binDelay 256 = (10000 + e.fire.trims.getD 3 0) * 64 * 1)) ∧
    (plausible 0 (10240000, 0) = true ∧ plausible 0 (10240000, 20000) = true ∧ base.agree 0 (10240000, 0) (10240000, 0) = true ∧
      base.agree 0 (10240000, 0) (10240000, 20000) = false ∧ plausible 0 (10240000, 20001) = false) ∧
    (base.rdB O.CAL_AUTO = true ∧ base.cal.referenced = false ∧
      (let even : State := base.wr O.TEMP_COEFF (octOf 4 (List.replicate 16 65536))
       let shown := (List.range 8).map fun k => clampI (-32768) 32767
         ((((List.replicate 8 640).getD k 0 * even.slope k / 65536 : Nat) : Int) + toInt 16 (even.fuses.tempOffset.getD k 0))
       even.rd O.CAL_DELTA_T < (shown.getD 7 0 - toInt 16 (octAt 2 (even.rd O.REF_TEMPS) 7)).natAbs ∧ even.calState = 0)) ∧
    ((s 3).cal.since + 60 * sec ≤ ((s 3).at (60 * sec)).now ∧ (s 3).cal.pending = false ∧ base.cal.slews = []) ∧
    (let x : Slew := ⟨0, 1, 2, 3, 4, 0, 100⟩
     x.ms + 1 < x.span ∧ ({ x with ms := 99 } : Slew).span ≤ ({ x with ms := 99 } : Slew).ms + 1 ∧ x.ms < x.span ∧ x.from0 ≤ x.to0 ∧
      (⟨0, 3, 2, 1, 4, 0, 100⟩ : Slew).to0 ≤ (⟨0, 3, 2, 1, 4, 0, 100⟩ : Slew).from0) :=
  ⟨met base sess _ _ _ base_ready (by decide +kernel), met base sess _ _ _ base_ready trivial, by decide +kernel, by decide +kernel,
    by decide +kernel, by decide +kernel, by decide +kernel, by decide +kernel⟩

/-- The timing record; an output that stands, that runs, and that is switched off; a line fetched; a lengthened porch. -/
theorem witness_Displays :
    let run (n : Option DispTiming) : State := { base with disps := List.replicate 2 { Disp.init with
      running := true, timing := { DispTiming.init with enable := true }, next := n, reduced := true } }
    MetApply 0x3901 (fun _ _ => True) ∧ (List.range 4).foldl State.deliverDone (base.at 0) = base.at 0 ∧ (base.disp 1).running = false ∧
    (List.range 4).foldl State.deliverDone ((run none).at 0) = (run none).at 0 ∧ ((run none).disp 1).running = true ∧
    (run none).displaysRun = true ∧ ((run (some .init)).disp 1).next = some DispTiming.init ∧ DispTiming.init.enable = false ∧
    DispTiming.init.resizes ((run none).disp 1).timing = false ∧ (base.timing 1).resizes (base.timing 1) = false ∧
    { base with disps := [base.timing 0, base.timing 1].map fun n => { Disp.init with timing := n } }.timing 1 = base.timing 1 ∧
    (base.timing 1).resizes { base.timing 1 with hactive := (base.timing 1).hactive + 1 } = true ∧
    ((run none).disp 1).next = none ∧ ((run none).disp 1).timing.enable = true ∧ (run none).dispChange 1 = false ∧
    0 < ((run none).disp 1).timing.vactive ∧ 0 < ((run none).disp 1).timing.hactive ∧ ((run none).disp 1).reduced = true ∧
    (run (some .init)).dispChange 1 = true ∧
    (let s : State := { base with disps := List.replicate 2 { Disp.init with frameStart := some 5, timing := { DispTiming.init with vfp := 6, vactive := 3, vsync := 0, vbp := 0, clock := 1000 } } }
     (s.disp 1).frameStart = some 5 ∧ 2 + 1 = (s.disp 1).timing.vactive ∧ 1 + 1 ≠ (s.disp 1).timing.vactive ∧
     ¬(5 * (s.disp 1).timing.clock + (s.disp 1).timing.vtotal * (s.disp 1).timing.htotal * ms ≤ (s.at 0).now * (s.disp 1).timing.clock) ∧
     5 * (s.disp 1).timing.clock + (s.disp 1).timing.vtotal * (s.disp 1).timing.htotal * ms ≤ (s.at (10 ^ 30)).now * (s.disp 1).timing.clock) :=
  ⟨met (stagedIn base 0x3901 [(O.DISP_ENABLE 1, 1)]) (staging 0x3901 [(O.DISP_ENABLE 1, 1)]) _ _ _ (by decide +kernel) (by decide +kernel),
    by decide +kernel⟩

/-! ### The manual's worked examples -/

/-- The state that a command answers. -/
def next (c : Instr) (s : State) : State := match exec c s with | .next u => u | _ => s

/-- spec/02, after R43: S = 1 234 567 takes 169.254.128.252. -/
theorem test_link_local_taken :
    (next (.linkLocalTaken (4 * sec)) { base with net := { Net.init with linkUp := true, probing := true, linkLocalS := 1234567 } }).net.addr =
      ((169 * 256 + 254) * 256 + 128) * 256 + 252 := by decide +kernel

/-- spec/00, after R12: 0003h is five steps later than FFFEh; 7FFEh against it is −32 768. -/
theorem test_sequence_example : seqDiff 16 0x0003 0xfffe = 5 ∧ seqDiff 16 0x7ffe 0xfffe = -32768 := by decide

/-- spec/05, after R220: the fixed part of the plan of a 16 GiB part at 1200 lpi. -/
theorem test_plan_fixed :
    let rows : List RowState := (List.range 96).map fun i =>
      { RowState.init with eff := [600, 2500, 4400, 6300, 8200, 10100].getD (i % 6) 0 * 512 }
    let s : State := { ((base.wr (O.CAM_PORT_ENABLE 1) 1).wr (O.CAM_DIST 1) (14000 * 512)).wr O.DELAY_MARGIN 1024 with
      fire := { Fire.init with rows := rows } }
    s.plan.delayBytes = 510327936 ∧ s.plan.refBytes = 300720384 ∧ s.plan.fixed = 1884790144 ∧ s.capacity = 17179869184 := by
  decide +kernel

/-- spec/08, after R357: 3 225 600 PU at 1200 lpi is 6 300 lines. -/
theorem test_row_delay : rowDelay 3225600 1200 = 6300 := by decide

/-- spec/09, after R409: the second count, 20 µs after the first, at 0.25 line per count: POSITION 65 536.5, 12 500 lines/s. -/
theorem test_encoder_example :
    let s : State := { (base.wr O.REPEAT_MODE 0).wr O.ENC_RATIO 0x40000000 with
      web := { Web.init with pos := 65536 * 2 ^ 32 + 2 ^ 30, hwm := 65536 * 2 ^ 32 + 2 ^ 30, valid := true, a := true, encCount := 1, run := [0] } }
    let u := next (.encEdge 20000000 true true) s
    u.web.pos = 65536 * 2 ^ 32 + 2 ^ 31 ∧ u.web.encCount = 2 ∧ u.speedMag = 3200000 := by decide +kernel

/-- spec/10, after R444: BASE_L3 64 000 at 44 °C and 23 600 mV has the target 62 209; the width moves there from 62 400 by 64 each ms. -/
theorem test_pulse_width_example :
    let j : JobSet := { JobSet.empty with vals := [(O.PW_BASE 2 2, 64000), (O.T_REF 2, 640), (O.KT 2, ofInt 16 (-655)), (O.V_REF 2, 24000),
      (O.KV 2, ofInt 16 (-1965)), (O.PW_MAX 2, 65535)] }
    let s : State := { base with heads := List.replicate 16 { Head.init with temps := List.replicate 6 704, voltage := 23600 } }
    (s.pwTargets 7 2 j).1.getD 2 0 = 62209 ∧ slewTo 62400 62209 64 = 62336 ∧ slewTo 62272 62209 64 = 62209 := by decide +kernel

/-- spec/20, after R826: from 4 000 full steps/s on the default ramp of SHIFT the axis stops in 164 800 units. -/
theorem test_stopping_distance : (base.rampOf 2).stopUnits (speedUnit (256 * 4000)) = 164800 := by decide +kernel

/-- spec/21, after R854: both passes of channel 12, and the reading of code 1 638 under the accepted coefficients. -/
theorem test_calibration_example :
    adcResult 2048000 52 52488 = (40954375, -2031) ∧ adcResult 2048000 53 52490 = (40953594, -2070) ∧
    base.agree 12 (40954375, -2031) (40953594, -2070) = true ∧ plausible 12 (40954375, -2031) = true ∧
    ((1638 : Int) * 40953984).tdiv 65536 - 2050 = 1021549 := by decide +kernel

/-- spec/03, after R126: positions 4 to 7, 0, 1 and 2 hold FFFF_FFFAh to FFFF_FFFFh and then 0; the latest is position 2, and the next
store goes to position 3. -/
theorem test_boot_scan_example :
    let slot (n : Nat) : BankSlot := { BankSlot.erased with magic := true, headerCrc := true, bodyCrc := true, sequence := n }
    let f : Flash := { Flash.blank with bank := [slot 0xfffffffe, slot 0xffffffff, slot 0, BankSlot.erased, slot 0xfffffffa, slot 0xfffffffb,
      slot 0xfffffffc, slot 0xfffffffd] }
    f.latest.map (·.1) = some 2 ∧ ({ base with flash := f } : State).storePos 3 = 3 := by decide +kernel

end Sys2Proof.Tests
end

section
/-! PROOF. The TDP port as spec/02 orders its checks (R47 to R51): what State.hostFrame does with a datagram, check by check,
each as an equation. -/

namespace Sys2Proof.Machine

/-- The command of each row of the opcode table that a datagram on the TDP port brings about, with the frame's OPCODE. -/
def frameRows (t opcode : Nat) (f : Frame) : List (Nat × Instr) :=
  [(0x01, .openReq t f), (0x02, .openSession t f), (0x03, .close t f), (0x04, .keepalive t f), (0x10, .read t f),
    (0x11, .write t f), (0x12, .readSeg t f), (0x13, .writeSeg t f), (0x14, .info t f), (0x20, .noticeAck t f),
    (0x30, .quote t f), (0x31, .cert t f), (0x32, .identify t f), (opcode, .badOpcode t opcode f),
    (opcode, .badVersion t opcode f)]

theorem exec_frameRow {t opcode : Nat} {f : Frame} {c : Instr} (s : State) (h : (opcode, c) ∈ frameRows t opcode f) :
    exec c s = s.does t fun u => u.hostFrame opcode f := by
  simp only [frameRows, List.mem_cons, List.not_mem_nil, or_false, Prod.mk.injEq] at h
  rcases h with ⟨rfl, rfl⟩ | ⟨rfl, rfl⟩ | ⟨rfl, rfl⟩ | ⟨rfl, rfl⟩ | ⟨rfl, rfl⟩ | ⟨rfl, rfl⟩ | ⟨rfl, rfl⟩ | ⟨rfl, rfl⟩ |
    ⟨rfl, rfl⟩ | ⟨rfl, rfl⟩ | ⟨rfl, rfl⟩ | ⟨rfl, rfl⟩ | ⟨rfl, rfl⟩ | ⟨-, rfl⟩ | ⟨-, rfl⟩ <;> rfl

theorem isSessionless_iff (opcode : Nat) : isSessionless opcode = true ↔ opcode ∈ [0x01, 0x02, 0x30, 0x31, 0x32] := by
  simp [isSessionless, or_assoc]

/-! ### MAGIC and VERSION -/

section

variable {s : State} {t opcode : Nat} {f : Frame} (ho : (s.at t).online = true) (ht : (s.at t).hostTimers = s.at t)

include ho ht

theorem State.hostFrame_badMagic (hm : f.magic ≠ 0x4454) :
    (s.at t).hostFrame opcode f = ((s.at t).inc O.FRAMES_RX).discarded := by
  simp [State.hostFrame, ho, ht, hm]

theorem State.hostFrame_otherVersion (hm : f.magic = 0x4454) (hv : f.version ≠ 1) :
    (s.at t).hostFrame opcode f = ((s.at t).inc O.FRAMES_RX).otherVersion opcode f := by
  simp [State.hostFrame, ho, ht, hm, hv]

theorem State.hostFrame_thisVersion (hm : f.magic = 0x4454) (hv : f.version = 1) :
    (s.at t).hostFrame opcode f = ((s.at t).inc O.FRAMES_RX).thisVersion opcode f := by
  simp [State.hostFrame, ho, ht, hm, hv]

end

/-! ### The size, the session and the TAG (R47) -/

section

variable {s : State} {opcode : Nat} {f : Frame} {x : Session}

theorem State.thisVersion_badSize (h : f.rest.length ≠ f.length + (if f.sid = 0 then 0 else 16)) :
    s.thisVersion opcode f = s.discarded := by
  have hb : (f.rest.length != f.length + (if f.sid = 0 then 0 else 16)) = true := by simpa using h
  simp only [State.thisVersion, hb, Bool.true_or, ↓reduceIte]

theorem State.thisVersion_sessionlessWithSid (hi : f.sid ≠ 0) (h : isSessionless opcode = true) :
    s.thisVersion opcode f = s.discarded := by
  simp [State.thisVersion, hi, h]

theorem State.thisVersion_elsewhere (hx : s.tdp.session = some x) (hi : f.sid ≠ 0) (h : x.addr ≠ f.addr ∨ x.port ≠ f.port) :
    s.thisVersion opcode f = s.discarded := by
  have hb : (x.addr != f.addr || x.port != f.port) = true := by simpa using h
  simp only [State.thisVersion, hx, hi, hb, ↓reduceIte, ite_self]

/-- A frame of no session (SESSION_ID 0). -/
theorem State.thisVersion_sessionless (hi : f.sid = 0) (hl : f.rest.length = f.length) :
    s.thisVersion opcode f = s.acceptFrame none opcode f := by
  simp [State.thisVersion, hi, hl]

variable (hx : s.tdp.session = some x) (hi : f.sid ≠ 0) (hs : f.sid = x.sid) (ha : f.addr = x.addr) (hp : f.port = x.port)
  (hn : isSessionless opcode = false) (hl : f.rest.length = f.length + 16)

include hx hi hs ha hp hn hl

theorem State.thisVersion_wrongTag (hg : frameTagOk f opcode x.key = false) :
    s.thisVersion opcode f = (s.inc O.TAG_FAILURES).discarded := by
  simp [State.thisVersion, hx, hn, hl, ← hs, ← ha, ← hp, hi, hg]

/-- A frame of the open session with the right TAG renews the lease (R61). -/
theorem State.thisVersion_ofSession (hg : frameTagOk f opcode x.key = true) :
    s.thisVersion opcode f =
      let y := { x with leaseEnd := s.now + s.rd O.LEASE_TIME * ms }
      (s.updSession fun _ => y).acceptFrame (some y) opcode f := by
  simp [State.thisVersion, hx, hn, hl, ← hs, ← ha, ← hp, hi, hg]

end

/-- A response does not show when the lease of its session ends. -/
theorem State.tagged_leased (s u : State) (t : Nat) (x : Session) (opcode seq st : Nat) (body : List Byte) :
    u.tagged (x.leased s t) opcode seq st body = u.tagged x opcode seq st body := by
  unfold State.tagged Session.leased; rfl

/-- What the port makes of a frame of the open session that passes every check of R47. -/
theorem State.hostFrame_ofSession {s : State} {t opcode : Nat} {f : Frame} {x : Session} (ho : (s.at t).online = true)
    (ht : (s.at t).hostTimers = s.at t) (hx : s.tdp.session = some x) (hm : f.magic = 0x4454) (hv : f.version = 1)
    (hi : f.sid ≠ 0) (hs : f.sid = x.sid) (ha : f.addr = x.addr) (hp : f.port = x.port) (hn : isSessionless opcode = false)
    (hl : f.rest.length = f.length + 16) (hg : frameTagOk f opcode x.key = true) :
    (s.at t).hostFrame opcode f = (s.heard t x).acceptFrame (some (x.leased s t)) opcode f := by
  have hr : ((s.at t).inc O.FRAMES_RX).rd O.LEASE_TIME = s.rd O.LEASE_TIME := by
    rw [State.rd_inc, if_neg (by decide), State.at_rd_eq]
  have hu : ((s.at t).inc O.FRAMES_RX).updSession (fun _ => x.leased s t) = s.heard t x := by
    simp [State.updSession, State.heard, hx]
  rw [State.hostFrame_thisVersion ho ht hm hv,
    State.thisVersion_ofSession (s := (s.at t).inc O.FRAMES_RX) hx hi hs ha hp hn hl hg, hr, ← hu]
  rfl

/-! ### The opcode (R51, R94) -/

theorem State.acceptFrame_noticeAck (s : State) (x : Session) (f : Frame) (hb : bit f.flags 0 = true) :
    s.acceptFrame (some x) 0x20 f = s.noticeAcked f.seq := by
  simp [State.acceptFrame, hb]

/-- The host may not send the frame: its opcode is not defined, or RESPONSE does not suit it (R51). -/
def frameBarred (opcode : Nat) (f : Frame) : Prop :=
  definedOpcode opcode = false ∨ (opcode = 0x20 ∧ bit f.flags 0 = false) ∨ (opcode ≠ 0x20 ∧ bit f.flags 0 = true)

/-- Neither a NOTICE_ACK nor a request: the two tests that acceptFrame makes of the opcode and RESPONSE. -/
theorem frameBarred_tests {opcode : Nat} {f : Frame} (h : frameBarred opcode f) :
    (opcode = 0x20 && bit f.flags 0) = false ∧ (!definedOpcode opcode || opcode = 0x20 || bit f.flags 0) = true := by
  rcases h with h | ⟨rfl, h⟩ | ⟨hn, h⟩
  · have hn : opcode ≠ 0x20 := by rintro rfl; exact absurd h (by decide)
    simp [h, hn]
  · simp [h]
  · simp [h, hn]

theorem State.acceptFrame_barred_sessionless (s : State) {opcode : Nat} {f : Frame} (h : frameBarred opcode f) :
    s.acceptFrame none opcode f = s.plain f opcode Status.badOpcode (s.refusalBody opcode (frameBody f) false) := by
  obtain ⟨h1, h2⟩ := frameBarred_tests h
  simp only [State.acceptFrame, h1, h2, Bool.false_eq_true, ↓reduceIte]

theorem State.acceptFrame_barred_ofSession (s : State) (x : Session) {opcode : Nat} {f : Frame} (h : frameBarred opcode f) :
    s.acceptFrame (some x) opcode f = s.tagged x opcode f.seq Status.badOpcode (s.refusalBody opcode (frameBody f) true) := by
  obtain ⟨h1, h2⟩ := frameBarred_tests h
  simp only [State.acceptFrame, h1, h2, Bool.false_eq_true, ↓reduceIte]

end Sys2Proof.Machine

/-! ### O8 and O10 -/

open Sys2Proof Sys2Proof.Machine

/-- Settles O8: each fault of R47 meets the check that discards it, whichever row of the opcode table the datagram is. -/
theorem badFramesDiscarded : Obligations.BadFramesDiscarded := by
  unfold Obligations.BadFramesDiscarded
  intro s t f opcode c ho ht hc
  rw [exec_frameRow s hc]
  refine ⟨fun hm => State.does_eq _ _ _ _ (State.hostFrame_badMagic ho ht hm), fun hm hv => ?_⟩
  have hf := State.hostFrame_thisVersion (opcode := opcode) ho ht hm hv
  refine ⟨fun hl => State.does_eq _ _ _ _ (hf.trans (State.thisVersion_badSize hl)), fun hi hn => State.does_eq _ _ _ _ ?_,
    fun x hx hi => ⟨fun he => State.does_eq _ _ _ _ (hf.trans (State.thisVersion_elsewhere hx hi he)),
      fun hl hn ha hp hs hg => State.does_eq _ _ _ _ ?_⟩⟩
  · exact hf.trans (State.thisVersion_sessionlessWithSid hi ((isSessionless_iff opcode).mpr hn))
  · have hn' : isSessionless opcode = false := Bool.eq_false_iff.mpr fun h => hn ((isSessionless_iff opcode).mp h)
    exact hf.trans (State.thisVersion_wrongTag (x := x) hx hi hs.symm ha.symm hp.symm hn' hl hg)

/-- Settles O10: a frame of another VERSION never reaches the later checks, and a barred opcode is found after those of R47. -/
theorem framesAnsweredWithErrors : Obligations.FramesAnsweredWithErrors := by
  unfold Obligations.FramesAnsweredWithErrors
  refine ⟨fun s t opcode f ho ht hm hv hq => State.does_eq _ _ _ _ ?_, fun s t opcode f ho ht hm hv hb =>
    ⟨fun hi hl => State.does_eq _ _ _ _ ?_, fun x hx hs hi ha hp hn hl hg => State.does_eq _ _ _ _ ?_⟩⟩
  · have hq' : ((s.at t).inc O.FRAMES_RX).mayAnswer 0 = true := hq
    rw [State.hostFrame_otherVersion ho ht hm hv, State.otherVersion, if_pos hq']
    rfl
  · rw [State.hostFrame_thisVersion ho ht hm hv, State.thisVersion_sessionless hi hl,
      State.acceptFrame_barred_sessionless _ hb, State.plain]
  · rw [State.hostFrame_ofSession ho ht hx hm hv hi hs ha hp hn hl hg, State.acceptFrame_barred_ofSession _ _ hb,
      State.tagged_leased]

end

section
/-! PROOF. The staging of records (R77 to R82): what a write to a field and to FFh answers, case by case. -/

namespace Sys2Proof.Machine

theorem hasApply_preseal : Dict.hasApply 0x1321 = true := by decide +kernel

/-- A write to a field of a record, by a host that may make it. -/
theorem State.valueWrite_field (s : State) (r : ObjRow) (idx sub v : Nat) (hr : r.app = .apply) (hsub : sub ≠ 0xff)
    (hi : Dict.hasApply idx = true) (ha : s.authorityRefused (256 * idx + sub) = false) :
    s.valueWrite r idx sub v = .of Status.staged (s.updSession fun x => x.stage idx (256 * idx + sub) v s.now) := by
  simp [State.valueWrite, hr, hsub, hi, ha]

/-- A write to FFh of a record, whatever its value. -/
theorem State.valueWrite_applyWrite (s : State) (r : ObjRow) (idx v : Nat) (hi : Dict.hasApply idx = true) :
    s.valueWrite r idx 0xff v = s.applyWrite idx v := by
  simp [State.valueWrite, hi]

theorem State.applyWrite_other (s : State) (idx v : Nat) (hv : 2 ≤ v) : s.applyWrite idx v = .of Status.range s := by
  simp [State.applyWrite, Nat.lt_of_succ_le hv]

theorem State.applyWrite_locked (s : State) (v : Nat) (hv : v < 2) (hl : s.lifecycle ≠ 1) :
    s.applyWrite 0x1321 v = .of Status.locked s := by
  simp [State.applyWrite, hl, Nat.not_lt.mpr (Nat.le_of_lt_succ hv)]

theorem State.applyWrite_zero (s : State) (idx : Nat) (hl : idx ≠ 0x1321 ∨ s.lifecycle = 1) :
    s.applyWrite idx 0 = .of Status.ok (s.dropStage idx) := by
  have hb : (idx = 0x1321 && s.lifecycle != 1) = false := by
    rcases hl with h | h <;> simp [h]
  simp only [State.applyWrite, hb, Nat.not_lt_zero, Bool.false_eq_true, ↓reduceIte]

theorem State.recordApply_empty (s : State) (idx : Nat) (h : s.staged idx = []) :
    s.recordApply idx = .of Status.empty s := by
  simp [State.recordApply, h]

/-- A staged value out of range: the stage goes, and ARM reports it as LAST_RESULT (R79, R238). -/
theorem State.recordApply_stageFail (s : State) (idx sub : Nat) (hs : s.staged idx ≠ [])
    (hf : stageFail (s.staged idx) = some sub) :
    s.recordApply idx = ⟨Status.range, [toByte sub, 0#8, 0#8, 0#8],
      if idx = 0x2003 then (s.dropStage idx).wr O.SET_STATUS_LAST_RESULT Status.range else s.dropStage idx⟩ := by
  have he : (s.staged idx).isEmpty = false := by simpa using hs
  simp only [State.recordApply, he, hf, Bool.false_eq_true, ↓reduceIte]

end Sys2Proof.Machine

open Sys2Proof Sys2Proof.Machine

/-- Settles O14: each clause is one case of a write to a field, of a write to FFh, or of the APPLY itself. -/
theorem recordsStage : Obligations.RecordsStage := by
  unfold Obligations.RecordsStage
  refine fun u idx => ⟨fun r sub v hr hsub hi ha => u.valueWrite_field r idx sub v hr hsub hi ha, fun r hi hl => ?_,
    fun r v h21 hl hv => ?_, fun r v hi hv => ?_, u.recordApply_empty idx, fun sub => u.recordApply_stageFail idx sub⟩
  · rw [u.valueWrite_applyWrite r idx 0 hi, u.applyWrite_zero idx hl]
  · rw [h21, u.valueWrite_applyWrite r 0x1321 v hasApply_preseal, u.applyWrite_locked v hv hl]
  · rw [u.valueWrite_applyWrite r idx v hi, u.applyWrite_other idx v hv]

end

section
/-! PROOF. The SEQ window (R68): what a request does by the signed difference of its SEQ and the expected one. -/

namespace Sys2Proof.Machine

variable {s : State} {x : Session} {opcode : Nat} {f : Frame}

theorem State.inSequence_expected (hd : seqDiff 16 f.seq x.expected = 0) :
    s.inSequence x opcode f = (s.execute x opcode f).runHeld 7 := by
  simp [State.inSequence, hd]

theorem State.inSequence_ahead (h1 : 1 ≤ seqDiff 16 f.seq x.expected) (h7 : seqDiff 16 f.seq x.expected ≤ 7)
    (hh : ∀ h ∈ x.held, h.frame.seq ≠ f.seq) :
    s.inSequence x opcode f = s.updSession fun y => { y with held := y.held ++ [⟨opcode, f⟩] } := by
  have h0 : seqDiff 16 f.seq x.expected ≠ 0 := by omega
  have ha : (x.held.any fun h => h.frame.seq == f.seq) = false := by simpa using hh
  simp [State.inSequence, h0, h1, h7, ha]

theorem State.inSequence_kept {c : Answer} (h8 : -8 ≤ seqDiff 16 f.seq x.expected) (h1 : seqDiff 16 f.seq x.expected ≤ -1)
    (hc : x.cache.find? (fun c => c.seq == f.seq) = some c) :
    s.inSequence x opcode f = (s.inc O.CACHED_ANSWERS).tagged x c.opcode c.seq c.status c.body := by
  have h0 : seqDiff 16 f.seq x.expected ≠ 0 := by omega
  have hw : ¬ 1 ≤ seqDiff 16 f.seq x.expected := by omega
  simp [State.inSequence, h0, hw, h8, h1, hc]

/-- Outside the window, or behind with no answer kept: neither executed, held nor answered again. -/
theorem State.inSequence_out (h : seqDiff 16 f.seq x.expected < -8 ∨ 7 < seqDiff 16 f.seq x.expected ∨
      (seqDiff 16 f.seq x.expected ≤ -1 ∧ x.cache.find? (fun c => c.seq == f.seq) = none)) :
    s.inSequence x opcode f = (s.inc O.OUT_OF_SEQUENCE).tagged x opcode f.seq Status.outOfSequence
      (s.refusalBody opcode (frameBody f) true) := by
  have h0 : seqDiff 16 f.seq x.expected ≠ 0 := by omega
  have hw : (1 ≤ seqDiff 16 f.seq x.expected && seqDiff 16 f.seq x.expected ≤ 7) = false := by simp; omega
  have hk : (if -8 ≤ seqDiff 16 f.seq x.expected && seqDiff 16 f.seq x.expected ≤ -1 then
      x.cache.find? (fun c => c.seq == f.seq) else none) = none := by
    split
    · next hb =>
      simp only [Bool.and_eq_true, decide_eq_true_eq] at hb
      rcases h with h | h | h
      · omega
      · omega
      · exact h.2
    · rfl
  simp only [State.inSequence, h0, hw, hk, Bool.false_eq_true, ↓reduceIte]

end Sys2Proof.Machine

open Sys2Proof Sys2Proof.Machine

/-- Settles O16: the four cases of inSequence are the four of R68. -/
theorem sequenceWindow : Obligations.SequenceWindow := by
  unfold Obligations.SequenceWindow
  exact fun _ _ _ _ => ⟨State.inSequence_expected, fun hd hh => State.inSequence_ahead hd.1 hd.2 hh,
    fun _ h8 h1 hc => State.inSequence_kept h8 h1 hc, State.inSequence_out⟩

end

section
/-! PROOF. Notices (R92 to R95): when one is made, sent again, and dropped. -/

namespace Sys2Proof.Machine

/-- Without a session that takes its kind, a notice is not made (R92). -/
theorem State.notice_barred (s : State) (kind block code index sub : Nat) (data : List Byte)
    (h : s.tdp.session = none ∨ bit (s.rd O.NOTICE_MASK) kind = false) : s.notice kind block code index sub data = s := by
  unfold State.notice
  split
  · next x hx =>
    rw [hx] at h
    have hb : bit (s.rd O.NOTICE_MASK) kind = false := by simpa using h
    rw [hb]; rfl
  · rfl

section

variable {s : State} {seq : Nat} {x : Session} {m : SentNotice} (hx : s.tdp.session = some x)
  (hm : x.sent.find? (fun m => m.seq == seq) = some m) (hd : m.last + 100 * ms ≤ s.now)

include hx hm hd

theorem State.noticeResend_again (hn : m.sendings < 10) :
    s.noticeResend seq =
      let m' := { m with sendings := m.sendings + 1, last := s.now }
      (s.updSession fun y => { y with sent := y.sent.map fun k => if k.seq = seq then m' else k }).sendNotice x m' := by
  have hdue : s.due m.last (100 * ms) = true := decide_eq_true hd
  simp [State.noticeResend, hx, hm, hdue, Nat.not_le.mpr hn]

theorem State.noticeResend_dropped (hn : 10 ≤ m.sendings) : s.noticeResend seq = s.noticeDropped m := by
  have hdue : s.due m.last (100 * ms) = true := decide_eq_true hd
  simp [State.noticeResend, hx, hm, hdue, hn]

end

end Sys2Proof.Machine

open Sys2Proof Sys2Proof.Machine

/-- Settles O17: the acknowledgement passes the checks of R47, and the clauses on waiting are the cases of noticeResend. -/
theorem notices : Obligations.Notices := by
  unfold Obligations.Notices
  refine ⟨fun s t f x ht ho hx hm hv hs hi ha hp hl hg hb => State.does_eq _ _ _ _ ?_,
    fun s t seq x m hx hm hd => ⟨fun hn => State.does_eq _ _ _ _ ?_, fun hn => State.does_eq _ _ _ _ ?_⟩,
    State.notice_barred⟩
  · rw [State.hostFrame_ofSession ho ht hx hm hv hi hs ha hp (by decide) hl hg, State.acceptFrame_noticeAck _ _ _ hb]
    rfl
  · exact State.noticeResend_again (s := s.at t) hx hm hd hn
  · exact State.noticeResend_dropped (s := s.at t) hx hm hd hn

end

section
/-! PROOF. Debug authorisation (R191 to R195): what a proof written to DEBUG_AUTH does, by the level that it names and by whether it is
the right one, and the ways back to CLOSED. -/

namespace Sys2Proof.Machine

/-! ### A proof at DEBUG_AUTH (R192 to R194) -/

/-- The right proof for a level on nonce n (R192). -/
def State.debugProof (s : State) (level : Nat) (n : List Byte) : List Byte :=
  (hmac256 s.debugKey (ascii "DBG-LEVEL" ++ [toByte level] ++ n ++ natLE 8 s.fuses.serial)).take 16

/-- The wrong proofs of the last 10 s, with one that comes now (R194). -/
def State.wrongProofs (s : State) : List Nat := (s.access.wrong.filter fun m => s.now < m + 10 * sec) ++ [s.now]

/-- What a wrong proof leaves: the nonce used up, the failure counted, and the lock after the third within 10 s (R194). -/
def State.afterWrongProof (s : State) : State :=
  { s with access := { s.access with
      nonce := none
      failures := min 65535 (s.access.failures + 1)
      wrong := if 3 ≤ s.wrongProofs.length then [] else s.wrongProofs
      lockUntil := if 3 ≤ s.wrongProofs.length then s.now + 60 * sec else s.access.lockUntil } }

/-- With two wrong proofs in the last 10 s, one more locks DEBUG_AUTH for 60 s (R194). -/
theorem State.afterWrongProof_lockUntil {s : State} (h : 2 ≤ (s.access.wrong.filter fun m => s.now < m + 10 * sec).length) :
    s.afterWrongProof.access.lockUntil = s.now + 60 * sec := by
  have h3 : 3 ≤ s.wrongProofs.length := by
    rw [State.wrongProofs, List.length_append]
    exact Nat.succ_le_succ h
  exact if_pos h3

section

variable {s : State} (hr : s.debugReachable = true)

include hr

theorem State.debugAuth_zero (p : List Byte) : s.debugAuth 0 p = s.debugClosed := by
  simp [State.debugAuth, hr]

variable {level : Nat} (hl : level = 1 ∨ level = 2)

include hl

theorem State.debugAuth_locked (p : List Byte) (ho : s.debugOpen (2 ^ (level - 1)) = false) :
    s.debugAuth level p = s.emit (.tap 16 Status.locked) := by
  have h0 : level ≠ 0 := by omega
  have h2 : ¬ 2 < level := by omega
  simp only [State.debugAuth, hr, h0, h2, ho, Bool.not_true, Bool.not_false, Bool.false_eq_true, ↓reduceIte]

variable {n : List Byte} {t0 : Nat} (ho : s.debugOpen (2 ^ (level - 1)) = true) (hn : s.access.nonce = some (n, t0))

include ho hn

/-- The right proof on a live nonce: a part that is not in FULL enters it on a proof of FULL, and otherwise the level rises to at
least the proven one (R193, R196). -/
theorem State.debugAuth_right (hlive : s.now < t0 + 10 * sec) :
    s.debugAuth level (s.debugProof level n) =
      let u : State := { s with access := { s.access with nonce := none } }
      if level = 2 && u.access.level != 2 then u.enterFull
      else { u with access := { u.access with level := max u.access.level level } } := by
  have h0 : level ≠ 0 := by omega
  have h2 : ¬ 2 < level := by omega
  simp only [State.debugAuth, State.debugProof, hr, h0, h2, ho, hn, hlive, Bool.not_true, Bool.false_eq_true, beq_self_eq_true,
    decide_true, Bool.and_self, ↓reduceIte]

theorem State.debugAuth_wrong {p : List Byte} (hp : p ≠ s.debugProof level n) : s.debugAuth level p = s.afterWrongProof := by
  have h0 : level ≠ 0 := by omega
  have h2 : ¬ 2 < level := by omega
  have hb : (p == (hmac256 s.debugKey (ascii "DBG-LEVEL" ++ [toByte level] ++ n ++ natLE 8 s.fuses.serial)).take 16) = false :=
    beq_eq_false_iff_ne.mpr hp
  simp only [State.debugAuth, hr, h0, h2, ho, hn, hb, Bool.not_true, Bool.false_eq_true, Bool.and_false, ↓reduceIte]
  rfl

end

/-! ### The ends of the nonce and of the lock (R191, R194) -/

theorem State.debugNonceExpired_due {s : State} {n : List Byte} {t0 : Nat} (hn : s.access.nonce = some (n, t0))
    (h : t0 + 10 * sec ≤ s.now) : s.debugNonceExpired = { s with access := { s.access with nonce := none } } := by
  have hd : s.due t0 (10 * sec) = true := decide_eq_true h
  simp only [State.debugNonceExpired, hn, hd, ↓reduceIte]

theorem State.debugLockExpired_due {s : State} (h : s.access.lockUntil ≤ s.now) :
    s.debugLockExpired = { s with access := { s.access with lockUntil := 0, wrong := [] } } := if_pos h

/-! ### DEBUG_STATE.CLOSE (R195) -/

/-- An object outside the active view that the dictionary lists is found. -/
theorem findObject_of_row {idx sub : Nat} {r : ObjRow} (hk : idx < 0x8000) (hi : Dict.hasIndex idx = true)
    (hr : Dict.row? idx sub = some r) : findObject idx sub = .ok r := by
  have h1 : ¬ 65536 ≤ idx := by omega
  have h2 : ¬ 0x8000 ≤ idx := by omega
  simp [findObject, h1, h2, hi, hr]

/-- The row of DEBUG_STATE.CLOSE in the dictionary. -/
def debugCloseRow : ObjRow := ⟨0x1410, 1, 0x03, 1, .u8, .cmd, false, 0, .bt 1 1, .now⟩

theorem findObject_debugClose : findObject (O.DEBUG_CLOSE / 256) (O.DEBUG_CLOSE % 256) = .ok debugCloseRow :=
  findObject_of_row (by decide) (by decide +kernel) (by decide +kernel)

theorem State.valueWrite_debugClose (s : State) :
    s.valueWrite debugCloseRow (O.DEBUG_CLOSE / 256) (O.DEBUG_CLOSE % 256) 1 = .of Status.ok s.debugClosed :=
  s.valueWrite_cmd debugCloseRow O.DEBUG_CLOSE 1 s.debugClosed (by decide) (by decide) (by decide) (by decide) (by decide +kernel) rfl

theorem writes_debugClose (t : Nat) :
    Writes (fun h => .debugClose t (some h) 1) t O.DEBUG_CLOSE [1#8] (fun _ => True) State.debugClosed :=
  writes_of _ t _ _ debugCloseRow _ _ (fun _ _ => rfl) (by decide) findObject_debugClose (by decide) (by decide) rfl (by decide)
    fun u _ => u.valueWrite_debugClose

end Sys2Proof.Machine

open Sys2Proof Sys2Proof.Machine

/-- Settles O27: a proof is right, wrong or locked out, the nonce and the lock end at their times, and each way back to CLOSED is
debugClosed. -/
theorem debugAuthorisation : Obligations.DebugAuthorisation := by
  unfold Obligations.DebugAuthorisation
  refine ⟨fun s t p n t0 hr ho hn hlive => ⟨fun hp => State.does_eq _ _ _ _ ?_, fun hp => ⟨(s.at t).afterWrongProof,
      State.does_eq _ _ _ _ (State.debugAuth_wrong (s := s.at t) hr (.inl rfl) ho hn hp), rfl, rfl, rfl,
      State.afterWrongProof_lockUntil (s := s.at t)⟩⟩,
    fun s t level p hr hl ho => State.does_eq _ _ _ _ (State.debugAuth_locked (s := s.at t) hr hl p ho),
    fun s t p hr => State.does_eq _ _ _ _ (State.debugAuth_zero (s := s.at t) hr p),
    writes_debugClose, fun _ _ => rfl,
    fun s t n t0 hn hd => State.does_eq _ _ _ _ (State.debugNonceExpired_due (s := s.at t) hn hd),
    fun s t hd => State.does_eq _ _ _ _ (State.debugLockExpired_due (s := s.at t) hd)⟩
  rw [hp]
  exact State.debugAuth_right (s := s.at t) hr (.inl rfl) ho hn hlive

end

section
/-! PROOF. The records and CMD objects of the position chapter (R355, R381 to R422): the row that each write meets in the dictionary,
what the block does with the values in place, and what a new LINE_PITCH leaves of the position. -/

namespace Sys2Proof.Machine

/-! ### An APPLY of the chapter -/

/-- The row of FFh of a record that stands at n indices from idx on. -/
def applyRow (idx n : Nat) : ObjRow := ⟨idx, n, 0xff, 1, .u8, .cmd, false, 0, .bt 0 1, .now⟩

theorem Dict.hasIndex_of_row {idx sub : Nat} {r : ObjRow} (h : Dict.row? idx sub = some r) : Dict.hasIndex idx = true := by
  have hc : r.covers idx sub = true := List.find?_some (p := fun x : ObjRow => x.covers idx sub) h
  simp only [ObjRow.covers, Bool.and_eq_true] at hc
  obtain ⟨⟨hi, -⟩, -⟩ := hc
  exact List.any_eq_true.mpr ⟨r, List.mem_of_find?_eq_some h, hi⟩

theorem row_settingsApply : ∀ idx ∈ [0x2601, 0x2602, 0x2605, 0x2606],
    0x2601 ≤ idx ∧ idx ≤ 0x262f ∧ Dict.row? idx 255 = some (applyRow idx 1) := by decide +kernel

theorem row_compareApply : ∀ k < 16, Dict.row? (0x2620 + k) 255 = some (applyRow 0x2620 16) := by decide +kernel

/-- The records from 2601h to 262Fh hold settings: their block only takes the values. -/
theorem State.recordOp_position (u : State) {idx : Nat} (hlo : 0x2601 ≤ idx) (hhi : idx ≤ 0x262f)
    (hf : (u.wrs (u.staged idx)).recordFail idx = none) (hr : (u.wrs (u.staged idx)).recordRefusal idx u = false) :
    u.recordOp idx (u.staged idx) = .of Status.ok ((u.wrs (u.staged idx)).recordEffect idx u) := by
  have ne (j : Nat) (h : j < 0x2601 ∨ 0x262f < j) : idx ≠ j := by omega
  have lt (j m : Nat) (h : 0x262f < j) : (decide (j ≤ idx) && decide (idx ≤ m)) = false := by
    simp [Nat.not_le.mpr (Nat.lt_of_le_of_lt hhi h)]
  rw [u.recordOp_taken idx (ne _ (by decide)) (by omega) hf hr]
  simp only [ne 0x2003 (by decide), ne 0x2500 (by decide), ne 0x2540 (by decide), ne 0x3503 (by decide), ne 0x3750 (by decide),
    lt 0x3700 _ (by decide), lt 0x3720 _ (by decide), lt 0x3730 _ (by decide), Bool.false_eq_true, ↓reduceIte]

/-- An APPLY of the chapter has the effect that its block gives the values. -/
theorem applies_position {c : Hdr → Instr} {t idx first n : Nat} {pre : State → State → Prop} {op : State → State → State}
    (hc : ∀ h s, exec (c h) s = s.does t fun u => u.hostWrite h (256 * idx + 255) [1#8]) (hlo : 0x2601 ≤ idx) (hhi : idx ≤ 0x262f)
    (hrow : Dict.row? idx 255 = some (applyRow first n)) (he : ∀ u v, pre u v → v.recordEffect idx u = op u v) :
    Applies c t idx pre op := by
  have hk : idx < 0x8000 := by omega
  refine applies_of c t idx (applyRow first n) pre op hc hk (findObject_of_row hk (Dict.hasIndex_of_row hrow) hrow) rfl rfl rfl
    (Option.isSome_of_eq_some hrow) (by omega) fun u hf hr hp => ?_
  rw [u.recordOp_position hlo hhi hf hr, he _ _ hp]

/-- The same of WEB_SCALE, WEB_SOURCE, INDEX and CHECK, which stand once. -/
theorem applies_settings {c : Hdr → Instr} {t idx : Nat} {pre : State → State → Prop} {op : State → State → State}
    (hc : ∀ h s, exec (c h) s = s.does t fun u => u.hostWrite h (256 * idx + 255) [1#8])
    (hi : idx ∈ [0x2601, 0x2602, 0x2605, 0x2606]) (he : ∀ u v, pre u v → v.recordEffect idx u = op u v) :
    Applies c t idx pre op := by
  obtain ⟨hlo, hhi, hrow⟩ := row_settingsApply idx hi
  exact applies_position hc hlo hhi hrow he

/-! ### The values in place, record by record -/

theorem State.recordEffect_newPitch {v u : State} (h : v.pitch ≠ u.pitch) : v.recordEffect 0x2601 u = v.rescale u.pitch v.pitch :=
  if_neg h

theorem State.recordEffect_samePitch {v u : State} (h : v.pitch = u.pitch) : v.recordEffect 0x2601 u = v := if_pos h

theorem State.recordEffect_newSource {v u : State} (h : v.rd O.WEB_SOURCE ≠ u.rd O.WEB_SOURCE) :
    v.recordEffect 0x2602 u = v.changeSource := if_pos (bne_iff_ne.mpr h)

theorem State.recordEffect_compare (v u : State) {k : Nat} (hk : k < 16) : v.recordEffect (0x2620 + k) u = v.cmpRestart k := by
  have ne (j : Nat) (h : j < 0x2620) : 0x2620 + k ≠ j := by omega
  have hin : (decide (0x2620 ≤ 0x2620 + k) && decide (0x2620 + k ≤ 0x262f)) = true := by simp; omega
  simp only [State.recordEffect, ne 0x2601 (by decide), ne 0x2602 (by decide), ne 0x2605 (by decide), ne 0x2606 (by decide), hin,
    ↓reduceIte, Nat.add_sub_cancel_left]

/-! ### VALIDATE and FLAGS -/

/-- An accepted write of an object with a rule of its own, which goes to the partner where it is mirrored (R781). -/
theorem State.valueWrite_forwarded (s : State) (r : ObjRow) (key v : Nat) (u : State)
    (h1 : (key % 256 = 0xff && Dict.hasApply (key / 256)) = false) (h2 : (r.app == .apply && Dict.hasApply (key / 256)) = false)
    (h3 : valueOk r v = true) (h4 : key ≠ O.ACCEPT) (h5 : s.authorityRefused key = false)
    (h6 : s.commandOp key v = some (.of Status.ok u)) :
    s.valueWrite r (key / 256) (key % 256) v = .of Status.ok (u.forwardBytes key (natLE r.ty.size v)) := by
  have hkey : 256 * (key / 256) + key % 256 = key := by omega
  have ho : s.objectOp key v = .of Status.ok u := by rw [State.objectOp, h6]
  simp only [State.valueWrite, hkey, h1, h2, h3, h5, ho, Reply.of, bne_iff_ne.mpr h4, decide_true, Bool.not_true, Bool.false_and,
    Bool.and_self, Bool.false_eq_true, ↓reduceIte]

/-- The row of VALIDATE in the dictionary. -/
def validateRow : ObjRow := ⟨0x2609, 1, 0x00, 1, .u8, .cmd, false, 0, .bt 1 1, .now⟩

/-- The row of FLAGS in the dictionary. -/
def positionFlagsRow : ObjRow := ⟨0x2600, 1, 0x06, 1, .u16, .rw, false, 0, .bt 0 31, .now⟩

theorem row_validate : Dict.row? (O.VALIDATE / 256) (O.VALIDATE % 256) = some validateRow := by decide +kernel

theorem row_positionFlags :
    Dict.row? (O.POSITION_STATUS_FLAGS / 256) (O.POSITION_STATUS_FLAGS % 256) = some positionFlagsRow := by decide +kernel

theorem State.validate_invalid {s : State} (h : s.web.valid = false) :
    s.validate 1 = .of Status.ok { s with web := { s.web with valid := true, cRef := none } } := by
  simp [State.validate, h]

theorem State.flagsWrite_reserved (s : State) {v : Nat} (h : 32 ≤ v) : s.flagsWrite v = .of Status.range s := if_pos h

theorem State.flagsWrite_defined (s : State) {v : Nat} (h : v < 32) :
    s.flagsWrite v = .of Status.ok (s.wr O.POSITION_STATUS_FLAGS (Nat.land (s.rd O.POSITION_STATUS_FLAGS) v)) :=
  if_neg (Nat.not_le.mpr h)

theorem writes_validate (t : Nat) :
    Writes (fun h => .validate t h 1) t O.VALIDATE [1#8] (fun u => u.authorityRefused O.VALIDATE = false ∧ u.web.valid = false)
      (fun u => ({ u with web := { u.web with valid := true, cRef := none } } : State).forwardBytes O.VALIDATE [1#8]) := by
  refine writes_of _ t _ _ validateRow _ _ (fun _ _ => rfl) (by decide)
    (findObject_of_row (by decide) (Dict.hasIndex_of_row row_validate) row_validate) rfl rfl rfl (by decide) fun u ⟨ha, hv⟩ => ?_
  exact u.valueWrite_forwarded validateRow _ 1 _ (by decide) (by decide) (by decide) (by decide) ha
    (congrArg some (State.validate_invalid hv))

theorem valueOk_positionFlags {v : Nat} (h : v < 32) : valueOk positionFlagsRow v = true := by
  simp [valueOk, positionFlagsRow, Rng.ok, Ty.value, Ty.signed]; omega

theorem writes_positionFlags (t : Nat) {v : Nat} (h : v < 32) :
    Writes (fun h => .positionFlagsWrite t h v) t O.POSITION_STATUS_FLAGS (natLE 2 v)
      (fun u => u.authorityRefused O.POSITION_STATUS_FLAGS = false)
      (fun u => (u.wr O.POSITION_STATUS_FLAGS (Nat.land (u.rd O.POSITION_STATUS_FLAGS) v)).forwardBytes O.POSITION_STATUS_FLAGS
        (natLE 2 v)) := by
  have hv : leNat (natLE 2 v) = v := by rw [leNat_natLE]; omega
  refine writes_of _ t _ _ positionFlagsRow _ _ (fun _ _ => rfl) (by decide)
    (findObject_of_row (by decide) (Dict.hasIndex_of_row row_positionFlags) row_positionFlags) rfl rfl (natLE_length 2 v)
    (by rw [natLE_length]; decide) fun u ha => ?_
  rw [hv]
  exact u.valueWrite_forwarded positionFlagsRow _ v _ (by decide) (by decide) (valueOk_positionFlags h) (by decide) ha
    (congrArg some (u.flagsWrite_defined h))

/-! ### A new LINE_PITCH (R355, R382) -/

/-- What a new LINE_PITCH scales or recomputes: the position, the high-water mark and the rows. -/
def State.ground (s : State) : Nat × Nat × List RowState := (s.web.pos, s.web.hwm, s.fire.rows)

theorem State.cmpSettle_ground (s : State) (k : Nat) : (s.cmpSettle k).ground = s.ground := by
  unfold State.cmpSettle
  generalize (if s.cmpDriven k then some (s.cmpLevel k) else none) = want
  dsimp only
  split
  · rfl
  · cases want <;> rfl

theorem State.cmpRestart_ground (s : State) (k : Nat) : (s.cmpRestart k).ground = s.ground := by
  rw [State.cmpRestart, State.cmpSettle_ground]; rfl

/-- A loop over units or segments moves the ground only where one of its turns does. -/
theorem State.foldl_ground {f : State → Nat → State} (h : ∀ s k, (f s k).ground = s.ground) (s : State) (ks : List Nat) :
    (ks.foldl f s).ground = s.ground :=
  List.foldlRecOn (motive := fun u => u.ground = s.ground) ks f rfl fun u hu k _ => (h u k).trans hu

theorem State.newWindow_ground (s : State) : s.newWindow.ground = s.ground := rfl

theorem State.unflush_ground (s : State) : s.unflush.ground = s.ground := by
  unfold State.unflush
  refine State.foldl_ground (fun _ _ => ?_) s _
  rfl

/-- The compare units restart, a new cross-check window begins and the heads count as not flushed: none of this moves the ground. -/
theorem State.rescale_ground (s : State) (old new : Nat) :
    (s.rescale old new).ground =
      (s.web.pos * new / old / 65536 * 65536, s.web.hwm * new / old / 65536 * 65536, s.fire.rows.map RowState.settled) :=
  (State.unflush_ground _).trans ((State.newWindow_ground _).trans (State.foldl_ground State.cmpRestart_ground _ _))

theorem RowState.settled_pending {r : RowState} {d w : Nat} (h : r.pending = some (d, w)) :
    r.settled = { r.cleared with eff := d, pending := none } := by
  rw [RowState.settled, h]

/-! ### The end of a pulse (R413) -/

theorem State.cmpPulseEnd_due {s : State} {k e : Nat} (hp : (s.unit k).pulseEnd = some e) (he : e ≤ s.now) :
    s.cmpPulseEnd k = (s.updUnit k fun x => { x with pulseEnd := none }).cmpSettle k := by
  simp only [State.cmpPulseEnd, hp, he, ↓reduceIte]

end Sys2Proof.Machine

open Sys2Proof Sys2Proof.Machine

/-- Settles O37: each APPLY of the chapter has the effect that recordEffect gives its record, VALIDATE and FLAGS are commands of
their own, and a new LINE_PITCH leaves the ground that rescale_ground says. -/
theorem positionSettings : Obligations.PositionSettings := by
  unfold Obligations.PositionSettings
  refine ⟨fun t => ⟨?_, ?_, ?_, ?_, ?_, fun k hk => ?_, writes_validate t, fun v hv => writes_positionFlags t hv⟩,
    fun s old new => ?_, fun r d w h => ?_, fun u v h => u.flagsWrite_reserved h,
    fun s t k e hp he => State.does_eq _ _ _ _ (State.cmpPulseEnd_due (s := s.at t) hp he)⟩
  · exact applies_settings (fun _ _ => rfl) (by decide) fun _ _ h => State.recordEffect_newPitch h
  · exact applies_settings (fun _ _ => rfl) (by decide) fun _ _ h => State.recordEffect_samePitch h
  · refine applies_settings (fun _ _ => rfl) (by decide) fun u v h => ?_
    rw [State.recordEffect_newSource h]
    simp only [State.changeSource, Bool.and_eq_true, decide_eq_true_eq]
  · exact applies_settings (fun _ _ => rfl) (by decide) fun _ _ _ => rfl
  · exact applies_settings (fun _ _ => rfl) (by decide) fun _ _ _ => rfl
  · refine applies_position (fun h s => ?_) (by omega) (by omega) (row_compareApply k hk)
      fun u v _ => v.recordEffect_compare u hk
    have hkey : 0x2620ff + 256 * (k % 16) = 256 * (0x2620 + k) + 255 := by omega
    rw [← hkey]; rfl
  · have hg := s.rescale_ground old new
    simpa only [State.ground, Prod.mk.injEq] using hg
  · rw [RowState.settled_pending h]; exact ⟨rfl, rfl, rfl⟩

end

section
/-! PROOF. The interlock inputs (R454 to R457): when a level is accepted, what an accepted level trips, and what INTERLOCK_CLEAR
finds of the inputs that it names. -/

namespace Sys2Proof.Machine

/-- Input i as the filter keeps it, with the value that the model reads where the state holds none. -/
def State.interlock (s : State) (i : Nat) : Interlock := s.fire.interlocks.getD i ⟨none, false, 0⟩

/-- The state in which input i has just accepted this level (R454). -/
def State.withLevel (s : State) (i : Nat) (level : Bool) : State :=
  { s with fire := { s.fire with
    interlocks := s.fire.interlocks.modify i fun x => { x with level := some level, since := s.now } } }

/-- The state in which the inputs that the mask v names are no longer latched (R457). -/
def State.unlatched (s : State) (v : Nat) : State :=
  { s with fire := { s.fire with
    interlocks := (indexed s.fire.interlocks).map fun e =>
      if ((List.range 4).filter (bit v)).contains e.1 then { e.2 with latched := false } else e.2 } }

/-! ### What a trip is (R455) -/

theorem State.levelActive_iff (s : State) (i : Nat) :
    s.levelActive i = true ↔ (s.interlock i).level = some (s.rdB (O.INTERLOCK_ACTIVE_LEVEL i)) := beq_iff_eq

theorem State.tripped_iff (s : State) (i : Nat) : s.tripped i = true ↔ s.rdB (O.INTERLOCK_ENABLE i) = true ∧
    (s.interlock i).level = some (s.rdB (O.INTERLOCK_ACTIVE_LEVEL i)) := by
  rw [State.tripped, Bool.and_eq_true, s.levelActive_iff]

theorem State.level_of_not_tripped {s : State} {i : Nat} (he : s.rdB (O.INTERLOCK_ENABLE i) = true) (h : s.tripped i = false) :
    (s.interlock i).level ≠ some (s.rdB (O.INTERLOCK_ACTIVE_LEVEL i)) := fun hl => by
  rw [(s.tripped_iff i).mpr ⟨he, hl⟩] at h
  contradiction

theorem State.level_of_tripped {s : State} {i : Nat} (h : s.tripped i = true) :
    (s.interlock i).level ≠ some (!s.rdB (O.INTERLOCK_ACTIVE_LEVEL i)) := by
  obtain ⟨-, hl⟩ := (s.tripped_iff i).mp h
  rw [hl]
  simp

theorem State.interlock_withLevel {s : State} {i : Nat} (level : Bool) (hi : i < s.fire.interlocks.length) :
    ((s.withLevel i level).interlock i).level = some level := by
  simp [State.interlock, State.withLevel, List.getD_eq_getElem?_getD, hi]

theorem State.withLevel_active_tripped {s : State} {i : Nat} (he : s.rdB (O.INTERLOCK_ENABLE i) = true)
    (hi : i < s.fire.interlocks.length) : (s.withLevel i (s.rdB (O.INTERLOCK_ACTIVE_LEVEL i))).tripped i = true :=
  (State.tripped_iff _ _).mpr ⟨he, State.interlock_withLevel _ hi⟩

/-! ### A level reaches the filter (R454) -/

theorem State.interlockInput_awake {s : State} {i : Nat} (hi : i < 4) (ha : s.awake = true) (active : Bool) :
    s.interlockInput i active = s.interlockLevel i (s.rdB (O.INTERLOCK_ACTIVE_LEVEL i) == active) := by
  simp [State.interlockInput, State.whenAwake, Nat.not_le.mpr hi, ha]

theorem State.interlockLevel_early {s : State} {i : Nat} (level : Bool)
    (h : s.now < (s.interlock i).since + s.rd (O.INTERLOCK_FILTER i) * 5000) : s.interlockLevel i level = s := by
  have hd : s.due (s.interlock i).since (s.rd (O.INTERLOCK_FILTER i) * 5000) = false := decide_eq_false (Nat.not_le.mpr h)
  exact if_pos (by rw [← State.interlock, hd]; simp)

theorem State.interlockLevel_accepted {s : State} {i : Nat} {level : Bool} (hl : (s.interlock i).level ≠ some level)
    (h : (s.interlock i).since + s.rd (O.INTERLOCK_FILTER i) * 5000 ≤ s.now) :
    s.interlockLevel i level =
      if !s.tripped i && (s.withLevel i level).tripped i then (s.withLevel i level).trip i else s.withLevel i level := by
  have hd : s.due (s.interlock i).since (s.rd (O.INTERLOCK_FILTER i) * 5000) = true := decide_eq_true h
  exact if_neg (by rw [← State.interlock, hd]; simp [hl])

theorem State.interlockInput_trips {s : State} {i : Nat} (hi : i < 4) (ha : s.awake = true) (ht : s.tripped i = false)
    (he : s.rdB (O.INTERLOCK_ENABLE i) = true) (hlen : i < s.fire.interlocks.length)
    (h : (s.interlock i).since + s.rd (O.INTERLOCK_FILTER i) * 5000 ≤ s.now) :
    s.interlockInput i true = (s.withLevel i (s.rdB (O.INTERLOCK_ACTIVE_LEVEL i))).trip i := by
  rw [State.interlockInput_awake hi ha, beq_true, State.interlockLevel_accepted (State.level_of_not_tripped he ht) h, ht,
    State.withLevel_active_tripped he hlen]
  rfl

theorem State.interlockInput_releases {s : State} {i : Nat} (hi : i < 4) (ha : s.awake = true) (ht : s.tripped i = true)
    (h : (s.interlock i).since + s.rd (O.INTERLOCK_FILTER i) * 5000 ≤ s.now) :
    s.interlockInput i false = s.withLevel i (!s.rdB (O.INTERLOCK_ACTIVE_LEVEL i)) := by
  rw [State.interlockInput_awake hi ha, beq_false, State.interlockLevel_accepted (State.level_of_tripped ht) h, ht]
  rfl

theorem State.interlockInput_early {s : State} {i : Nat} (hi : i < 4) (ha : s.awake = true)
    (h : s.now < (s.interlock i).since + s.rd (O.INTERLOCK_FILTER i) * 5000) (active : Bool) : s.interlockInput i active = s := by
  rw [State.interlockInput_awake hi ha, State.interlockLevel_early _ h]

/-! ### INTERLOCK_CLEAR (R457) -/

/-- The inputs that a mask names. -/
theorem mem_namedInputs {v i : Nat} : i ∈ (List.range 4).filter (bit v) ↔ i < 4 ∧ bit v i = true := by
  rw [List.mem_filter, List.mem_range]

/-- A mask with a bit set is not 0. -/
theorem ne_zero_of_bit {v i : Nat} (h : bit v i = true) : v ≠ 0 := by
  rintro rfl
  simp [bit] at h

theorem State.interlockClear_active {u : State} {v i : Nat} (hv : v < 16) (hi : i < 4) (hb : bit v i = true)
    (hl : u.levelActive i = true) : u.interlockClear v = .of Status.state u := by
  have hany : ((List.range 4).filter (bit v)).any u.levelActive = true :=
    List.any_eq_true.mpr ⟨i, mem_namedInputs.mpr ⟨hi, hb⟩, hl⟩
  simp only [State.interlockClear, Nat.not_le.mpr hv, ne_zero_of_bit hb, hany, ↓reduceIte]

theorem State.interlockClear_ok {u : State} {v : Nat} (hv : v < 16) (h0 : v ≠ 0)
    (hl : ∀ i, i < 4 → bit v i = true → u.levelActive i = false) :
    u.interlockClear v = .of Status.ok (u.unlatched v) := by
  have hany : ((List.range 4).filter (bit v)).any u.levelActive = false := List.any_eq_false.mpr fun i hi => by
    obtain ⟨h4, hb⟩ := mem_namedInputs.mp hi
    simp [hl i h4 hb]
  simp only [State.interlockClear, Nat.not_le.mpr hv, h0, hany, Bool.false_eq_true, ↓reduceIte, State.unlatched]

/-- The row of INTERLOCK_CLEAR in the dictionary. -/
def interlockClearRow : ObjRow := ⟨0x2744, 1, 0x00, 1, .u8, .cmd, false, 0, .bt 0 15, .now⟩

theorem row_interlockClear :
    Dict.row? (O.INTERLOCK_CLEAR / 256) (O.INTERLOCK_CLEAR % 256) = some interlockClearRow := by decide +kernel

theorem valueOk_interlockClear {v : Nat} (h : v < 16) : valueOk interlockClearRow v = true := by
  simp [valueOk, interlockClearRow, Rng.ok, Ty.value, Ty.signed]; omega

theorem writes_interlockClear (t : Nat) {v : Nat} (hv : v < 16) (h0 : v ≠ 0) :
    Writes (fun h => .interlockClear t h v) t O.INTERLOCK_CLEAR [toByte v]
      (fun u => u.authorityRefused O.INTERLOCK_CLEAR = false ∧ ∀ i, i < 4 → bit v i = true → u.levelActive i = false)
      (fun u => (u.unlatched v).forwardBytes O.INTERLOCK_CLEAR [toByte v]) := by
  have hval : leNat [toByte v] = v := (leNat_natLE 1 v).trans (Nat.mod_eq_of_lt (by omega))
  refine writes_of _ t _ _ interlockClearRow _ _ (fun _ _ => rfl) (by decide)
    (findObject_of_row (by decide) (Dict.hasIndex_of_row row_interlockClear) row_interlockClear) rfl rfl rfl (by simp)
    fun u ⟨ha, hl⟩ => ?_
  rw [hval]
  exact u.valueWrite_forwarded interlockClearRow _ v _ (by decide) (by decide) (valueOk_interlockClear hv) (by decide) ha
    (congrArg some (State.interlockClear_ok hv h0 hl))

end Sys2Proof.Machine

open Sys2Proof Sys2Proof.Machine

/-- Settles O39: a level that the filter lets through trips or releases its input, an earlier one does nothing, and INTERLOCK_CLEAR
ends the latches of the inputs that it names where none of them is at its active level. -/
theorem interlocks : Obligations.Interlocks := by
  unfold Obligations.Interlocks
  refine ⟨fun s t i hi ha ht he hlen hd => State.does_eq _ _ _ _ (State.interlockInput_trips (s := s.at t) hi ha ht he hlen hd),
    fun s t i hi ha ht hd => State.does_eq _ _ _ _ (State.interlockInput_releases (s := s.at t) hi ha ht hd),
    fun s t i hi ha hd => ?_, fun t v hv h0 => writes_interlockClear t hv h0,
    fun u v i hv hi hb hl => State.interlockClear_active hv hi hb hl, fun u => rfl, fun u i => u.tripped_iff i⟩
  have early (active : Bool) : (s.at t).interlockInput i active = s.at t :=
    State.interlockInput_early (s := s.at t) hi ha hd active
  exact ⟨State.does_eq _ _ _ _ (early true), State.does_eq _ _ _ _ (early false)⟩

end

section
/-! PROOF. The end of a command (spec/18, R739): what follows from its effect by itself. -/

open Sys2Proof Sys2Proof.Machine

/-- Settles O6: each part of the end of a command changes nothing where nothing follows, as finish_quiet says. -/
theorem quietEffectIsAll : Obligations.QuietEffectIsAll := by
  unfold Obligations.QuietEffectIsAll
  exact State.after_quiet

end

section
/-! PROOF. The record of a block with REG_FAULT (R750, R751): an event and a notice leave it as it is, and set
REG_FAULT on no other. -/

namespace Sys2Proof.Machine

/-! ### REG_FAULT in FLAGS -/

theorem bit_setBit_above (n : Nat) {i j : Nat} (v : Bool) (h : i < j) : bit (setBit n i v) j = bit n j := by
  have hlt : (if v then 2 ^ i else 0) + n % 2 ^ i < 2 ^ (i + 1) := by
    have := Nat.mod_lt n (Nat.two_pow_pos i)
    rw [Nat.pow_succ]; split <;> omega
  have hdiv : setBit n i v / 2 ^ (i + 1) = n / 2 ^ (i + 1) := by
    rw [setBit, Nat.add_assoc, Nat.add_comm, Nat.add_mul_div_right _ _ (Nat.two_pow_pos _), Nat.div_eq_of_lt hlt, Nat.zero_add]
  obtain ⟨k, rfl⟩ := Nat.exists_eq_add_of_lt h
  have key (m : Nat) : m.testBit (i + k + 1) = (m / 2 ^ (i + 1)).testBit k := by
    rw [Nat.testBit_div_two_pow]; congr 1; omega
  rw [bit, bit, key, key, hdiv]

@[simp] theorem FaultRec.refresh_regFault (r : FaultRec) : bit r.refresh.flags 3 = bit r.flags 3 :=
  bit_setBit_above _ _ (by decide)

@[simp] theorem FaultRec.record_regFault (r : FaultRec) (c code data now : Nat) (becomes : Bool) :
    bit (r.record c code data now becomes).flags 3 = bit r.flags 3 :=
  (bit_setBit_above _ _ (by decide)).trans (bit_setBit_above _ _ (by decide))

/-! ### The records of the blocks with REG_FAULT -/

/-- The record of block b where its REG_FAULT is set. -/
def regFaulted (m : List (Nat × FaultRec)) (b : Nat) : Option FaultRec :=
  if bit (mapGet m b .empty).flags 3 then some (mapGet m b .empty) else none

theorem State.regFaulted_faults (s : State) (b : Nat) :
    regFaulted s.faults b = if bit (s.faultRec b).flags 3 then some (s.faultRec b) else none := rfl

theorem State.regFaulted_eq_some {s : State} {b : Nat} {r : FaultRec} :
    regFaulted s.faults b = some r ↔ bit r.flags 3 = true ∧ s.faultRec b = r := by
  rw [s.regFaulted_faults]
  constructor
  · intro h
    split at h
    · next hb => cases h; exact ⟨hb, rfl⟩
    · contradiction
  · rintro ⟨hb, rfl⟩
    rw [if_pos hb]

/-- A record without REG_FAULT put in the place of another one. -/
theorem State.updRec_regFaulted (s : State) (b : Nat) {r : FaultRec} (h : bit (s.faultRec b).flags 3 = false)
    (hr : bit r.flags 3 = false) : regFaulted (s.updRec b r).faults = regFaulted s.faults := by
  obtain ⟨⟨-, -, ho, -⟩, hb, -⟩ := s.updRec_from b r
  funext d
  rw [State.regFaulted_faults, State.regFaulted_faults]
  by_cases hd : d = b
  · rw [hd, hb, hr, h]; rfl
  · rw [ho d hd]

theorem State.updRec_twice_regFaulted (s : State) {u : State} (b : Nat) {r r' : FaultRec} (hu : u.faults = (s.updRec b r).faults)
    (h : bit (s.faultRec b).flags 3 = false) (hr : bit r.flags 3 = false) (hr' : bit r'.flags 3 = false) :
    regFaulted (u.updRec b r').faults = regFaulted s.faults := by
  obtain ⟨-, hb, -⟩ := s.updRec_from b r
  have hub : u.faultRec b = r := by rw [← hb, State.faultRec, hu, State.faultRec]
  rw [u.updRec_regFaulted b (hub ▸ hr) hr', hu, s.updRec_regFaulted b h hr]

theorem State.NoticeFrom.faults {s u : State} (h : s.NoticeFrom u) : u.faults = s.faults := by
  obtain ⟨hu, -⟩ := h
  rw [hu]

theorem State.event_regFaulted (s : State) (b code data : Nat) :
    regFaulted (s.event b code data).faults = regFaulted s.faults := by
  unfold State.event
  split
  · rfl
  · next c hc =>
    dsimp only
    split
    · rfl
    · next hf =>
      have hf : bit (s.faultRec b).flags 3 = false := by simpa using hf
      split
      · exact s.updRec_twice_regFaulted b (State.notice_from _ _ _ _ _ _ _).faults hf (by simp [hf])
          (by simp [hf])
      · exact s.updRec_regFaulted b hf (by simp [hf])

/-! ### The test of the SEVERE classes (R746, R751) -/

theorem State.severeTestBlock_regFaulted (s : State) (b : Nat) : regFaulted (s.severeTestBlock b).faults = regFaulted s.faults := by
  unfold State.severeTestBlock
  dsimp only
  split
  · rfl
  · next hf =>
    have hf : bit (s.faultRec b).flags 3 = false := by simpa using hf
    exact s.updRec_regFaulted b hf (by simp [hf])

end Sys2Proof.Machine
end

section
/-! PROOF. What the entry to safe state leaves alone on its way (R31, R35, R40, R417, R825): the compare units, the axes, the
cameras, the mirror bond and the reports of pages change neither safe state, nor the power state, nor what is composed, nor
the record of a block with REG_FAULT. -/

namespace Sys2Proof.Machine

/-- u has the safe state, the power state and the composed lines of s, and the same records of blocks with REG_FAULT. -/
@[simp] abbrev State.KeepsSafe (s u : State) : Prop :=
  u.safe = s.safe ∧ u.power = s.power ∧ u.compose = s.compose ∧ regFaulted u.faults = regFaulted s.faults

/-- What every turn of a loop keeps, the loop keeps. -/
@[simp] theorem State.foldl_keepsSafe {α : Type} {f : State → α → State} 
    (h : ∀ (s : State) (a : α), s.KeepsSafe (f s a)) (l : List α) (s : State) : s.KeepsSafe (l.foldl f s) := by
  induction l generalizing s with
  | nil => exact ⟨rfl, rfl, rfl, rfl⟩
  | cons a l ih =>
    obtain ⟨h1, h2, h3, h4⟩ := h s a
    obtain ⟨i1, i2, i3, i4⟩ := ih (f s a)
    exact ⟨i1.trans h1, i2.trans h2, i3.trans h3, i4.trans h4⟩

/-! ### Notices and events -/

theorem State.NoticeFrom.keepsSafe {s u : State} (h : s.NoticeFrom u) : s.KeepsSafe u := by
  obtain ⟨hu, -⟩ := h
  rw [hu]
  exact ⟨rfl, rfl, rfl, rfl⟩

@[simp] theorem State.notice_keepsSafe (s : State) (kind block code index sub : Nat) (data : List Byte) :
    s.KeepsSafe (s.notice kind block code index sub data) := (s.notice_from kind block code index sub data).keepsSafe

@[simp] theorem State.event_keepsSafe (s : State) (b code data : Nat) : s.KeepsSafe (s.event b code data) := by
  obtain ⟨hu, -⟩ := s.event_from b code data
  refine ⟨?_, ?_, ?_, s.event_regFaulted b code data⟩ <;> rw [hu]

/-! ### The compare units and the balls that follow the heads -/

@[simp] theorem State.updUnit_keepsSafe (s : State) (k : Nat) (f : CompareUnit → CompareUnit) : s.KeepsSafe (s.updUnit k f) :=
  ⟨rfl, rfl, rfl, rfl⟩

@[simp] theorem State.cmpSettle_keepsSafe (s : State) (k : Nat) : s.KeepsSafe (s.cmpSettle k) := by
  unfold State.cmpSettle
  generalize (if s.cmpDriven k then some (s.cmpLevel k) else none) = want
  cases want <;> dsimp only <;> split <;> simp

@[simp] theorem State.cmpStop_keepsSafe (s : State) (k : Nat) : s.KeepsSafe (s.cmpStop k) := by
  unfold State.cmpStop
  split <;> simp

@[simp] theorem State.encoSettle_keepsSafe (s : State) : s.KeepsSafe s.encoSettle := by
  unfold State.encoSettle
  dsimp only
  split <;> simp

@[simp] theorem State.driveFollowed_keepsSafe (s : State) : s.KeepsSafe s.driveFollowed := by
  simp [State.driveFollowed]

@[simp] theorem State.setOwner_keepsSafe (s : State) (on : Bool) : s.KeepsSafe (s.setOwner on) := by
  unfold State.setOwner
  split <;> simp

@[simp] theorem State.setHolding_keepsSafe (s : State) (on : Bool) : s.KeepsSafe (s.setHolding on) := by
  unfold State.setHolding
  split <;> simp

@[simp] theorem State.camDark_keepsSafe (s : State) (k : Nat) : s.KeepsSafe (s.camDark k) := by
  unfold State.camDark
  split <;> simp

/-! ### The axes (R825) -/

@[simp] theorem State.setGates_keepsSafe (s : State) (a p : Nat) (want : List Bool) (t : Nat) :
    s.KeepsSafe (s.setGates a p want t) := by
  simp [State.setGates]

@[simp] theorem State.setDacs_keepsSafe (s : State) (a : Nat) : s.KeepsSafe (s.setDacs a) := by
  simp [State.setDacs]

@[simp] theorem State.beginPart_keepsSafe (s : State) (a p : Nat) (driving : Bool) (t : Nat) :
    s.KeepsSafe (s.beginPart a p driving t) := by
  simp [State.beginPart]

@[simp] theorem State.gateCoils_keepsSafe (s : State) (a : Nat) : s.KeepsSafe (s.gateCoils a) := by
  have turn (s : State) (p : Nat) :
      s.KeepsSafe (if ((s.axis a).coilsOf p).stage.isSome then s else s.beginPart a p true s.now) := by
    split <;> simp
  unfold State.gateCoils
  split
  · simp
  · simp
  · have h := State.foldl_keepsSafe turn [0, 1] (s.setDacs a)
    simpa using h

@[simp] theorem State.followLift_keepsSafe (s : State) : s.KeepsSafe s.followLift := by
  unfold State.followLift
  split <;> simp

@[simp] theorem State.sync_keepsSafe (s : State) (a : Nat) : s.KeepsSafe (s.sync a) := by
  unfold State.sync
  split <;> simp

@[simp] theorem State.endMove_keepsSafe (s : State) (a res : Nat) : s.KeepsSafe (s.endMove a res) := by
  unfold State.endMove
  dsimp only
  split
  · simp
  · split <;> simp

@[simp] theorem State.runOut_keepsSafe (s : State) (a st ending : Nat) : s.KeepsSafe (s.runOut a st ending) := by
  simp [State.runOut]

@[simp] theorem State.abortAxis_keepsSafe (s : State) (mode : Nat → Nat) (a : Nat) : s.KeepsSafe (s.abortAxis mode a) := by
  unfold State.abortAxis
  split
  · simp
  · simp
  · split <;> simp
  · simp
  · simp

@[simp] theorem State.abortAxes_keepsSafe (s : State) (mode : Nat → Nat) : s.KeepsSafe (s.abortAxes mode) := by
  refine State.foldl_keepsSafe (fun s a => ?_) [0, 1, 2, 3] s
  split <;> simp

/-! ### The mirror bond (R250 to R256) -/

@[simp] theorem State.mirrorEmit_keepsSafe (s : State) (seq : Nat) (p : MirrorPacket) : s.KeepsSafe (s.mirrorEmit seq p) := by
  simp [State.mirrorEmit]

@[simp] theorem State.mirrorOut_keepsSafe (s : State) (p : MirrorPacket) : s.KeepsSafe (s.mirrorOut p) := by
  unfold State.mirrorOut
  dsimp only
  split <;> simp

@[simp] theorem State.mirrorSpend_keepsSafe (s : State) (p : MirrorPacket) : s.KeepsSafe (s.mirrorSpend p) := by
  unfold State.mirrorSpend
  split <;> simp

@[simp] theorem State.mirrorPump_keepsSafe (fuel : Nat) : ∀ s : State, s.KeepsSafe (s.mirrorPump fuel) := by
  induction fuel with
  | zero => exact fun _ => ⟨rfl, rfl, rfl, rfl⟩
  | succ fuel ih =>
    intro s
    unfold State.mirrorPump
    split
    · split <;> simp [ih]
    · split <;> simp [ih]
    · simp

@[simp] theorem State.graftSend_keepsSafe (s : State) (ty : Nat) (payload : List Byte) : s.KeepsSafe (s.graftSend ty payload) := by
  simp [State.graftSend, State.mirrorSend, State.mirrorFlow]

@[simp] theorem State.storeRecord_keepsSafe (s : State) (bs : List Byte) : s.KeepsSafe (s.storeRecord bs) := by
  simp [State.storeRecord, State.domPatch]

/-- The Graft part of an entry to safe state (R776, R777, R798). -/
@[simp] theorem State.graftSafe_keepsSafe (s : State) (yield : Bool) : s.KeepsSafe (s.graftSafe yield) := by
  unfold State.graftSafe
  split
  · split
    · dsimp only
      split <;> simp
    · simp
  · simp
  · simp
  · simp

/-! ### Pages that safe state cuts (R40) -/

@[simp] theorem State.tplSend_keepsSafe (s : State) (ty job page flags : Nat) (body : List Byte) :
    s.KeepsSafe (s.tplSend ty job page flags body) := by
  unfold State.tplSend
  split <;> simp

@[simp] theorem State.updPage_keepsSafe (s : State) (job seq : Nat) (f : Page → Page) : s.KeepsSafe (s.updPage job seq f) := by
  unfold State.updPage
  split <;> simp

@[simp] theorem State.wrs_keepsSafe (s : State) (kvs : List (Nat × Nat)) : s.KeepsSafe (s.wrs kvs) := by
  simp [State.wrs]

@[simp] theorem State.reportOutcome_keepsSafe (s : State) (job page : Nat) : s.KeepsSafe (s.reportOutcome job page) := by
  unfold State.reportOutcome
  split
  · split
    · simp
    · dsimp only
      split
      · simp
      · split
        · split <;> simp [State.ack]
        · split <;> simp [State.ack]
  · simp

@[simp] theorem State.cutPage_keepsSafe (s : State) (e : Nat × Nat) : s.KeepsSafe (s.cutPage e) := by
  simp [State.cutPage]

end Sys2Proof.Machine
end

section
/-! PROOF. Safe state (R752 to R755, R766): how a cause enters it, and how SAFE_CLEAR leaves it. -/

namespace Sys2Proof.Machine

/-! ### The entry (R31 to R40, R752, R753) -/

/-- Safe state right after its first cause c has come. -/
def State.safeEntered (s : State) (c : Cause) : Safe :=
  { s.safe with active := true, rose := s.time.fireAt s.now, causes := [c], first := some c
                entryTime := s.mono, entries := min (2 ^ 32 - 1) (s.safe.entries + 1), clearing := false }

/-- The power state that safe state leaves: RUN, or an entry to it, becomes PAUSE (R177, R913). -/
def State.powerEntered (s : State) : Power :=
  if s.power.state = 0 || s.enteringRun then { s.power with state := 1, target := 0xff, pausing := false, wakeHeld := none }
  else s.power

theorem State.enterSafe_entered {s : State} (c : Cause) (yield : Bool) (h : s.safe.active = false) :
    (s.enterSafe c yield).safe = s.safeEntered c ∧ (s.enterSafe c yield).power = s.powerEntered ∧
    (s.enterSafe c yield).compose = { s.compose with hold := some 0 } ∧
    regFaulted (s.enterSafe c yield).faults = regFaulted s.faults := by
  simp [State.enterSafe, h, State.safeEntered, State.powerEntered]

theorem State.safeCause_entered {s : State} (c : Cause) (yield : Bool) (h : s.safe.active = false) :
    (s.safeCause c yield).safe = s.safeEntered c ∧ (s.safeCause c yield).power = s.powerEntered ∧
    (s.safeCause c yield).compose = { s.compose with hold := some 0 } ∧
    regFaulted (s.safeCause c yield).faults = regFaulted s.faults := by
  simp [State.safeCause, State.enterSafe_entered c yield h, h]

theorem State.powerEntered_ofRun {s : State} (h : s.power.state = 0) : s.powerEntered.state = 1 := by
  simp [State.powerEntered, h]

/-- A later cause is only recorded (R35, R753). -/
theorem State.safeCause_recorded {s : State} (c : Cause) (yield : Bool) (h : s.safe.active = true) :
    s.safeCause c yield = s.recordCause c := by
  simp [State.safeCause, State.enterSafe, h]

/-! ### SAFE_CLEAR (R754, R755) -/

@[simp] theorem State.sendIdle_keepsSafe (s : State) (seg : Nat) : s.KeepsSafe (s.sendIdle seg) := by
  simp [State.sendIdle, State.draw]

@[simp] theorem State.thlSend_keepsSafe (s : State) (seg ty row flags pwId firePos : Nat) (payload : List Byte) :
    s.KeepsSafe (s.thlSend seg ty row flags pwId firePos payload) := by
  simp [State.thlSend]

@[simp] theorem State.flush_keepsSafe (s : State) (seg : Nat) : s.KeepsSafe (s.flush seg) := by
  simp [State.flush, State.headCommand]

@[simp] theorem State.startForming_keepsSafe (s : State) : s.KeepsSafe s.startForming := by
  simp [State.startForming, State.draw]

theorem State.graftClear_keepsSafe (s : State) : s.KeepsSafe s.graftClear := by
  have turn (s : State) (seg : Nat) :
      s.KeepsSafe (if (s.head seg).link = 3 && (s.head seg).claimed then s.flush seg else s) := by
    split <;> simp
  unfold State.graftClear
  split
  · simp
  · split
    · dsimp only
      split <;> simp
    · have h := State.foldl_keepsSafe turn (List.range 16) (((s.setHolding true).graftState 1).setOwner true)
      simpa using h
  · simp

theorem State.leaveSafe_safe (s : State) : s.leaveSafe.safe = { s.safe with active := false, causes := [], clearing := false } := by
  simp [State.leaveSafe, State.graftClear_keepsSafe]

section

variable {u : State}

theorem State.safeClear_outside (h : u.safe.active = false) : u.safeClear 1 = .of Status.empty u := by
  simp [State.safeClear, h]

theorem State.safeClear_other {v : Nat} (h : v ≠ 1) : u.safeClear v = .of Status.range u := by
  simp [State.safeClear, h]

theorem State.safeEnter_other {v : Nat} (h : v ≠ 1) : u.safeEnter v = .of Status.range u := by
  simp [State.safeEnter, h]

theorem State.safeClear_refused (ha : u.safe.active = true) (hc : u.safe.clearing = false) (hp : u.causePresent = true) :
    u.safeClear 1 = .of Status.state u := by
  simp [State.safeClear, ha, hc, hp]

/-- A SAFE_CLEAR that nothing bars leaves safe state (R755), or has the frozen channels train again (R665). -/
theorem State.safeClear_accepted (ha : u.safe.active = true) (hc : u.safe.clearing = false) (hp : u.causePresent = false) :
    u.safeClear 1 = .of Status.ok (if u.rd O.DRAM_FROZEN = 0 then u.leaveSafe else
      let v := ((List.range 4).filter (bit (u.rd O.DRAM_FROZEN))).foldl (fun (s : State) c =>
        s.wr (O.CHANNEL_STATUS_STATE c) 5) u.dropSets
      { v with safe := { v.safe with causes := [], clearing := true } }) := by
  by_cases hf : u.rd O.DRAM_FROZEN = 0 <;> simp [State.safeClear, ha, hc, hp, hf]

end

/-! ### The objects that enter and clear safe state -/

/-- The row of a CMD object that takes the value 1 alone. -/
def cmdRow (idx sub : Nat) : ObjRow := ⟨idx, 1, sub, 1, .u8, .cmd, false, 0, .bt 1 1, .now⟩

theorem valueOk_cmdRow (idx sub : Nat) : valueOk (cmdRow idx sub) 1 = true := by
  simp [valueOk, cmdRow, Rng.ok, Ty.value, Ty.signed]

/-- A WRITE of 1 to a CMD object that is not mirrored does what its command does. -/
theorem writes_cmd {c : Hdr → Instr} {t key : Nat} {pre : State → Prop} {op : State → State}
    (hc : ∀ h s, exec (c h) s = s.does t fun u => u.hostWrite h key [1#8]) (hk : key / 256 < 0x2000) (hs : key % 256 ≠ 0xff)
    (hrow : Dict.row? (key / 256) (key % 256) = some (cmdRow (key / 256) (key % 256))) (hm : isMirrored key = false)
    (ho : ∀ u, pre u → u.commandOp key 1 = some (.of Status.ok (op u))) : Writes c t key [1#8] pre op := by
  have hj : key ≠ O.JOB_CONTROL := by rintro rfl; contradiction
  refine writes_of c t key _ _ pre op hc (by omega) (findObject_of_row (by omega) (Dict.hasIndex_of_row hrow) hrow) rfl rfl rfl
    (by decide) fun u hp => ?_
  exact u.valueWrite_cmd (cmdRow _ _) key 1 _ (by simp [hs]) (by simp [cmdRow]) (valueOk_cmdRow _ _) hj hm (ho u hp)

theorem writes_safeEnter (t : Nat) : Writes (fun h => .enter t h 1) t O.SAFE_ENTER [1#8] (fun _ => True)
    (fun u => { u with acts := u.acts ++ [.safe ⟨2, 5, 1⟩ false] }) :=
  writes_cmd (fun _ _ => rfl) (by decide) (by decide) (by decide +kernel) (by decide +kernel) fun _ _ => rfl

theorem writes_safeClear (t : Nat) {pre : State → Prop} {op : State → State}
    (ho : ∀ u, pre u → u.safeClear 1 = .of Status.ok (op u)) :
    Writes (fun h => .safeClear t h 1) t O.SAFE_CLEAR [1#8] pre op :=
  writes_cmd (fun _ _ => rfl) (by decide) (by decide) (by decide +kernel) (by decide +kernel) fun u hp => congrArg some (ho u hp)

end Sys2Proof.Machine

open Sys2Proof Sys2Proof.Machine

/-- Settles O54: ENTER and SAFE_CLEAR are commands of their own, and a cause enters safe state or is only recorded. -/
theorem safeState : Obligations.SafeState := by
  unfold Obligations.SafeState
  refine ⟨fun t => ⟨writes_safeEnter t, writes_safeClear t ?_, writes_safeClear t ?_⟩, fun u => State.safeClear_outside,
    fun u v h => ⟨State.safeClear_other h, State.safeEnter_other h⟩, fun u => State.safeClear_refused, fun s c y h => ?_,
    fun s c y h hl => ?_, fun s c y h => ⟨State.safeCause_recorded c y h, rfl, rfl⟩, fun s => ?_⟩
  · rintro u ⟨ha, hc, hp, hf⟩
    rw [State.safeClear_accepted ha hc hp, if_pos hf]
  · rintro u ⟨ha, hc, hp, hf⟩
    rw [State.safeClear_accepted ha hc hp, if_neg hf]
  · obtain ⟨hsafe, hpower, hcompose, -⟩ := State.safeCause_entered c y h
    rw [hsafe, hpower, hcompose]
    exact ⟨rfl, rfl, rfl, rfl, rfl, State.powerEntered_ofRun, rfl⟩
  · rw [State.safeCause_recorded c y h, State.recordCause, if_pos hl]
    exact ⟨rfl, rfl⟩
  · rw [s.leaveSafe_safe]
    exact ⟨rfl, rfl, rfl⟩

end

section
/-! PROOF. What the end of a command leaves of the records of blocks with REG_FAULT (R751): whatever follows from its effect by
itself, an entry to RUN, SLEEP or OFF, safe state or a new role, they stay as they are, and no other block gets REG_FAULT. -/

namespace Sys2Proof.Machine

/-- The blocks with REG_FAULT are in u those of s, and have the same records. -/
@[simp] abbrev State.SameFaulted (s u : State) : Prop := regFaulted u.faults = regFaulted s.faults

@[simp] theorem State.foldl_sameFaulted {α : Type} {f : State → α → State}
    (h : ∀ (s : State) (a : α), s.SameFaulted (f s a)) (l : List α) (s : State) : s.SameFaulted (l.foldl f s) := by
  induction l generalizing s with
  | nil => rfl
  | cons a l ih => exact (ih (f s a)).trans (h s a)

theorem regFaulted_ite (p : Prop) [Decidable p] (s u : State) :
    regFaulted (if p then s else u).faults = if p then regFaulted s.faults else regFaulted u.faults := by
  split <;> rfl

/-! ### Delay lines and fire lines -/

@[simp] theorem State.swapWidths_sameFaulted (s : State) (seg row w : Nat) : s.SameFaulted (s.swapWidths seg row w) := by
  unfold State.swapWidths
  split
  · split <;> simp
  · simp

@[simp] theorem State.moveRow_sameFaulted (s : State) (seg row h : Nat) : s.SameFaulted (s.moveRow seg row h) := by
  simp [State.moveRow]

@[simp] theorem State.comesLate_sameFaulted (s : State) (l : Nat) : s.SameFaulted (s.comesLate l).2 := by
  unfold State.comesLate
  split <;> simp [State.draw]

@[simp] theorem State.assembleRow_sameFaulted (s : State) (seg row w : Nat) : s.SameFaulted (s.assembleRow seg row w) := by
  simp [State.assembleRow, State.sendPwTable, State.sendLine, regFaulted_ite]

@[simp] theorem State.assembleTo_sameFaulted (w fuel : Nat) : ∀ s : State, s.SameFaulted (s.assembleTo w fuel) := by
  induction fuel with
  | zero => exact fun _ => rfl
  | succ fuel ih =>
    intro s
    unfold State.assembleTo
    split <;> simp [ih]

/-! ### The job sets -/

@[simp] theorem State.enterSet_sameFaulted (s : State) (st : SetState) : s.SameFaulted (s.enterSet st) := by
  unfold State.enterSet
  split <;> simp [State.jobNotice]

@[simp] theorem State.latch_sameFaulted (s : State) : s.SameFaulted s.latch := by
  unfold State.latch
  split <;> simp

@[simp] theorem State.latchAt_sameFaulted (s : State) (w : Nat) : s.SameFaulted (s.latchAt w) := by
  unfold State.latchAt
  split
  · split <;> simp [State.latchDescriptors, State.sendDescriptor, State.camLatch]
  · simp

@[simp] theorem State.shiftPages_sameFaulted (s : State) : s.SameFaulted s.shiftPages := by
  unfold State.shiftPages
  dsimp only
  split
  · split
    · split <;> simp
    · simp
  · simp

/-! ### Host writes and loop updates of maps and alignment -/

@[simp] theorem State.forwardBytes_sameFaulted (s : State) (key : Nat) (data : List Byte) :
    s.SameFaulted (s.forwardBytes key data) := by
  unfold State.forwardBytes
  split
  · split <;> simp
  · simp

@[simp] theorem State.forwardAll_sameFaulted (s : State) (keys : List Nat) : s.SameFaulted (s.forwardAll keys) := by
  simp [State.forwardAll, State.forward]

@[simp] theorem State.touched_sameFaulted (s : State) (what : Nat) : s.SameFaulted (s.touched what) := by
  unfold State.touched
  split
  · split <;> simp
  · simp

@[simp] theorem State.writeEntry_sameFaulted (s : State) (seg row n e : Nat) : s.SameFaulted (s.writeEntry seg row n e) := by
  simp [State.writeEntry, State.setEntry, State.domPatch, State.closeSuspect, State.nozzleChanged]

@[simp] theorem State.writeXShift_sameFaulted (s : State) (v : Nat) : s.SameFaulted (s.writeXShift v) := by
  simp [State.writeXShift, State.logItems, State.nozzleChanged]

@[simp] theorem State.supersede_sameFaulted (s : State) (seg row : Nat) : s.SameFaulted (s.supersede seg row) := by
  unfold State.supersede
  split
  · simp
  · dsimp only
    split <;> simp

@[simp] theorem State.writeRowPos_sameFaulted (s : State) (v : Nat) : s.SameFaulted (s.writeRowPos v) := by
  simp [State.writeRowPos, State.logItems, regFaulted_ite]

@[simp] theorem State.showSuspects_sameFaulted (s : State) : s.SameFaulted s.showSuspects := by
  unfold State.showSuspects
  dsimp only
  split <;> simp [State.domReplace]

@[simp] theorem State.clampGain_sameFaulted (s : State) (g : Int) : s.SameFaulted (s.clampGain g).2 := by
  unfold State.clampGain
  dsimp only
  split <;> simp

@[simp] theorem State.openRecovery_sameFaulted (s : State) (seg row n : Nat) : s.SameFaulted (s.openRecovery seg row n) := by
  unfold State.openRecovery
  split <;> simp [State.openSuspect]

@[simp] theorem State.applyState_sameFaulted (s : State) (seg row n st : Nat) : s.SameFaulted (s.applyState seg row n st) := by
  unfold State.applyState
  dsimp only
  split
  · simp
  · split <;> simp [State.applied]

@[simp] theorem State.applyGain_sameFaulted (s : State) (seg row n : Nat) (up : Bool) :
    s.SameFaulted (s.applyGain seg row n up) := by
  unfold State.applyGain
  dsimp only
  split
  · simp
  · split <;> simp [State.applied]

/-- What a density update does at one nozzle of its row (R629, R630). -/
def State.densityTurn (changed : List (Nat × Nat × Nat)) (seg row : Nat) (step : Int) (s : State) (n : Nat) : State :=
  let e := s.nozzleEntry seg row n
  if 2 ≤ entryState e || changed.contains (seg, row, n) then s
  else
    let r := s.clampGain (((entryGain e : Nat) * (4096 + step) + 2048).tdiv 4096)
    r.2.writeEntry seg row n (entryState e * 16384 + r.1)

theorem State.densityTurn_sameFaulted (changed : List (Nat × Nat × Nat)) (seg row : Nat) (step : Int) (s : State) (n : Nat) :
    s.SameFaulted (State.densityTurn changed seg row step s n) := by
  unfold State.densityTurn
  dsimp only
  split
  · rfl
  · exact (State.writeEntry_sameFaulted _ _ _ _ _).trans (s.clampGain_sameFaulted _)

theorem State.applyDensity_eq (s : State) (changed : List (Nat × Nat × Nat)) (seg row : Nat) (rho : Int) :
    ∃ d f, s.applyDensity changed seg row rho =
      ((((List.range 3456).foldl (State.densityTurn changed seg row (s.densityStepOf rho)) s).setDom
        (0x2510 + seg) d).applied).updLoopRow (rowKey seg row) f := by
  unfold State.applyDensity
  exact ⟨_, _, rfl⟩

theorem State.densityBooks_sameFaulted (s : State) (i key : Nat) (d : Dom) (f : LoopRow → LoopRow) :
    s.SameFaulted (((s.setDom i d).applied).updLoopRow key f) := rfl

@[simp] theorem State.applyDensity_sameFaulted (s : State) (changed : List (Nat × Nat × Nat)) (seg row : Nat) (rho : Int) :
    s.SameFaulted (s.applyDensity changed seg row rho) := by
  obtain ⟨d, f, h⟩ := s.applyDensity_eq changed seg row rho
  rw [h]
  exact (State.densityBooks_sameFaulted _ _ _ d f).trans
    (State.foldl_sameFaulted (State.densityTurn_sameFaulted changed seg row _) _ s)

@[simp] theorem State.applyRegister_sameFaulted (s : State) (seg row : Nat) (along dots : Int) :
    s.SameFaulted (s.applyRegister seg row along dots) := by
  simp [State.applyRegister, State.updLoopRow, State.applied, State.refusedUpdate, regFaulted_ite]

@[simp] theorem State.applyUpdate_sameFaulted (s : State) (changed : List (Nat × Nat × Nat)) (u : LoopUpdate) :
    s.SameFaulted (s.applyUpdate changed u) := by
  cases u <;> simp [State.applyUpdate]

@[simp] theorem State.loopUpdates_sameFaulted (s : State) : s.SameFaulted s.loopUpdates := by
  unfold State.loopUpdates
  dsimp only
  split
  · simp
  · split <;> simp [State.autoStore]

/-! ### Composition -/

@[simp] theorem State.refStore_sameFaulted (s : State) (w job page : Nat) (contone : List (Nat × Nat)) :
    s.SameFaulted (s.refStore w job page contone) := by
  unfold State.refStore
  dsimp only
  split <;> simp

@[simp] theorem State.beginPage_sameFaulted (s : State) (set : JobSet) (pg : Page) : s.SameFaulted (s.beginPage set pg) := by
  unfold State.beginPage
  dsimp only
  split <;> simp [State.ingestLate, regFaulted_ite]

@[simp] theorem State.composePageLine_sameFaulted (s : State) (set : JobSet) (pg : Page) (w l : Nat) :
    s.SameFaulted (s.composePageLine set pg w l) := by
  simp [State.composePageLine, State.add]

@[simp] theorem State.composeLine_sameFaulted (s : State) (w : Nat) : s.SameFaulted (s.composeLine w) := by
  unfold State.composeLine
  dsimp only
  split
  · split <;> simp
  · simp

@[simp] theorem State.composeTo_sameFaulted (w fuel : Nat) : ∀ s : State, s.SameFaulted (s.composeTo w fuel) := by
  induction fuel with
  | zero => exact fun _ => rfl
  | succ fuel ih =>
    intro s
    unfold State.composeTo
    split <;> simp [ih]

/-! ### The entry to RUN (R177, R217) -/

@[simp] theorem State.enterRun_sameFaulted (s : State) : s.SameFaulted s.enterRun := by
  simp [State.enterRun, State.unflush, State.moveRows]

@[simp] theorem State.takeBackRun_sameFaulted (s : State) : s.SameFaulted s.takeBackRun := by
  unfold State.takeBackRun
  split <;> simp

@[simp] theorem State.checkRun_sameFaulted (s : State) : s.SameFaulted s.checkRun := by
  unfold State.checkRun
  split
  · simp
  · split
    · simp
    · split <;> simp

/-! ### The actions that a command calls for (R748), and the credits -/

@[simp] theorem State.pausePrint_sameFaulted (s : State) (target : Nat) : s.SameFaulted (s.pausePrint target) := by
  unfold State.pausePrint
  split <;> simp [State.holdPages, State.uncompose]

@[simp] theorem State.safeCause_sameFaulted (s : State) (c : Cause) (yield : Bool) : s.SameFaulted (s.safeCause c yield) := by
  cases h : s.safe.active
  · obtain ⟨-, -, -, hf⟩ := State.safeCause_entered c yield h
    exact hf
  · rw [State.safeCause_recorded c yield h]; rfl

@[simp] theorem State.runAct_sameFaulted (s : State) (a : Act) : s.SameFaulted (s.runAct a) := by
  cases a with
  | safe c yield => exact s.safeCause_sameFaulted c yield
  | pausePrint => exact s.pausePrint_sameFaulted 1
  | spoilPage => simp only [State.runAct]; split <;> simp

@[simp] theorem State.runActs_sameFaulted (fuel : Nat) : ∀ s : State, s.SameFaulted (s.runActs fuel) := by
  induction fuel with
  | zero => exact fun _ => rfl
  | succ fuel ih =>
    intro s
    unfold State.runActs
    split <;> simp [ih]

@[simp] theorem State.grant_sameFaulted (s : State) : s.SameFaulted s.grant := by
  unfold State.grant
  dsimp only
  split <;> simp

@[simp] theorem State.updateCredits_sameFaulted (s : State) : s.SameFaulted s.updateCredits := by
  unfold State.updateCredits
  split <;> simp [State.sendCredit]

@[simp] theorem State.settle_sameFaulted (s : State) : s.SameFaulted s.settle := by
  simp [State.settle]

/-! ### What SLEEP and OFF end (R66, R195, R698, R764, R827, R853, R870) -/

@[simp] theorem State.writeChunk_sameFaulted (s : State) : s.SameFaulted s.writeChunk := by
  simp [State.writeChunk, State.engineJob, State.add]

@[simp] theorem State.dropTdp_sameFaulted (s : State) : s.SameFaulted s.dropTdp := by
  unfold State.dropTdp State.endSession
  dsimp only
  split <;> simp

@[simp] theorem State.camStop_sameFaulted (s : State) (k : Nat) : s.SameFaulted (s.camStop k) := by
  unfold State.camStop
  split <;> simp [State.runScript]

@[simp] theorem State.setCoeff_sameFaulted (s : State) (i : Nat) (c : Int × Int) : s.SameFaulted (s.setCoeff i c) := by
  unfold State.setCoeff
  dsimp only
  split
  · simp
  · split
    · simp
    · split
      · simp
      · split <;> simp [State.autoStore]

@[simp] theorem State.calAbandon_sameFaulted (s : State) : s.SameFaulted s.calAbandon := by
  simp [State.calAbandon, regFaulted_ite]

@[simp] theorem State.memPut_sameFaulted (s : State) (a : Nat) (b : Byte) : s.SameFaulted (s.memPut a b) := by
  unfold State.memPut
  split <;> simp

/-- A write that touches preview buffers advances the generations of their DOMs. -/
theorem State.touchBuffers_eq (s : State) (a n : Nat) : ∃ (hit : Nat → Bool) (d : State → Nat → Dom), s.touchBuffers a n =
    (List.range 8).foldl (fun s m => if hit m then s.setDom (0x3348 + m) (d s m) else s) s := by
  unfold State.touchBuffers
  exact ⟨_, _, rfl⟩

@[simp] theorem State.touchBuffers_sameFaulted (s : State) (a n : Nat) : s.SameFaulted (s.touchBuffers a n) := by
  obtain ⟨hit, d, h⟩ := s.touchBuffers_eq a n
  rw [h]
  refine State.foldl_sameFaulted (fun s m => ?_) _ s
  split <;> rfl

@[simp] theorem State.memLost_sameFaulted (s : State) (a line stride n : Nat) : s.SameFaulted (s.memLost a line stride n) := by
  simp [State.memLost, State.memWrite, regFaulted_ite]

@[simp] theorem State.dmaHalt_sameFaulted (s : State) (m status : Nat) : s.SameFaulted (s.dmaHalt m status) := by
  simp [State.dmaHalt, State.dmaStatus, regFaulted_ite]

@[simp] theorem State.cutShort_sameFaulted (s : State) (m : Nat) (d : Descriptor) : s.SameFaulted (s.cutShort m d) := by
  simp [State.cutShort, State.countBursts, State.add, State.draw, regFaulted_ite]

@[simp] theorem State.abortMove_sameFaulted (s : State) (m : Nat) : s.SameFaulted (s.abortMove m) := by
  unfold State.abortMove
  dsimp only
  split
  · split <;> simp
  · split <;> simp

@[simp] theorem State.drivePairs_sameFaulted (s : State) (x : Nat) (was : Bool) : s.SameFaulted (s.drivePairs x was) := by
  unfold State.drivePairs
  dsimp only
  split <;> simp

@[simp] theorem State.closeDown_sameFaulted (s : State) : s.SameFaulted s.closeDown := by
  simp [State.closeDown, State.debugClosed, State.camsStop, State.abortMoves, State.dispsOff, State.axesOff, regFaulted_ite]

/-! ### The lanes into a low-power state and out of it (R544) -/

@[simp] theorem State.laneWord_sameFaulted (s : State) (n lpRequest lpAck count : Nat) :
    s.SameFaulted (s.laneWord n lpRequest lpAck count) := by
  simp [State.laneWord, State.laneWordOf]

@[simp] theorem State.lpAsk_sameFaulted (s : State) (n level : Nat) : s.SameFaulted (s.lpAsk n level) := by
  simp [State.lpAsk]

@[simp] theorem State.laneLpEntry_sameFaulted (s : State) (n level : Nat) : s.SameFaulted (s.laneLpEntry n level) := by
  simp [State.laneLpEntry, regFaulted_ite]

@[simp] theorem State.discardPartial_sameFaulted (s : State) : s.SameFaulted s.discardPartial := by
  simp [State.discardPartial]

@[simp] theorem State.ingestDown_sameFaulted (s : State) : s.SameFaulted s.ingestDown := by
  simp [State.ingestDown, regFaulted_ite]

@[simp] theorem State.mirrorDown_sameFaulted (s : State) : s.SameFaulted s.mirrorDown := by
  simp [State.mirrorDown, regFaulted_ite]

@[simp] theorem State.startTraining_sameFaulted (s : State) (n grade : Nat) : s.SameFaulted (s.startTraining n grade) := by
  simp [State.startTraining, State.laneLinkDown, State.headDown, State.laneSends, regFaulted_ite]

@[simp] theorem State.laneDetect_sameFaulted (s : State) (n : Nat) (restore : Bool) : s.SameFaulted (s.laneDetect n restore) := by
  simp [State.laneDetect, State.laneSends]

@[simp] theorem State.laneLpExit_sameFaulted (s : State) (n : Nat) : s.SameFaulted (s.laneLpExit n) := by
  unfold State.laneLpExit
  dsimp only
  split
  · simp
  · split <;> simp
  · simp

/-! ### Entry to SLEEP and OFF, and a wake that was held (R177, R182, R185, R186) -/

@[simp] theorem State.powerNow_sameFaulted (s : State) (st : Nat) : s.SameFaulted (s.powerNow st) := by
  simp [State.powerNow]

@[simp] theorem State.camStart_sameFaulted (s : State) (k sect : Nat) : s.SameFaulted (s.camStart k sect) := by
  unfold State.camStart
  split <;> simp [State.runScript]

@[simp] theorem State.dispTake_sameFaulted (s : State) (x : Nat) : s.SameFaulted (s.dispTake x) := by
  simp [State.dispTake, State.emptyGraphics, State.domReplace, regFaulted_ite]

@[simp] theorem State.bootAxis_sameFaulted (s : State) (a : Nat) : s.SameFaulted (s.bootAxis a) := by
  simp [State.bootAxis]

@[simp] theorem State.wake_sameFaulted (s : State) (cause : Nat) : s.SameFaulted (s.wake cause) := by
  simp [State.wake, State.newWindow, State.lanesOut, State.camsStart, State.dispsOn, regFaulted_ite]

@[simp] theorem State.enterSleep_sameFaulted (s : State) : s.SameFaulted s.enterSleep := by
  unfold State.enterSleep
  dsimp only
  split <;> simp [State.stampEntry, State.lanesLow]

@[simp] theorem State.enterOff_sameFaulted (s : State) : s.SameFaulted s.enterOff := by
  simp [State.enterOff, State.stampEntry]

@[simp] theorem State.checkEntry_sameFaulted (s : State) : s.SameFaulted s.checkEntry := by
  unfold State.checkEntry
  split
  · simp
  · split <;> simp

/-! ### A role that waited (*Graft role transitions*, R793) -/

@[simp] theorem State.endPairing_sameFaulted (s : State) : s.SameFaulted s.endPairing := rfl

@[simp] theorem State.conflict_sameFaulted (s : State) : s.SameFaulted s.conflict := by
  simp [State.conflict, State.toReady, regFaulted_ite]

@[simp] theorem State.takeRole_sameFaulted (s : State) (role : Nat) : s.SameFaulted (s.takeRole role) := by
  unfold State.takeRole
  dsimp only
  split
  · simp
  · split
    · split <;> simp
    · split
      · split
        · split <;> simp
        · simp
      · split <;> simp [State.toReady]

@[simp] theorem State.checkRole_sameFaulted (s : State) : s.SameFaulted s.checkRole := by
  unfold State.checkRole
  split
  · split <;> simp
  · simp

/-- What follows from a command by itself leaves the records of blocks with REG_FAULT as they are (R751). -/
theorem State.finish_sameFaulted (s : State) : s.SameFaulted s.finish := by
  simp [State.finish]

end Sys2Proof.Machine
end

section
/-! PROOF. The test of the SEVERE classes (R746) against a block with REG_FAULT, on whose stored values the part does not act
(R751). -/

namespace Sys2Proof.Machine

theorem State.after_sameFaulted (s : State) (op : State → State) : (op s).SameFaulted (s.after op) :=
  (op s).finish_sameFaulted

theorem State.severeTestAll_sameFaulted (s : State) : s.SameFaulted s.severeTestAll := by
  unfold State.severeTestAll State.whenAwake
  split
  · exact State.foldl_sameFaulted State.severeTestBlock_regFaulted _ s
  · rfl

/-- Whatever state u the answer of SEVERE_TEST is put down to, u has the record of a block with REG_FAULT as it stood. -/
theorem State.severeTest_regFault {s u : State} {t b : Nat} (hb : bit (s.faultRec b).flags 3 = true)
    (hu : exec (.severeTest t) s = .next ((s.at t).after fun _ => u)) : u.faultRec b = s.faultRec b := by
  have hnext : (s.at t).after State.severeTestAll = (s.at t).after fun _ => u := by
    injection hu
  have hsame : regFaulted u.faults = regFaulted s.faults :=
    calc regFaulted u.faults
      _ = regFaulted ((s.at t).after fun _ => u).faults := ((s.at t).after_sameFaulted fun _ => u).symm
      _ = regFaulted ((s.at t).after State.severeTestAll).faults := by rw [hnext]
      _ = regFaulted (s.at t).severeTestAll.faults := (s.at t).after_sameFaulted State.severeTestAll
      _ = regFaulted s.faults := (s.at t).severeTestAll_sameFaulted
  have hrec : regFaulted u.faults b = some (s.faultRec b) := by
    rw [hsame]
    exact State.regFaulted_eq_some.mpr ⟨hb, rfl⟩
  obtain ⟨-, h⟩ := State.regFaulted_eq_some.mp hrec
  exact h

/-- Pipeline 2 (block 3Ah) with REG_FAULT: its PACKET_ERROR class became SEVERE by 16 events at TB_MONO 0. -/
def staleRecord : FaultRec :=
  ⟨11, [(4, 16)], List.replicate 15 ⟨5, 4, 0, 0, 0⟩ ++ [⟨5, 4, 3, 0, 0⟩], 0, 5, [(4, List.replicate 16 0)], [4]⟩

/-- A part in PAUSE, right after reset but for that record. -/
def staleState : State :=
  { State.reset with
    boot := { State.reset.boot with phase := .ready }
    power := { State.reset.power with state := 1 }
    faults := [(0x3a, staleRecord)] }

end Sys2Proof.Machine

open Sys2Proof Sys2Proof.Machine

/-- Refutes O53: 2 s after the class of staleState became SEVERE its last 16 events are older than W, but the block has
REG_FAULT, and the test leaves the class SEVERE (R751). -/
theorem not_faultRecords : ¬ Obligations.FaultRecords := by
  unfold Obligations.FaultRecords
  rintro ⟨-, -, -, htest, -⟩
  obtain ⟨u, hu, -, hsevere⟩ := htest staleState (2 * sec) (by decide)
  have hkept : u.faultRec 0x3a = staleRecord := State.severeTest_regFault (s := staleState) (by decide) hu
  have hleft := hsevere 0x3a (by decide)
  rw [hkept] at hleft
  exact absurd hleft (by decide +kernel)

end

section
/-! PROOF. The records and commands of a bar axis (R79, R805 to R830): what each APPLY does with its values in place, which axes a
mask names, what a change of the gates leaves alone, and the bounds of a ramp. -/

namespace Sys2Proof.Machine

/-! ### The axes after a change of one of them -/

theorem State.axis_updAxis_same {s : State} {a : Nat} (f : Axis → Axis) (h : a < s.axes.length) :
    (s.updAxis a f).axis a = f (s.axis a) := by
  simp [State.axis, State.updAxis, List.getD_eq_getElem?_getD, h]

theorem State.axis_updAxis_other (s : State) {a b : Nat} (f : Axis → Axis) (h : a ≠ b) : (s.updAxis a f).axis b = s.axis b := by
  simp [State.axis, State.updAxis, List.getD_eq_getElem?_getD, h]

/-- What a change of an axis keeps of it reads as before on every axis. -/
theorem State.axis_updAxis_keeps {β : Type} (g : Axis → β) (s : State) (a b : Nat) {f : Axis → Axis} (h : ∀ x, g (f x) = g x) :
    g ((s.updAxis a f).axis b) = g (s.axis b) := by
  by_cases hab : a = b
  · subst hab
    by_cases ha : a < s.axes.length
    · rw [State.axis_updAxis_same f ha, h]
    · simp [State.axis, State.updAxis, List.getD_eq_getElem?_getD, Nat.not_lt.mp ha]
  · rw [s.axis_updAxis_other f hab]

theorem State.updAxis_updAxis_same (s : State) (a : Nat) (f g : Axis → Axis) :
    (s.updAxis a f).updAxis a g = s.updAxis a (g ∘ f) := by
  simp only [State.updAxis, List.modify_modify_eq]

theorem State.updAxis_comm (s : State) {a b : Nat} (f g : Axis → Axis) (h : a ≠ b) :
    (s.updAxis a f).updAxis b g = (s.updAxis b g).updAxis a f := by
  simp only [State.updAxis, List.modify_modify_ne _ _ _ h]

theorem State.axis_event (s : State) (b code data a : Nat) : (s.event b code data).axis a = s.axis a := by
  obtain ⟨hu, -⟩ := s.event_from b code data
  rw [hu]
  rfl

/-! ### What a change of the gates leaves alone (R803, R815) -/

/-- An axis without its gates and the codes of its threshold DACs. -/
def Axis.course (x : Axis) : Axis := { x with coils := [], dacs := [] }

/-- The axes of u are those of s but for their gates and codes. -/
def State.KeepsCourse (s u : State) : Prop := ∀ b, (u.axis b).course = (s.axis b).course

theorem State.KeepsCourse.trans {s u v : State} (h : s.KeepsCourse u) (k : u.KeepsCourse v) : s.KeepsCourse v :=
  fun b => (k b).trans (h b)

theorem State.foldl_keepsCourse {α : Type} {f : State → α → State} (h : ∀ (s : State) x, s.KeepsCourse (f s x)) (xs : List α)
    (s : State) : s.KeepsCourse (xs.foldl f s) :=
  List.foldlRecOn (motive := fun u => s.KeepsCourse u) xs f (fun _ => rfl) fun u hu x _ =>
    State.KeepsCourse.trans hu (h u x)

/-- A change of one axis's gates or codes alone. -/
theorem State.updAxis_keepsCourse (s : State) (a : Nat) {f : Axis → Axis} (h : ∀ x, (f x).course = x.course) :
    s.KeepsCourse (s.updAxis a f) :=
  fun b => s.axis_updAxis_keeps Axis.course a b h

theorem State.setGates_keepsCourse (s : State) (a p : Nat) (want : List Bool) (t : Nat) :
    s.KeepsCourse (s.setGates a p want t) := by
  unfold State.setGates
  refine State.KeepsCourse.trans (s.updAxis_keepsCourse a ?_) (State.foldl_keepsCourse ?_ _ _)
  · exact fun _ => rfl
  · exact fun _ _ _ => rfl

theorem State.beginPart_keepsCourse (s : State) (a p : Nat) (driving : Bool) (t : Nat) :
    s.KeepsCourse (s.beginPart a p driving t) :=
  (s.setGates_keepsCourse a p _ t).trans (State.updAxis_keepsCourse _ a fun _ => rfl)

theorem State.gateCoils_keepsCourse (s : State) (a : Nat) : s.KeepsCourse (s.gateCoils a) := by
  have rest (s : State) (p : Nat) (want : List Bool) : s.KeepsCourse
      ((s.setGates a p want s.now).updAxis a fun x => { x with coils := x.coils.modify p fun c => { c with stage := none } }) :=
    (s.setGates_keepsCourse a p want s.now).trans (State.updAxis_keepsCourse _ a fun _ => rfl)
  have turn (s : State) (p : Nat) :
      s.KeepsCourse (if ((s.axis a).coilsOf p).stage.isSome then s else s.beginPart a p true s.now) := by
    split
    · exact fun _ => rfl
    · exact s.beginPart_keepsCourse a p true s.now
  unfold State.gateCoils
  split
  · exact (rest s 0 gatesOff).trans (rest _ 1 gatesOff)
  · exact (rest s 0 gatesLow).trans (rest _ 1 gatesLow)
  · exact State.KeepsCourse.trans (u := s.setDacs a) (s.updAxis_keepsCourse a fun _ => rfl)
      (State.foldl_keepsCourse turn [0, 1] (s.setDacs a))

/-- Where the lift is not linked no other axis follows. -/
theorem State.sync_keepsCourse {s : State} (h : s.linked = false) (a : Nat) : s.KeepsCourse (s.sync a) := by
  unfold State.sync
  split
  · have hf : s.followLift = s := by simp [State.followLift, h]
    rw [hf]
    exact (s.gateCoils_keepsCourse 1).trans (State.gateCoils_keepsCourse _ a)
  · exact s.gateCoils_keepsCourse a

/-- A new move toward a target (R805, R807). -/
theorem State.startMove_axis {u : State} {a : Nat} (target : Int) (ha : a < u.axes.length) (hl : u.linked = false) :
    ((u.startMove a target).axis a).state = 2 ∧ ((u.startMove a target).axis a).target = target ∧
    ((u.startMove a target).axis a).speed = 1000000 * u.rd (O.VSTART a) ∧
    ((u.startMove a target).axis a).pos = (u.axis a).pos := by
  obtain ⟨f, hf, hs, ht, hv, hp⟩ : ∃ f : Axis → Axis, u.startMove a target = (u.updAxis a f).sync a ∧
      (∀ x, (f x).state = 2) ∧ (∀ x, (f x).target = target) ∧ (∀ x, (f x).speed = speedUnit (u.rd (O.VSTART a))) ∧
      ∀ x, (f x).pos = x.pos := ⟨_, rfl, fun _ => rfl, fun _ => rfl, fun _ => rfl, fun _ => rfl⟩
  have hax : ((u.startMove a target).axis a).course = (f (u.axis a)).course := by
    rw [hf, State.sync_keepsCourse (s := u.updAxis a f) hl a a, State.axis_updAxis_same f ha]
  refine ⟨?_, ?_, ?_, ?_⟩
  · exact (congrArg Axis.state hax).trans (hs _)
  · exact (congrArg Axis.target hax).trans (ht _)
  · exact (congrArg Axis.speed hax).trans ((hv _).trans (Nat.mul_comm _ _))
  · exact (congrArg Axis.pos hax).trans (hp _)

/-! ### The bounds of a ramp (R805, R806, R812) -/

theorem Ramp.ok_iff (r : Ramp) : r.ok = true ↔
    r.vstart ≤ r.v1 ∧ r.vstop ≤ r.v1 ∧ r.v1 ≤ r.vmax ∧ 1 ≤ r.a1 ∧ 1 ≤ r.amax ∧ 1 ≤ r.dmax ∧ 1 ≤ r.d1 := by
  simp only [Ramp.ok, Bool.and_eq_true, decide_eq_true_eq, and_assoc]

/-- What 1 µs of a ramp can do: decelerate above V1 or below it, accelerate below V1 or above it, or cruise. -/
theorem Ramp.next_cases (r : Ramp) (v s12 : Nat) :
    (1000000 * r.v1 < v ∧ r.next v s12 = max (v - 256 * r.dmax) (1000000 * r.v1)) ∨
    (v ≤ 1000000 * r.v1 ∧ r.next v s12 = max (v - 256 * r.d1) (1000000 * r.vstop)) ∨
    (v < 1000000 * r.v1 ∧ r.next v s12 = min (v + 256 * r.a1) (1000000 * r.v1)) ∨
    (v < 1000000 * r.vmax ∧ r.next v s12 = min (v + 256 * r.amax) (1000000 * r.vmax)) ∨ r.next v s12 = v := by
  simp only [Ramp.next, speedUnit, Nat.mul_comm _ 1000000]
  split
  · split
    · next h => exact .inl ⟨h, rfl⟩
    · next h => exact .inr (.inl ⟨Nat.not_lt.mp h, rfl⟩)
  · split
    · next hm =>
      split
      · next h => exact .inr (.inr (.inl ⟨h, rfl⟩))
      · exact .inr (.inr (.inr (.inl ⟨hm, rfl⟩)))
    · exact .inr (.inr (.inr (.inr rfl)))

theorem Ramp.next_bounds {r : Ramp} {v : Nat} (s12 : Nat) (hr : r.ok = true) (hv : v ≤ 1000000 * r.vmax) :
    r.next v s12 ≤ 1000000 * r.vmax ∧ v ≤ r.next v s12 + 256 * max r.dmax r.d1 ∧
    (1000000 * r.vstop ≤ v → r.next v s12 ≤ v + 256 * max r.a1 r.amax) := by
  obtain ⟨-, hstop, hmax, -⟩ := r.ok_iff.mp hr
  rcases r.next_cases v s12 with ⟨h, hn⟩ | ⟨h, hn⟩ | ⟨h, hn⟩ | ⟨h, hn⟩ | hn <;> omega

/-! ### An APPLY of an axis's records -/

theorem row_axisApply : ∀ first ∈ [0x3700, 0x3710, 0x3720, 0x3730], ∀ a < 4,
    Dict.row? (first + a) 255 = some (applyRow first 4) := by decide +kernel

theorem row_levelApply : Dict.row? 0x3750 255 = some (applyRow 0x3750 1) := by decide +kernel

/-- The APPLY of axis a's record has the effect that the block gives the values. -/
theorem applies_axis {c : Hdr → Instr} {t first a : Nat} {pre : State → State → Prop} {op : State → State → State}
    (hc : ∀ h s, exec (c h) s = s.does t fun u => u.hostWrite h (256 * first + 255 + 256 * (a % 4)) [1#8]) (ha : a < 4)
    (hi : first ∈ [0x3700, 0x3710, 0x3720, 0x3730])
    (ho : ∀ u, (u.wrs (u.staged (first + a))).recordFail (first + a) = none →
      (u.wrs (u.staged (first + a))).recordRefusal (first + a) u = false → pre u (u.wrs (u.staged (first + a))) →
      u.recordOp (first + a) (u.staged (first + a)) = .of Status.ok (op u (u.wrs (u.staged (first + a))))) :
    Applies c t (first + a) pre op := by
  have hkey : 256 * first + 255 + 256 * (a % 4) = 256 * (first + a) + 255 := by omega
  have hrow := row_axisApply first hi a ha
  obtain ⟨hlo, hk⟩ : 0x3700 ≤ first + a ∧ first + a < 0x8000 := by
    simp only [List.mem_cons, List.not_mem_nil, or_false] at hi
    omega
  rw [hkey] at hc
  exact applies_of c t (first + a) (applyRow first 4) pre op hc hk
    (findObject_of_row hk (Dict.hasIndex_of_row hrow) hrow) rfl rfl rfl (Option.isSome_of_eq_some hrow) (by omega) ho

section

variable {u : State} {a : Nat} (ha : a < 4)

include ha

theorem State.recordOp_axisConfig (hf : (u.wrs (u.staged (0x3700 + a))).recordFail (0x3700 + a) = none)
    (hr : (u.wrs (u.staged (0x3700 + a))).recordRefusal (0x3700 + a) u = false) :
    u.recordOp (0x3700 + a) (u.staged (0x3700 + a)) = (u.wrs (u.staged (0x3700 + a))).axisApply a := by
  rw [u.recordOp_taken _ (by omega) (by omega) hf hr]
  simp only [Bool.and_eq_true, decide_eq_true_eq]
  simp (disch := omega) only [if_neg, if_pos, Nat.add_sub_cancel_left]

theorem State.recordOp_ramp (hf : (u.wrs (u.staged (0x3710 + a))).recordFail (0x3710 + a) = none)
    (hr : (u.wrs (u.staged (0x3710 + a))).recordRefusal (0x3710 + a) u = false) :
    u.recordOp (0x3710 + a) (u.staged (0x3710 + a)) = .of Status.ok (u.wrs (u.staged (0x3710 + a))) := by
  rw [u.recordOp_taken _ (by omega) (by omega) hf hr]
  simp only [State.recordEffect, Bool.and_eq_true, Bool.or_eq_true, decide_eq_true_eq]
  simp (disch := omega) only [if_neg]

theorem State.recordOp_move (hf : (u.wrs (u.staged (0x3720 + a))).recordFail (0x3720 + a) = none)
    (hr : (u.wrs (u.staged (0x3720 + a))).recordRefusal (0x3720 + a) u = false) :
    u.recordOp (0x3720 + a) (u.staged (0x3720 + a)) = (u.wrs (u.staged (0x3720 + a))).moveApply a := by
  rw [u.recordOp_taken _ (by omega) (by omega) hf hr]
  simp only [Bool.and_eq_true, decide_eq_true_eq]
  simp (disch := omega) only [if_neg, if_pos, Nat.add_sub_cancel_left]

theorem State.recordOp_homing (hf : (u.wrs (u.staged (0x3730 + a))).recordFail (0x3730 + a) = none)
    (hr : (u.wrs (u.staged (0x3730 + a))).recordRefusal (0x3730 + a) u = false) :
    u.recordOp (0x3730 + a) (u.staged (0x3730 + a)) = (u.wrs (u.staged (0x3730 + a))).homeConfigApply a := by
  rw [u.recordOp_taken _ (by omega) (by omega) hf hr]
  simp only [Bool.and_eq_true, decide_eq_true_eq]
  simp (disch := omega) only [if_neg, if_pos, Nat.add_sub_cancel_left]

end

theorem applies_axisConfig {t a : Nat} {pre : State → State → Prop} {op : State → State → State} (ha : a < 4)
    (ho : ∀ u v, pre u v → v.axisApply a = .of Status.ok (op u v)) :
    Applies (fun h => .axisConfigApply t h a 1) t (0x3700 + a) pre op :=
  applies_axis (fun _ _ => rfl) ha (by decide) fun _ hf hr hp => (State.recordOp_axisConfig ha hf hr).trans (ho _ _ hp)

theorem applies_ramp {t a : Nat} (ha : a < 4) :
    Applies (fun h => .rampApply t h a 1) t (0x3710 + a) (fun _ _ => True) (fun _ v => v) :=
  applies_axis (fun _ _ => rfl) ha (by decide) fun _ hf hr _ => State.recordOp_ramp ha hf hr

theorem applies_move {t a : Nat} {pre : State → State → Prop} {op : State → State → State} (ha : a < 4)
    (ho : ∀ u v, pre u v → v.moveApply a = .of Status.ok (op u v)) :
    Applies (fun h => .moveApply t h a 1) t (0x3720 + a) pre op :=
  applies_axis (fun _ _ => rfl) ha (by decide) fun _ hf hr hp => (State.recordOp_move ha hf hr).trans (ho _ _ hp)

theorem applies_homing {t a : Nat} {pre : State → State → Prop} {op : State → State → State} (ha : a < 4)
    (ho : ∀ u v, pre u v → v.homeConfigApply a = .of Status.ok (op u v)) :
    Applies (fun h => .homeConfigApply t h a 1) t (0x3730 + a) pre op :=
  applies_axis (fun _ _ => rfl) ha (by decide) fun _ hf hr hp => (State.recordOp_homing ha hf hr).trans (ho _ _ hp)

theorem State.recordOp_level {u : State} (hf : (u.wrs (u.staged 0x3750)).recordFail 0x3750 = none)
    (hr : (u.wrs (u.staged 0x3750)).recordRefusal 0x3750 u = false) :
    u.recordOp 0x3750 (u.staged 0x3750) = (u.wrs (u.staged 0x3750)).levelApply := by
  rw [u.recordOp_taken _ (by decide) (by decide) hf hr]
  rfl

theorem applies_level {t : Nat} {pre : State → State → Prop} {op : State → State → State}
    (ho : ∀ u v, pre u v → v.levelApply = .of Status.ok (op u v)) :
    Applies (fun h => .levelApply t h 1) t 0x3750 pre op :=
  applies_of _ t 0x3750 (applyRow 0x3750 1) pre op (fun _ _ => rfl) (by decide)
    (findObject_of_row (by decide) (Dict.hasIndex_of_row row_levelApply) row_levelApply) rfl rfl rfl
    (Option.isSome_of_eq_some row_levelApply) (by decide) fun _ hf hr hp => (State.recordOp_level hf hr).trans (ho _ _ hp)

/-! ### AXIS_CONFIG, MOVE and HOMING with their values in place (R809, R811, R825, R829, R830) -/

section

variable {v : State} {a : Nat}

theorem State.axisApply_starts (hok : v.axisOk a = true) (hs : (v.axis a).state = 0) (he : v.rdB (O.AXIS_ENABLE a) = true) :
    v.axisApply a = .of Status.ok
      ((v.updAxis a fun x => { x.takeCoil (v.rd (O.STANDSTILL_MODE a)) with state := 1 }).gateCoils a) := by
  simp [State.axisApply, hok, hs, he]

theorem State.axisApply_stays (hok : v.axisOk a = true) (hs : (v.axis a).state = 1) (he : v.rdB (O.AXIS_ENABLE a) = true) :
    v.axisApply a = .of Status.ok (v.gateCoils a) := by
  simp [State.axisApply, hok, hs, he]

theorem State.axisApply_disables (hok : v.axisOk a = true) (hs : (v.axis a).state ≤ 1 ∨ (v.axis a).state = 6)
    (he : v.rdB (O.AXIS_ENABLE a) = false) :
    v.axisApply a = .of Status.ok ((v.updAxis a fun x =>
      { x with state := 0, coil := .off, flags := setBit x.flags 2 false, endedAt := none }).gateCoils a) := by
  rcases hs with hs | hs <;> simp [State.axisApply, hok, hs, he]

theorem State.homeConfigApply_ok (h : (v.axis a).state ≠ 5) : v.homeConfigApply a = .of Status.ok v := if_neg h

/-- The target that a MOVE asks for (R809). -/
def State.askedTarget (v : State) (a : Nat) : Int :=
  if v.rdB (O.MOVE_RELATIVE a) then (v.axis a).pos + v.rdI 32 (O.MOVE_TARGET a) else v.rdI 32 (O.MOVE_TARGET a)

theorem State.askedTarget_inRange (hlo : -(2 ^ 31) ≤ v.askedTarget a) (hhi : v.askedTarget a < 2 ^ 31) :
    (decide (v.askedTarget a < -(2 ^ 31)) || decide (2 ^ 31 ≤ v.askedTarget a)) = false := by
  simpa using And.intro hlo hhi

theorem State.motionBarred_of (h : v.safe.active = true ∨ 2 ≤ v.power.state) : v.motionBarred a = true := by
  rcases h with h | h <;> simp [State.motionBarred, h]

theorem State.moveApply_barred (hlo : -(2 ^ 31) ≤ v.askedTarget a) (hhi : v.askedTarget a < 2 ^ 31) (hm : v.motionBarred a = true) :
    v.moveApply a = .of Status.state v := by
  have hin := State.askedTarget_inRange hlo hhi
  rw [State.askedTarget] at hin
  simp only [State.moveApply, hin, hm, Bool.true_or, Bool.false_eq_true, ↓reduceIte]

/-- LEVEL_ERROR bars a linked LIFT_OP (R824). -/
theorem State.levelError_clear (hl : v.liftBarred a = false) :
    (v.linked && decide (a = 0) && bit (v.axis 0).flags 3) = false := by
  cases hk : v.linked <;> simp_all [State.liftBarred]

theorem State.checkLevel_none (hc : a ≠ 0 ∨ v.checkLevel = v) : (if a = 0 then v.checkLevel else v) = v := by
  rcases hc with h | h <;> simp [h]

section

variable (hlo : -(2 ^ 31) ≤ v.askedTarget a) (hhi : v.askedTarget a < 2 ^ 31) (hm : v.motionBarred a = false)
  (hl : v.liftBarred a = false) (hc : a ≠ 0 ∨ v.checkLevel = v)

include hlo hhi hm hl hc

theorem State.moveApply_idle (hs : (v.axis a).state = 1) (hne : v.askedTarget a ≠ (v.axis a).pos) :
    v.moveApply a = .of Status.ok ((v.inc (O.AXIS_MOVES a)).startMove a (v.askedTarget a)) := by
  have hin := State.askedTarget_inRange hlo hhi
  rw [State.askedTarget] at hin hne ⊢
  simp only [State.moveApply, hin, hm, hl, State.checkLevel_none hc, State.levelError_clear hl, hs, hne, Bool.or_self,
    Bool.false_eq_true, ↓reduceIte]

theorem State.moveApply_moving (hs : (v.axis a).state = 2) :
    v.moveApply a = .of Status.ok ((v.updAxis a fun x => { x with target := v.askedTarget a }).testMove a) := by
  have hin := State.askedTarget_inRange hlo hhi
  rw [State.askedTarget] at hin ⊢
  simp only [State.moveApply, hin, hm, hl, State.checkLevel_none hc, State.levelError_clear hl, hs, Bool.or_self,
    Bool.false_eq_true, ↓reduceIte]

end

end

/-! ### A ramp that R812 refuses -/

theorem State.recordFail_ramp {v : State} {a : Nat} (ha : a < 4) (h : (v.rampOf a).ok = false) :
    ∃ sub, v.recordFail (0x3710 + a) = some sub := by
  simp only [State.recordFail, Bool.and_eq_true, decide_eq_true_eq]
  simp (disch := omega) only [if_neg, if_pos, Nat.add_sub_cancel_left]
  simp [h]

/-- A record that its cross-field rules refuse: the stage goes (R79). -/
theorem State.recordApply_recordFail {u : State} {idx sub : Nat} (hs : u.staged idx ≠ []) (hf : stageFail (u.staged idx) = none)
    (hr : (u.wrs (u.staged idx)).recordFail idx = some sub) (h21 : idx ≠ 0x1321) (hl : ¬(0x3014 ≤ idx ∧ idx ≤ 0x3017))
    (h2003 : idx ≠ 0x2003) : u.recordApply idx = ⟨Status.range, [toByte sub, 0#8, 0#8, 0#8], u.dropStage idx⟩ := by
  have he : (u.staged idx).isEmpty = false := by simpa using hs
  have hl' : (decide (0x3014 ≤ idx) && decide (idx ≤ 0x3017)) = false := by simpa using hl
  have ho : u.recordOp idx (u.staged idx) = ⟨Status.range, [toByte sub, 0#8, 0#8, 0#8], u⟩ := by
    simp only [State.recordOp, h21, hl', hr, Bool.false_eq_true, ↓reduceIte]
  have h1 : ¬ Status.range = Status.ok := by decide
  have h2 : ¬ Status.range = Status.empty := by decide
  simp [State.recordApply, he, hf, ho, h2003, h1, h2]

/-- A ramp that breaks R812 is discarded, and the refusal names one of its values (R79). -/
theorem State.recordApply_badRamp {u : State} {a : Nat} (ha : a < 4) (hs : u.staged (0x3710 + a) ≠ [])
    (hf : stageFail (u.staged (0x3710 + a)) = none) (hr : ((u.wrs (u.staged (0x3710 + a))).rampOf a).ok = false) :
    ∃ sub, u.recordApply (0x3710 + a) = ⟨Status.range, [toByte sub, 0#8, 0#8, 0#8], u.dropStage (0x3710 + a)⟩ := by
  obtain ⟨sub, hsub⟩ := State.recordFail_ramp ha hr
  exact ⟨sub, State.recordApply_recordFail hs hf hsub (by omega) (by omega) (by omega)⟩

/-! ### The masks of MOVE_STOP, MOVE_REPLAN and HOME (R822) -/

/-- The row of a CMD object that takes a mask of axes. -/
def axisMaskRow (idx : Nat) : ObjRow := ⟨idx, 1, 0x00, 1, .u8, .cmd, false, 0, .bt 0 15, .now⟩

theorem row_axisMask : ∀ idx ∈ [0x3724, 0x3725, 0x3726],
    idx < 0x8000 ∧ 256 * idx ≠ O.JOB_CONTROL ∧ Dict.row? idx 0 = some (axisMaskRow idx) ∧
    isMirrored (256 * idx) = false := by decide +kernel

theorem valueOk_axisMask (idx : Nat) {v : Nat} (h : v < 16) : valueOk (axisMaskRow idx) v = true := by
  simp [valueOk, axisMaskRow, Rng.ok, Ty.value, Ty.signed]; omega

/-- A WRITE of a mask of axes does what the command does with it. -/
theorem writes_axisMask {c : Hdr → Instr} {t idx v : Nat} {pre : State → Prop} {op : State → State}
    (hi : idx ∈ [0x3724, 0x3725, 0x3726]) (hv : v < 16)
    (hc : ∀ h s, exec (c h) s = s.does t fun u => u.hostWrite h (256 * idx) [toByte v])
    (ho : ∀ u, pre u → u.commandOp (256 * idx) v = some (.of Status.ok (op u))) :
    Writes c t (256 * idx) [toByte v] pre op := by
  obtain ⟨hk, hj, hrow, hm⟩ := row_axisMask idx hi
  have hdiv : 256 * idx / 256 = idx := Nat.mul_div_cancel_left idx (by decide)
  have hmod : 256 * idx % 256 = 0 := Nat.mul_mod_right 256 idx
  have hval : leNat [toByte v] = v := (leNat_natLE 1 v).trans (Nat.mod_eq_of_lt (by omega))
  refine writes_of c t _ _ (axisMaskRow idx) pre op hc (by rw [hdiv]; exact hk)
    (by rw [hdiv, hmod]; exact findObject_of_row hk (Dict.hasIndex_of_row hrow) hrow) rfl rfl rfl (by simp) fun u hp => ?_
  rw [hval]
  exact u.valueWrite_cmd _ _ v _ (by simp [hmod]) (by simp [axisMaskRow]) (valueOk_axisMask idx hv) hj hm (ho u hp)

theorem axes_of_bit : ∀ a < 4, (List.range 4).filter (bit (2 ^ a)) = [a] := by decide

theorem mask_inRange {a : Nat} (ha : a < 4) : ¬ 16 ≤ 2 ^ a := Nat.not_le.mpr (Nat.pow_lt_pow_right (by decide) ha)

section

variable {u : State} {a : Nat} (ha : a < 4) (hl : u.linked = false ∨ 2 ≤ a)

include ha hl

/-- An axis that is not one of the linked lift is named for itself. -/
theorem State.namedAxes_one : u.namedAxes (2 ^ a) = [a] := by
  have hs : ¬(a = 1 ∧ u.slaved = true) := by
    rintro ⟨rfl, hs⟩
    rcases hl with hl | hl
    · simp [State.slaved, hl] at hs
    · omega
  simp [State.namedAxes, axes_of_bit a ha, hs, List.eraseDups_cons]

/-- The mask does not name a linked LIFT_DR without LIFT_OP, which MOVE_REPLAN refuses (R822). -/
theorem State.driveAlone_false : (u.linked && bit (2 ^ a) 1 && !bit (2 ^ a) 0) = false := by
  rcases hl with hl | hl
  · simp [hl]
  · have hb : bit (2 ^ a) 1 = false := by
      rw [bit, Nat.testBit_two_pow]
      exact decide_eq_false (by omega)
    simp [hb]

theorem State.replan_nothing (hs : u.staged (0x3710 + a) = []) (hp : u.rampPending a = false) :
    u.replan (2 ^ a) = .of Status.empty u := by
  have hr : u.rampFail a = none := by simp [State.rampFail, hs]
  cases hm : (u.axis a).moving <;>
    simp [State.replan, State.namedAxes_one ha hl, mask_inRange ha, State.driveAlone_false ha hl, hm, hs, hp, hr]

theorem State.replan_refused {sub : Nat} (hm : (u.axis a).moving = true) (hr : u.rampFail a = some sub) :
    u.replan (2 ^ a) = ⟨Status.range, [toByte sub, 0#8, 0#8, 0#8], u.dropStage (0x3710 + a)⟩ := by
  simp [State.replan, State.namedAxes_one ha hl, mask_inRange ha, State.driveAlone_false ha hl, hm, hr]

theorem State.replan_ok (hm : (u.axis a).moving = true) (hr : u.rampFail a = none)
    (h : u.staged (0x3710 + a) ≠ [] ∨ u.rampPending a = true) : u.replan (2 ^ a) = .of Status.ok (u.replanOn a) := by
  have hn : ((u.staged (0x3710 + a)).isEmpty && !u.rampPending a) = false := by
    rcases h with h | h <;> simp [h]
  simp [-Bool.and_eq_true, State.replan, State.namedAxes_one ha hl, mask_inRange ha, State.driveAlone_false ha hl, hm, hr, hn]

theorem State.moveStop_one (hm : (u.axis a).moving = true) : u.moveStop (2 ^ a) = .of Status.ok (u.stopAxis a) := by
  have hboth : (u.linked && [a].contains 0 && decide ((u.axis 0).state = 5)) = false := by
    rcases hl with hl | hl
    · simp [hl]
    · have h0 : ¬ 0 = a := by omega
      simp [h0]
  simp only [State.moveStop, State.namedAxes_one ha hl, mask_inRange ha, hboth, Bool.false_eq_true, ↓reduceIte]
  simp [hm]

theorem State.homeAxes_one (hb : u.motionBarred a = false) (hs : (u.axis a).state = 1) :
    u.homeAxes (2 ^ a) = .of Status.ok (u.startHome a a) := by
  rcases hl with hl | hl
  · simp [State.homeAxes, axes_of_bit a ha, mask_inRange ha, hb, hs, hl]
  · have h0 : a ≠ 0 := by omega
    have h1 : a ≠ 1 := by omega
    simp [State.homeAxes, axes_of_bit a ha, mask_inRange ha, hb, hs, h0, h1]

end

/-- A linked LIFT_DR that moves stands for LIFT_OP (R822). -/
theorem State.namedAxes_lift {u : State} (hs : u.slaved = true) : ∀ v, v = 1 ∨ v = 2 ∨ v = 3 → u.namedAxes v = [0] := by
  have h1 : (List.range 4).filter (bit 1) = [0] := by decide
  have h2 : (List.range 4).filter (bit 2) = [1] := by decide
  have h3 : (List.range 4).filter (bit 3) = [0, 1] := by decide
  rintro v (rfl | rfl | rfl) <;> simp [State.namedAxes, h1, h2, h3, hs, List.eraseDups_cons]

theorem State.moveStop_lift {u : State} {v : Nat} (hv : v = 1 ∨ v = 2 ∨ v = 3) (hl : u.linked = true) (h : (u.axis 0).state = 2) :
    u.moveStop v = .of Status.ok (u.stopAxis 0) := by
  have hm : (u.axis 0).moving = true := by simp [Axis.moving, h]
  have hs : u.slaved = true := by simp [State.slaved, hl, hm, h]
  have hlt : ¬ 16 ≤ v := by omega
  simp [State.moveStop, State.namedAxes_lift hs v hv, hlt, hm, h]

/-- The linked axes home together, at the speeds and in the direction of LIFT_OP (R823). -/
theorem State.homeAxes_lift {u : State} (hl : u.linked = true) (h0 : u.motionBarred 0 = false) (h1 : u.motionBarred 1 = false)
    (hs0 : (u.axis 0).state = 1) (hs1 : (u.axis 1).state = 1) :
    u.homeAxes 3 = .of Status.ok ((u.startHome 0 0).startHome 1 0) := by
  have h3 : (List.range 4).filter (bit 3) = [0, 1] := by decide
  simp [State.homeAxes, h3, hl, h0, h1, hs0, hs1]

/-! ### The level of the linked lift (R824) -/

theorem bit_setBit_same (n i : Nat) (v : Bool) : bit (setBit n i v) i = v := by
  have hdiv : setBit n i v / 2 ^ i = 2 * (n / 2 ^ (i + 1)) + b2n v := by
    have hlt := Nat.mod_lt n (Nat.two_pow_pos i)
    have hsum : setBit n i v = n % 2 ^ i + 2 ^ i * (2 * (n / 2 ^ (i + 1)) + b2n v) := by
      have hv : (if v then 2 ^ i else 0) = 2 ^ i * b2n v := by cases v <;> simp [b2n]
      rw [setBit, hv, Nat.mul_add, ← Nat.mul_assoc, ← Nat.pow_succ, Nat.mul_comm (2 ^ (i + 1)), Nat.add_comm]
    rw [hsum, Nat.add_mul_div_left _ _ (Nat.two_pow_pos i), Nat.div_eq_of_lt hlt, Nat.zero_add]
  rw [bit, Nat.testBit_eq_decide_div_mod_eq, hdiv]
  cases v <;> simp [b2n]

/-- LEVEL_ERROR of both lift axes set or cleared. -/
def State.levelFlag (s : State) (on : Bool) : State :=
  (s.updAxis 0 fun x => { x with flags := setBit x.flags 3 on }).updAxis 1 fun x => { x with flags := setBit x.flags 3 on }

/-- LEVEL_ERROR changes nothing of an axis but its flags. -/
theorem State.axis_levelFlag {β : Type} (g : Axis → β) (s : State) (on : Bool) (b : Nat)
    (h : ∀ (x : Axis) n, g { x with flags := n } = g x) : g ((s.levelFlag on).axis b) = g (s.axis b) :=
  (State.axis_updAxis_keeps g _ 1 b fun x => h x _).trans (State.axis_updAxis_keeps g s 0 b fun x => h x _)

theorem State.offLevel_levelFlag (s : State) (on : Bool) : (s.levelFlag on).offLevel = s.offLevel := by
  have hp (b : Nat) : ((s.levelFlag on).axis b).pos = (s.axis b).pos := s.axis_levelFlag Axis.pos on b fun _ _ => rfl
  simp only [State.offLevel, hp]
  rfl

theorem State.checkLevel_level {s : State} (ho : s.offLevel = false) : s.checkLevel = s := by
  simp [State.checkLevel, ho]

/-- R824 for a LIFT_OP that stands: there is no move to stop. -/
theorem State.levelError_standing {s : State} (h : (s.axis 0).state ≤ 1) :
    s.levelError = (s.levelFlag true).event 0xe 3 0 := by
  have hs : (((s.levelFlag true).event 0xe 3 0).axis 0).state ≤ 1 := by
    rw [State.axis_event, s.axis_levelFlag Axis.state true 0 fun _ _ => rfl]
    exact h
  have hn : ¬(decide ((((s.levelFlag true).event 0xe 3 0).axis 0).state = 2) ||
      decide ((((s.levelFlag true).event 0xe 3 0).axis 0).state = 3)) = true := by
    simp only [Bool.or_eq_true, decide_eq_true_eq]
    omega
  exact if_neg hn

section

variable {v : State} (h0 : (v.axis 0).state ≤ 1) (h1 : (v.axis 1).state ≤ 1)

include h0 h1

theorem State.levelApply_unlinked (hl : v.linked = false) : v.levelApply = .of Status.ok v := by
  simp [State.levelApply, Nat.not_lt.mpr h0, Nat.not_lt.mpr h1, hl]

theorem State.levelApply_linked (hl : v.linked = true) : v.levelApply = .of Status.ok (v.levelFlag false).checkLevel := by
  simp [State.levelApply, Nat.not_lt.mpr h0, Nat.not_lt.mpr h1, hl, State.levelFlag]

/-- Axes that lie too far apart are found so at once. -/
theorem State.checkLevel_apart (ha : 0 < v.axes.length) (ho : v.offLevel = true) :
    (v.levelFlag false).checkLevel = ((v.levelFlag false).levelFlag true).event 0xe 3 0 := by
  have hs (s : State) (on : Bool) (b : Nat) : ((s.levelFlag on).axis b).state = (s.axis b).state :=
    s.axis_levelFlag Axis.state on b fun _ _ => rfl
  have hf : bit ((v.levelFlag false).axis 0).flags 3 = false := by
    rw [State.levelFlag, State.axis_updAxis_other _ _ (by decide), State.axis_updAxis_same _ ha]
    exact bit_setBit_same _ 3 false
  have h5 : (v.axis 0).state ≠ 5 ∧ (v.axis 1).state ≠ 5 := by omega
  have herr : (v.levelFlag false).levelError = ((v.levelFlag false).levelFlag true).event 0xe 3 0 :=
    State.levelError_standing (by rw [hs]; exact h0)
  simp [State.checkLevel, State.offLevel_levelFlag, ho, hs, h5, hf, herr]

end

/-- LEVEL_ERROR cleared and set again, each axis by one change. -/
theorem State.levelFlag_levelFlag (s : State) :
    (s.levelFlag false).levelFlag true =
      (s.updAxis 0 fun x => { x with flags := setBit (setBit x.flags 3 false) 3 true }).updAxis 1 fun x =>
        { x with flags := setBit (setBit x.flags 3 false) 3 true } := by
  rw [State.levelFlag, State.levelFlag, State.updAxis_comm _ _ _ (show 1 ≠ 0 by decide), State.updAxis_updAxis_same,
    State.updAxis_updAxis_same]
  rfl

end Sys2Proof.Machine

open Sys2Proof Sys2Proof.Machine

/-- Settles O57: each APPLY of an axis's records has the effect that its block gives it, MOVE_STOP, MOVE_REPLAN and HOME do what they
do to the axes that their mask names, and a ramp's speed stays within the bounds that next_bounds gives. -/
theorem axisRequests : Obligations.AxisRequests := by
  unfold Obligations.AxisRequests
  refine ⟨fun t a ha => ⟨?_, ?_, ?_, applies_ramp ha, fun target => ⟨?_, ?_⟩, ?_, ?_, ?_, ?_⟩,
    fun t => ⟨fun v hv => ?_, ?_, ?_, ?_, ?_⟩,
    fun u a ha hl => ⟨State.replan_nothing ha hl, fun sub => State.replan_refused ha hl⟩, fun u a ha hs hf => ?_,
    fun u a hb hlo hhi hrel => ?_, fun u a => State.motionBarred_of,
    fun u a target ha hl => State.startMove_axis target ha hl, fun r v s12 => Ramp.next_bounds s12⟩
  · exact applies_axisConfig ha fun _ _ ⟨hok, hs, he⟩ => State.axisApply_starts hok hs he
  · exact applies_axisConfig ha fun _ _ ⟨hok, hs, he⟩ => State.axisApply_stays hok hs he
  · exact applies_axisConfig ha fun _ _ ⟨hok, hs, he⟩ => State.axisApply_disables hok hs he
  · refine applies_move ha fun _ v ⟨ht, hlo, hhi, hb, hl, hc, hs, hne⟩ => ?_
    subst ht
    exact State.moveApply_idle hlo hhi hb hl hc hs hne
  · refine applies_move ha fun _ v ⟨ht, hlo, hhi, hb, hl, hc, hs⟩ => ?_
    subst ht
    exact State.moveApply_moving hlo hhi hb hl hc hs
  · exact applies_homing ha fun _ _ => State.homeConfigApply_ok
  · exact writes_axisMask (idx := 0x3725) (by decide) (Nat.not_le.mp (mask_inRange ha)) (fun _ _ => rfl)
      fun u ⟨hl, hm, hr, hs⟩ => congrArg some (State.replan_ok ha hl hm hr hs)
  · exact writes_axisMask (idx := 0x3724) (by decide) (Nat.not_le.mp (mask_inRange ha)) (fun _ _ => rfl)
      fun u ⟨hl, hm⟩ => congrArg some (State.moveStop_one ha hl hm)
  · exact writes_axisMask (idx := 0x3726) (by decide) (Nat.not_le.mp (mask_inRange ha)) (fun _ _ => rfl)
      fun u ⟨hl, hb, hs⟩ => congrArg some (State.homeAxes_one ha hl hb hs)
  · exact writes_axisMask (idx := 0x3724) (by decide) (by omega) (fun _ _ => rfl)
      fun u ⟨hl, hs⟩ => congrArg some (State.moveStop_lift hv hl hs)
  · exact writes_axisMask (idx := 0x3726) (v := 3) (by decide) (by decide) (fun _ _ => rfl)
      fun u ⟨hl, hb0, hb1, hs0, hs1⟩ => congrArg some (State.homeAxes_lift hl hb0 hb1 hs0 hs1)
  · exact applies_level fun _ _ ⟨h0, h1, hl⟩ => State.levelApply_unlinked h0 h1 hl
  · refine applies_level fun _ v ⟨h0, h1, hl, _, htol⟩ => ?_
    have ho : (v.levelFlag false).offLevel = false := by
      rw [State.offLevel_levelFlag, State.offLevel, hl, decide_eq_false (Nat.not_lt.mpr htol)]
      rfl
    rw [State.levelApply_linked h0 h1 hl, State.checkLevel_level ho, State.levelFlag]
  · refine applies_level fun _ v ⟨h0, h1, hl, hlen, htol⟩ => ?_
    have ho : v.offLevel = true := by
      rw [State.offLevel, hl, decide_eq_true htol]
      rfl
    rw [State.levelApply_linked h0 h1 hl, State.checkLevel_apart h0 h1 (by omega) ho, State.levelFlag_levelFlag]
  · intro r hr
    exact State.recordApply_badRamp ha hs hf (Bool.eq_false_iff.mpr fun hok => hr (Ramp.ok_iff _ |>.mp hok))
  · have ht : u.askedTarget a = u.rdI 32 (O.MOVE_TARGET a) := if_neg (by simp [hrel])
    exact State.moveApply_barred (ht.symm ▸ hlo) (ht.symm ▸ hhi) hb

end

section
/-! PROOF. Two facts about lists and choices that several families share. -/

namespace Sys2Proof.Machine

/-- A place within a list shows its element, whatever stands for the places beyond. -/
theorem getD_of_lt {α : Type} {xs : List α} {n : Nat} (d : α) (h : n < xs.length) : xs.getD n d = xs[n] := by
  rw [List.getD_eq_getElem?_getD, List.getElem?_eq_getElem h, Option.getD_some]

/-- A choice is one of its two sides. -/
theorem ite_either {α : Type} {p : Prop} [Decidable p] (a b : α) : (if p then a else b) = a ∨ (if p then a else b) = b := by
  by_cases h : p
  · exact .inl (if_pos h)
  · exact .inr (if_neg h)

end Sys2Proof.Machine

end

section
/-! PROOF. The queue (log 65): what a step takes from it, what every step keeps, and how a run of steps serves it. -/

namespace Sys2Proof.Machine

/-- What a command leaves: a next state, with the queue and the moment as they were put, and nothing left to follow. -/
theorem exec_answers (c : Instr) (s : State) :
    ∃ u, exec c s = .next u ∧ u.pending = s.pending ∧ s.now ≤ u.now ∧ u.Settled ∧ u.CreditsFollow := by
  obtain ⟨t, op, h⟩ := exec_does c s
  refine ⟨(s.at t).after op, h, by simp, Nat.le_max_left _ _, State.after_settled _ _⟩

/-- One step serves one command, and keeps what holds between two steps. -/
theorem step_serves {s : State} (h : s.Settled ∧ s.CreditsFollow) :
    ∃ u, step s = .next u ∧ u.pending = s.pending.tail ∧ s.now ≤ u.now ∧ u.Settled ∧ u.CreditsFollow := by
  cases hp : s.pending with
  | nil => exact ⟨s, step_idle s hp, hp, Nat.le_refl _, h⟩
  | cons c rest =>
    rw [step_pending s c rest hp]
    exact exec_answers c { s with pending := rest }

/-- A run whose first step answers u goes on from u. -/
theorem run_succ {n : Nat} {s u : State} (h : step s = .next u) : core.run (n + 1) s = core.run n u := by
  have hs : core.step s = .next u := h
  simp only [Host.Core.run, hs]

end Sys2Proof.Machine

open Sys2Proof Sys2Proof.Machine

/-- Settles O1: the two cases of step. -/
theorem stepRunsFront : Obligations.StepRunsFront :=
  ⟨fun _ _ _ => step_pending _ _ _ rfl, step_idle⟩

/-- Settles O2: every command is some operation at some moment, and after gives the queue back. -/
theorem everyCommandAnswers : Obligations.EveryCommandAnswers := by
  intro c s
  obtain ⟨u, hu, hp, hn, ha, -⟩ := exec_answers c s
  exact ⟨u, hu, hp, hn, ha⟩

/-- Settles O3: the end of every command takes the actions and sets the credits. -/
theorem stepKeepsSettled : Obligations.StepKeepsSettled := by
  intro s u h hu
  obtain ⟨v, hv, -, -, hs⟩ := step_serves h
  rw [hv] at hu
  cases hu
  exact hs

/-- Settles O4. -/
theorem resetSettled : Obligations.ResetSettled := by
  refine ⟨rfl, fun h => absurd h (by decide), rfl⟩

/-- Settles O5, by induction on the number of commands that wait. -/
theorem queueIsServed : Obligations.QueueIsServed := by
  intro n
  induction n with
  | zero => exact fun s h hn => ⟨s, rfl, List.eq_nil_of_length_eq_zero hn, Nat.le_refl _, h⟩
  | succ n ih =>
    intro s h hn
    obtain ⟨u, hu, hp, hle, hs⟩ := step_serves h
    obtain ⟨v, hv, hq, hle', hs'⟩ := ih u hs (by rw [hp, List.length_tail, hn]; rfl)
    exact ⟨v, (run_succ hu).trans hv, hq, Nat.le_trans hle hle', hs'⟩

end

section
/-! PROOF. The object store and the DOM objects (R74, R87). -/

namespace Sys2Proof.Machine

/-- R87: a DOM that is put down whole reads as the bytes put. -/
theorem Dom.read_replace (idx : Nat) (old : Dom) (bs : List Byte) :
    (Dom.replace idx old bs).read (domFill idx) 0 bs.length = bs := by
  refine List.ext_getElem (by simp [Dom.read]) fun i _ hi => ?_
  simp [Dom.read, Dom.replace_byte idx old bs i hi, hi]

theorem State.dom_domReplace_same (s : State) (i : Nat) (bs : List Byte) :
    (s.domReplace i bs).dom i = Dom.replace i (s.dom i) bs := by
  rw [State.domReplace, State.dom_setDom, if_pos rfl]

theorem State.dom_domReplace_other (s : State) {i j : Nat} (bs : List Byte) (h : j ≠ i) :
    (s.domReplace i bs).dom j = s.dom j := by
  rw [State.domReplace, State.dom_setDom, if_neg h.symm]

theorem State.domAll_domReplace (s : State) (i : Nat) (bs : List Byte) : (s.domReplace i bs).domAll i = bs := by
  rw [State.domAll, State.domRead, State.dom_domReplace_same]
  exact Dom.read_replace i (s.dom i) bs

end Sys2Proof.Machine

open Sys2Proof Sys2Proof.Machine

/-- Settles O7: what a sparse map reads after a change, and that its canonical form stays. -/
theorem objectsAndDoms : Obligations.ObjectsAndDoms := by
  refine ⟨⟨fun _ => rfl, fun _ => rfl, State.reset_objsWf, fun s j v =>
    ⟨s.rd_wr_same j v, fun k hk => s.rd_wr_ne j k v hk.symm, s.wr_objsWf j v, ?_⟩⟩, fun s i bs => ?_⟩
  · rw [State.rd_inc, if_pos rfl]
  · rw [State.dom_domReplace_same]
    exact ⟨rfl, rfl, s.domAll_domReplace i bs, cellsOf_sorted _ bs 0, fun j => s.dom_domReplace_other bs⟩

end

section
/-! PROOF. The sessionless requests (R47, R52 to R61, R152 to R154): what a sender without the session key changes, and what each
request that needs no session answers. -/

namespace Sys2Proof.Machine

/-! ### A wrong TAG (R47, R61) -/

/-- What a frame changes that is discarded for its size or its TAG: three counters. -/
def State.DiscardedFrom (s u : State) : Prop :=
  u = { s with objs := u.objs } ∧
    ∀ k, k ≠ O.FRAMES_RX → k ≠ O.TAG_FAILURES → k ≠ O.FRAMES_DISCARDED → u.rd k = s.rd k

theorem State.DiscardedFrom.refl (s : State) : s.DiscardedFrom s := ⟨rfl, fun _ _ _ _ => rfl⟩

theorem State.DiscardedFrom.inc {s u : State} (h : s.DiscardedFrom u) {j : Nat}
    (hj : j = O.FRAMES_RX ∨ j = O.TAG_FAILURES ∨ j = O.FRAMES_DISCARDED) : s.DiscardedFrom (u.inc j) := by
  refine ⟨?_, fun k h1 h2 h3 => ?_⟩
  · have hi : u.inc j = { u with objs := (u.inc j).objs } := rfl
    rw [hi, h.1]
  · have hk : j ≠ k := by rintro rfl; simp_all
    rw [State.rd_inc, if_neg hk]
    exact h.2 k h1 h2 h3

/-- The rows of the open session's opcodes are rows of the TDP port, and none of them is sessionless. -/
theorem frameRows_of_session {t opcode : Nat} {f : Frame} {c : Instr}
    (h : (opcode, c) ∈ [(0x03, .close t f), (0x04, .keepalive t f), (0x10, .read t f), (0x11, .write t f), (0x12, .readSeg t f),
      (0x13, .writeSeg t f), (0x14, .info t f), (0x20, .noticeAck t f)]) :
    (opcode, c) ∈ frameRows t opcode f ∧ isSessionless opcode = false := by
  simp only [List.mem_cons, List.not_mem_nil, or_false, Prod.mk.injEq] at h
  rcases h with ⟨rfl, rfl⟩ | ⟨rfl, rfl⟩ | ⟨rfl, rfl⟩ | ⟨rfl, rfl⟩ | ⟨rfl, rfl⟩ | ⟨rfl, rfl⟩ | ⟨rfl, rfl⟩ | ⟨rfl, rfl⟩ <;>
    exact ⟨by simp [frameRows], rfl⟩

/-! ### A request outside any session (R52, R53) -/

/-- A request outside any session that the limits of R53 let through. -/
theorem State.hostFrame_hears {s : State} {t opcode : Nat} {f : Frame} (h : s.Hears t opcode f)
    (hs : isSessionless opcode = true) :
    (s.at t).hostFrame opcode f = ((s.at t).inc O.FRAMES_RX).sessionless opcode f := by
  have hd : definedOpcode opcode = true ∧ opcode ≠ 0x20 := by
    simp only [isSessionless_iff, List.mem_cons, List.not_mem_nil, or_false] at hs
    rcases hs with rfl | rfl | rfl | rfl | rfl <;> decide
  rw [State.hostFrame_thisVersion h.online h.timers h.magic h.version, State.thisVersion_sessionless h.sid h.size]
  simp [State.acceptFrame, h.request, hd, hs]

/-- The part answers an OPEN_REQ, and each other request, once it is counted. -/
theorem State.sessionless_counted {s : State} {opcode : Nat} {f : Frame} (h : s.mayAnswer opcode = true) :
    s.sessionless opcode f =
      if opcode = 1 then (s.countAnswer opcode).openReq f
      else if opcode = 2 then (s.countAnswer opcode).openSession f
      else if opcode = 0x30 then (s.countAnswer opcode).quoteReq f
      else if opcode = 0x31 then (s.countAnswer opcode).certReq f
      else (s.countAnswer opcode).identifyReq f := by
  simp [State.sessionless, h]

theorem State.hostFrame_asked {s : State} {t opcode : Nat} {f : Frame} (h : s.Hears t opcode f)
    (hs : isSessionless opcode = true) :
    (s.at t).hostFrame opcode f =
      if opcode = 1 then (s.asked t opcode).openReq f
      else if opcode = 2 then (s.asked t opcode).openSession f
      else if opcode = 0x30 then (s.asked t opcode).quoteReq f
      else if opcode = 0x31 then (s.asked t opcode).certReq f
      else (s.asked t opcode).identifyReq f :=
  (State.hostFrame_hears h hs).trans (State.sessionless_counted (s := (s.at t).inc O.FRAMES_RX) h.limits)

theorem State.asked_rd (s : State) (t opcode : Nat) {k : Nat} (h : k ≠ O.FRAMES_RX) : (s.asked t opcode).rd k = s.rd k := by
  show ((s.at t).inc O.FRAMES_RX).rd k = _
  rw [State.rd_inc, if_neg h.symm, State.at_rd_eq]

/-! ### OPEN_REQ and OPEN (R55 to R60) -/

section

variable {s : State} {f : Frame}

theorem State.openReq_challenges (hl : (frameBody f).length = 16) (hb : s.boot.phase = .ready) (ha : s.access.level ≠ 2)
    (hk : s.tdp.authLockUntil ≤ s.now) (hkey : s.sessionKey.isSome = true) (hx : s.tdp.session = none) :
    s.openReq f = s.challengeFor f := by
  have hkey' : s.sessionKey.isNone = false := by simpa using hkey
  simp only [State.openReq, hl, hb, ha, Nat.not_lt.mpr hk, hkey', hx, bne_self_eq_false, Bool.false_eq_true, ↓reduceIte]

theorem State.openSession_opens {c : Challenge} {key : List Byte} (hc : s.tdp.challenge = some c) (hk : s.sessionKey = some key)
    (hb : bit f.flags 2 = false) (hp : frameBody f = proof key "TDP-OPEN" c.partNonce c.hostNonce c.sid)
    (hn : c.preempts = false) (hl : (frameBody f).length = 32) : s.openSession f = s.openWith c key f := by
  have ho : s.proofsOk c key f = true := by
    simp [State.proofsOk, hb, hn, ← hp, List.take_of_length_le (Nat.le_of_eq hl)]
  simp only [State.openSession, hl, hb, hc, hk, ho, bne_self_eq_false, Bool.false_eq_true, ↓reduceIte]

theorem State.challengeFor_out (hx : s.tdp.session = none) :
    (s.challengeFor f).out = s.out ++ [.datagram f.addr f.port (frameBytes 1 f.seq Status.ok 0 3 []
      (natLE 16 (Config.nonce s.draws).toNat ++ natLE 4 (1 + (Config.random s.draws).toNat % (2 ^ 32 - 1)) ++
        natLE 4 (s.rd O.LEASE_TIME) ++ natLE 4 0))] := by
  simp only [State.challengeFor, State.openReqBody, State.draw, State.updTdp, hx]
  rfl

theorem State.openWith_out {c : Challenge} {key : List Byte} (hx : s.tdp.session = none) :
    (s.openWith c key f).out = s.out ++
      [.datagram f.addr f.port (frameBytes 2 f.seq Status.ok 0 3 [] (proof key "TDP-PART" c.hostNonce c.partNonce c.sid))] := by
  simp only [State.openWith, hx]
  rfl

end

/-! ### QUOTE, CERT and IDENTIFY (R152 to R154) -/

theorem State.certReq_part {s : State} {f : Frame} (hl : (frameBody f).length = 6) (h1 : u16At (frameBody f) 4 ≤ 1024)
    (h0 : u16At (frameBody f) 4 ≠ 0) (ho : u32At (frameBody f) 0 ≤ s.certs.length) :
    s.certReq f = s.plain f 0x31 Status.ok (natLE 4 (u32At (frameBody f) 0) ++ natLE 4 s.certs.length ++
      (s.certs.drop (u32At (frameBody f) 0)).take (u16At (frameBody f) 4)) := by
  simp only [State.certReq, hl, h0, Nat.not_lt.mpr h1, Nat.not_lt.mpr ho, bne_self_eq_false, Bool.false_eq_true, ↓reduceIte]
  rfl

end Sys2Proof.Machine

open Sys2Proof Sys2Proof.Machine

/-- Settles O9: such a frame is discarded for its size or else for its TAG, and both change counters alone. -/
theorem wrongTagDoesNothing : Obligations.WrongTagDoesNothing := by
  intro s t f x ho ht hx hm hv hi hs ha hp opcode c hc hg
  obtain ⟨hrow, hn⟩ := frameRows_of_session hc
  rw [exec_frameRow s hrow]
  have hd : (s.at t).DiscardedFrom ((s.at t).hostFrame opcode f) := by
    rw [State.hostFrame_thisVersion ho ht hm hv]
    by_cases hl : f.rest.length = f.length + 16
    · rw [State.thisVersion_wrongTag (s := (s.at t).inc O.FRAMES_RX) hx hi hs ha hp hn hl hg]
      exact (((State.DiscardedFrom.refl _).inc (by simp)).inc (by simp)).inc (by simp)
    · rw [State.thisVersion_badSize (by rwa [if_neg hi])]
      exact ((State.DiscardedFrom.refl _).inc (by simp)).inc (by simp)
  refine ⟨_, State.does_eq _ _ _ (fun _ => (s.at t).hostFrame opcode f) rfl, ?_, hd.2, hd.1⟩
  rw [hd.1]
  rfl

/-- Settles O11: each request meets the checks of R52 to R59, which its hypotheses pass, and is answered. -/
theorem sessionlessRequests : Obligations.SessionlessRequests := by
  refine ⟨fun s t f h hb => State.does_eq _ _ _ _ ?_, fun s t f h hb => State.does_eq _ _ _ _ ?_,
    fun s t f h hl h1 h0 ho => State.does_eq _ _ _ _ ?_, fun s t f h hl hb ha hk hkey hx => ?_,
    fun s t f c key h hc hk hx hb hp hn hl => ?_⟩
  · rw [State.hostFrame_asked h rfl]
    simp [State.identifyReq, hb, State.plain]
  · rw [State.hostFrame_asked h rfl]
    simp [State.quoteReq, hb, State.plain]
  · exact (State.hostFrame_asked h rfl).trans (State.certReq_part (s := s.asked t 0x31) hl h1 h0 ho)
  · refine ⟨(s.asked t 1).challengeFor f, _, State.does_eq _ _ _ _ ?_, rfl, hx, rfl, rfl, ?_, rfl, rfl, rfl, ?_⟩
    · exact (State.hostFrame_asked h rfl).trans (State.openReq_challenges hl hb ha hk hkey hx)
    · show s.tdp.session.isSome = false
      rw [hx]; rfl
    · rw [State.challengeFor_out (s := s.asked t 1) hx, s.asked_rd t 1 (by decide)]
      rfl
  · refine ⟨(s.asked t 2).openWith c key f, _, State.does_eq _ _ _ _ ?_, rfl, rfl, rfl, rfl, rfl, rfl, rfl, rfl, rfl, rfl, ?_, ?_⟩
    · exact (State.hostFrame_asked h rfl).trans (State.openSession_opens hc hk hb hp hn hl)
    · show (s.at t).now + (s.asked t 2).rd O.LEASE_TIME * ms = _
      rw [s.asked_rd t 2 (by decide)]
    · rw [State.openWith_out (s := s.asked t 2) hx]
      rfl

end

section
/-! PROOF. The timers of the TDP server (R57, R60, R63, R66, R81), each at its moment. -/

namespace Sys2Proof.Machine

variable {s : State}

theorem State.due_of {t0 d : Nat} (h : t0 + d ≤ s.now) : s.due t0 d = true := decide_eq_true h

theorem State.challengeExpired_due {c : Challenge} (hc : s.tdp.challenge = some c) (h : c.issued + sec ≤ s.now) :
    s.challengeExpired = { s with tdp := { s.tdp with challenge := none } } := by
  simp only [State.challengeExpired, hc, State.due_of h, ↓reduceIte]

/-- R66: the session goes, and the notice mask with it. -/
theorem State.endSession_open {x : Session} (hx : s.tdp.session = some x) :
    s.endSession =
      ({ s with tdp := { s.tdp with session := none } } : State).wr O.NOTICE_MASK (Dict.dflt O.NOTICE_MASK) := by
  simp only [State.endSession, hx]

theorem State.endSession_rd {x : Session} (hx : s.tdp.session = some x) {k : Nat} (h : k ≠ O.NOTICE_MASK) :
    s.endSession.rd k = s.rd k := by
  rw [State.endSession_open hx, State.rd_wr_ne _ _ _ _ h.symm]
  rfl

section

variable {x : Session} (hx : s.tdp.session = some x) (h : x.leaseEnd ≤ s.now)

include hx h

/-! R63: the session ends, and LEASE_LOSS_ACTION says what follows. -/

theorem State.leaseExpired_nothing (h2 : s.rd O.LEASE_LOSS_ACTION ≠ 2) (h3 : s.rd O.LEASE_LOSS_ACTION ≠ 3) :
    s.leaseExpired = s.endSession := by
  simp only [State.leaseExpired, hx, h, ↓reduceIte, State.endSession_rd hx (k := O.LEASE_LOSS_ACTION) (by decide)]

theorem State.leaseExpired_pauses (h2 : s.rd O.LEASE_LOSS_ACTION = 2) :
    s.leaseExpired = { s.endSession with acts := s.endSession.acts ++ [.pausePrint] } := by
  simp only [State.leaseExpired, hx, h, ↓reduceIte, State.endSession_rd hx (k := O.LEASE_LOSS_ACTION) (by decide), h2]

theorem State.leaseExpired_safe (h3 : s.rd O.LEASE_LOSS_ACTION = 3) : s.leaseExpired = s.endSession.requestSafe 2 5 2 := by
  simp only [State.leaseExpired, hx, h, ↓reduceIte, State.endSession_rd hx (k := O.LEASE_LOSS_ACTION) (by decide), h3]

end

/-- R81: the stage goes, with a notice of how many values it held. -/
theorem State.stageExpired_due {idx : Nat} {x : Session} {g : Stage} (hx : s.tdp.session = some x)
    (hg : x.stages.find? (fun g => g.index == idx) = some g) (h : g.since + s.rd O.REC_STAGE_TIMEOUT * ms ≤ s.now) :
    s.stageExpired idx = (s.dropStage idx).notice 8 2 1 idx 0xff [toByte g.vals.length] := by
  simp only [State.stageExpired, hx, Option.bind_some, hg, State.due_of h, ↓reduceIte]

end Sys2Proof.Machine

open Sys2Proof Sys2Proof.Machine

/-- Settles O18: each timer at its moment; the three cases of the lease are those of LEASE_LOSS_ACTION. -/
theorem sessionTimers : Obligations.SessionTimers := by
  refine ⟨fun s t c hc h => State.does_eq _ _ _ _ (State.challengeExpired_due hc h),
    fun s t h => State.does_eq _ _ _ _ (if_pos h), fun s t x hx h => ?_,
    fun s t idx x g hx hg h => State.does_eq _ _ _ _ (State.stageExpired_due (s := s.at t) hx hg h)⟩
  have he := State.endSession_open (s := s.at t) hx
  refine ⟨fun h2 h3 => State.does_eq _ _ _ _ ?_, fun h2 => State.does_eq _ _ _ _ ?_, fun h3 => State.does_eq _ _ _ _ ?_⟩
  · rw [State.leaseExpired_nothing (s := s.at t) hx h h2 h3, he]
  · rw [State.leaseExpired_pauses (s := s.at t) hx h h2, he]
    rfl
  · rw [State.leaseExpired_safe (s := s.at t) hx h h3, he]
    rfl

end

section
/-! PROOF. How the part comes to its IPv4 address (R42 to R45, R914). -/

namespace Sys2Proof.Machine

variable {s : State}

theorem State.netUp_dynamic {speed : Nat} (ha : s.awake = true) (hs : speed = 10 ∨ speed = 100 ∨ speed = 1000)
    (hm : s.effective O.NET_MODE ≠ 0) :
    s.netUp speed = (s.updNet fun n => { n with linkUp := true, speed := speed }).acquire := by
  rcases hs with rfl | rfl | rfl <;> simp [State.netUp, ha, hm]

theorem State.netUp_fixed {speed : Nat} (ha : s.awake = true) (hs : speed = 10 ∨ speed = 100 ∨ speed = 1000)
    (hm : s.effective O.NET_MODE = 0) :
    s.netUp speed = s.updNet fun n => { n with linkUp := true, speed := speed } := by
  rcases hs with rfl | rfl | rfl <;> simp [State.netUp, ha, hm]

theorem State.dhcpLease_taken {addr : Nat} (mask gateway seconds : Nat) (ha : s.awake = true) (hm : s.effective O.NET_MODE ≠ 0)
    (hl : s.net.linkUp = true) (h0 : addr ≠ 0) :
    s.dhcpLease addr mask gateway seconds =
      (s.setAddress addr mask gateway 1).updNet fun n => { n with leaseEnd := s.now + seconds * sec } := by
  simp [State.dhcpLease, ha, hm, hl, h0]

/-- The first address, or the same one again, ends no session. -/
theorem State.setAddress_first {addr : Nat} (mask gateway source : Nat) (h : s.net.addr = 0 ∨ s.net.addr = addr) :
    s.setAddress addr mask gateway source = s.updNet fun n =>
      { n with addr := addr, mask := mask, gateway := gateway, source := source, probing := false, conflicts := 0, since := s.now } := by
  simp [State.setAddress, h]

/-- A change from another address ends the session. -/
theorem State.setAddress_change {addr : Nat} (mask gateway source : Nat) (h0 : s.net.addr ≠ 0) (h : s.net.addr ≠ addr) :
    s.setAddress addr mask gateway source = s.dropTdp.updNet fun n =>
      { n with addr := addr, mask := mask, gateway := gateway, source := source, probing := false, conflicts := 0, since := s.now } := by
  simp [State.setAddress, h0, h]

theorem State.endSession_tdp (s : State) : s.endSession.tdp = { s.tdp with session := none } := by
  unfold State.endSession
  split
  · rfl
  · next h => rw [← h]

theorem State.endSession_acts (s : State) : s.endSession.acts = s.acts := by
  unfold State.endSession
  split <;> rfl

theorem State.dhcpTimedOut_due (ha : s.awake = true) (hm : s.effective O.NET_MODE = 2) (hl : s.net.linkUp = true)
    (h0 : s.net.addr = 0) (hp : s.net.probing = false) (hc : s.net.conflicts = 0)
    (hd : s.net.since + s.effective O.DHCP_TIMEOUT * sec ≤ s.now) : s.dhcpTimedOut = s.probe := by
  simp [State.dhcpTimedOut, ha, hm, hl, h0, hp, hc, State.due_of hd]

theorem State.localConflict_probed (ha : s.awake = true) (hp : s.net.probing = true) : s.localConflict = s.nextLocal := by
  simp [State.localConflict, ha, hp]

/-- R44: the first fifteen conflicts are each followed by another probe. -/
theorem State.nextLocal_again (h : s.net.conflicts < 15) :
    s.nextLocal = (s.updNet fun n => { n with
      linkLocalS := (n.linkLocalS + 1) % 2 ^ 32, conflicts := n.conflicts + 1, probing := false, since := s.now }).probe :=
  if_pos (show s.net.conflicts + 1 < 16 by omega)

theorem State.nextLocal_last (h : s.net.conflicts = 15) :
    s.nextLocal = s.updNet fun n => { n with
      linkLocalS := (n.linkLocalS + 1) % 2 ^ 32, conflicts := n.conflicts + 1, probing := false, since := s.now } :=
  if_neg (show ¬ s.net.conflicts + 1 < 16 by omega)

theorem State.localTaken_due (ha : s.awake = true) (hp : s.net.probing = true) (hd : s.net.since + 4 * sec ≤ s.now) :
    s.localTaken = (s.setAddress (linkLocalAddress s.net.linkLocalS) 0xffff0000 0 2).emit
      (.arp 1 (linkLocalAddress s.net.linkLocalS)) := by
  simp [State.localTaken, ha, hp, State.due_of hd]

theorem State.localRetry_due (ha : s.awake = true) (hc : s.net.conflicts = 16) (hd : s.net.since + 60 * sec ≤ s.now) :
    s.localRetry = s.acquire := by
  simp [State.localRetry, ha, hc, State.due_of hd]

theorem State.dhcpAgain_due (ha : s.awake = true) (hm : s.effective O.NET_MODE = 2) (hs : s.net.source = 2)
    (hd : s.net.since + 60 * sec ≤ s.now) : s.dhcpAgain = (s.updNet fun n => { n with since := s.now }).discover := by
  simp [State.dhcpAgain, ha, hm, hs, State.due_of hd]

end Sys2Proof.Machine

open Sys2Proof Sys2Proof.Machine

/-- Settles O19, clause by clause: each command of spec/02's address acquisition in the state in which it acts. -/
theorem addressAcquisition : Obligations.AddressAcquisition := by
  refine ⟨fun s t speed ha hs => ⟨fun hm => State.does_eq _ _ _ _ ?_, fun hm => State.does_eq _ _ _ _ ?_⟩,
    fun s t addr mask gateway seconds ha hm hl h0 hc => State.does_eq _ _ _ _ ?_,
    fun s t addr mask gateway seconds ha hm hl h0 h1 hc => ?_,
    fun s t ha hm hl h0 hp hc hd => State.does_eq _ _ _ _ ?_,
    fun s t ha hp => ⟨fun h => State.does_eq _ _ _ _ ?_, fun h => State.does_eq _ _ _ _ ?_,
      fun h0 hd => State.does_eq _ _ _ _ ?_⟩,
    fun s t ha hc hd => State.does_eq _ _ _ _ ?_, fun s t ha hm hs hd => State.does_eq _ _ _ _ ?_⟩
  · exact State.netUp_dynamic (s := s.at t) ha hs hm
  · exact State.netUp_fixed (s := s.at t) ha hs hm
  · rw [State.dhcpLease_taken (s := s.at t) mask gateway seconds ha hm hl h0, State.setAddress_first (s := s.at t) _ _ _ hc]
    rfl
  · refine ⟨_, State.does_eq _ _ _ (fun _ => (s.at t).dhcpLease addr mask gateway seconds) rfl, ?_⟩
    rw [State.dhcpLease_taken (s := s.at t) mask gateway seconds ha hm hl h0, State.setAddress_change (s := s.at t) _ _ _ h1 hc]
    exact ⟨rfl, rfl, congrArg Tdp.session (s.at t).endSession_tdp, rfl, (s.at t).endSession_acts⟩
  · exact State.dhcpTimedOut_due (s := s.at t) ha hm hl h0 hp hc hd
  · exact (State.localConflict_probed (s := s.at t) ha hp).trans (State.nextLocal_again (s := s.at t) h)
  · rw [State.localConflict_probed (s := s.at t) ha hp, State.nextLocal_last (s := s.at t) h]
    simp [State.updNet, h]
  · rw [State.localTaken_due (s := s.at t) ha hp hd, State.setAddress_first (s := s.at t) _ _ _ (.inl h0)]
    rfl
  · exact State.localRetry_due (s := s.at t) ha hc hd
  · exact State.dhcpAgain_due (s := s.at t) ha hm hs hd

end

section
/-! PROOF. Resets and the boot ROM (R102 to R113, R875). -/

namespace Sys2Proof.Machine

/-! ### What a reset leaves and drives -/

theorem State.foldl_emit_out (s : State) (os : List Out) : (os.foldl State.emit s).out = s.out ++ os := by
  induction os generalizing s with
  | nil => simp
  | cons o os ih => simp [ih, State.emit]

theorem State.resetLevels_out (s : State) (cause : Nat) :
    (s.resetLevels cause).out = s.out ++ resetOuts s.boot.pins.xspiLowUntil cause :=
  s.foldl_emit_out _

theorem State.afterReset_watchdogCount (s : State) (env : BootEnv) {cause : Nat} (h : cause ≠ 2) :
    (s.afterReset env cause).boot.watchdogCount = 0 :=
  if_neg h

theorem State.resetTakeEffect_due {s : State} {env : BootEnv} {cause since : Nat} (hp : s.boot.pendingReset = some (cause, since))
    (h : since + 10 * ms ≤ s.now) : s.resetTakeEffect env = s.resetFor env cause := by
  have hd : s.due since (10 * ms) = true := decide_eq_true h
  simp only [State.resetTakeEffect, hp, hd, ↓reduceIte]

section

variable {s : State} {core : Nat} (hc : core < 2) (hp : s.power.state < 3) (hn : s.boot.pendingReset = none)

include hc hp hn

theorem State.watchdogReset_ready (hb : s.boot.phase = .ready) :
    s.watchdogReset core = ({ s with boot := { s.boot with watchdogCount := 0 } } : State).resetSoon 2 := by
  simp [State.watchdogReset, Nat.not_le.mpr hc, Nat.not_le.mpr hp, hn, hb]

theorem State.watchdogReset_applied (hb : s.boot.phase = .applied) :
    s.watchdogReset core =
      ({ s with boot := { s.boot with watchdogCount := s.boot.watchdogCount + 1 } } : State).resetSoon 2 := by
  simp [State.watchdogReset, Nat.not_le.mpr hc, Nat.not_le.mpr hp, hn, hb]

end

/-! ### The boot ROM (R105, R106, R110) -/

section

variable {s : State} {env : BootEnv} (hm : s.boot.straps % 4 ≠ 3) (hd : bits s.boot.straps 4 3 ≠ 3)

include hm hd

theorem State.bootRom_pllFail (hp : env.pllFail = true) : s.bootRom env = s.hold 0x84 := by
  simp only [State.bootRom, hm, hd, hp, ↓reduceIte]

variable (hp : env.pllFail = false)

include hp

theorem State.bootRom_parityBad (hb : env.parityBad = true) : s.bootRom env = s.hold 0x81 := by
  simp only [State.bootRom, hm, hd, hp, hb, Bool.false_eq_true, ↓reduceIte]

variable (hb : env.parityBad = false)

include hb

/-- No slot runs: the part holds with the code of that, but for the other PLLs, which the loader of a slot finds. -/
theorem State.bootRom_noSlot {code : Nat} (hs : s.chooseSlot env = .error code) :
    s.bootRom env = s.flashOctal.hold (if code = 0x83 && env.latePllFail then 0x84 else code) := by
  have hs' : s.flashOctal.chooseSlot env = .error code := hs
  simp only [State.bootRom, hm, hd, hp, hb, hs', Bool.false_eq_true, ↓reduceIte]

theorem State.bootRom_latePllFail {slot fb : Nat} (hs : s.chooseSlot env = .ok (slot, fb)) (hl : env.latePllFail = true) :
    s.bootRom env = s.flashOctal.hold 0x84 := by
  have hs' : s.flashOctal.chooseSlot env = .ok (slot, fb) := hs
  simp only [State.bootRom, hm, hd, hp, hb, hs', hl, Bool.false_eq_true, ↓reduceIte]

end

/-- With a slot that runs, boot comes to the training of step 8: what follows the choice of the slot leaves its fields alone. -/
theorem State.bootRom_slot {s : State} {env : BootEnv} (hm : s.boot.straps % 4 ≠ 3) (hd : bits s.boot.straps 4 3 ≠ 3)
    (hp : env.pllFail = false) (hb : env.parityBad = false) {slot fb : Nat} (hs : s.chooseSlot env = .ok (slot, fb))
    (hl : env.latePllFail = false) :
    (s.bootRom env).boot.phase = .training ∧ (s.bootRom env).boot.slot = slot ∧ (s.bootRom env).boot.fallback = fb := by
  have hs' : s.flashOctal.chooseSlot env = .ok (slot, fb) := hs
  simp only [State.bootRom, hm, hd, hp, hb, hs', hl, Bool.false_eq_true, ↓reduceIte]
  exact ⟨rfl, rfl, rfl⟩

theorem Flash.bootSlot_le (f : Flash) : f.bootSlot ≤ 1 := by
  unfold Flash.bootSlot
  split
  · split <;> decide
  · decide

/-- A slot whose loader fails its checks does not run, whichever is tried first. -/
theorem State.chooseSlot_neither {s : State} {env : BootEnv} (hm : s.boot.straps % 4 = 0) (h0 : s.loaderOk env 0 = false)
    (h1 : s.loaderOk env 1 = false) : s.chooseSlot env = .error 0x82 := by
  have hk (k : Nat) (hk : k ≤ 1) : s.loaderOk env k = false := by
    obtain rfl | rfl : k = 0 ∨ k = 1 := by omega
    · exact h0
    · exact h1
  have hb := s.flash.bootSlot_le
  simp only [State.chooseSlot, hm, h0, h1]
  split <;> simp [hk, hb]

/-! ### Step 11 (R106, R109, R111) -/

theorem State.bootReady_applied {s : State} (hp : s.boot.phase = .applied) (hc : s.calState ≠ 0) :
    s.bootReady =
      { s with
        boot := { s.boot with phase := .ready, watchdogCount := 0, code := (if s.boot.code = 0x85 then 0x85 else 0xa)
                              bootTime := min (2 ^ 32 - 1) ((s.now - s.boot.released) / 1000000) }
        power := { s.power with state := 1, target := 0xff } } := by
  have hb : (s.boot.phase != .applied) = false := by simp [hp]
  simp only [State.bootReady, hb, Bool.false_eq_true, ↓reduceIte]
  exact if_neg hc

end Sys2Proof.Machine

open Sys2Proof Sys2Proof.Machine

/-- Settles O20: each field that a reset leaves, the outputs in the order of resetOuts, and the reset that waits. -/
theorem resetsTakeEffect : Obligations.ResetsTakeEffect := by
  refine ⟨fun s env cause => ⟨rfl, rfl, rfl, rfl, rfl, rfl, rfl, rfl, rfl, rfl, rfl, rfl, rfl, s.afterReset_watchdogCount env⟩,
    fun _ _ _ => ⟨rfl, rfl⟩, fun u cause => ?_, fun s t env cause since hp h => State.does_eq _ _ _ _ ?_,
    fun s t core hc hp hn => ⟨fun hb => State.does_eq _ _ _ _ ?_, fun hb => State.does_eq _ _ _ _ ?_⟩⟩
  · rw [State.resetLevels_out]
    simp only [resetOuts, ← List.append_assoc]
    rfl
  · exact State.resetTakeEffect_due (s := s.at t) hp h
  · exact State.watchdogReset_ready (s := s.at t) hc hp hn hb
  · exact State.watchdogReset_applied (s := s.at t) hc hp hn hb

/-- Settles O21: the checks of the boot ROM in their order, and step 11. -/
theorem bootRom : Obligations.BootRom := by
  refine ⟨fun s env => ⟨fun hm => ?_, fun hm hd => ?_, fun hm hd => ⟨fun hp => ?_, fun hp hb => ?_, fun hp hb =>
    ⟨fun h0 hA hB => ?_, fun slot fb hs => ⟨fun hl => ?_, fun hl => State.bootRom_slot hm hd hp hb hs hl⟩, fun code hs hl => ?_⟩⟩⟩,
    fun s t hp hc => State.does_eq _ _ _ _ (State.bootReady_applied (s := s.at t) hp hc)⟩
  · rw [State.bootRom, if_pos hm]
    exact ⟨rfl, rfl⟩
  · rw [State.bootRom, if_neg hm, if_pos hd]
    exact ⟨rfl, rfl⟩
  · rw [State.bootRom_pllFail hm hd hp]
    exact ⟨rfl, rfl⟩
  · rw [State.bootRom_parityBad hm hd hp hb]
    exact ⟨rfl, rfl⟩
  · rw [State.bootRom_noSlot hm hd hp hb (State.chooseSlot_neither h0 hA hB)]
    exact ⟨rfl, rfl⟩
  · rw [State.bootRom_latePllFail hm hd hp hb hs hl]
    exact ⟨rfl, rfl⟩
  · rw [State.bootRom_noSlot hm hd hp hb hs]
    simp [hl, State.hold]

end

section
/-! PROOF. The TAP (R107, R112, R899 to R901, R201): what each instruction reads and drives, and what an area of the flash reads as after
it was written. -/

namespace Sys2Proof.Machine

/-! ### Instructions (R899 to R901) -/

/-- The instruction x is in the TAP. -/
def State.tapHolds (s : State) (x : TapScan) : State := { s with under := { s.under with tap := x.ir } }

section

variable {s : State} {x : TapScan} (ho : s.power.state ≠ 4)

include ho

theorem State.tapInstruction_sample (hi : x.ir = 1) : s.tapInstruction x = (s.tapHolds x).scanCells x := by
  simp [State.tapInstruction, ho, hi, State.tapHolds]

theorem State.tapInstruction_extest (hi : x.ir = 2) (ha : s.scanActs = true) :
    s.tapInstruction x = ((s.tapHolds x).scanCells x).takeBalls := by
  have ha' : (s.tapHolds x).scanActs = true := ha
  simp only [State.tapHolds, hi] at ha'
  simp only [State.tapInstruction, ho, hi, State.tapHolds, ha', ↓reduceIte]

theorem State.tapInstruction_idcode (hi : x.ir = 3) : s.tapInstruction x = (s.tapHolds x).emit (.tap 32 0xb7416a4b) := by
  simp [State.tapInstruction, ho, hi, State.tapHolds]

theorem State.tapInstruction_takesBalls (hi : x.ir = 4 ∨ x.ir = 5) : s.tapInstruction x = (s.tapHolds x).bypass.takeBalls := by
  rcases hi with hi | hi <;> simp [State.tapInstruction, ho, hi, State.tapHolds]

theorem State.tapInstruction_bootCode (hi : x.ir = 6) :
    s.tapInstruction x = (s.tapHolds x).shownBootCode.2.emit (.tap 8 (s.tapHolds x).shownBootCode.1) := by
  simp [State.tapInstruction, ho, hi, State.tapHolds]

/-- Outside ROM hold and safe state EXTEST, CLAMP and HIGHZ act as BYPASS (R901). -/
theorem State.tapInstruction_barred (hi : x.ir = 2 ∨ x.ir = 4 ∨ x.ir = 5) (ha : s.scanActs = false) :
    s.tapInstruction x = (s.tapHolds x).bypass := by
  have ht : (s.tapHolds x).bypass.takeBalls = (s.tapHolds x).bypass := by
    have hb : (s.tapHolds x).bypass.ballsTaken = none := by
      have ha' : (s.tapHolds x).bypass.scanActs = false := ha
      simp [State.ballsTaken, ha']
    rw [State.takeBalls, hb]
  rcases hi with hi | hi
  · have ha' : (s.tapHolds x).scanActs = false := ha
    simp only [State.tapHolds, hi] at ha'
    simp only [State.tapInstruction, ho, hi, State.tapHolds, ha', Bool.false_eq_true, ↓reduceIte]
  · rw [State.tapInstruction_takesBalls ho hi, ht]

end

/-- What the TAP puts on the balls where its instructions act. -/
theorem State.takeBalls_cells {s : State} (ha : s.scanActs = true) (ht : s.under.tap = 2 ∨ s.under.tap = 4) :
    s.takeBalls = s.emit (.balls (some (drivingCells s.under.cells))) := by
  have hb : s.ballsTaken = some (some (drivingCells s.under.cells)) := by simp [State.ballsTaken, ha, ht]
  rw [State.takeBalls, hb]

theorem State.takeBalls_highz {s : State} (ha : s.scanActs = true) (ht : s.under.tap = 5) : s.takeBalls = s.emit (.balls none) := by
  have hb : s.ballsTaken = some none := by simp [State.ballsTaken, ha, ht]
  rw [State.takeBalls, hb]

theorem State.scanActs_iff (s : State) : s.scanActs = true ↔ s.boot.phase = .hold ∨ s.safe.active = true := by
  simp [State.scanActs]

/-! ### BOOT_CODE (R107) -/

theorem latestStep_le (since : Nat) : latestStep since ≤ 7 := List.length_filter_le _ _

theorem State.shownBootCode_fixed {s : State} (h : s.boot.phase ≠ .training) : s.shownBootCode = (s.boot.code, s) := by
  simp [State.shownBootCode, h]

/-- While the ROM and the loader run the code of a step that may have begun is shown, and no lower one afterwards. -/
theorem State.shownBootCode_training {s : State} (h : s.boot.phase = .training) (hc : s.boot.code < 7) :
    ∃ code draws, s.boot.code ≤ code ∧ code ≤ 7 ∧ latestStep (s.now - s.boot.released) ≤ code ∧
      s.shownBootCode = (code, { s with draws := draws, boot := { s.boot with code := code } }) := by
  have hl := latestStep_le (s.now - s.boot.released)
  have hb : (s.boot.phase != .training || decide (7 ≤ s.boot.code)) = false := by simp [h, hc]
  refine ⟨max s.boot.code (latestStep (s.now - s.boot.released)) +
    (Config.free s.draws).toNat % (8 - max s.boot.code (latestStep (s.now - s.boot.released))), s.draws + 1, by omega, ?_,
    by omega, ?_⟩
  · have hm := Nat.mod_lt (Config.free s.draws).toNat
      (show 0 < 8 - max s.boot.code (latestStep (s.now - s.boot.released)) by omega)
    omega
  · simp only [State.shownBootCode, hb, Bool.false_eq_true, ↓reduceIte]
    rfl

/-! ### The flash (R112) -/

section

variable {s : State} {area : Nat}

theorem State.tapFlash_write (hb : s.boot.phase = .hold) (ha : area < 14) (w : FlashWrite) :
    s.tapFlash area (some w) = { s with flash := s.flash.tapWrite area w.image } := by
  simp [State.tapFlash, hb, Nat.not_le.mpr ha]

theorem State.tapFlash_read (hb : s.boot.phase = .hold) (ha : area < 14) :
    s.tapFlash area none =
      s.draw.2.emit (.tap (8 * (s.flash.tapRead area s.draws).length) (leNat (s.flash.tapRead area s.draws))) := by
  simp [State.tapFlash, hb, Nat.not_le.mpr ha, State.draw]

theorem State.tapFlash_barred (hb : s.boot.phase ≠ .hold) (w : Option FlashWrite) : s.tapFlash area w = s := by
  simp [State.tapFlash, hb]

end

/-- A sparse map finds what was put into it. -/
theorem find?_mapPut {α : Type} (m : List (Nat × α)) (k : Nat) (v : α) (h : ∀ e ∈ m, e.1 ≠ k) :
    (mapPut m k v).find? (·.1 == k) = some (k, v) := by
  induction m with
  | nil => simp [mapPut]
  | cons e rest ih =>
    have he : e.1 ≠ k := h e (by simp)
    simp only [mapPut]
    split
    · simp
    · simpa [he] using ih fun x hx => h x (by simp [hx])

/-- The chunk ring reads as far as it was written. -/
theorem ring_read (n : Nat) (bs : List Byte) (h : bs.length ≤ n) :
    ((List.range n).map fun i => mapGet (cellsOf (fun _ => 0xff#8) 0 (bs.take n)) i 0xff#8).take bs.length = bs := by
  refine List.ext_getElem (by simp [h]) fun i _ hi => ?_
  have hg := mapGet_cellsOf (fun _ => 0xff#8) (bs.take n) 0 i
  simp [List.take_of_length_le h, hi] at hg ⊢
  exact hg

section

variable (f : Flash) {area : Nat} (draw : Nat) (bs : List Byte)

theorem Flash.tapRead_tapWrite (ha : area < 14) (hr : area ≠ 11) : (f.tapWrite area bs).tapRead area draw = bs := by
  have ht : (mapPut (mapErase f.tapped area) area bs).find? (·.1 == area) = some (area, bs) :=
    find?_mapPut _ area bs (mapErase_ne f.tapped area)
  rcases show area = 0 ∨ area = 1 ∨ 2 ≤ area ∧ area < 10 ∨ area = 10 ∨ 12 ≤ area by omega with rfl | rfl | ⟨h2, h10⟩ | rfl | h12
  · rfl
  · rfl
  · simp only [Flash.tapWrite, Flash.tapRead, show area ≠ 0 by omega, show area ≠ 1 by omega, show ¬ area < 2 by omega, h10, hr,
      ↓reduceIte, ht]
  · simp only [Flash.tapWrite, Flash.tapRead, Nat.reduceEqDiff, Nat.reduceLT, ↓reduceIte, ht]
  · simp only [Flash.tapWrite, Flash.tapRead, show area ≠ 0 by omega, show area ≠ 1 by omega, show ¬ area < 2 by omega,
      show ¬ area < 10 by omega, show area ≠ 10 by omega, hr, ↓reduceIte, ht]

theorem Flash.tapRead_tapWrite_ring (h : bs.length ≤ 16646144) :
    ((f.tapWrite 11 bs).tapRead 11 draw).take bs.length = bs := by
  simp only [Flash.tapWrite, Flash.tapRead, Nat.reduceEqDiff, Nat.reduceLT, ↓reduceIte]
  exact ring_read 16646144 bs h

theorem Flash.tapWrite_bank (h2 : 2 ≤ area) (h10 : area < 10) :
    (f.tapWrite area bs).bank = f.bank.modify (area - 2) fun _ => BankSlot.read bs := by
  simp [Flash.tapWrite, show area ≠ 0 by omega, show area ≠ 1 by omega, h10]

/-- No area changes what another one holds. -/
theorem Flash.tapWrite_elsewhere :
    ((area < 2 ∨ 10 ≤ area) → (f.tapWrite area bs).bank = f.bank) ∧
    (area ≠ 0 → (f.tapWrite area bs).slotA = f.slotA) ∧ (area ≠ 1 → (f.tapWrite area bs).slotB = f.slotB) ∧
    (area ≠ 10 → (f.tapWrite area bs).bootCount = f.bootCount) ∧ (area ≠ 11 → (f.tapWrite area bs).ring = f.ring) := by
  unfold Flash.tapWrite
  refine ⟨fun h => ?_, fun h => ?_, fun h => ?_, fun h => ?_, fun h => ?_⟩ <;> grind

end

end Sys2Proof.Machine

open Sys2Proof Sys2Proof.Machine

/-- Settles O22: each instruction by what the TAP puts on the balls with it, and each area by where tapWrite keeps it. -/
theorem tapAccess : Obligations.TapAccess := by
  refine ⟨fun s t x ho => ⟨fun hi => ?_, fun hi hb => ?_, fun hi hb hc => ?_, fun hi => ?_, fun hi hb hs => ?_, fun ha => ?_⟩,
    fun s t x ho => State.does_eq _ _ _ _ (if_pos ho),
    fun s t w hb => ⟨State.does_eq _ _ _ _ ?_, State.does_eq _ _ _ _ ?_, fun area ha => State.does_eq _ _ _ _ ?_,
      fun area ha => State.does_eq _ _ _ _ ?_⟩,
    fun f area draw bs ha => ⟨f.tapRead_tapWrite draw bs ha, ?_, f.tapWrite_bank bs, f.tapWrite_elsewhere bs⟩,
    fun s t area w hb => State.does_eq _ _ _ _ (State.tapFlash_barred (s := s.at t) hb w)⟩
  · refine State.does_eq _ _ _ _ ?_
    rw [State.tapInstruction_idcode (s := s.at t) ho hi, State.tapHolds, hi]
  · refine State.does_eq _ _ _ _ ?_
    rw [State.tapInstruction_bootCode (s := s.at t) ho hi, State.shownBootCode_fixed (s := (s.at t).tapHolds x) hb,
      State.tapHolds, hi]
  · obtain ⟨code, draws, hlo, hhi, hl, hs⟩ := State.shownBootCode_training (s := (s.at t).tapHolds x) hb hc
    refine ⟨code, draws, hlo, hhi, hl, State.does_eq _ _ _ _ ?_⟩
    rw [State.tapInstruction_bootCode (s := s.at t) ho hi, hs, State.tapHolds, hi]
  · refine State.does_eq _ _ _ _ ?_
    rw [State.tapInstruction_sample (s := s.at t) ho hi, State.tapHolds, hi]
    rfl
  · refine State.does_eq _ _ _ _ ?_
    have ha : (s.at t).scanActs = false :=
      Bool.eq_false_iff.mpr fun h => ((s.at t).scanActs_iff.mp h).elim hb (by simp [hs])
    exact State.tapInstruction_barred (s := s.at t) ho hi ha
  · have ha' : (s.at t).scanActs = true := (s.at t).scanActs_iff.mpr ha
    refine ⟨fun hi => State.does_eq _ _ _ _ ?_, fun hi => State.does_eq _ _ _ _ ?_, fun hi => State.does_eq _ _ _ _ ?_⟩
    · rw [State.tapInstruction_extest (s := s.at t) ho hi ha',
        State.takeBalls_cells (s := ((s.at t).tapHolds x).scanCells x) ha' (.inl hi), State.tapHolds, hi]
      simp [State.scanCells, State.emit]
    · rw [State.tapInstruction_takesBalls (s := s.at t) ho (.inl hi),
        State.takeBalls_cells (s := ((s.at t).tapHolds x).bypass) ha' (.inr hi), State.tapHolds, hi]
      simp [State.bypass, State.emit]
    · rw [State.tapInstruction_takesBalls (s := s.at t) ho (.inr hi),
        State.takeBalls_highz (s := ((s.at t).tapHolds x).bypass) ha' hi, State.tapHolds, hi]
      simp [State.bypass, State.emit]
  · exact State.tapFlash_write (s := s.at t) hb (by decide) w
  · exact State.tapFlash_write (s := s.at t) hb (by decide) w
  · exact State.tapFlash_write (s := s.at t) hb ha w
  · exact State.tapFlash_read (s := s.at t) hb ha
  · rintro rfl h
    exact f.tapRead_tapWrite_ring draw bs h

end

section
/-! PROOF. The memory plan and the four values of JOB_CONTROL (R205, R209 to R211, R218, R223, R237, R239). -/

namespace Sys2Proof.Machine

/-! ### A new state of the shadow set (R236) -/

/-- A set that enters a state leaves what a notice leaves, the state, and nothing else. -/
theorem State.enterSet_from {s : State} {st : SetState} (h : s.jobs.state ≠ st) :
    ({ s with jobs := { s.jobs with state := st } } : State).NoticeFrom (s.enterSet st) := by
  rw [State.enterSet, if_neg h, State.jobNotice]
  exact State.notice_from _ _ _ _ _ _ _

theorem State.enterSet_jobs {s : State} {st : SetState} (h : s.jobs.state ≠ st) :
    (s.enterSet st).jobs = { s.jobs with state := st } := by
  rw [(State.enterSet_from h).1]

theorem State.enterSet_rd {s : State} {st : SetState} (h : s.jobs.state ≠ st) {k : Nat} (hk : k ≠ O.NOTICES_LOST) :
    (s.enterSet st).rd k = s.rd k :=
  (State.enterSet_from h).2 k hk

theorem State.wrs_eq (s : State) (kvs : List (Nat × Nat)) : s.wrs kvs = { s with objs := (s.wrs kvs).objs } := by
  induction kvs generalizing s with
  | nil => rfl
  | cons kv kvs ih => exact ih (s.wr kv.1 kv.2)

/-! ### The plan (R210, R218) -/

/-- The figures of the memory plan are shown. -/
def State.withPlan (s : State) : State :=
  (s.wrs [(O.MEMORY_PLAN_FIXED, s.plan.fixed), (O.ACTIVE_NEED, s.plan.active), (O.SHADOW_NEED, s.plan.shadow),
    (O.PLAN_DELAY_LINES, s.plan.delayBytes), (O.PLAN_REFERENCE, s.plan.refBytes),
    (O.MEMORY_PLAN_SHADOW_BACKGROUND, s.jobs.shadow.background),
    (O.SHADOW_QUEUE, s.jobs.shadow.rd O.PAGE_QUEUE_SIZE)]).wrI 64 O.MEMORY_PLAN_FREE s.plan.free

section

variable {s : State} (hp : s.jobs.state = .planning)

include hp

theorem State.finishPlan_fits (hf : 0 ≤ s.plan.free) :
    s.finishPlan =
      let v := s.withPlan.wr O.SET_STATUS_LAST_RESULT Status.ok
      ({ v with jobs := { v.jobs with reserved := some ⟨s.plan.depths, s.plan.refLines⟩ } } : State).enterSet .committed := by
  simp only [State.finishPlan, hp, Int.not_lt.mpr hf, bne_self_eq_false, Bool.false_eq_true, ↓reduceIte]
  rfl

theorem State.finishPlan_short (hf : s.plan.free < 0) :
    s.finishPlan = (s.withPlan.wr O.SET_STATUS_LAST_RESULT Status.range).enterSet .building := by
  simp only [State.finishPlan, hp, hf, bne_self_eq_false, Bool.false_eq_true, ↓reduceIte]
  rfl

end

/-- Outside a pair, and with control, a plan has no consequence for READY. -/
theorem State.planDone_alone {s : State} (hg : s.graft.state < 2) : s.planDone = s.finishPlan := by
  simp [State.planDone, Nat.not_le.mpr hg]

/-! ### JOB_CONTROL (R209, R239) -/

/-- The row of JOB_CONTROL. -/
def jobControlRow : ObjRow := ⟨0x2000, 1, 0x00, 1, .u8, .cmd, false, 0, .bt 1 4, .now⟩

theorem row_jobControl : Dict.row? (O.JOB_CONTROL / 256) (O.JOB_CONTROL % 256) = some jobControlRow := by decide +kernel

theorem valueOk_jobControl {v : Nat} (h1 : 1 ≤ v) (h4 : v ≤ 4) : valueOk jobControlRow v = true := by
  simp [valueOk, jobControlRow, Rng.ok, Ty.value, Ty.signed]
  omega

/-- A WRITE of one of the four values by a host with control does what the value does, and the partner hears of it. -/
theorem writes_jobControl {c : Hdr → Instr} {t v : Nat} {pre : State → Prop} {op : State → State} (h1 : 1 ≤ v) (h4 : v ≤ 4)
    (hc : ∀ h s, exec (c h) s = s.does t fun u => u.hostWrite h O.JOB_CONTROL [toByte v])
    (ho : ∀ u, pre u → u.control = true ∧ u.jobControl v = .of Status.ok (op u)) :
    Writes c t O.JOB_CONTROL [toByte v] pre fun u => (op u).forwardBytes O.JOB_CONTROL [toByte v] := by
  have hv : leNat [toByte v] = v := (leNat_natLE 1 v).trans (Nat.mod_eq_of_lt (by omega))
  refine writes_of c t _ _ jobControlRow pre _ hc (by decide)
    (findObject_of_row (by decide) (Dict.hasIndex_of_row row_jobControl) row_jobControl) rfl rfl rfl (by simp) fun u hp => ?_
  obtain ⟨hu, hr⟩ := ho u hp
  rw [hv]
  exact u.valueWrite_forwarded jobControlRow _ v _ (by decide) (by decide) (valueOk_jobControl h1 h4) (by decide)
    (by simp [State.authorityRefused, hu]) (congrArg some hr)

section

variable {u : State}

theorem State.commitSet_plans (hs : u.jobs.state = .building) (h0 : u.jobs.shadow.jobId ≠ 0)
    (ha : ¬(u.jobs.active.isSome = true ∧ u.jobs.shadow.jobId = u.activeJob)) (hc : u.jobs.shadow.commitFail = none)
    (hf : u.jobs.shadow.firingFail = none) (hm : u.cameraFail u.jobs.shadow = none) (hi : u.jobs.shadow.inspectFail = none) :
    u.commitSet = .of Status.ok ((u.enterSet .planning).wr O.SET_STATUS_LAST_RESULT Status.ok) := by
  have hb : (u.jobs.shadow.jobId = 0 || (u.jobs.active.isSome && u.jobs.shadow.jobId == u.activeJob)) = false := by
    simpa [h0] using ha
  simp only [State.commitSet, hs, hb, hc, hf, hm, hi, Bool.false_eq_true, ↓reduceIte]
  rfl

/-- A COMMIT that is refused shows its status, and changes no set. -/
theorem State.commitSet_planning (hs : u.jobs.state = .planning) :
    u.commitSet = ⟨Status.busy, [], u.wr O.SET_STATUS_LAST_RESULT Status.busy⟩ := by
  simp only [State.commitSet, hs, Reply.of]

theorem State.commitSet_state (hb : u.jobs.state ≠ .building) (hp : u.jobs.state ≠ .planning) :
    u.commitSet = ⟨Status.state, [], u.wr O.SET_STATUS_LAST_RESULT Status.state⟩ := by
  unfold State.commitSet
  cases h : u.jobs.state <;> simp_all [Reply.of]

theorem State.commitSet_range (hs : u.jobs.state = .building)
    (h : u.jobs.shadow.jobId = 0 ∨ (u.jobs.active.isSome = true ∧ u.jobs.shadow.jobId = u.activeJob)) :
    u.commitSet = ⟨Status.range, [], u.wr O.SET_STATUS_LAST_RESULT Status.range⟩ := by
  have hb : (u.jobs.shadow.jobId = 0 || (u.jobs.active.isSome && u.jobs.shadow.jobId == u.activeJob)) = true := by
    simpa using h
  simp only [State.commitSet, hs, hb, ↓reduceIte, Reply.of]

/-- DISCARD of a set in BUILDING or COMMITTED. -/
theorem State.discardSet_drops (hs : u.jobs.state = .building ∨ u.jobs.state = .committed) :
    u.discardSet = .of Status.ok (
      let v := u.dropDescs u.jobs.shadow.jobId
      ({ v with jobs := { v.jobs with shadow := fillShadow v.jobs.active, boundary := none, armStart := 0 } } : State).enterSet
        .empty) := by
  rcases hs with hs | hs <;> simp only [State.discardSet, hs]

theorem State.discardSet_armed (hs : u.jobs.state = .armed) :
    u.discardSet = .of Status.ok (
      let v := (u.updSet true fun a => { a with closed := false }).dropDescs u.jobs.shadow.jobId
      ({ v with jobs := { v.jobs with shadow := fillShadow v.jobs.active, boundary := none, armStart := 0 } } : State).enterSet
        .empty) := by
  simp only [State.discardSet, hs]
  rfl

theorem State.discardSet_late (hs : u.jobs.state = .latched ∨ u.jobs.state = .retiring) :
    u.discardSet = .of Status.state u := by
  rcases hs with hs | hs <;> simp only [State.discardSet, hs]

end

end Sys2Proof.Machine

open Sys2Proof Sys2Proof.Machine

/-- Settles O29: both ends of the plan, each value of JOB_CONTROL in its state, and the refusals in the others. -/
theorem plansAndSetStates : Obligations.PlansAndSetStates := by
  refine ⟨fun s t hp hg => ⟨fun hf => State.does_eq _ _ _ _ ?_, fun hf => ?_⟩, fun t => ⟨?_, ?_, ?_, ?_, ?_⟩, fun u =>
    ⟨fun hs => ⟨?_, ?_⟩, fun hs => ?_, fun hb hp => ?_, fun hs => if_neg hs, fun hs => if_neg hs, State.discardSet_late,
      fun hs h => ?_⟩⟩
  · rw [State.planDone_alone (s := s.at t) hg, State.finishPlan_fits (s := s.at t) hp hf]
    rfl
  · refine ⟨_, State.does_eq _ _ _ (fun _ => (s.at t).planDone) rfl, ?_⟩
    have hw : ((s.at t).withPlan.wr O.SET_STATUS_LAST_RESULT Status.range).jobs = s.jobs := by
      rw [State.wr_jobs, State.withPlan, State.wrI, State.wr_jobs, State.wrs_eq]
      rfl
    have hne : ((s.at t).withPlan.wr O.SET_STATUS_LAST_RESULT Status.range).jobs.state ≠ .building := by
      rw [hw, hp]
      decide
    rw [State.planDone_alone (s := s.at t) hg, State.finishPlan_short (s := s.at t) hp hf, State.enterSet_jobs hne,
      State.enterSet_rd hne (by decide), State.rd_wr_same, hw]
    exact ⟨rfl, rfl, rfl, rfl⟩
  · exact writes_jobControl (v := 1) (by decide) (by decide) (fun _ _ => rfl) fun u ⟨hu, hs, h0, ha, hc, hf, hm, hi⟩ =>
      ⟨hu, State.commitSet_plans hs h0 ha hc hf hm hi⟩
  · exact writes_jobControl (v := 2) (by decide) (by decide) (fun _ _ => rfl) fun u ⟨hu, hs⟩ => ⟨hu, if_pos hs⟩
  · exact writes_jobControl (v := 3) (by decide) (by decide) (fun _ _ => rfl) fun u ⟨hu, hs⟩ => ⟨hu, if_pos hs⟩
  · exact writes_jobControl (v := 4) (by decide) (by decide) (fun _ _ => rfl) fun u ⟨hu, hs⟩ => ⟨hu, State.discardSet_drops hs⟩
  · exact writes_jobControl (v := 4) (by decide) (by decide) (fun _ _ => rfl) fun u ⟨hu, hs⟩ => ⟨hu, State.discardSet_armed hs⟩
  · exact congrArg Reply.status (State.commitSet_planning hs)
  · simp only [State.jobControl, State.discardSet, hs]
  · simp only [State.jobControl, State.discardSet, hs]
  · rw [State.jobControl, State.commitSet_state hb hp]
    exact ⟨rfl, rfl⟩
  · rw [State.jobControl, State.commitSet_range hs h]
    exact ⟨rfl, rfl⟩

end

section
/-! PROOF. ARM (R221, R223): what an APPLY of record 2003h does in each mode, once its checks have passed. -/

namespace Sys2Proof.Machine

/-- The row of FFh of ARM. -/
theorem row_armApply : Dict.row? 0x2003 255 = some (applyRow 0x2003 1) := by decide +kernel

theorem applies_arm {t : Nat} {pre : State → State → Prop} {op : State → State → State}
    (h : ∀ u v, pre u v → v.armApply = .of Status.ok (op u v)) : Applies (fun h => .armApply t h 1) t 0x2003 pre op := by
  refine applies_of _ t 0x2003 (applyRow 0x2003 1) pre op (fun _ _ => rfl) (by decide)
    (findObject_of_row (by decide) (Dict.hasIndex_of_row row_armApply) row_armApply) rfl rfl rfl
    (Option.isSome_of_eq_some row_armApply) (by decide) fun u hf hr hp => ?_
  rw [u.recordOp_taken 0x2003 (by decide) (by decide) hf hr]
  exact h u _ hp

section

variable {v : State} (hf : v.armFail = none)

include hf

/-- ARM in mode 1 or 2, or once more in ARMED. -/
theorem State.armApply_arms (h : ¬(v.rd O.ARM_MODE = 0 ∧ v.jobs.state = .committed)) :
    v.armApply =
      let a := v.arm (v.rd O.ARM_MODE) (v.rd O.ARM_BOUNDARY)
      let b := (a.latchAt a.hwmLine).composeTo (a.hwmLine + 256) 1024
      .of Status.ok (({ b with graft := { b.graft with planned := v.rd O.ARM_MODE != 0 && bit (v.rd O.ARM_FLAGS) 0 } } : State).wr
        O.SET_STATUS_LAST_RESULT Status.ok) := by
  have hn : (decide (v.rd O.ARM_MODE = 0) && decide (v.jobs.state = .committed)) = false := by
    rw [← Bool.decide_and]
    exact decide_eq_false h
  simp only [State.armApply, hf, hn, Bool.false_eq_true, ↓reduceIte]

/-- ARM in mode 0 of a COMMITTED set. -/
theorem State.armApply_swaps (h0 : v.rd O.ARM_MODE = 0) (hs : v.jobs.state = .committed) :
    v.armApply =
      let b := (v.swapNow (v.rd O.ARM_BOUNDARY / 65536)).rowsSwapNow
      .of Status.ok (({ b with graft := { b.graft with planned := false } } : State).wr O.SET_STATUS_LAST_RESULT Status.ok) := by
  simp only [State.armApply, hf, h0, hs, State.arm, decide_true, Bool.and_self, ↓reduceIte]
  rfl

end

/-- A set whose boundary is fixed at line b: the queue of the active set closes, and the swap begins after the gap (R217, R223). -/
def State.armedAt (v : State) (b : Nat) : State :=
  ({ v with jobs := { v.jobs with
      boundary := some b
      armStart := b + (match v.jobs.active with | some a => v.jobGapG a v.jobs.shadow | none => 0) } } : State).closeQueue true

theorem State.arm_mode {v : State} (h : v.rd O.ARM_MODE ≠ 0) (boundary : Nat) :
    v.arm (v.rd O.ARM_MODE) boundary = (v.armedAt (v.armBoundary (v.rd O.ARM_MODE) boundary)).enterSet .armed := by
  have hn : ¬(decide (v.rd O.ARM_MODE = 0) && decide (v.jobs.state = .committed)) = true := by simp [h]
  rw [State.arm, if_neg hn, if_neg h]
  rfl

/-- In ARMED, mode 0 gives a new boundary, and the set stays ARMED (log 29). -/
theorem State.arm_again {v : State} (h : v.rd O.ARM_MODE = 0) (hs : v.jobs.state = .armed) (boundary : Nat) :
    v.arm (v.rd O.ARM_MODE) boundary = v.armedAt (boundary / 65536) := by
  have hn : ¬(decide (v.rd O.ARM_MODE = 0) && decide (v.jobs.state = .committed)) = true := by simp [hs]
  have ha : (v.armedAt (boundary / 65536)).enterSet .armed = v.armedAt (boundary / 65536) := if_pos hs
  rw [State.arm, if_neg hn, if_pos h]
  exact ha

end Sys2Proof.Machine

open Sys2Proof Sys2Proof.Machine

/-- Settles O30: the two ways of ARM, and the boundary that each fixes. -/
theorem armApplies : Obligations.ArmApplies := fun t => by
  refine ⟨applies_arm fun _ v ⟨hf, hm⟩ => ?_, applies_arm fun _ v ⟨hf, h0, hs⟩ => State.armApply_swaps hf h0 hs,
    applies_arm fun _ v ⟨hf, h0, hs⟩ => ?_⟩
  · rw [State.armApply_arms hf fun h => hm h.1, State.arm_mode hm, bne_iff_ne.mpr hm]
    rfl
  · rw [State.armApply_arms hf (by simp [hs]), State.arm_again h0 hs, h0]
    rfl

end

section
/-! PROOF. The ingest bond (R240 to R242, R246, R250, R260): how it forms and goes down, and the packets that the part sends. -/

namespace Sys2Proof.Machine

/-! ### Packets (R246) -/

theorem packetHead_length (p : TplPacket) : (packetHead p).length = 40 := by
  simp [packetHead, natLE_length]

/-- The CRC of the header is taken over the bytes before it. -/
theorem sentPacket_ok (seq : Nat) (m : MirrorPacket) : packetOk (sentPacket seq m) = true := by
  simp only [packetOk, Bool.and_eq_true, beq_iff_eq]
  exact ⟨⟨rfl, rfl⟩, rfl⟩

/-! ### The width of a bond (R240 to R242) -/

/-- A fold that keeps what it has or takes the next gives one of the list, or what it began with. -/
theorem foldl_keepOrTake {β : Type} {f : Option β → β → Option β} (h : ∀ best x, f best x = best ∨ f best x = some x)
    (xs : List β) :
    ∀ (best : Option β) (b : β), xs.foldl f best = some b → best = some b ∨ b ∈ xs := by
  induction xs with
  | nil => exact fun best b hb => .inl hb
  | cons x xs ih =>
    intro best b hb
    rcases ih _ b hb with hf | hm
    · rcases h best x with hk | ht
      · exact .inl (hk.symm.trans hf)
      · exact .inr (List.mem_cons.mpr (.inl (Option.some.inj (hf.symm.trans ht))))
    · exact .inr (List.mem_cons_of_mem _ hm)

theorem bondOf_some {up : List (Nat × Nat)} {m : Nat} {ls : List Nat} {g : Nat} (h : bondOf up m = some (ls, g)) :
    m ≤ ls.length ∧ (∀ l ∈ ls, (l, g) ∈ up) ∧ ls ∈ [[0, 1, 2, 3], [0, 1], [2, 3], [0], [1], [2], [3]] := by
  rw [bondOf] at h
  obtain ⟨ls', hls, hg⟩ := List.mem_flatMap.mp (((foldl_keepOrTake fun best x => by
    cases best with
    | none => exact .inr rfl
    | some b => exact (ite_either _ _).symm) _ _ _ h).resolve_left nofun)
  obtain ⟨g', hg', heq⟩ := List.mem_map.mp hg
  obtain ⟨rfl, rfl⟩ := Prod.mk.inj heq
  obtain ⟨hmem, hlen⟩ := List.mem_filter.mp hls
  obtain ⟨-, hall⟩ := List.mem_filter.mp hg'
  exact ⟨of_decide_eq_true hlen, fun l hl => List.contains_iff_mem.mp (List.all_eq_true.mp hall l hl), hmem⟩

/-! ### The bond forms (R242, R250, R252) -/

/-- The ingest bond as it forms, before its first CREDIT. -/
def State.bonded (s : State) (ls : List Nat) (g : Nat) : State :=
  { s with ingest := { s.ingest with
      link := 2, width := ls.length, grade := g, lanes := ls.foldl (fun n l => setBit n l true) 0, txSeq := 0
      expect := 0, limit := 4096, spent := 0, consumed := 0xffffffff, freed := 0, held := 0, gap := none, resyncs := []
      withdrawn := s.wantsWithdraw, acks := s.ingest.acks } }

theorem State.bondForm_forms {s : State} {ls : List Nat} {g : Nat} (hl : s.ingest.link ≠ 2)
    (hb : bondOf (s.lanesUp 16) (s.rd O.MIN_BOND_WIDTH) = some (ls, g)) : s.bondForm = (s.bonded ls g).sendCredit := by
  simp only [State.bondForm, hl, hb, ↓reduceIte]
  rfl

theorem State.tplSend_up {s : State} (hl : s.ingest.link = 2) (ty job page flags : Nat) (body : List Byte) :
    s.tplSend ty job page flags body =
      ({ s with ingest := { s.ingest with txSeq := (s.ingest.txSeq + 1) % 2 ^ 32 } } : State).emit
        (.tpl 0 (sentPacket s.ingest.txSeq ⟨ty, job, page, 0, 0, flags, body.length, body, 0⟩)) := by
  simp only [State.tplSend, hl, bne_self_eq_false, Bool.false_eq_true, ↓reduceIte]

/-- With nothing freed, what is granted anew is what was granted, whether credits are withdrawn or not. -/
theorem State.grant_bonded (s : State) (ls : List Nat) (g : Nat) : (s.bonded ls g).grant = s.bonded ls g := by
  rw [State.grant]
  split
  · rfl
  · rfl

end Sys2Proof.Machine

open Sys2Proof Sys2Proof.Machine

/-- Settles O31: the bond from the lanes that are up, what link-down drops, the widths, and the CRCs of a packet. -/
theorem ingestBond : Obligations.IngestBond := by
  refine ⟨fun s t ls g hl hb => ?_, fun s t hl => State.does_eq _ _ _ _ ?_, fun up m ls g h => bondOf_some h,
    fun seq m => ⟨sentPacket_ok seq m, packetHead_length _⟩⟩
  · refine ⟨_, State.does_eq _ _ _ (fun _ => ((s.at t).bonded ls g).sendCredit) (State.bondForm_forms (s := s.at t) hl hb), ?_⟩
    rw [State.sendCredit, State.grant_bonded, State.tplSend_up rfl]
    exact ⟨rfl, rfl, rfl, rfl, rfl, rfl, rfl, rfl, rfl, rfl, rfl⟩
  · simp only [State.ingestDown, State.at_ingest, hl, bne_self_eq_false, Bool.false_eq_true, ↓reduceIte]
    rfl

end

section
/-! PROOF. The mirror bond (R250 to R258, R284, R285, R779): when CREDIT is due, what the partner's packets do, and what sends them
again. -/

namespace Sys2Proof.Machine

/-! ### CREDIT (R252) -/

theorem State.sendCredit_mirror (s : State) : s.sendCredit.mirror = s.mirror := by
  simp only [State.sendCredit, State.tplSend, State.grant]
  split <;> split <;> rfl

theorem State.creditDue_ingest {s : State} (hl : s.ingest.link = 2)
    (hd : 64 ≤ s.ingest.freed ∨ s.ingest.lastCredit + 100000000 ≤ s.now) (hm : s.mirror.link ≠ 2) : s.creditDue = s.sendCredit := by
  have hdue : (decide (64 ≤ s.ingest.freed) || s.due s.ingest.lastCredit 100000000) = true := by
    simpa [State.due] using hd
  simp only [State.creditDue, hl, hdue, decide_true, Bool.and_self, ↓reduceIte, State.sendCredit_mirror, hm, decide_false,
    Bool.false_and, Bool.false_eq_true]

/-! ### The partner's answers (R250, R256, R285) -/

section

variable {s : State} (hl : s.mirror.link = 2) (hp : s.graft.pins ≠ 0)

include hl hp

theorem State.mirrorHears_of : s.mirrorHears = true := by simp [State.mirrorHears, hl, hp]

theorem State.mirrorAckRx_heard (job page : Nat) : s.mirrorAckRx job page = s.answerGot.mirrorAck job page :=
  if_pos (State.mirrorHears_of hl hp)

theorem State.mirrorCreditRx_heard (limit : Nat) : s.mirrorCreditRx limit = s.answerGot.mirrorCredit limit :=
  if_pos (State.mirrorHears_of hl hp)

theorem State.mirrorResyncRx_heard (seq : Nat) : s.mirrorResyncRx seq = s.answerGot.mirrorResync seq :=
  if_pos (State.mirrorHears_of hl hp)

end

theorem State.updPage_ingest (s : State) (job seq : Nat) (f : Page → Page) : (s.updPage job seq f).ingest = s.ingest := by
  rw [State.updPage]
  cases s.setFor job <;> rfl

theorem State.setUnmirrored_ingest (s : State) (job page : Nat) (on : Bool) : (s.setUnmirrored job page on).ingest = s.ingest := by
  rw [State.setUnmirrored]
  split
  · cases s.setFor job <;> rfl
  · exact s.updPage_ingest _ _ _

theorem State.mirrorAck_waiting {s : State} {job page : Nat} (h : s.ackWaits job page = true) :
    s.mirrorAck job page = ((s.setUnmirrored job page false).ackTaken job page).ack job page 1 := by
  have hw : (s.setUnmirrored job page false).ackWaits job page = true := by
    rw [State.ackWaits, State.setUnmirrored_ingest]
    exact h
  exact if_pos hw

theorem State.mirrorTimeout_due {s : State} {job page : Nat} {a : AckWait}
    (ha : (s.ingest.acks.find? fun a => a.job == job && a.page == page) = some a)
    (hd : a.since + s.rd O.MIRROR_TIMEOUT * ms ≤ s.now) :
    s.mirrorTimeout job page =
      ((((s.ackTaken job page).setUnmirrored job page true).ack job page 1).inc O.UNMIRRORED_PAGES).event 6 1 0 := by
  have hdue : s.due a.since (s.rd O.MIRROR_TIMEOUT * ms) = true := decide_eq_true hd
  simp only [State.mirrorTimeout, ha, hdue, ↓reduceIte]

theorem State.mirrorFlow_empty {s : State} (hb : s.mirror.backlog = []) (ha : s.mirror.again = []) : s.mirrorFlow = s := by
  rw [State.mirrorFlow, hb, ha]
  rfl

theorem State.mirrorCredit_later {s : State} {limit : Nat} (hl : s.mirror.link = 2)
    (h : limit = s.mirror.limit ∨ seqLater 32 limit s.mirror.limit = true) (hb : s.mirror.backlog = []) (ha : s.mirror.again = []) :
    s.mirrorCredit limit = { s with mirror := { s.mirror with limit := limit % 2 ^ 32 } } := by
  have hc : (s.mirror.link != 2 || !(decide (limit = s.mirror.limit) || seqLater 32 limit s.mirror.limit)) = false := by
    rcases h with h | h <;> simp [hl, h]
  rw [State.mirrorCredit, if_neg (Bool.eq_false_iff.mp hc)]
  exact State.mirrorFlow_empty hb ha

/-! ### Sending again what the partner asks for (R256) -/

/-- The packets from seq on, which RESYNC asks for, and the bond that is about to send them again. -/
def State.resending (s : State) (seq : Nat) : State :=
  let keep := s.mirror.sent.filter fun e => !seqLater 32 seq e.1
  { s with mirror := { s.mirror with sent := keep, again := keep } }

theorem State.mirrorResync_up {s : State} (hl : s.mirror.link = 2) (seq : Nat) : s.mirrorResync seq = (s.resending seq).mirrorFlow :=
  if_neg (by simp [hl])

section

variable {s : State} {e : Nat × MirrorPacket} (hb : s.mirror.backlog = []) (ha : s.mirror.again = [e])

include hb ha

/-- One packet to be sent again goes out, and its credits are spent. -/
theorem State.mirrorFlow_one (hm : s.mirrorMay e.2 = true) :
    s.mirrorFlow = (({ s with mirror := { s.mirror with again := [] } } : State).mirrorSpend e.2).mirrorEmit e.1 e.2 := by
  simp only [State.mirrorFlow, ha, hb, List.length_cons, List.length_nil, State.mirrorPump, hm, ↓reduceIte]

/-- One packet to be sent again waits for credits. -/
theorem State.mirrorFlow_waits (hm : s.mirrorMay e.2 = false) : s.mirrorFlow = s := by
  simp only [State.mirrorFlow, ha, hb, List.length_cons, List.length_nil, State.mirrorPump, hm, Bool.false_eq_true, ↓reduceIte]

end

theorem State.mirrorMay_content {s : State} {p : MirrorPacket} (hl : s.mirror.link = 2) (ha : p.answers = false) :
    s.mirrorMay p = !seqLater 32 (s.mirror.spent + packetCost p.payload.length) s.mirror.limit := by
  simp [State.mirrorMay, hl, ha]

/-! ### Forming (R242, R779) -/

/-- The mirror bond as it forms, before its first CREDIT and HELLO. -/
def State.mirrorBonded (s : State) (ls : List Nat) (g : Nat) : State :=
  { s with
    mirror := { s.mirror with
      link := 2, width := ls.length, grade := g, lanes := ls.foldl (fun n l => setBit n l true) 0, txSeq := 0
      limit := 4096, spent := 0, backlog := [], sent := [], again := [], expect := 0, gap := none, resyncs := []
      granted := 4096, used := 0, freed := 0 }
    graft := { s.graft with partner := none } }

theorem State.mirrorForming_forms {s : State} {ls : List Nat} {g : Nat} (hl : s.mirror.link ≠ 2) (hp : s.graft.pins ≠ 0)
    (hbond : bondOf (s.lanesUp 20) (s.rd O.MIN_BOND_WIDTH) = some (ls, g)) (hb : s.mirror.backlog = []) :
    s.mirrorForming = (s.mirrorBonded ls g).mirrorCreditSend.startForming := by
  simp only [State.mirrorForming, hl, hp, hbond, hb, decide_false, Bool.or_self, Bool.false_eq_true, ↓reduceIte, List.filter_nil,
    List.foldl_nil]
  rfl

/-! ### A packet of the partner on a standby part (R253, R255 to R258, R284) -/

section

variable {s : State} {p : TplPacket} (hl : s.mirror.link = 2) (hg : 2 ≤ s.graft.state)
  (hc : seqLater 32 ((s.mirror.used + packetCost p.length) % 2 ^ 32) s.mirror.granted = false)

include hl hg hc

theorem State.mirrorReceive_badCrc (ho : packetOk p = false) :
    s.mirrorReceive p =
      (({ s with mirror := { s.mirror with used := (s.mirror.used + packetCost p.length) % 2 ^ 32 } } : State).unstored true p).mirrorLost
        s.mirror.expect := by
  simp only [State.mirrorReceive, hl, Nat.not_lt.mpr hg, hc, ho, bne_self_eq_false, decide_false, Bool.or_self, Bool.not_false,
    Bool.false_eq_true, ↓reduceIte]

/-- The packet that comes in its turn is counted and taken. -/
def State.mirrorTaken (s : State) (p : TplPacket) : State :=
  { s with mirror := { s.mirror with
      used := (s.mirror.used + packetCost p.length) % 2 ^ 32, expect := (s.mirror.expect + 1) % 2 ^ 32, gap := none } }

theorem State.mirrorReceive_content (ho : packetOk p = true) (hseq : p.linkSeq = s.mirror.expect) (hm : p.magic = 0x5054)
    (hv : p.version = 1) (hi : p.inflated ≠ 0) (hlen : p.length ≤ 16394) (hty : p.ty = 1 ∨ p.ty = 2 ∨ p.ty = 3) :
    s.mirrorReceive p =
      if p.ty = 1 then (s.mirrorTaken p).takeBackground true p
      else if p.ty = 2 then (s.mirrorTaken p).takeDescriptor true p
      else (s.mirrorTaken p).takeObject true p := by
  have hknown : [1, 2, 3].contains p.ty = true := by simpa using hty
  simp only [State.mirrorReceive, hl, Nat.not_lt.mpr hg, hc, ho, hseq, hm, hv, Nat.not_lt.mpr hlen, hknown, hi, bne_self_eq_false,
    decide_false, Bool.or_self, Bool.not_true, Bool.false_eq_true, ↓reduceIte, State.mirrorTaken]

end

/-! ### RESYNC for what was lost (R255, R258) -/

theorem State.mirrorLost_few {s : State} (h : (s.mirror.resyncs.filter fun t => s.now ≤ t + 10 * ms).length < 16) (seq : Nat) :
    s.mirrorLost seq = ({ s with mirror := { s.mirror with
        gap := some seq, resyncs := s.now :: s.mirror.resyncs.filter fun t => s.now ≤ t + 10 * ms } } : State).mirrorAnswer 0x11 0 0
      (natLE 4 s.mirror.expect ++ natLE 4 s.mirror.granted) :=
  if_neg (by rw [List.length_cons]; omega)

theorem State.mirrorDown_link {s : State} (hl : s.mirror.link = 2) : s.mirrorDown.mirror.link = 0 := by
  rw [State.mirrorDown, if_neg (by simp [hl])]
  dsimp only
  split <;> rfl

theorem State.mirrorAnswer_link (s : State) (ty job page : Nat) (payload : List Byte) :
    (s.mirrorAnswer ty job page payload).mirror.link = s.mirror.link := by
  rw [State.mirrorAnswer]
  split
  · rw [State.mirrorOut]
    dsimp only
    split <;> rfl
  · rfl

theorem State.foldl_laneDetect_mirror (f : Nat → Nat) (restore : Bool) (xs : List Nat) :
    ∀ s : State, (xs.foldl (fun s i => s.laneDetect (f i) restore) s).mirror = s.mirror := by
  induction xs with
  | nil => exact fun _ => rfl
  | cons x xs ih => exact fun s => ih (s.laneDetect (f x) restore)

/-- The seventeenth within 10 ms takes the bond down. -/
theorem State.mirrorLost_many {s : State} (hl : s.mirror.link = 2)
    (h : 16 ≤ (s.mirror.resyncs.filter fun t => s.now ≤ t + 10 * ms).length) (seq : Nat) : (s.mirrorLost seq).mirror.link = 0 := by
  rw [State.mirrorLost]
  dsimp only
  rw [if_pos (by rw [List.length_cons]; omega), State.foldl_laneDetect_mirror]
  apply State.mirrorDown_link
  rw [(State.event_from _ _ _ _).1]
  exact (State.mirrorAnswer_link _ _ _ _ _).trans hl

end Sys2Proof.Machine

open Sys2Proof Sys2Proof.Machine
/-- Settles O33: CREDIT and MIRROR_ACK, what RESYNC sends again, the forming of the bond, and what a standby part takes. -/
theorem mirrorLink : Obligations.MirrorLink := by
  refine ⟨fun s t hl hd hm => State.does_eq _ _ _ _ (State.creditDue_ingest (s := s.at t) hl hd hm),
    fun s t job page hl hp hw => State.does_eq _ _ _ _ ?_,
    fun s t job page a ha hd => State.does_eq _ _ _ _ (State.mirrorTimeout_due (s := s.at t) ha hd),
    fun s t limit hl hp h hb ha => State.does_eq _ _ _ _ ?_, fun s t seq e hl hp hb he hans => ?_,
    fun s t ls g hl hp hbond hb => State.does_eq _ _ _ _ (State.mirrorForming_forms (s := s.at t) hl hp hbond hb),
    fun s t p hl hg ho hseq hm hv hi hlen hc => ?_, fun s t p hl hg ho hc => State.does_eq _ _ _ _ ?_,
    fun s seq h => State.mirrorLost_few h seq, fun s g seq hg h => ?_, fun s seq hl h => State.mirrorLost_many hl h seq⟩
  · exact (State.mirrorAckRx_heard (s := s.at t) hl hp job page).trans (State.mirrorAck_waiting hw)
  · exact (State.mirrorCreditRx_heard (s := s.at t) hl hp limit).trans (State.mirrorCredit_later hl h hb ha)
  · have hop : (s.at t).mirrorResyncRx seq = ((s.at t).answerGot.resending seq).mirrorFlow :=
      (State.mirrorResyncRx_heard (s := s.at t) hl hp seq).trans (State.mirrorResync_up (s := (s.at t).answerGot) hl seq)
    refine ⟨_, State.does_eq _ _ _ (fun _ => ((s.at t).answerGot.resending seq).mirrorFlow) hop, ?_⟩
    have hmay := State.mirrorMay_content (s := (s.at t).answerGot.resending seq) (p := e.2) hl hans
    cases hc : seqLater 32 (s.mirror.spent + packetCost e.2.payload.length) s.mirror.limit with
    | false =>
      rw [State.mirrorFlow_one (s := (s.at t).answerGot.resending seq) hb he (hmay.trans (congrArg Bool.not hc)),
        State.mirrorSpend, if_neg (by simp [hans])]
      exact ⟨he, fun _ => ⟨rfl, rfl, rfl⟩, nofun⟩
    | true =>
      rw [State.mirrorFlow_waits (s := (s.at t).answerGot.resending seq) hb he (hmay.trans (congrArg Bool.not hc))]
      exact ⟨he, nofun, fun _ => ⟨he, rfl, rfl⟩⟩
  · have hr := State.mirrorReceive_content (s := s.at t) hl hg hc ho hseq hm hv hi hlen
    refine ⟨fun h1 => State.does_eq _ _ _ _ ?_, fun h2 => State.does_eq _ _ _ _ ?_, fun h3 => State.does_eq _ _ _ _ ?_⟩
    · rw [hr (by simp [h1]), if_pos h1]
      rfl
    · rw [hr (by simp [h2]), if_neg (by simp [h2]), if_pos h2]
      rfl
    · rw [hr (by simp [h3]), if_neg (by simp [h3]), if_neg (by simp [h3])]
      rfl
  · exact State.mirrorReceive_badCrc (s := s.at t) hl hg hc ho
  · rw [State.mirrorGapped, hg]
    simp [newGap, h]

end

section
/-! PROOF. Edges of the position inputs (R376 to R379, R399 to R403, R418): what each accepted edge counts. -/

namespace Sys2Proof.Machine

/-! ### Encoder and step edges (R376 to R379) -/

/-- An encoder edge of one level: the count goes one in the direction of the turn (R376). -/
def State.encForward (v : State) (a b : Bool) : Bool :=
  ((grayPlace a b + 4 - grayPlace v.web.a v.web.b) % 4 == 1) != (v.rd O.ENC_SENSE == 1)

/-- The levels of the encoder, and its count after one more edge. -/
def State.encCounted (v : State) (a b : Bool) (n : Int) : State := { v with web := { v.web with a := a, b := b, encCount := n } }

section

variable {v : State} (hc : v.counting = true)

include hc

theorem State.encEdge_counted {a b : Bool} (h : (a != v.web.a) ≠ (b != v.web.b)) :
    v.encEdge a b =
      let n := v.web.encCount + (if v.encForward a b then 1 else -1)
      if v.rd O.WEB_SOURCE = 0 then (v.encCounted a b n).followCount (v.encForward a b) n else v.encCounted a b n := by
  have hsame : (a == v.web.a && b == v.web.b) = false := by
    rw [bne, bne, Ne, Bool.not_inj_iff] at h
    cases ha : (a == v.web.a) <;> cases hb : (b == v.web.b) <;> simp_all
  have hboth : (a != v.web.a && b != v.web.b) = false := by
    cases ha : (a != v.web.a) <;> cases hb : (b != v.web.b) <;> simp_all
  simp only [State.encEdge, hc, hsame, hboth, Bool.not_true, Bool.false_eq_true, ↓reduceIte]
  rfl

theorem State.encEdge_both {a b : Bool} (ha : a ≠ v.web.a) (hb : b ≠ v.web.b) :
    v.encEdge a b =
      ((({ v with web := { v.web with a := a, b := b } } : State).webFlag 0).inc O.ILLEGAL_COUNT).event 0xd 1 0 := by
  simp only [State.encEdge, hc, beq_false_of_ne ha, bne_iff_ne.mpr ha, bne_iff_ne.mpr hb, Bool.and_self, Bool.false_and,
    Bool.not_true, Bool.false_eq_true, ↓reduceIte]

theorem State.stepEdge_counted (dir : Bool) :
    v.stepEdge dir =
      let n := v.web.stepCount + (if dir == v.rdB O.STEP_SENSE then 1 else -1)
      let counted : State := { v with web := { v.web with stepCount := n } }
      if v.rd O.WEB_SOURCE = 1 then counted.followCount (dir == v.rdB O.STEP_SENSE) n else counted := by
  simp only [State.stepEdge, hc, Bool.not_true, Bool.false_eq_true, ↓reduceIte]
  rfl

end

section

variable {v : State} (hc : v.counting = false)

include hc

theorem State.encEdge_early (a b : Bool) : v.encEdge a b = { v with web := { v.web with a := a, b := b } } := by
  simp only [State.encEdge, hc, Bool.not_false, ↓reduceIte]

theorem State.stepEdge_early (dir : Bool) : v.stepEdge dir = v := by
  simp only [State.stepEdge, hc, Bool.not_false, ↓reduceIte]

end

theorem State.checkRun_settled {s : State} (h : s.enteringRun = false) : s.checkRun = s := by
  simp only [State.checkRun, h, Bool.not_false, ↓reduceIte]

/-! ### Index edges (R399 to R403) -/

/-- An index edge is looked at: the encoder is the source, and the position valid and not behind its high-water mark. -/
def State.CountsIndex (s : State) : Prop :=
  s.counting = true ∧ s.rd O.WEB_SOURCE = 0 ∧ s.web.valid = true ∧ s.web.pos = s.web.hwm ∧ s.rd O.INDEX_PERIOD ≠ 0

section

variable {s : State} (h : s.CountsIndex)

include h

theorem State.indexCheck_first (hr : s.web.cRef = none) :
    s.indexCheck = { s with web := { s.web with cRef := some s.web.encCount } } := by
  obtain ⟨hc, hs, hv, hp, hi⟩ := h
  simp only [State.indexCheck, hc, hs, hv, hp, hi, hr, Bool.not_true, bne_self_eq_false, decide_false, Bool.or_self,
    Bool.false_eq_true, ↓reduceIte]

section

variable {r : Int} (hr : s.web.cRef = some r)

include hr

theorem State.indexCheck_outside (he : s.rd O.INDEX_TOL < (s.web.encCount - (r + (s.rd O.INDEX_PERIOD : Nat))).natAbs) :
    s.indexCheck =
      (((({ s with web := { s.web with cRef := some (r + (s.rd O.INDEX_PERIOD : Nat)) } } : State).webFlag 1).wrI 32
        O.LAST_INDEX_ERROR (s.web.encCount - (r + (s.rd O.INDEX_PERIOD : Nat)))).inc O.INDEX_ERRORS).event 0xd 2 0 := by
  obtain ⟨hc, hs, hv, hp, hi⟩ := h
  simp only [State.indexCheck, hc, hs, hv, hp, hi, hr, Nat.not_le.mpr he, Bool.not_true, bne_self_eq_false, decide_false,
    Bool.or_self, Bool.false_eq_true, ↓reduceIte]

variable (he : (s.web.encCount - (r + (s.rd O.INDEX_PERIOD : Nat))).natAbs ≤ s.rd O.INDEX_TOL)

include he

theorem State.indexCheck_within (hf : s.rdB O.INDEX_CORRECT = false) :
    s.indexCheck = ({ s with web := { s.web with cRef := some s.web.encCount } } : State).inc O.INDEX_CHECKS := by
  obtain ⟨hc, hs, hv, hp, hi⟩ := h
  simp only [State.indexCheck, hc, hs, hv, hp, hi, hr, he, hf, Bool.not_true, bne_self_eq_false, decide_false,
    Bool.or_self, Bool.false_eq_true, ↓reduceIte]

theorem State.indexCheck_corrects (hf : s.rdB O.INDEX_CORRECT = true) :
    s.indexCheck =
      let whole := -(s.web.encCount - (r + (s.rd O.INDEX_PERIOD : Nat))) * (s.rd O.ENC_RATIO : Nat)
      ({ s with web := { s.web with
          cRef := some s.web.encCount, fixLeft := 256, fixRest := whole, fixStep := whole.tdiv 256 } } : State).inc O.INDEX_CHECKS := by
  obtain ⟨hc, hs, hv, hp, hi⟩ := h
  simp only [State.indexCheck, hc, hs, hv, hp, hi, hr, he, hf, Bool.not_true, bne_self_eq_false, decide_false,
    Bool.or_self, Bool.false_eq_true, ↓reduceIte]

end

end

end Sys2Proof.Machine

open Sys2Proof Sys2Proof.Machine

/-- Settles O35: encoder and STEP_IN edges with the part counting and before, ENCO in modes 1 and 2, and the index edges. -/
theorem positionEdges : Obligations.PositionEdges := by
  refine ⟨⟨fun s t a b hc h => ?_, fun s t a b hc ha hb => State.does_eq _ _ _ (fun _ => _) (State.encEdge_both hc ha hb),
    fun s t a b hc => ⟨State.does_eq _ _ _ (fun _ => _) (State.encEdge_early hc a b),
      State.does_eq _ _ _ (fun _ => _) (State.stepEdge_early hc a)⟩,
    fun s t dir hc => ?_, fun s h => State.checkRun_settled h, fun s ha hd => ⟨fun h => ?_, fun h => ?_⟩⟩,
    fun s t hc hs hv hp hi => ?_⟩
  · refine ⟨fun hs => State.does_eq _ _ _ (fun _ => _) ?_, fun hs => State.does_eq _ _ _ (fun _ => _) ?_⟩
    · exact (State.encEdge_counted hc h).trans (if_neg hs)
    · exact (State.encEdge_counted hc h).trans (if_pos hs)
  · refine ⟨fun hs => State.does_eq _ _ _ (fun _ => _) ?_, fun hs => State.does_eq _ _ _ (fun _ => _) ?_⟩
    · exact (State.stepEdge_counted hc dir).trans (if_neg hs)
    · exact (State.stepEdge_counted hc dir).trans (if_pos hs)
  · simp only [State.encoWant, ha, hd, h, Bool.not_true, Bool.or_self, Bool.false_eq_true, ↓reduceIte]
  · simp only [State.encoWant, ha, hd, h, Bool.not_true, Bool.or_self, Bool.false_eq_true, ↓reduceIte]
  · have hx : (s.at t).CountsIndex := ⟨hc, hs, hv, hp, hi⟩
    exact ⟨fun hr => State.does_eq _ _ _ _ (State.indexCheck_first hx hr), fun r hr =>
      ⟨fun he hf => State.does_eq _ _ _ _ (State.indexCheck_within hx hr he hf),
        fun he hf => State.does_eq _ _ _ _ (State.indexCheck_corrects hx hr he hf),
        fun he => State.does_eq _ _ _ _ (State.indexCheck_outside hx hr he)⟩⟩

end

section
/-! PROOF. Standstill, the virtual web and the repeater (R386, R387, R397, R408, R418, R419). -/

namespace Sys2Proof.Machine

theorem State.standstill_due {s : State} {te : Nat} {rest : List Nat} (hr : s.web.run = te :: rest)
    (hd : te + s.rd O.STANDSTILL_TIMEOUT * 1000 ≤ s.now) :
    s.standstill = (({ s with web := { s.web with run := [] } } : State).webFlag 4).checkSpeed := by
  have hdue : s.due te s.standstillPs = true := decide_eq_true hd
  simp only [State.standstill, hr, hdue, ↓reduceIte]

/-! ### The virtual web (R386, R387, R408) -/

/-- The speed after the cycle, and the way in parts of 10^-18 of a position unit that has not yet been gone. -/
def State.virtualSpeed (v : State) : Nat := virtualNext v.web.virtual (v.rd O.VIRTUAL_SPEED * 1000000000) (v.rd O.VIRTUAL_ACCEL)
def State.virtualWay (v : State) : Nat := v.web.rest + v.virtualSpeed * 5 * 2 ^ 24

/-- At speed x the web goes by the whole units of d parts each that it has come by, and keeps the rest of the parts. -/
def State.webGone (s : State) (x parts d : Nat) : State :=
  let adv := parts / d
  let s1 : State := { s with web := { s.web with virtual := x } }
  let s2 : State := { s1 with web := { s1.web with
    rest := parts % d, reverse := s1.web.reverse && adv == 0, hold := if adv = 0 then s1.web.hold else none } }
  (if adv = 0 then s2 else s2.setPos (s.web.pos + adv)).checkSpeed

theorem State.webGone_moves (s : State) (x : Nat) {parts d : Nat} (h : parts / d ≠ 0) :
    s.webGone x parts d =
      (({ s with web := { s.web with virtual := x, rest := parts % d, reverse := false, hold := none } } : State).setPos
        (s.web.pos + parts / d)).checkSpeed := by
  simp only [State.webGone, h, beq_false_of_ne h, Bool.and_false, ↓reduceIte]

theorem State.webGone_rests (s : State) (x : Nat) {parts d : Nat} (h : parts < d) :
    s.webGone x parts d = ({ s with web := { s.web with virtual := x, rest := parts } } : State).checkSpeed := by
  simp only [State.webGone, Nat.div_eq_of_lt h, Nat.mod_eq_of_lt h, beq_self_eq_true, Bool.and_true, ↓reduceIte]

section

variable {v : State} (hc : v.counting = true) (hs : v.rd O.WEB_SOURCE = 2)

include hc hs

theorem State.virtualAdvance_unplaced (hv : v.web.valid = false) :
    v.virtualAdvance = ({ v with web := { v.web with virtual := v.virtualSpeed } } : State).checkSpeed := by
  simp only [State.virtualAdvance, hc, hs, hv, Bool.not_true, Bool.not_false, bne_self_eq_false, Bool.or_self, Bool.false_eq_true,
    ↓reduceIte]
  rfl

theorem State.virtualAdvance_placed (hv : v.web.valid = true) :
    v.virtualAdvance = v.webGone v.virtualSpeed v.virtualWay (10 ^ 18) := by
  have hn : ¬(!v.counting || v.rd O.WEB_SOURCE != 2) = true := by simp [hc, hs]
  have hp : ¬(!v.web.valid) = true := by simp [hv]
  rw [State.virtualAdvance, if_neg hn]
  exact if_neg hp

end

/-! ### The repeater (R418, R419) -/

/-- The output count goes to n, with its quadrature levels on ENCO. -/
def State.repeated (s : State) (n : Int) : State :=
  { s with web := { s.web with repCount := n, repEdge := s.now, enco := .levels (quadrature n).1 (quadrature n).2 } }

theorem State.encoWant_repeats {s : State} (hm : s.rd O.REPEAT_MODE = 3) (ha : s.awake = true) (hd : s.encoDriven = true) :
    s.encoWant = .levels (quadrature s.web.repCount).1 (quadrature s.web.repCount).2 := by
  simp only [State.encoWant, hm, ha, hd, Bool.not_true, Bool.or_self, Bool.false_eq_true, ↓reduceIte]

theorem State.repStep_paid {s : State} (h : s.repTarget = s.web.repCount) : s.repStep = s :=
  if_neg (by simp [h])

section

variable {s : State} (hm : s.rd O.REPEAT_MODE = 3) (ha : s.awake = true) (he : s.web.repEdge + 40000 ≤ s.now)
  (hd : s.encoDriven = true)

include hm ha he hd

theorem State.repStep_owed (h : s.web.repCount ≠ s.repTarget) {n : Int}
    (hn : n = if s.web.repCount < s.repTarget then s.web.repCount + 1 else s.web.repCount - 1)
    (hw : s.web.enco ≠ .levels (quadrature n).1 (quadrature n).2) :
    s.repStep = (s.repeated n).emit (.repeater (.levels (quadrature n).1 (quadrature n).2)) := by
  have hp : s.power.state < 3 := by
    simp only [State.awake, Bool.and_eq_true, decide_eq_true_eq] at ha
    exact ha.2
  have hdue : s.due s.web.repEdge 40000 = true := decide_eq_true he
  have hcond : (decide (s.rd O.REPEAT_MODE = 3) && decide (s.power.state < 3) && s.due s.web.repEdge 40000 &&
      s.web.repCount != s.repTarget) = true := by simp [hm, hp, hdue, h]
  have hwant := State.encoWant_repeats (s := { s with web := { s.web with repCount := n, repEdge := s.now } }) hm ha hd
  rw [State.repStep, if_pos hcond, ← hn, State.encoSettle, hwant]
  exact if_neg hw

end

end Sys2Proof.Machine

open Sys2Proof Sys2Proof.Machine

/-- Settles O36: the end of a run, each POS cycle of the virtual web, and the steps of the repeater. -/
theorem standstillVirtualWebAndRepeater : Obligations.StandstillVirtualWebAndRepeater := by
  refine ⟨⟨fun s t te rest hr hd => State.does_eq _ _ _ _ (State.standstill_due (s := s.at t) hr hd), fun s t hc hs => ⟨fun hv => ?_,
    fun hv hw => ?_, fun hv hw => ?_⟩, fun v target accel => ⟨fun h => if_pos h, fun h => if_neg (Nat.not_lt.mpr h)⟩⟩,
    fun s t hm ha he hd => ⟨fun h hw => ?_, fun h hw => ?_, fun h => State.does_eq _ _ _ _ (State.repStep_paid (s := s.at t) h)⟩⟩
  · exact State.does_eq _ _ _ (fun _ => _) (State.virtualAdvance_unplaced hc hs hv)
  · exact State.does_eq _ _ _ (fun _ => _) ((State.virtualAdvance_placed hc hs hv).trans
      (State.webGone_moves _ _ (Nat.ne_of_gt (Nat.div_pos hw (Nat.pow_pos (by decide))))))
  · exact State.does_eq _ _ _ (fun _ => _) ((State.virtualAdvance_placed hc hs hv).trans (State.webGone_rests _ _ hw))
  · exact State.does_eq _ _ _ _ (State.repStep_owed (s := s.at t) hm ha he hd (Int.ne_of_lt h) (if_pos h).symm hw)
  · exact State.does_eq _ _ _ _
      (State.repStep_owed (s := s.at t) hm ha he hd (Int.ne_of_gt h) (if_neg (Int.not_lt.mpr (Int.le_of_lt h))).symm hw)

end

section
/-! PROOF. Events and NAKs of the head modules (R497, R502 to R507). -/

namespace Sys2Proof.Machine

/-- A change of a head is settled by what it makes of the head as it is. -/
theorem State.updHead_congr {s : State} {seg : Nat} {f g : Head → Head} (h : f (s.head seg) = g (s.head seg)) :
    s.updHead seg f = s.updHead seg g := by
  have hm : s.heads.modify seg f = s.heads.modify seg g := by
    refine List.ext_getElem (by simp) fun i hi _ => ?_
    rw [List.getElem_modify, List.getElem_modify]
    split
    · next he =>
      subst he
      have hs : seg < s.heads.length := by simpa using hi
      rwa [State.head, getD_of_lt _ hs] at h
    · rfl
  rw [State.updHead, State.updHead, hm]

/-! ### Events (R497, R502, R503) -/

/-- An event of a module is noted by its number, and is an event of the module's block. -/
def State.headNoted (s : State) (seg seq code data : Nat) : State :=
  (s.updHead seg fun h => { h with events := (seq, s.now) :: h.lateCopies s.now }).event (0x20 + seg) (0x300 + code) data

theorem State.updHead_noted (s : State) (seg seq : Nat) :
    (s.updHead seg fun h => { h with events := (seq, s.now) :: (s.head seg).lateCopies s.now }) =
      s.updHead seg fun h => { h with events := (seq, s.now) :: h.lateCopies s.now } :=
  State.updHead_congr rfl

section

variable {s : State} {seg : Nat} (hs : seg < 16) (hl : (s.head seg).link ≠ 0)

include hs hl

section

variable {seq code : Nat}

/-- The second copy of an event only ends the wait for it. -/
theorem State.headEvent_again (row pos data : Nat) (h1 : 1 ≤ code) (h6 : code ≤ 6)
    (hk : ((s.head seg).lateCopies s.now).any (fun e => decide (e.1 = seq)) = true) :
    s.headEvent seg seq code row pos data =
      s.updHead seg fun h => { h with events := ((s.head seg).lateCopies s.now).filter fun e => e.1 != seq } := by
  simp only [State.headEvent, hl, Nat.not_le.mpr hs, Nat.ne_of_gt h1, Nat.not_lt.mpr h6, hk, decide_false, Bool.or_self,
    Bool.false_eq_true, ↓reduceIte]

variable (hk : ((s.head seg).lateCopies s.now).any (fun e => decide (e.1 = seq)) = false) (row pos data : Nat)

include hk

/-- Events 05h and 06h are noted, and no more. -/
theorem State.headEvent_plain (hc : code = 5 ∨ code = 6) :
    s.headEvent seg seq code row pos data = s.headNoted seg seq code data := by
  rcases hc with rfl | rfl <;>
    simp [State.headEvent, State.headNoted, hl, Nat.not_le.mpr hs, hk, State.updHead_noted]

/-- Event 02h of an owned module asks for a FLUSH. -/
theorem State.headEvent_flush (ho : (s.head seg).ownerState = 1) :
    s.headEvent seg seq 2 row pos data = (s.headNoted seg seq 2 data).updHead seg fun h => { h with flushed := false } := by
  simp [State.headEvent, State.headNoted, hl, Nat.not_le.mpr hs, hk, ho, State.updHead_noted]

/-- Event 03h is a contention. -/
theorem State.headEvent_contention :
    s.headEvent seg seq 3 row pos data =
      (((s.headNoted seg seq 3 data).updHead seg fun h => { h with contention := true }).inc (O.HEAD_CONTENTIONS seg)).conflict := by
  simp [State.headEvent, State.headNoted, State.headContends, hl, Nat.not_le.mpr hs, hk, State.updHead_noted]

/-- Event 01h names a line that was not driven. -/
theorem State.headEvent_notDriven :
    s.headEvent seg seq 1 row pos data =
      (((s.headNoted seg seq 1 data).updHead seg fun h =>
        { h with ndEvents := h.ndEvents + 1
                 unconfirmed := h.unconfirmed.filter fun x => !(x.row == row && x.w % 2 ^ 32 == pos) }).inc
        (O.LINES_NOT_DRIVEN seg)).notDriven seg row
          ((((s.head seg).unconfirmed.find? fun x => x.row == row && x.w % 2 ^ 32 == pos).map (·.owners)).getD []) data := by
  simp [State.headEvent, State.headNoted, hl, Nat.not_le.mpr hs, hk, State.updHead_noted]

end

/-! ### NAKs (R504 to R507) -/

section

variable {first : Nat}

/-- A NAK that names one packet. -/
theorem State.headNak_held {p : SentPacket}
    (hp : ((s.updHead seg fun h => h.prune s.now).head seg).packet? (first % 65536) = some p) (ha : p.again < s.rd O.RETX_LIMIT) :
    s.headNak seg first 1 = (s.updHead seg fun h => h.prune s.now).sendAgain seg p := by
  simp [State.headNak, hl, Nat.not_le.mpr hs, hp, ha]

theorem State.headNak_stale
    (hp : ((s.updHead seg fun h => h.prune s.now).head seg).packet? (first % 65536) = none) :
    s.headNak seg first 1 = (s.updHead seg fun h => h.prune s.now).inc (O.STALE_NAKS seg) := by
  simp [State.headNak, hl, Nat.not_le.mpr hs, hp]

end

end

end Sys2Proof.Machine

open Sys2Proof Sys2Proof.Machine
/-- Settles O42: each event by its code, the second copy of one, and a NAK of a packet that is held or not. -/
theorem headEvents : Obligations.HeadEvents := by
  refine ⟨fun s t seg seq code row pos data hs hl hk => ⟨fun hc => ?_, fun hc ho => ?_, fun hc => ?_, fun hc => ?_⟩,
    fun s t seg seq code row pos data hs hl h1 h6 hk =>
      State.does_eq _ _ _ _ (State.headEvent_again (s := s.at t) hs hl row pos data h1 h6 hk),
    fun s t seg first p hs hl hp ha => State.does_eq _ _ _ _ (State.headNak_held (s := s.at t) hs hl hp ha),
    fun s t seg first hs hl hp => State.does_eq _ _ _ _ (State.headNak_stale (s := s.at t) hs hl hp)⟩
  · exact State.does_eq _ _ _ _ (State.headEvent_plain (s := s.at t) hs hl hk row pos data hc)
  · subst hc
    exact State.does_eq _ _ _ _ (State.headEvent_flush (s := s.at t) hs hl hk row pos data ho)
  · subst hc
    exact State.does_eq _ _ _ _ (State.headEvent_contention (s := s.at t) hs hl hk row pos data)
  · subst hc
    exact State.does_eq _ _ _ _ (State.headEvent_notDriven (s := s.at t) hs hl hk row pos data)

end

section
/-! PROOF. The lanes on their way up and down (R530 to R542): what each event does in the states that take it. -/

namespace Sys2Proof.Machine

/-! ### A lane after a change of it -/

theorem State.lane_updLane_same {s : State} {n : Nat} (f : Lane → Lane) (h : n < s.lanes.length) :
    (s.updLane n f).lane n = f (s.lane n) := by
  have h' : n < (s.lanes.modify n f).length := by rwa [List.length_modify]
  rw [State.lane, State.lane, getD_of_lt _ h, State.updLane, getD_of_lt _ h', List.getElem_modify, if_pos rfl]

theorem State.lane_laneSends (s : State) (m what n : Nat) : (s.laneSends m what).lane n = s.lane n := rfl

/-! ### Signal, block lock and step-up (R530, R532, R542) -/

section

variable {s : State} {n : Nat}

theorem State.signalPresent_detect (h : (s.lane n).state = 1) :
    s.signalPresent n = s.updLane n fun l => { l with state := 2, entered := s.now } :=
  if_pos h

theorem State.stepUpRequest_detect (h : (s.lane n).state = 1) :
    s.stepUpRequest n = s.updLane n fun l => { l with stepHeld := true } :=
  if_pos (by simp [h])

theorem State.stepUpRequest_up (h : (s.lane n).state = 3) (hg : (s.lane n).grade = 0) (hl : 0 < (s.lane n).limit) :
    s.stepUpRequest n =
      (s.updLane n fun l => { l with state := 4, proposed := l.limit, matched := 0, count := 0, entered := s.now
                                     stepHeld := false }).laneWord n 0 0 0 := by
  simp [State.stepUpRequest, State.negotiate, h, hg, hl]

theorem State.blockLock_matching {inverted : Bool} (h : (s.lane n).state = 2)
    (hm : (s.lane n).rxMode = 0 ∨ inverted = ((s.lane n).rxMode == 2)) :
    s.blockLock n inverted =
      let v := (s.updLane n fun l => { l with state := 3, grade := 0, inverted := inverted, entered := s.now }).laneLinkUp n
      let w := if 16 ≤ n || (s.lane n).stepHeld then v.negotiate n else v
      if (w.lane n).state = 3 then w.laneUp n else w := by
  have hb : ((s.lane n).state != 2 || (s.lane n).rxMode != 0 && inverted != ((s.lane n).rxMode == 2)) = false := by
    rcases hm with hm | hm <;> simp [h, hm]
  exact if_neg (Bool.eq_false_iff.mp hb)

/-! ### The end of training (R537 to R539) -/

theorem State.verificationPassed_training (h : (s.lane n).state = 5) :
    s.verificationPassed n =
      ((((((s.laneReadyWords n).laneSends n 3).laneVerifiedWords n).updLane n fun l => { l with
        state := 3, entered := s.now, eq := some ⟨l.grade, l.peer, s.dieTemp, s.now, (l.pre, l.main, l.post)⟩ }).laneLinkUp n).laneUp
        n) :=
  if_neg (by simp [h])

theorem State.trainFallback_training (h : (s.lane n).state = 5) : s.trainFallback n = s.trainFailed n := if_pos h

/-! ### The way back (R540, R542) -/

theorem State.lane_laneDetect (restore : Bool) (h : n < s.lanes.length) :
    ((s.laneDetect n restore).lane n).state = 1 ∧
    ((s.laneDetect n restore).lane n).limit =
      if restore || (s.lane n).limit = (s.lane n).maxTaken then s.laneMax n else min (s.lane n).limit (s.laneMax n) := by
  rw [State.laneDetect, State.lane_laneSends, State.lane_updLane_same _ h]
  exact ⟨rfl, rfl⟩

theorem State.limit_laneDetect_le (h : n < s.lanes.length) : ((s.laneDetect n false).lane n).limit ≤ s.laneMax n := by
  rw [(State.lane_laneDetect false h).2]
  split
  · exact Nat.le_refl _
  · exact Nat.min_le_right _ _

section

variable (hd : (s.lane n).entered + ms ≤ s.now)

include hd

theorem State.negotiationTimeout_lock (h : (s.lane n).state = 2) : s.negotiationTimeout n = s.laneDetect n false := by
  simp [State.negotiationTimeout, State.due, hd, h]

theorem State.negotiationTimeout_negotiating (h : (s.lane n).state = 4) :
    s.negotiationTimeout n = ((s.updLane n fun l => { l with limit := 0 }).event (laneBlock n) 0x402 0).upAtG0 n := by
  simp [State.negotiationTimeout, State.due, hd, h]

end

end

end Sys2Proof.Machine

open Sys2Proof Sys2Proof.Machine

/-- Settles O44: the steps from DETECT to UP at the grade, the fallbacks, and the limit that each way back leaves. -/
theorem laneBringUp : Obligations.LaneBringUp := by
  refine ⟨fun s t n h => ⟨State.does_eq _ _ _ _ (State.signalPresent_detect (s := s.at t) h),
      State.does_eq _ _ _ _ (State.stepUpRequest_detect (s := s.at t) h)⟩,
    fun s t n inverted h hm => State.does_eq _ _ _ _ (State.blockLock_matching (s := s.at t) h hm),
    fun s t n h hg hl => State.does_eq _ _ _ _ (State.stepUpRequest_up (s := s.at t) h hg hl),
    fun s t n h => ⟨State.does_eq _ _ _ _ (State.verificationPassed_training (s := s.at t) h),
      State.does_eq _ _ _ _ (State.trainFallback_training (s := s.at t) h)⟩,
    fun s n hn => ⟨(State.lane_laneDetect true hn).1, (State.lane_laneDetect true hn).2, State.limit_laneDetect_le hn⟩,
    fun s t n hd => ⟨fun h => State.does_eq _ _ _ _ (State.negotiationTimeout_lock (s := s.at t) hd h),
      fun h => State.does_eq _ _ _ _ (State.negotiationTimeout_negotiating (s := s.at t) hd h)⟩⟩

end

section
/-! PROOF. Lost lock, control words, LANE ENABLE and RETRAIN, low power and the eye (R528 to R555). -/

namespace Sys2Proof.Machine

/-! ### Lost lock and control words (R528, R530, R533, R536) -/

section

variable {s : State} {n : Nat}

theorem State.lockLost_up (h : (s.lane n).state = 3 ∨ (s.lane n).state = 6) :
    s.lockLost n = (((s.inc (O.LOCK_LOSSES n)).laneLinkDown n).laneDetect n false).event (laneBlock n) 0x401 0 := by
  rcases h with h | h <;> simp only [State.lockLost, h, State.laneFail]

theorem State.lockLost_locking (h : (s.lane n).state = 2) : s.lockLost n = (s.inc (O.LOCK_LOSSES n)).laneDetect n false := by
  simp only [State.lockLost, h]

variable {w : Nat}

theorem State.laneControlWord_otherType (hw : bits w 55 48 ≠ 2) : s.laneControlWord n w = s := if_pos (by simp [hw])

section

variable (hw : bits w 55 48 = 2)

include hw

theorem State.laneControlWord_negotiating (h : (s.lane n).state = 4) :
    s.laneControlWord n w = (s.updLane n fun l => { l with peer := bits w 15 8, eqPeer := bit w 41 }).negotiationWord n w := by
  simp [State.laneControlWord, hw, h]

theorem State.laneControlWord_training (h : (s.lane n).state = 5) :
    s.laneControlWord n w =
      (s.updLane n fun l => { l with peer := bits w 15 8, eqPeer := bit w 41 }).updLane n fun l => l.taps w := by
  simp [State.laneControlWord, hw, h]

end

theorem State.retrainLane_off (h : (s.lane n).state = 0) : s.retrainLane n true = s := if_pos h

/-! ### Low power (R542 to R545, R548) -/

section

variable {level : Nat} (hlv : level = 1 ∨ level = 2)

include hlv

theorem State.laneLpEntry_up (h : (s.lane n).state = 3) : s.laneLpEntry n level = s.lpAsk n level := by
  rcases hlv with rfl | rfl <;> simp [State.laneLpEntry, h]

theorem State.laneLpEntry_held
    (h : (s.lane n).state = 1 ∨ (s.lane n).state = 2 ∨ (s.lane n).state = 4 ∨ (s.lane n).state = 5) :
    s.laneLpEntry n level = s.updLane n fun l => { l with lpHeld := level } := by
  have hn : (level != 1 && level != 2) = false := by rcases hlv with rfl | rfl <;> rfl
  have hb : (decide ((s.lane n).state = 1) || decide ((s.lane n).state = 2) || decide ((s.lane n).state = 4) ||
      decide ((s.lane n).state = 5)) = true := by simpa [or_assoc] using h
  simp only [State.laneLpEntry, hn, hb, Bool.false_eq_true, ↓reduceIte]

end

theorem State.lpNoAck_due {level since : Nat} (hl : (s.lane n).lp = some (level, since)) (hd : since + 10000000 ≤ s.now) :
    s.lpNoAck n = (s.event (laneBlock n) 0x403 0).lpEnter n level := by
  have hdue : s.due since 10000000 = true := decide_eq_true hd
  simp only [State.lpNoAck, hl, hdue, ↓reduceIte]

theorem State.laneLpExit_l1 (h : (s.lane n).state = 6) :
    s.laneLpExit n = (s.laneWord n 0 0 0).updLane n fun l => { l with state := 3, lp := none } := by
  simp only [State.laneLpExit, h]

theorem State.laneLpExit_l2 (h : (s.lane n).state = 7) (ho : (s.lane n).eqOwn = false) :
    s.laneLpExit n = s.laneDetect n false := by
  simp only [State.laneLpExit, h, ho, Bool.and_false, Bool.false_and, Bool.false_eq_true, ↓reduceIte]

/-! ### The eye (R550) -/

/-- The readings of the eye are shown. -/
def State.eyeMeasured (s : State) (n height width : Nat) : State :=
  s.wrs [(O.EYE_HEIGHT n, min 65535 height), (O.EYE_WIDTH n, min 65535 width)]

theorem State.eyeMonitor_awake (hn : n < 24) (ha : s.awake = true) (height width : Nat) :
    s.eyeMonitor n height width = (s.eyeMeasure n height width).taskDone 2 := by
  rw [State.eyeMonitor, if_neg (Nat.not_le.mpr hn), State.whenAwake, if_pos ha]

section

variable {height : Nat} (width : Nat) (h3 : (s.lane n).state = 3) (hg : (s.lane n).grade ≠ 0)

include h3 hg

theorem State.eyeMeasure_at (he : height = s.rd O.EYE_WARN) : s.eyeMeasure n height width = s.eyeMeasured n height width := by
  simp [State.eyeMeasure, h3, hg, ← he, State.eyeMeasured]

theorem State.eyeMeasure_above (he : s.rd O.EYE_WARN < height) :
    s.eyeMeasure n height width = (s.eyeMeasured n height width).updLane n fun l => { l with eyeLow := false } := by
  simp [State.eyeMeasure, h3, hg, he, Nat.not_lt.mpr (Nat.le_of_lt he), State.eyeMeasured]

section

variable (he : height < s.rd O.EYE_WARN)

include he

theorem State.eyeMeasure_low (hl : (s.lane n).eyeLow = true) :
    s.eyeMeasure n height width = (s.eyeMeasured n height width).event (laneBlock n) 0x405 0 := by
  simp [State.eyeMeasure, h3, hg, he, hl, Nat.ne_of_gt (Nat.zero_lt_of_lt he), State.eyeMeasured]

/-- The warning is given once. -/
theorem State.eyeMeasure_warns (hl : (s.lane n).eyeLow = false) :
    s.eyeMeasure n height width =
      (((s.eyeMeasured n height width).event (laneBlock n) 0x405 0).warn (laneBlock n) 0x405 (0x2900 + n) 0xc []).updLane n
        fun l => { l with eyeLow := true } := by
  simp [State.eyeMeasure, h3, hg, he, hl, Nat.ne_of_gt (Nat.zero_lt_of_lt he), State.eyeMeasured]

end

end

end

/-! ### LANE ENABLE (R516, R553) -/

/-- The row of ENABLE of the lanes. -/
def laneEnableRow : ObjRow := ⟨0x2920, 24, 0x04, 1, .bool, .rw, true, 1, .bt 0 1, .now⟩

theorem laneEnable_key (n : Nat) : 256 * (0x2920 + n) + 4 = O.LANE_CONFIG_ENABLE n := by
  simp only [O.LANE_CONFIG_ENABLE]
  omega

theorem laneEnable_index (n : Nat) : O.LANE_CONFIG_ENABLE n / 256 = 0x2920 + n := by
  rw [← laneEnable_key]
  omega

theorem laneEnable_sub (n : Nat) : O.LANE_CONFIG_ENABLE n % 256 = 4 := by
  rw [← laneEnable_key]
  omega

theorem laneEnable_apart : ∀ n < 24, O.LANE_CONFIG_ENABLE n ≠ O.X_SHIFT ∧ O.LANE_CONFIG_ENABLE n ≠ O.STITCH_POS ∧
    O.LANE_CONFIG_ENABLE n ≠ O.ROW_POS ∧ O.LANE_CONFIG_ENABLE n ≠ O.JOB_CONTROL := by decide

theorem row_laneEnable : ∀ n < 24, Dict.row? (0x2920 + n) 4 = some laneEnableRow := by decide +kernel

theorem isMirrored_laneEnable : ∀ n < 24, isMirrored (O.LANE_CONFIG_ENABLE n) = false := by decide +kernel

theorem jobScoped_laneEnable : ∀ n < 24, Dict.jobScoped (0x2920 + n) = false := by decide +kernel

theorem valueOk_laneEnable {v : Nat} (h : v < 2) : valueOk laneEnableRow v = true := by
  simp [valueOk, laneEnableRow, Rng.ok, Ty.value, Ty.signed]
  omega

section

variable {n : Nat} (hn : n < 24)

include hn

/-- ENABLE is no command, no position and no row of alignment, and its effect is laneEnableChanged. -/
theorem State.laneEnable_plain (s old : State) (v : Nat) :
    s.commandOp (O.LANE_CONFIG_ENABLE n) v = none ∧ s.nowRefusal (O.LANE_CONFIG_ENABLE n) v = none ∧
      s.alignRows (O.LANE_CONFIG_ENABLE n) v = [] ∧ s.nowEffect (O.LANE_CONFIG_ENABLE n) old = s.laneEnableChanged n :=
  match n, hn with
  | 0, _ | 1, _ | 2, _ | 3, _ | 4, _ | 5, _ | 6, _ | 7, _ | 8, _ | 9, _ | 10, _ | 11, _ | 12, _ | 13, _ | 14, _ | 15, _ | 16, _
  | 17, _ | 18, _ | 19, _ | 20, _ | 21, _ | 22, _ | 23, _ => ⟨rfl, rfl, rfl, rfl⟩
  | k + 24, h => absurd h (Nat.not_lt.mpr (Nat.le_add_left 24 k))

/-- A new value of ENABLE is in effect at once. -/
theorem State.objectOp_laneEnable {s : State} {v : Nat} (hv : s.rd (O.LANE_CONFIG_ENABLE n) ≠ v) :
    s.objectOp (O.LANE_CONFIG_ENABLE n) v =
      .of Status.ok (((s.wr (O.LANE_CONFIG_ENABLE n) v).laneEnableChanged n).hostTouch [] none) := by
  obtain ⟨hx, hp, hr, -⟩ := laneEnable_apart n hn
  obtain ⟨hc, hn', ha, -⟩ := State.laneEnable_plain hn s s v
  obtain ⟨-, -, -, he⟩ := State.laneEnable_plain hn (s.wr (O.LANE_CONFIG_ENABLE n) v) s v
  have hset : s.setNow (O.LANE_CONFIG_ENABLE n) v = (s.wr (O.LANE_CONFIG_ENABLE n) v).laneEnableChanged n := by
    rw [State.setNow, if_neg hx, if_neg hp, if_neg hr, if_neg hv, he]
  simp only [State.objectOp, hc, hn', ha, laneEnable_index, jobScoped_laneEnable n hn, hset, Bool.false_eq_true, ↓reduceIte]

theorem State.valueWrite_laneEnable {s : State} {v : Nat} (h2 : v < 2) (hv : s.rd (O.LANE_CONFIG_ENABLE n) ≠ v) :
    s.valueWrite laneEnableRow (0x2920 + n) 4 v =
      .of Status.ok (((s.wr (O.LANE_CONFIG_ENABLE n) v).laneEnableChanged n).hostTouch [] none) := by
  have ha : s.authorityRefused (O.LANE_CONFIG_ENABLE n) = false := by
    obtain ⟨-, -, -, hj⟩ := laneEnable_apart n hn
    simp [State.authorityRefused, isMirrored_laneEnable n hn, hj]
  simp only [State.valueWrite, laneEnable_key, valueOk_laneEnable h2, ha, State.objectOp_laneEnable hn hv, Reply.of,
    State.forwardBytes_plain _ _ _ (isMirrored_laneEnable n hn)]
  simp [laneEnableRow]

end

theorem writes_laneEnable {t n v : Nat} (hn : n < 24) (hv : v < 2) :
    Writes (fun h => .laneEnable t h n v) t (O.LANE_CONFIG_ENABLE n) [toByte v] (fun u => u.rd (O.LANE_CONFIG_ENABLE n) ≠ v)
      (fun u => ((u.wr (O.LANE_CONFIG_ENABLE n) v).laneEnableChanged n).hostTouch [] none) := by
  have hle : leNat [toByte v] = v := (leNat_natLE 1 v).trans (Nat.mod_eq_of_lt (by omega))
  refine writes_of _ t _ _ laneEnableRow _ _ (fun h s => ?_) (by rw [laneEnable_index]; omega) ?_ rfl rfl rfl (by simp) fun u hu => ?_
  · change s.does t (fun s => s.hostWrite h (0x292004 + 256 * (n % 24)) [toByte v]) = _
    rw [Nat.mod_eq_of_lt hn]
  · rw [laneEnable_index, laneEnable_sub]
    exact findObject_of_row (by omega) (Dict.hasIndex_of_row (row_laneEnable n hn)) (row_laneEnable n hn)
  · rw [laneEnable_index, laneEnable_sub, hle]
    exact State.valueWrite_laneEnable hn hv hu

/-! ### RETRAIN (R555) -/

/-- The row of RETRAIN. -/
def retrainRow : ObjRow := ⟨0x2941, 1, 0x00, 1, .u32, .cmd, false, 0, .bt 0 16777215, .now⟩

theorem row_retrain : Dict.row? (O.RETRAIN / 256) (O.RETRAIN % 256) = some retrainRow := by decide +kernel

theorem valueOk_retrain {v : Nat} (h : v < 2 ^ 24) : valueOk retrainRow v = true := by
  simp [valueOk, retrainRow, Rng.ok, Ty.value, Ty.signed]
  omega

theorem State.retrain_named {u : State} {v : Nat} (hv : v < 2 ^ 24) (h0 : v ≠ 0)
    (he : ∀ n, n < 24 → bit v n = true → u.rdB (O.LANE_CONFIG_ENABLE n) = true) :
    u.retrain v = .of Status.ok (((List.range 24).filter (bit v)).foldl (fun (s : State) n => s.retrainLane n true) u) := by
  have hany : (((List.range 24).filter (bit v)).any fun n => !u.rdB (O.LANE_CONFIG_ENABLE n)) = false := by
    refine List.any_eq_false.mpr fun n hn => ?_
    obtain ⟨hr, hb⟩ := List.mem_filter.mp hn
    simp [he n (List.mem_range.mp hr) hb]
  simp only [State.retrain, Nat.not_le.mpr hv, h0, hany, Bool.false_eq_true, ↓reduceIte]

theorem writes_retrain {t v : Nat} (hv : v < 2 ^ 24) (h0 : v ≠ 0) :
    Writes (fun h => .retrain t h v) t O.RETRAIN (natLE 4 v)
      (fun u => ∀ n, n < 24 → bit v n = true → u.rdB (O.LANE_CONFIG_ENABLE n) = true)
      (fun u => ((List.range 24).filter (bit v)).foldl (fun (s : State) n => s.retrainLane n true) u) := by
  have hle : leNat (natLE 4 v) = v := (leNat_natLE 4 v).trans (Nat.mod_eq_of_lt (by omega))
  refine writes_of _ t _ _ retrainRow _ _ (fun _ _ => rfl) (by decide)
    (findObject_of_row (by decide) (Dict.hasIndex_of_row row_retrain) row_retrain) rfl rfl rfl (by simp [natLE_length]) fun u hu => ?_
  rw [hle]
  exact u.valueWrite_cmd retrainRow O.RETRAIN v _ (by decide) (by decide) (valueOk_retrain hv) (by decide) (by decide +kernel)
    (congrArg some (State.retrain_named hv h0 hu))

end Sys2Proof.Machine

open Sys2Proof Sys2Proof.Machine

/-- Settles O45: lost lock, control words, the host's two ways to a lane, low power, and the eye at, above and below EYE_WARN. -/
theorem laneFaultsAndLowPower : Obligations.LaneFaultsAndLowPower := by
  refine ⟨⟨fun s t n h => State.does_eq _ _ _ _ (State.lockLost_up (s := s.at t) h),
      fun s t n h => State.does_eq _ _ _ _ (State.lockLost_locking (s := s.at t) h),
      fun s t n w hw h => State.does_eq _ _ _ _ (State.laneControlWord_negotiating (s := s.at t) hw h),
      fun s t n w hw h => State.does_eq _ _ _ _ (State.laneControlWord_training (s := s.at t) hw h),
      fun s t n w hw => State.does_eq _ _ _ _ (State.laneControlWord_otherType hw),
      fun t n v hn hv => writes_laneEnable hn hv, fun t v hv h0 => writes_retrain hv h0, fun s n h => State.retrainLane_off h⟩,
    fun s t n level hlv => ⟨fun h => State.does_eq _ _ _ _ (State.laneLpEntry_up (s := s.at t) hlv h),
      fun h => State.does_eq _ _ _ _ (State.laneLpEntry_held (s := s.at t) hlv h)⟩,
    fun s t n level since hl hd => State.does_eq _ _ _ _ (State.lpNoAck_due (s := s.at t) hl hd),
    fun s t n h => State.does_eq _ _ _ _ (State.laneLpExit_l1 (s := s.at t) h),
    fun s t n h ho => State.does_eq _ _ _ _ (State.laneLpExit_l2 (s := s.at t) h ho),
    fun s t n height width hn ha h3 hg => ?_⟩
  have hm := State.eyeMonitor_awake (s := s.at t) hn ha height width
  refine ⟨fun he => State.does_eq _ _ _ _ ?_, fun he => State.does_eq _ _ _ _ ?_, fun he hl => State.does_eq _ _ _ _ ?_,
    fun he hl => State.does_eq _ _ _ _ ?_⟩
  · rw [hm, State.eyeMeasure_at (s := s.at t) width h3 hg he, State.eyeMeasured]
  · rw [hm, State.eyeMeasure_above (s := s.at t) width h3 hg he, State.eyeMeasured]
  · rw [hm, State.eyeMeasure_low (s := s.at t) width h3 hg he hl, State.eyeMeasured]
  · rw [hm, State.eyeMeasure_warns (s := s.at t) width h3 hg he hl, State.eyeMeasured]

end

section
/-! PROOF. Camera control (R561, R562, R570 to R575, R590): the ends of scripts, the records of a pipeline, and SNAPSHOT. -/

namespace Sys2Proof.Machine

/-! ### The ends of scripts (R561, R562, R571, R575) -/

section

variable {s : State} {k : Nat}

theorem State.cciDone_init (h : s.rd (O.CAM_STATUS_STATE k) = 1) : s.cciDone k 0 true = s.runScript k 1 (s.liveValues k) := by
  simp [State.cciDone, h]

theorem State.cciDone_start (h : s.rd (O.CAM_STATUS_STATE k) = 1) : s.cciDone k 1 true = s.wr (O.CAM_STATUS_STATE k) 2 := by
  simp [State.cciDone, h]

theorem State.cciDone_failed (h : s.rd (O.CAM_STATUS_STATE k) = 1) :
    s.cciDone k 0 false = (s.wr (O.CAM_STATUS_STATE k) 4).event (0x38 + k) 6 0 := by
  simp [State.cciDone, h]

theorem State.cciDone_stop (h : s.rd (O.CAM_STATUS_STATE k) = 3) (he : s.rdB (O.CAM_PORT_ENABLE k) = false) :
    s.cciDone k 2 true = s.wr (O.CAM_STATUS_STATE k) 0 := by
  simp [State.cciDone, h, he]

section

variable {g : Gen} (hg : (s.cam k).gens.find? (fun g => g.started.isSome && g.effect.isNone) = some g)

include hg

theorem State.settingsDone_applied (hl : g.late = false) :
    s.settingsDone k true =
      let done : Gen := { g with effect := some (g.started.getD 0 + s.rd (O.SETTING_LATENCY k)) }
      (s.updCam k fun c => { c with gens := c.gens.map (fun h => if h.no = g.no then done else h), applied := some done }).wrs
        [(O.CAM_APPLIED k, g.no), (O.LIVE_RESULT k, 1)] := by
  simp [State.settingsDone, hg, hl, b2n]

theorem State.settingsDone_failed :
    s.settingsDone k false =
      ((s.updCam k fun c => { c with gens := c.gens.filter (·.no != g.no) }).wr (O.LIVE_RESULT k) 2).event (0x38 + k) 6 0 := by
  simp only [State.settingsDone, hg, Bool.false_eq_true, ↓reduceIte]

end

end

/-! ### The records of a pipeline (R561, R563, R573, R601) -/

theorem row_camApply : ∀ first ∈ [0x3004, 0x3008, 0x3014, 0x3101], ∀ k < 4,
    Dict.row? (first + k) 255 = some (applyRow first 4) := by decide +kernel

/-- A record of the position chapter's kind: its values are in effect, and no block refuses them. -/
theorem State.recordOp_camera (u : State) {idx : Nat} (h : (0x3004 ≤ idx ∧ idx ≤ 0x3013) ∨ (0x3101 ≤ idx ∧ idx ≤ 0x3104))
    (hf : (u.wrs (u.staged idx)).recordFail idx = none) (hr : (u.wrs (u.staged idx)).recordRefusal idx u = false) :
    u.recordOp idx (u.staged idx) = .of Status.ok ((u.wrs (u.staged idx)).recordEffect idx u) := by
  rw [u.recordOp_taken idx (by omega) (by omega) hf hr]
  simp only [Bool.and_eq_true, decide_eq_true_eq]
  simp (disch := omega) only [if_neg]

theorem State.recordEffect_camPort (v u : State) {k : Nat} (hk : k < 4) : v.recordEffect (0x3004 + k) u = v.camPortApplied k := by
  simp only [State.recordEffect, Bool.and_eq_true, decide_eq_true_eq]
  simp (disch := omega) only [if_neg, if_pos, Nat.add_sub_cancel_left]

theorem State.recordEffect_camSettings (v u : State) {idx : Nat}
    (h : (0x3008 ≤ idx ∧ idx ≤ 0x3013) ∨ (0x3101 ≤ idx ∧ idx ≤ 0x3104)) : v.recordEffect idx u = v := by
  have hd : (decide (idx = 0x3900) || decide (idx = 0x3901)) = false := by simp; omega
  simp only [State.recordEffect, hd, Bool.and_eq_true, decide_eq_true_eq, Bool.false_eq_true, ↓reduceIte]
  simp (disch := omega) only [if_neg]

theorem applies_camera {c : Hdr → Instr} {t first k : Nat} {pre : State → State → Prop} {op : State → State → State}
    (hc : ∀ h s, exec (c h) s = s.does t fun u => u.hostWrite h (256 * first + 255 + 256 * (k % 4)) [1#8]) (hk : k < 4)
    (hi : first ∈ [0x3004, 0x3008, 0x3101]) (ho : ∀ u v, pre u v → v.recordEffect (first + k) u = op u v) :
    Applies c t (first + k) pre op := by
  have hkey : 256 * first + 255 + 256 * (k % 4) = 256 * (first + k) + 255 := by omega
  have hrow := row_camApply first (by revert hi; simp; omega) k hk
  have hlim : (0x3004 ≤ first + k ∧ first + k ≤ 0x3013) ∨ (0x3101 ≤ first + k ∧ first + k ≤ 0x3104) := by
    simp only [List.mem_cons, List.not_mem_nil, or_false] at hi
    omega
  rw [hkey] at hc
  refine applies_of c t (first + k) (applyRow first 4) pre op hc (by omega)
    (findObject_of_row (by omega) (Dict.hasIndex_of_row hrow) hrow) rfl rfl rfl (Option.isSome_of_eq_some hrow) (by omega)
    fun u hf hr hp => ?_
  rw [u.recordOp_camera hlim hf hr, ho _ _ hp]

/-- The settings of a pipeline with the staged values in their place (R573). -/
def State.liveStaged (u : State) (k : Nat) : Nat × Nat × Nat :=
  (stagedOr (u.staged (0x3014 + k)) (O.LIVE_EXPOSURE k) (u.liveValues k).1,
    stagedOr (u.staged (0x3014 + k)) (O.LIVE_GAIN k) (u.liveValues k).2.1,
    stagedOr (u.staged (0x3014 + k)) (O.LIVE_STROBE_WIDTH k) (u.liveValues k).2.2)

theorem State.recordOp_camLive {u : State} {k : Nat} (hk : k < 4) (ha : u.mayAdmit k = true) :
    u.recordOp (0x3014 + k) (u.staged (0x3014 + k)) = .of Status.ok (u.takeSettings k (u.liveStaged k) false) := by
  have hl : (decide (0x3014 ≤ 0x3014 + k) && decide (0x3014 + k ≤ 0x3017)) = true := by simp; omega
  rw [State.recordOp, if_neg (by omega), if_pos hl, Nat.add_sub_cancel_left]
  exact if_pos ha

theorem writes_camLive {t k : Nat} (hk : k < 4) :
    Writes (fun h => .camLiveApply t h k 1) t (256 * (0x3014 + k) + 255) [1#8]
      (fun u => u.authorityRefused (256 * (0x3014 + k) + 255) = false ∧ u.staged (0x3014 + k) ≠ [] ∧
        stageFail (u.staged (0x3014 + k)) = none ∧ u.mayAdmit k = true)
      (fun u => ((u.takeSettings k (u.liveStaged k) false).dropStage (0x3014 + k)).forwardRecord (0x3014 + k)
        (u.staged (0x3014 + k))) := by
  have h1 : (256 * (0x3014 + k) + 255) / 256 = 0x3014 + k := by omega
  have h2 : (256 * (0x3014 + k) + 255) % 256 = 255 := by omega
  have hkey : 0x3014ff + 256 * (k % 4) = 256 * (0x3014 + k) + 255 := by omega
  have hrow := row_camApply 0x3014 (by decide) k hk
  refine writes_of _ t _ _ (applyRow 0x3014 4) _ _ (fun h s => ?_) (by omega) ?_ rfl rfl rfl (by decide)
    fun u ⟨hau, hs, hf, ha⟩ => ?_
  · change s.does t (fun s => s.hostWrite h (0x3014ff + 256 * (k % 4)) [toByte 1]) = _
    rw [hkey]
    rfl
  · rw [h1, h2]
    exact findObject_of_row (by omega) (Dict.hasIndex_of_row hrow) hrow
  · rw [h1, h2]
    exact State.valueWrite_apply u _ _ _ (Option.isSome_of_eq_some hrow) (by omega) hau hs hf (State.recordOp_camLive hk ha)

theorem State.takeSettings_generation (s : State) (k : Nat) (v : Nat × Nat × Nat) (swap : Bool) :
    (s.takeSettings k v swap).rd (O.CAM_GENERATION k) = (s.rd (O.CAM_GENERATION k) + 1) % 65536 :=
  State.rd_wr_same _ _ _

/-! ### SNAPSHOT (R590) -/

/-- The row of SNAPSHOT. -/
def snapshotRow : ObjRow := ⟨0x3050, 1, 0x00, 1, .u16, .cmd, false, 0, .any, .now⟩

theorem row_snapshot : Dict.row? (O.SNAPSHOT / 256) (O.SNAPSHOT % 256) = some snapshotRow := by decide +kernel

theorem writes_snapshot {t v : Nat} (hv : v < 65536) (h0 : v ≠ 0) :
    Writes (fun h => .snapshot t h v) t O.SNAPSHOT (natLE 2 v) (fun _ => True)
      (fun u => (List.range 4).foldl (fun s k => s.updCam k fun c =>
        { c with snaps := (List.range 4).filter fun j => bit v (4 * k + j) || c.snaps.contains j }) u) := by
  have hle : leNat (natLE 2 v) = v := (leNat_natLE 2 v).trans (Nat.mod_eq_of_lt hv)
  refine writes_of _ t _ _ snapshotRow _ _ (fun _ _ => rfl) (by decide)
    (findObject_of_row (by decide) (Dict.hasIndex_of_row row_snapshot) row_snapshot) rfl rfl rfl (by simp [natLE_length]) fun u _ => ?_
  rw [hle]
  exact u.valueWrite_cmd snapshotRow O.SNAPSHOT v _ (by decide) (by decide) rfl (by decide) (by decide +kernel)
    (congrArg some (if_neg h0))

end Sys2Proof.Machine

open Sys2Proof Sys2Proof.Machine

/-- Settles O46: each end of a script, the records of a pipeline, SNAPSHOT, and the generation of a change. -/
theorem cameraControl : Obligations.CameraControl := by
  refine ⟨fun s t k h => ⟨State.does_eq _ _ _ _ (State.cciDone_init (s := s.at t) h),
      State.does_eq _ _ _ _ (State.cciDone_start (s := s.at t) h), State.does_eq _ _ _ _ (State.cciDone_failed (s := s.at t) h)⟩,
    fun s t k h he => State.does_eq _ _ _ _ (State.cciDone_stop (s := s.at t) h he),
    fun s t k g hg => ⟨fun hl => State.does_eq _ _ _ _ (State.settingsDone_applied (s := s.at t) hg hl),
      State.does_eq _ _ _ _ (State.settingsDone_failed (s := s.at t) hg)⟩,
    fun t k hk => ⟨?_, ?_, ?_, writes_camLive hk⟩, fun t v hv h0 => writes_snapshot hv h0,
    fun s k v => State.takeSettings_generation s k v false⟩
  · exact applies_camera (fun _ _ => rfl) hk (by decide) fun u v _ => v.recordEffect_camPort u hk
  · exact applies_camera (fun _ _ => rfl) hk (by decide) fun u v _ => v.recordEffect_camSettings u (by omega)
  · exact applies_camera (fun _ _ => rfl) hk (by decide) fun u v _ => v.recordEffect_camSettings u (by omega)

end

section
/-! PROOF. Frames and inspection (R556 to R566, R578, R579, R595 to R616): what starts a frame, fills it, and compares it. -/

namespace Sys2Proof.Machine

/-! ### Frames (R556 to R566, R578, R579) -/

section

variable {s : State} {k : Nat}

theorem State.closeFrame_none (h : (s.cam k).frame = none) (cut : Bool) : s.closeFrame k cut = s := by
  simp only [State.closeFrame, h]

section

variable (hr : s.camRuns k = true) (hf : s.freeRunning k = false) (hn : (s.cam k).frame = none)

include hr hf hn

theorem State.frameStart_triggered {g : Trigger} {rest : List Trigger} (hp : (s.cam k).pending = g :: rest)
    (hd : s.dropStreams k = s) :
    s.frameStart k = (s.updCam k fun c => { c with pending := c.pending.drop 1 }).openFrame k g.pos false g.set := by
  simp only [State.frameStart, hr, State.closeFrame_none hn, hf, hp, hd, Bool.not_true, Bool.false_eq_true, ↓reduceIte]

theorem State.frameStart_untriggered (hp : (s.cam k).pending = []) :
    s.frameStart k = (s.camUncertain k).event (0x38 + k) 4 0 := by
  simp only [State.frameStart, hr, State.closeFrame_none hn, hf, hp, Bool.not_true, Bool.false_eq_true, ↓reduceIte]

end

section

variable {p : CsiPacket} (he : p.eccBad = false)

include he

theorem State.csiPacket_elsewhere (h : p.vc ≠ s.rd (O.CAM_VC k) ∨ p.dataType ≠ s.rd (O.DATA_TYPE k)) : s.csiPacket k p = s := by
  have hb : (p.vc != s.rd (O.CAM_VC k) || p.dataType != s.rd (O.DATA_TYPE k)) = true := by simpa using h
  simp only [State.csiPacket, he, hb, Bool.false_eq_true, ↓reduceIte]
  exact ite_self _

/-- A packet whose CRC is right is the next line. -/
theorem State.csiPacket_line {f : CamFrame} (hv : p.vc = s.rd (O.CAM_VC k)) (hd : p.dataType = s.rd (O.DATA_TYPE k))
    (hr : s.camRuns k = true) (hf : (s.cam k).frame = some f) (ho : p.overflow = false)
    (hh : f.lines.length < s.rd (O.CAM_PORT_HEIGHT k)) (hc : p.crcBad = false) :
    s.csiPacket k p = s.updCam k fun c => { c with frame := some { f with
      lines := f.lines ++ [((p.pixels ++ List.replicate (s.rd (O.CAM_PORT_WIDTH k)) 0).take (s.rd (O.CAM_PORT_WIDTH k))).map
        (promote p.dataType)] } } := by
  have hb : (p.vc != s.rd (O.CAM_VC k) || p.dataType != s.rd (O.DATA_TYPE k)) = false := by simp [hv, hd]
  simp only [State.csiPacket, hr, he, hb, hf, ho, Nat.not_le.mpr hh, hc, Bool.not_true, Bool.false_and, Bool.false_eq_true,
    ↓reduceIte]

end

theorem State.triggerTimeout_due {g : Trigger} {rest : List Trigger} (hp : (s.cam k).pending = g :: rest)
    (hd : g.since + s.rd (O.TRIGGER_TIMEOUT k) * ms ≤ s.now) :
    s.triggerTimeout k =
      (((s.updCam k fun c => { c with pending := c.pending.drop 1 }).camUncertain k).inc (O.MISSED_FRAMES k)).event (0x38 + k) 3 0 := by
  have hdue : s.due g.since (s.rd (O.TRIGGER_TIMEOUT k) * ms) = true := decide_eq_true hd
  simp only [State.triggerTimeout, hp, hdue, ↓reduceIte]

/-! ### The oldest frame that waits (R595, R599 to R612) -/

section

variable {f : StreamFrame} {rest : List StreamFrame} (hd : s.deliverDone k = s) (hc : (s.cam k).compare = f :: rest)

include hd hc

/-- Without a reference of its pipeline a frame is excluded. -/
theorem State.frameCompare_unreferenced (h0 : (s.dom (0x3110 + k)).size = 0) :
    s.frameCompare k = (s.updCam k fun c => { c with compare := rest }).inc O.FRAMES_EXCLUDED := by
  have h0' : ((s.updCam k fun c => { c with compare := rest }).dom (0x3110 + k)).size = 0 := h0
  simp only [State.frameCompare, hd, hc, h0', decide_true, Bool.or_true, ↓reduceIte]
  rfl

theorem State.referenceLate_due (h : f.arrived + 10 * ms ≤ s.now) :
    s.referenceLate k = ((s.updCam k fun c => { c with compare := rest }).inc O.FRAMES_EXCLUDED).event 0x3c 6 0 := by
  have hdue : s.due f.arrived (10 * ms) = true := decide_eq_true h
  simp only [State.referenceLate, hd, hc, hdue, ↓reduceIte]
  rfl

/-- The frame with its lines as the footprints count them. -/
def State.shotOf (s : State) (k : Nat) (f : StreamFrame) : Shot :=
  ⟨f, ((f.info.pos / 65536 : Nat) : Int) - (s.camDist k : Nat), k, (List.range 4).filter (bit f.mask)⟩

/-- A frame with no flag against it, between lines that the reference has, is compared. -/
theorem State.frameCompare_compares (h0 : bit f.info.flags 0 = false) (h2 : bit f.info.flags 2 = false)
    (h3 : bit f.info.flags 3 = false) (h5 : bit f.info.flags 5 = false) (hs : (s.dom (0x3110 + k)).size ≠ 0)
    (ha : s.refHas (s.shotOf k f).span.1 = true) (hb : s.refHas (s.shotOf k f).span.2 = true) :
    s.frameCompare k = (s.updCam k fun c => { c with compare := rest }).compareShot (s.shotOf k f) := by
  have hflags : (bit f.info.flags 0 || bit f.info.flags 2 || bit f.info.flags 3 || bit f.info.flags 5 ||
      decide (((s.updCam k fun c => { c with compare := rest }).dom (0x3110 + k)).size = 0)) = false := by
    rw [h0, h2, h3, h5]
    exact decide_eq_false hs
  have href : (!(s.updCam k fun c => { c with compare := rest }).refHas (s.shotOf k f).span.1 ||
      !(s.updCam k fun c => { c with compare := rest }).refHas (s.shotOf k f).span.2) = false := by
    change (!s.refHas (s.shotOf k f).span.1 || !s.refHas (s.shotOf k f).span.2) = false
    rw [ha, hb]
    rfl
  simp only [State.frameCompare, hd, hc, hflags, Bool.false_eq_true, ↓reduceIte]
  exact if_neg (Bool.eq_false_iff.mp href)

end

end

/-! ### The findings of a page (R616, R627) -/

section

variable {s : State} {job page : Nat}

/-- A page that was not printed feeds no loop; its defects are recorded (log 34). -/
theorem State.findingsCommit_unprinted {p : Span}
    (hp : (s.inspect.spans.find? fun p => p.job == job && p.page == page && p.outcome.isSome) = some p) (ho : p.outcome ≠ some 2) :
    s.findingsCommit job page =
      let fs := s.inspect.found.filter fun f => f.job == job && f.page == page
      let v := (s.defects fs false []).foldl (fun (s : State) d => s.defect p d) s
      ({ v with inspect := { v.inspect with
          found := v.inspect.found.filter fun f => !(f.job == job && f.page == page)
          spans := v.inspect.spans.filter fun q => !(q.job == job && q.page == page) } } : State).showSuspects := by
  simp only [State.findingsCommit, hp, beq_false_of_ne ho, Bool.false_eq_true, ↓reduceIte]

theorem State.findingsCommit_open
    (hp : (s.inspect.spans.find? fun p => p.job == job && p.page == page && p.outcome.isSome) = none) :
    s.findingsCommit job page = s := by
  simp only [State.findingsCommit, hp]

end

end Sys2Proof.Machine

open Sys2Proof Sys2Proof.Machine

/-- Settles O47: frame starts, packets and triggers; the frame that waits for its comparison; and the findings of a page. -/
theorem framesAndInspection : Obligations.FramesAndInspection := by
  refine ⟨⟨fun s t k g rest hr hf hn hp hd _ => State.does_eq _ _ _ _ (State.frameStart_triggered (s := s.at t) hr hf hn hp hd),
      fun s t k hr hf hn hp => State.does_eq _ _ _ _ (State.frameStart_untriggered (s := s.at t) hr hf hn hp),
      fun s t k => State.does_eq _ _ _ _ rfl,
      fun s t k p f he hv hd hr hf ho hh hc => State.does_eq _ _ _ _ (State.csiPacket_line (s := s.at t) he hv hd hr hf ho hh hc),
      fun s t k p he h => State.does_eq _ _ _ _ (State.csiPacket_elsewhere (s := s.at t) he h),
      fun s t k g rest hp hd => State.does_eq _ _ _ _ (State.triggerTimeout_due (s := s.at t) hp hd)⟩,
    fun s t k f rest hd hc h0 => State.does_eq _ _ _ _ (State.frameCompare_unreferenced (s := s.at t) hd hc h0),
    fun s t k f rest hd hc h => State.does_eq _ _ _ _ (State.referenceLate_due (s := s.at t) hd hc h),
    fun s t k f rest hd hc h0 h2 h3 h5 hs ha hb =>
      State.does_eq _ _ _ _ (State.frameCompare_compares (s := s.at t) hd hc h0 h2 h3 h5 hs ha hb),
    fun s t job page p hp ho => State.does_eq _ _ _ _ (State.findingsCommit_unprinted (s := s.at t) hp ho),
    fun s t job page hp => State.does_eq _ _ _ _ (State.findingsCommit_open (s := s.at t) hp)⟩

end

section
/-! PROOF. The memory channels (R643, R650 to R672): freeze, refresh, scrub, training, fill and retraining. -/

namespace Sys2Proof.Machine

/-! ### The objects of a channel -/

/-- An event leaves what the channels show. -/
theorem State.event_channel (s : State) (b code data d : Nat) : (s.event b code data).channel d = s.channel d :=
  s.event_rd b code data _ (by simp only [O.CHANNEL_STATUS_STATE, O.NOTICES_LOST]; omega)

theorem State.event_frozen (s : State) (b code data : Nat) : (s.event b code data).rd O.DRAM_FROZEN = s.rd O.DRAM_FROZEN :=
  s.event_rd b code data _ (by decide)

theorem State.channel_wr_same (s : State) (c v : Nat) : (s.wr (O.CHANNEL_STATUS_STATE c) v).channel c = v := State.rd_wr_same _ _ _

theorem State.channel_wr_ne (s : State) {c d : Nat} (v : Nat) (h : d ≠ c) :
    (s.wr (O.CHANNEL_STATUS_STATE c) v).channel d = s.channel d :=
  State.rd_wr_ne _ _ _ _ (by simp only [O.CHANNEL_STATUS_STATE]; omega)

theorem State.channel_wr_frozen (s : State) (v d : Nat) : (s.wr O.DRAM_FROZEN v).channel d = s.channel d :=
  State.rd_wr_ne _ _ _ _ (by simp only [O.CHANNEL_STATUS_STATE, O.DRAM_FROZEN]; omega)

theorem State.channel_wr_fillDone (s : State) (v d : Nat) : (s.wr O.DRAM_FILL_DONE v).channel d = s.channel d :=
  State.rd_wr_ne _ _ _ _ (by simp only [O.CHANNEL_STATUS_STATE, O.DRAM_FILL_DONE]; omega)

theorem State.frozen_wr_channel (s : State) (c v : Nat) : (s.wr (O.CHANNEL_STATUS_STATE c) v).rd O.DRAM_FROZEN = s.rd O.DRAM_FROZEN :=
  State.rd_wr_ne _ _ _ _ (by simp only [O.CHANNEL_STATUS_STATE, O.DRAM_FROZEN]; omega)

/-! ### Freeze (R661 to R664) -/

/-- What the freeze record of channel c shows of an error. -/
def State.ShowsFreeze (s : State) (c kind : Nat) (r : FreezeReport) (time : Nat) : Prop :=
  s.rd (O.FREEZE_KIND c) = kind ∧ s.rd (O.FREEZE_ADDRESS c) = r.address % 2 ^ 64 ∧
    s.rd (O.FREEZE_BANK_GROUP c) = bankGroupOf fittedGroups r.address ∧
    s.rd (O.FREEZE_SYNDROME c) = (if kind = 2 then 0 else r.syndrome % 256) ∧ s.rd (O.FREEZE_TIME c) = time

theorem State.freezeRecord_shows (s : State) (c kind : Nat) (r : FreezeReport) :
    (s.freezeRecord c kind r).ShowsFreeze c kind r s.mono := by
  simp [State.ShowsFreeze, State.freezeRecord, State.wrs, State.rd_wr]

/-- What leaves the freeze record's objects as they are leaves what it shows. -/
theorem State.ShowsFreeze.of_rd {s u : State} {c kind time : Nat} {r : FreezeReport} (h : s.ShowsFreeze c kind r time)
    (hr : ∀ k, 0x320801 ≤ k → u.rd k = s.rd k) : u.ShowsFreeze c kind r time := by
  obtain ⟨h1, h2, h3, h4, h5⟩ := h
  have hge (k : Nat) (hk : 0x320801 ≤ k) : u.rd (k + 256 * c) = s.rd (k + 256 * c) := hr _ (Nat.le_add_right_of_le hk)
  exact ⟨(hge _ (by decide)).trans h1, (hge _ (by decide)).trans h2, (hge _ (by decide)).trans h3,
    (hge _ (by decide)).trans h4, (hge _ (by decide)).trans h5⟩

/-- A channel that fills or runs and meets an error that stops it. -/
def State.frozen (s : State) (c kind : Nat) (r : FreezeReport) : State :=
  let s0 := if kind = 1 then s.inc (O.CHANNEL_STATUS_UNCORRECTABLE c) else s
  ((((s0.freezeRecord c kind r).wr (O.CHANNEL_STATUS_STATE c) 3).wr O.DRAM_FROZEN (setBit (s.rd O.DRAM_FROZEN) c true)).event
    (dramBlock c) (kind + 1) 0)

section

variable {s : State} {c : Nat} {r : FreezeReport} (hc : c < 4)

include hc

theorem State.freeze_stops (kind : Nat) (ha : channelOf r.address = c) (hs : s.channel c = 1 ∨ s.channel c = 2) :
    s.freeze c kind r =
      { s.frozen c kind r with
        acts := (s.frozen c kind r).acts ++ [.safe ⟨dramBlock c, 3, kind + 1⟩ true]
        fire := { (s.frozen c kind r).fire with voidNext := true } } := by
  have hn : (decide (4 ≤ c) || decide (s.channel c = 0) || channelOf r.address != c) = false := by
    rcases hs with hs | hs <;> simp [hs, ha, hc]
  have hb : (decide (s.channel c = 1) || decide (s.channel c = 2)) = true := by simpa using hs
  simp only [State.freeze, hn, hb, Bool.false_eq_true, ↓reduceIte]
  rfl

theorem State.frozen_shows (kind : Nat) :
    (s.frozen c kind r).channel c = 3 ∧ bit ((s.frozen c kind r).rd O.DRAM_FROZEN) c = true ∧
      (s.frozen c kind r).ShowsFreeze c kind r s.mono := by
  refine ⟨?_, ?_, ?_⟩
  · rw [State.frozen, State.event_channel, State.channel_wr_frozen, State.channel_wr_same]
  · rw [State.frozen, State.event_frozen, State.rd_wr_same, bit_setBit_same]
  · have hm : (if kind = 1 then s.inc (O.CHANNEL_STATUS_UNCORRECTABLE c) else s).mono = s.mono := by split <;> rfl
    rw [State.frozen, ← hm]
    refine (State.freezeRecord_shows _ c kind r).of_rd fun k hk => ?_
    have hn : k ≠ O.NOTICES_LOST := by simp only [O.NOTICES_LOST]; omega
    have hf : O.DRAM_FROZEN ≠ k := by simp only [O.DRAM_FROZEN]; omega
    have hst : O.CHANNEL_STATUS_STATE c ≠ k := by simp only [O.CHANNEL_STATUS_STATE]; omega
    rw [State.event_rd _ _ _ _ _ hn, State.rd_wr_ne _ _ _ _ hf, State.rd_wr_ne _ _ _ _ hst]

end

/-- Command c, kind 1 or 2, stops the channel with its record, voids the next page, and calls for safe state. -/
theorem State.freeze_leaves {s : State} {c : Nat} {r : FreezeReport} (hc : c < 4) (ha : channelOf r.address = c)
    (hs : s.channel c = 1 ∨ s.channel c = 2) (kind : Nat) :
    (s.freeze c kind r).channel c = 3 ∧ bit ((s.freeze c kind r).rd O.DRAM_FROZEN) c = true ∧
      (s.freeze c kind r).ShowsFreeze c kind r s.mono ∧ (s.freeze c kind r).fire.voidNext = true ∧
      Act.safe ⟨9 + c, 3, kind + 1⟩ true ∈ (s.freeze c kind r).acts := by
  obtain ⟨hch, hz, hsh⟩ := State.frozen_shows (s := s) (r := r) hc kind
  rw [State.freeze_stops hc kind ha hs]
  exact ⟨hch, hz, hsh, rfl, List.mem_append_right _ (List.mem_singleton_self _)⟩

/-! ### Refresh and scrub (R650 to R659) -/

section

variable {s : State} {c : Nat} (hc : c < 4)

include hc

section

variable (h0 : s.channel c ≠ 0) (h4 : s.channel c ≠ 4)

include h0 h4

theorem State.mr4Read_live (doubled : Bool) : s.mr4Read c doubled = s.wr (O.REFRESH_RATE c) (if doubled then 2 else 1) :=
  if_neg (by simp [hc, h0, h4])

/-- Refreshes that a bank of a channel is owed. -/
def State.owed (s : State) (c b : Nat) : Nat := (s.dram.getD c ⟨[], [], []⟩).debt.getD b 0

variable (h5 : s.channel c ≠ 5) (b : Nat)

include h5

theorem State.refreshDue_idle : s.refreshDue c b false = s.updDram c fun d => { d with debt := d.debt.set b 0 } := by
  simp [State.refreshDue, Nat.not_le.mpr hc, h0, h4, h5]

theorem State.refreshDue_postponed (h : s.owed c b < 3) :
    s.refreshDue c b true = s.updDram c fun d => { d with debt := d.debt.set b (s.owed c b + 1) } := by
  have h' : s.owed c b + 1 < 4 := by omega
  rw [State.owed] at h'
  simp [State.refreshDue, Nat.not_le.mpr hc, h0, h4, h5, -List.getD_eq_getElem?_getD, h', State.owed]

theorem State.refreshDue_forced (h : 3 ≤ s.owed c b) :
    s.refreshDue c b true = (s.updDram c fun d => { d with debt := d.debt.set b 3 }).inc (O.FORCED_REFRESHES c) := by
  have h' : ¬ s.owed c b + 1 < 4 := by omega
  rw [State.owed] at h'
  simp [State.refreshDue, Nat.not_le.mpr hc, h0, h4, h5, -List.getD_eq_getElem?_getD, h']

end

end

/-! ### Patrol scrub (R657 to R659) -/

/-- A corrected word is counted, shown, and kept for the next pass. -/
def State.corrected (s : State) (c a : Nat) : State :=
  (((s.inc (O.DRAM_CORRECTED c)).wr (O.LAST_CORRECTED c) (a % 2 ^ 64)).updDram c fun d =>
    { d with thisPass := a :: d.thisPass.filter (· != a) }).event (dramBlock c) 1 0

theorem State.scrubCorrect_eq (s : State) (c a : Nat) :
    s.scrubCorrect c a = s.corrected c a ∨ s.scrubCorrect c a = ((s.corrected c a).inc (O.DRAM_STICKY c)).event (dramBlock c) 4 0 :=
  (ite_either _ _).symm

/-- A word that was corrected before is only counted beside. -/
theorem State.scrubCorrect_rd_corrected (s : State) (c a : Nat) {k : Nat} (h : k ≠ O.DRAM_STICKY c) (hn : k ≠ O.NOTICES_LOST) :
    (s.scrubCorrect c a).rd k = (s.corrected c a).rd k := by
  rcases s.scrubCorrect_eq c a with he | he
  · rw [he]
  · rw [he, State.event_rd _ _ _ _ _ hn, State.rd_inc, if_neg h.symm]

theorem State.scrubCorrect_rd (s : State) (c a : Nat) {k : Nat} (h1 : k ≠ O.DRAM_CORRECTED c) (h2 : k ≠ O.LAST_CORRECTED c)
    (h3 : k ≠ O.DRAM_STICKY c) (hn : k ≠ O.NOTICES_LOST) : (s.scrubCorrect c a).rd k = s.rd k := by
  rw [s.scrubCorrect_rd_corrected c a h3 hn, State.corrected, State.event_rd _ _ _ _ _ hn]
  exact (State.rd_wr_ne _ _ _ _ h2.symm).trans ((State.rd_inc _ _ _).trans (if_neg h1.symm))

theorem State.scrubCorrect_counts (s : State) (c a : Nat) :
    (s.scrubCorrect c a).rd (O.DRAM_CORRECTED c) = min (Dict.top (O.DRAM_CORRECTED c)) (s.rd (O.DRAM_CORRECTED c) + 1) ∧
      (s.scrubCorrect c a).rd (O.LAST_CORRECTED c) = a % 2 ^ 64 := by
  have hn (k : Nat) (hk : 0x112200 < k) : k + 256 * c ≠ O.NOTICES_LOST := by simp only [O.NOTICES_LOST]; omega
  rw [s.scrubCorrect_rd_corrected c a (by simp) (hn _ (by decide)), s.scrubCorrect_rd_corrected c a (by simp) (hn _ (by decide)),
    State.corrected, State.event_rd _ _ _ _ _ (hn _ (by decide)), State.event_rd _ _ _ _ _ (hn _ (by decide))]
  refine ⟨(State.rd_wr_ne _ _ _ _ (by simp)).trans ((State.rd_inc _ _ _).trans (if_pos rfl)), State.rd_wr_same _ _ _⟩

theorem State.allPasses_congr {s u : State} (h : ∀ d, u.rd (O.SCRUB_PASSES d) = s.rd (O.SCRUB_PASSES d)) : u.allPasses = s.allPasses := by
  simp only [State.allPasses, h]

/-- A round of the scrub that ends no pass and meets no error that it cannot correct. -/
theorem State.patrolScrub_round {s : State} {c : Nat} {r : ScrubResult} (hc : c < 4) (hs : s.channel c = 2) (hp : r.passDone = false)
    (hu : r.uncorrectable = none) :
    s.patrolScrub c r =
      let u := r.corrected.foldl (fun (s : State) a => s.scrubCorrect c a) (s.wr (O.SCRUB_POSITION c) (r.position % 2 ^ 64))
      if s.allPasses < u.allPasses then u.taskDone 0 else u := by
  have hn : ¬(decide (4 ≤ c) || s.channel c != 2) = true := by simp [hc, hs]
  simp only [State.patrolScrub, if_neg hn, hp, hu, Bool.false_eq_true, ↓reduceIte]

theorem State.allPasses_position (s : State) (c v : Nat) : (s.wr (O.SCRUB_POSITION c) v).allPasses = s.allPasses :=
  State.allPasses_congr fun d => State.rd_wr_ne _ _ _ _ (by simp only [O.SCRUB_POSITION, O.SCRUB_PASSES]; omega)

theorem State.allPasses_scrubCorrect (s : State) (c a : Nat) : (s.scrubCorrect c a).allPasses = s.allPasses :=
  State.allPasses_congr fun d => s.scrubCorrect_rd c a (by simp only [O.DRAM_CORRECTED, O.SCRUB_PASSES]; omega)
    (by simp only [O.LAST_CORRECTED, O.SCRUB_PASSES]; omega) (by simp only [O.DRAM_STICKY, O.SCRUB_PASSES]; omega)
    (by simp only [O.NOTICES_LOST, O.SCRUB_PASSES]; omega)

section

variable {s : State} {c : Nat} {r : ScrubResult} (hc : c < 4) (hs : s.channel c = 2) (hp : r.passDone = false)
  (hu : r.uncorrectable = none)

include hc hs hp hu

theorem State.patrolScrub_clean (h : r.corrected = []) : s.patrolScrub c r = s.wr (O.SCRUB_POSITION c) (r.position % 2 ^ 64) := by
  rw [State.patrolScrub_round hc hs hp hu, h]
  exact if_neg (by rw [List.foldl_nil, State.allPasses_position]; exact Nat.lt_irrefl _)

theorem State.patrolScrub_one {a : Nat} (h : r.corrected = [a]) :
    s.patrolScrub c r = (s.wr (O.SCRUB_POSITION c) (r.position % 2 ^ 64)).scrubCorrect c a := by
  rw [State.patrolScrub_round hc hs hp hu, h]
  exact if_neg (by
    rw [List.foldl_cons, List.foldl_nil, State.allPasses_scrubCorrect, State.allPasses_position]
    exact Nat.lt_irrefl _)

end

/-! ### Training (R668 to R670) -/

/-- A channel whose training failed: event, code 85h, and a cause of safe state of kind 6. -/
def State.trainingLost (s : State) (c : Nat) : State :=
  let s1 : State := { s with boot := { s.boot with trained := s.boot.trained ++ [c], code := 0x85 } }
  ((s1.wr (O.CHANNEL_STATUS_STATE c) 4).event (dramBlock c) 5 0).requestSafe (dramBlock c) 6 5

theorem State.trainingLost_boot (s : State) (c : Nat) :
    (s.trainingLost c).boot = { s.boot with trained := s.boot.trained ++ [c], code := 0x85 } := by
  rw [State.trainingLost, State.requestSafe_boot, (State.event_from _ _ _ _).1]
  rfl

section

variable {s : State} {c : Nat} (hc : c < 4) (hp : s.boot.phase = .training) (ht : s.boot.trained.contains c = false)

include hc hp ht

theorem State.trainingDone_ok :
    s.trainingDone c true =
      let u := ({ s with boot := { s.boot with trained := s.boot.trained ++ [c] } } : State).wr (O.CHANNEL_STATUS_STATE c) 1
      if s.boot.trained.length = 3 then u.applyBoot else u := by
  have hn : ¬(s.boot.phase != .training || decide (4 ≤ c) || s.boot.trained.contains c) = true := by
    rw [hp, ht]
    simp [hc]
  have hlen : ((({ s with boot := { s.boot with trained := s.boot.trained ++ [c] } } : State).wr (O.CHANNEL_STATUS_STATE c)
      1).boot.trained.length = 4) ↔ s.boot.trained.length = 3 := by simp
  rw [State.trainingDone, if_neg hn]
  by_cases h3 : s.boot.trained.length = 3
  · exact (if_pos (hlen.mpr h3)).trans (if_pos h3).symm
  · exact (if_neg (mt hlen.mp h3)).trans (if_neg h3).symm

theorem State.trainingDone_failed (h3 : s.boot.trained.length ≠ 3) : s.trainingDone c false = s.trainingLost c := by
  have hn : ¬(s.boot.phase != .training || decide (4 ≤ c) || s.boot.trained.contains c) = true := by
    rw [hp, ht]
    simp [hc]
  have hlen : (s.trainingLost c).boot.trained.length ≠ 4 := by
    rw [State.trainingLost_boot]
    simpa using h3
  rw [State.trainingDone, if_neg hn]
  exact if_neg hlen

end

/-! ### Fill and retraining (R665, R666, R670, R671) -/

/-- The channel runs, and is no longer frozen. -/
def State.filled (s : State) (c : Nat) : State :=
  (s.wr (O.CHANNEL_STATUS_STATE c) 2).wr O.DRAM_FROZEN (setBit (s.rd O.DRAM_FROZEN) c false)

theorem State.filled_channel_same (s : State) (c : Nat) : (s.filled c).channel c = 2 := by
  rw [State.filled, State.channel_wr_frozen, State.channel_wr_same]

theorem State.filled_channel_ne (s : State) {c d : Nat} (h : d ≠ c) : (s.filled c).channel d = s.channel d := by
  rw [State.filled, State.channel_wr_frozen, State.channel_wr_ne _ _ h]

theorem State.filled_all {s : State} {c : Nat} (h : ∀ d, d < 4 → d ≠ c → s.channel d = 2) :
    ∀ d, d < 4 → (s.filled c).channel d = 2 := fun d hd => by
  by_cases he : d = c
  · rw [he, State.filled_channel_same]
  · rw [State.filled_channel_ne _ he, h d hd he]

theorem State.checkCleared_outside {s : State} (h : s.safe.active = false) : s.checkCleared = s :=
  if_neg (by simp [h])

theorem State.checkCleared_retraining {s : State} (h : s.retraining = true) : s.checkCleared = s :=
  if_neg (by simp [h])

theorem State.checkCleared_stays {s : State} (ha : s.safe.active = true) (hc : s.safe.clearing = true) (hr : s.retraining = false)
    (hz : s.rd O.DRAM_FROZEN ≠ 0) : s.checkCleared = { s with safe := { s.safe with clearing := false } } := by
  simp [State.checkCleared, ha, hc, hr, hz]

theorem State.checkCleared_leaves {s : State} (ha : s.safe.active = true) (hc : s.safe.clearing = true) (he : s.safe.causes = [])
    (hr : s.retraining = false) (hz : s.rd O.DRAM_FROZEN = 0) : s.checkCleared = s.leaveSafe := by
  simp [State.checkCleared, ha, hc, hr, he, hz]

theorem State.retraining_of {s : State} {d : Nat} (hd : d < 4) (h : s.channel d = 5) : s.retraining = true :=
  List.any_eq_true.mpr ⟨d, List.mem_range.mpr hd, by simp [h]⟩

theorem State.retraining_none {s : State} (h : ∀ d, d < 4 → s.channel d = 2 ∨ s.channel d = 4) : s.retraining = false := by
  refine List.any_eq_false.mpr fun d hd => ?_
  rcases h d (List.mem_range.mp hd) with h | h <;> simp [h]

/-- A channel that failed its retraining. -/
def State.retrainLost (s : State) (c : Nat) : State := (s.wr (O.CHANNEL_STATUS_STATE c) 4).event (9 + c) 5 0

theorem State.retrainLost_channel_same (s : State) (c : Nat) : (s.retrainLost c).channel c = 4 := by
  rw [State.retrainLost, State.event_channel, State.channel_wr_same]

theorem State.retrainLost_channel_ne (s : State) {c d : Nat} (h : d ≠ c) : (s.retrainLost c).channel d = s.channel d := by
  rw [State.retrainLost, State.event_channel, State.channel_wr_ne _ _ h]

theorem State.retrainLost_safe (s : State) (c : Nat) : (s.retrainLost c).safe = s.safe := by
  rw [State.retrainLost, (State.event_from _ _ _ _).1]
  rfl

theorem State.retrainLost_frozen (s : State) (c : Nat) : (s.retrainLost c).rd O.DRAM_FROZEN = s.rd O.DRAM_FROZEN := by
  rw [State.retrainLost, State.event_frozen, State.frozen_wr_channel]

section

variable {s : State} {c : Nat} (hc : c < 4)

include hc

theorem State.fillDone_some (hs : s.channel c = 1) (h : ∃ d, d < 4 ∧ d ≠ c ∧ s.channel d ≠ 2) :
    s.fillDone c = (s.filled c).checkCleared := by
  obtain ⟨d, hd, hne, h2⟩ := h
  have hall : ((List.range 4).all fun d => (s.filled c).channel d = 2) = false :=
    List.all_eq_false.mpr ⟨d, List.mem_range.mpr hd, by simpa [State.filled_channel_ne s hne] using h2⟩
  rw [State.fillDone, if_neg (by simp [hc, hs])]
  exact congrArg State.checkCleared (if_neg (Bool.eq_false_iff.mp hall))

theorem State.fillDone_all (hs : s.channel c = 1) (h : ∀ d, d < 4 → d ≠ c → s.channel d = 2) :
    s.fillDone c = ((s.filled c).wr O.DRAM_FILL_DONE 1).checkCleared := by
  have hall : ((List.range 4).all fun d => (s.filled c).channel d = 2) = true :=
    List.all_eq_true.mpr fun d hd => decide_eq_true (State.filled_all h d (List.mem_range.mp hd))
  rw [State.fillDone, if_neg (by simp [hc, hs])]
  exact congrArg State.checkCleared (if_pos hall)

theorem State.retrainDone_ok (hs : s.channel c = 5) : s.retrainDone c true = s.wr (O.CHANNEL_STATUS_STATE c) 1 := by
  rw [State.retrainDone, if_neg (by simp [hc, hs])]
  rfl

theorem State.retrainDone_failed (hs : s.channel c = 5) : s.retrainDone c false = (s.retrainLost c).checkCleared := by
  rw [State.retrainDone, if_neg (by simp [hc, hs])]
  rfl

end

end Sys2Proof.Machine

open Sys2Proof Sys2Proof.Machine
/-- Settles O48: freeze and ALERT_N, refresh debts, mode register 4, the scrub, training, fill and retraining. -/
theorem memoryChannels : Obligations.MemoryChannels := by
  refine ⟨fun s t c r hc ha hs => ⟨?_, ?_⟩, fun s t c b hc h0 h4 h5 => ⟨?_, fun h => ?_, fun h => ?_⟩,
    fun s t c hc h0 h4 => ⟨?_, ?_⟩, fun s t c r hc hs hp hu => ⟨fun h => ?_, fun a h => ?_⟩,
    fun s t c hc hp ht => ⟨fun h3 => ?_, fun h3 => ?_, fun h3 => ?_⟩,
    fun s t c hc hs => ⟨fun hsafe h => ?_, fun hsafe h => ?_, fun hsafe hcl hca h h0 => ?_⟩,
    fun s t c hc hs => ⟨State.does_eq _ _ _ _ (State.retrainDone_ok (s := s.at t) hc hs), fun h => ?_, fun hsafe hcl hz h => ?_⟩⟩
  · obtain ⟨hch, hz, ⟨hk, had, hbg, hsy, htm⟩, hv, hact⟩ := State.freeze_leaves (s := s.at t) hc ha hs 1
    exact ⟨_, State.does_eq _ _ _ (fun _ => (s.at t).freeze c 1 r) rfl, hch, hz, hk, had, hbg, hsy, htm, hv, hact⟩
  · obtain ⟨hch, hz, ⟨hk, had, hbg, hsy, htm⟩, hv, hact⟩ := State.freeze_leaves (s := s.at t) hc ha hs 2
    exact ⟨_, State.does_eq _ _ _ (fun _ => (s.at t).freeze c 2 r) rfl, hch, hz, hk, had, hbg, hsy, htm, hv, hact⟩
  · exact State.does_eq _ _ _ _ (State.refreshDue_idle (s := s.at t) hc h0 h4 h5 b)
  · exact State.does_eq _ _ _ _ (State.refreshDue_postponed (s := s.at t) hc h0 h4 h5 b h)
  · exact State.does_eq _ _ _ _ (State.refreshDue_forced (s := s.at t) hc h0 h4 h5 b h)
  · exact State.does_eq _ _ _ _ (State.mr4Read_live (s := s.at t) hc h0 h4 true)
  · exact State.does_eq _ _ _ _ (State.mr4Read_live (s := s.at t) hc h0 h4 false)
  · exact State.does_eq _ _ _ _ (State.patrolScrub_clean (s := s.at t) hc hs hp hu h)
  · refine ⟨_, State.does_eq _ _ _ (fun _ => _) (State.patrolScrub_one (s := s.at t) hc hs hp hu h), ?_, ?_, ?_⟩
    · rw [(State.scrubCorrect_counts _ c a).1, State.rd_wr_ne _ _ _ _ (by simp)]
      rfl
    · exact (State.scrubCorrect_counts _ c a).2
    · rw [State.scrubCorrect_rd _ _ _ (by simp) (by simp) (by simp) (by simp only [O.NOTICES_LOST, O.SCRUB_POSITION]; omega),
        State.rd_wr_same]
  · exact State.does_eq _ _ _ _ ((State.trainingDone_ok (s := s.at t) hc hp ht).trans (if_neg h3))
  · exact State.does_eq _ _ _ _ ((State.trainingDone_ok (s := s.at t) hc hp ht).trans (if_pos h3))
  · refine ⟨_, State.does_eq _ _ _ (fun _ => _) (State.trainingDone_failed (s := s.at t) hc hp ht h3), ?_, ?_, ?_⟩
    · rw [State.trainingLost_boot]
    · exact (State.event_channel _ _ _ _ _).trans (State.channel_wr_same _ _ _)
    · exact List.mem_append_right _ (List.mem_singleton_self _)
  · exact State.does_eq _ _ _ _ ((State.fillDone_some (s := s.at t) hc hs h).trans (State.checkCleared_outside hsafe))
  · exact State.does_eq _ _ _ _ ((State.fillDone_all (s := s.at t) hc hs h).trans (State.checkCleared_outside hsafe))
  · have hr : (((s.at t).filled c).wr O.DRAM_FILL_DONE 1).retraining = false := State.retraining_none fun d hd =>
      .inl ((State.channel_wr_fillDone _ _ _).trans (State.filled_all (s := s.at t) h d hd))
    have hz : (((s.at t).filled c).wr O.DRAM_FILL_DONE 1).rd O.DRAM_FROZEN = 0 :=
      (State.rd_wr_ne _ _ _ _ (by decide)).trans ((State.rd_wr_same _ _ _).trans h0)
    exact State.does_eq _ _ _ _ ((State.fillDone_all (s := s.at t) hc hs h).trans (State.checkCleared_leaves hsafe hcl hca hr hz))
  · obtain ⟨d, hd, hne, h5⟩ := h
    exact State.does_eq _ _ _ _ ((State.retrainDone_failed (s := s.at t) hc hs).trans (State.checkCleared_retraining
      (State.retraining_of hd ((State.retrainLost_channel_ne (s.at t) hne).trans h5))))
  · have hr : ((s.at t).retrainLost c).retraining = false := State.retraining_none fun d hd => by
      by_cases he : d = c
      · exact .inr (by rw [he, State.retrainLost_channel_same])
      · exact .inl ((State.retrainLost_channel_ne (s.at t) he).trans (h d hd he))
    have hsf := State.retrainLost_safe (s.at t) c
    have hz' : ((s.at t).retrainLost c).rd O.DRAM_FROZEN ≠ 0 := by
      rw [State.retrainLost_frozen]
      exact ne_zero_of_bit hz
    exact State.does_eq _ _ _ _ ((State.retrainDone_failed (s := s.at t) hc hs).trans
      (State.checkCleared_stays (by rw [hsf]; exact hsafe) (by rw [hsf]; exact hcl) hr hz'))

end

section
/-! PROOF. Host moves (R682 to R697): MOVE_START and MOVE_ABORT of one move, and the ends of descriptors. -/

namespace Sys2Proof.Machine

/-! ### The masks of MOVE_START and MOVE_ABORT -/

/-- The row of a CMD object of type u8 with any value. -/
def maskRow (idx : Nat) : ObjRow := ⟨idx, 1, 0x00, 1, .u8, .cmd, false, 0, .any, .now⟩

theorem row_moveMask : ∀ idx ∈ [0x3340, 0x3341], Dict.row? idx 0 = some (maskRow idx) ∧ isMirrored (256 * idx) = false := by
  decide +kernel

theorem movesNamed : ∀ m < 8, (List.range 8).filter (bit (2 ^ m)) = [m] := by decide

theorem mask_lt {m : Nat} (hm : m < 8) : 2 ^ m < 256 := Nat.pow_lt_pow_right (by decide) hm

/-- A WRITE of a mask of moves does what its command does. -/
theorem writes_moveMask {c : Hdr → Instr} {t idx v : Nat} {pre : State → Prop} {op : State → State}
    (hc : ∀ h s, exec (c h) s = s.does t fun u => u.hostWrite h (256 * idx) [toByte v]) (hi : idx ∈ [0x3340, 0x3341]) (hv : v < 256)
    (ho : ∀ u, pre u → u.commandOp (256 * idx) v = some (.of Status.ok (op u))) : Writes c t (256 * idx) [toByte v] pre op := by
  obtain ⟨hrow, hm⟩ := row_moveMask idx hi
  have hle : leNat [toByte v] = v := (leNat_natLE 1 v).trans (Nat.mod_eq_of_lt hv)
  have h1 : 256 * idx / 256 = idx := by omega
  have h2 : 256 * idx % 256 = 0 := by omega
  have hlt : idx < 0x8000 ∧ 256 * idx ≠ O.JOB_CONTROL := by
    revert hi
    simp only [List.mem_cons, List.not_mem_nil, or_false, O.JOB_CONTROL]
    omega
  refine writes_of c t _ _ (maskRow idx) pre op hc (by omega) ?_ rfl rfl rfl (by simp) fun u hp => ?_
  · rw [h1, h2]
    exact findObject_of_row hlt.1 (Dict.hasIndex_of_row hrow) hrow
  · rw [hle]
    exact u.valueWrite_cmd (maskRow idx) _ v _ (by simp [h2]) (by simp [maskRow]) rfl hlt.2 hm (ho u hp)

/-! ### MOVE_START (R692 to R694) -/

section

variable {u : State} {m : Nat} (hm : m < 8)

include hm

theorem State.moveStart_starts (h1 : u.dmaState (24 + m) ≠ 1) (h2 : u.dmaState (24 + m) ≠ 2) (hf : u.chainFail m = none)
    (he : (u.chain m).isEmpty = false) :
    u.moveStart (2 ^ m) = .of Status.ok
      (((u.wrs [(O.DMA_LAST_STATUS (24 + m), 0), (O.DMA_FAULT_ADDR (24 + m), 0)]).updMove m fun _ => .init).dmaFetch m 0
        (u.chain m)) := by
  have hne : u.chain m ≠ [] := List.isEmpty_eq_false_iff.mp he
  simp [State.moveStart, movesNamed m hm, h1, h2, hf, hne]

theorem State.moveStart_resumes (h2 : u.dmaState (24 + m) = 2) (hb : inBuffers (u.rd (O.RESUME_ADDR m)) 1 = true) :
    u.moveStart (2 ^ m) = .of Status.ok ((u.wr (O.DMA_STATE (24 + m)) 1).updMove m fun h =>
      { h with resume := some (u.rd (O.RESUME_ADDR m), u.rd (O.RESUME_LENGTH m)) }) := by
  simp [State.moveStart, movesNamed m hm, h2, hb]

/-! ### MOVE_ABORT (R697) -/

theorem State.moveAbort_one : u.moveAbort (2 ^ m) = .of Status.ok (u.abortMove m) := by
  rw [State.moveAbort, movesNamed m hm]
  rfl

end

theorem State.abortMove_running {u : State} {m : Nat} {d : Descriptor} (h1 : u.dmaState (24 + m) = 1) (hd : u.moveAt m = some d) :
    u.abortMove m = (u.cutShort m d).dmaHalt m 6 := by
  simp only [State.abortMove, h1, hd, ↓reduceIte]

theorem State.abortMove_idle {u : State} {m : Nat} (h1 : u.dmaState (24 + m) ≠ 1) (h2 : u.dmaState (24 + m) ≠ 2) :
    u.abortMove m = u := by
  simp only [State.abortMove, h1, h2, ↓reduceIte]

/-! ### The ends of descriptors (R687 to R691) -/

/-- The status of a descriptor's end touches no object of its channel but its own. -/
theorem State.dmaStatus_rd (s : State) (n status : Nat) {k : Nat} (h : O.DMA_LAST_STATUS n ≠ k) (hk : 0x331000 ≤ k) :
    (s.dmaStatus n status).rd k = s.rd k := by
  have hn : k ≠ O.NOTICES_LOST := by simp only [O.NOTICES_LOST]; omega
  have ho : O.OVERLAP_REJECTS ≠ k := by simp only [O.OVERLAP_REJECTS]; omega
  have hb : O.DMA_BUS_ERRORS ≠ k := by simp only [O.DMA_BUS_ERRORS]; omega
  rw [State.dmaStatus]
  split
  · rw [State.event_rd _ _ _ _ _ hn, State.rd_inc, if_neg ho, State.rd_wr_ne _ _ _ _ h]
  · split
    · rw [State.event_rd _ _ _ _ _ hn, State.rd_inc, if_neg hb, State.rd_wr_ne _ _ _ _ h]
    · exact State.rd_wr_ne _ _ _ _ h

theorem State.dmaStatus_last (s : State) (n status : Nat) : (s.dmaStatus n status).rd (O.DMA_LAST_STATUS n) = status := by
  have hn : O.DMA_LAST_STATUS n ≠ O.NOTICES_LOST := by simp only [O.DMA_LAST_STATUS, O.NOTICES_LOST]; omega
  have ho : O.OVERLAP_REJECTS ≠ O.DMA_LAST_STATUS n := by simp only [O.DMA_LAST_STATUS, O.OVERLAP_REJECTS]; omega
  have hb : O.DMA_BUS_ERRORS ≠ O.DMA_LAST_STATUS n := by simp only [O.DMA_LAST_STATUS, O.DMA_BUS_ERRORS]; omega
  rw [State.dmaStatus]
  split
  · rw [State.event_rd _ _ _ _ _ hn, State.rd_inc, if_neg ho, State.rd_wr_same]
  · split
    · rw [State.event_rd _ _ _ _ _ hn, State.rd_inc, if_neg hb, State.rd_wr_same]
    · exact State.rd_wr_same _ _ _

theorem State.updMove_rd (s : State) (m k : Nat) (f : HostMove → HostMove) : (s.updMove m f).rd k = s.rd k := rfl

theorem State.dmaHalt_shows (s : State) (m status : Nat) :
    (s.dmaHalt m status).dmaState (24 + m) = 3 ∧ (s.dmaHalt m status).rd (O.DMA_LAST_STATUS (24 + m)) = status := by
  rw [State.dmaHalt, State.dmaState, State.updMove_rd, State.updMove_rd, State.rd_wr_same,
    State.rd_wr_ne _ _ _ _ (by simp), State.dmaStatus_last]
  exact ⟨rfl, rfl⟩

theorem State.dmaFetch_end (s : State) (m i : Nat) : (s.dmaFetch m i []).dmaState (24 + m) = 0 := by
  rw [State.dmaFetch, State.dmaState, State.updMove_rd, State.rd_wr_same]

/-- A descriptor of an internal user ends DONE. -/
theorem State.descriptorEnd_done (s : State) {n : Nat} (hn : n < 24) :
    s.descriptorEnd n none = (s.dmaStatus n 1).wrs [(O.DMA_REMAINING n, 0), (O.DMA_STATE n, 0)] := by
  simp only [State.descriptorEnd, if_neg (show ¬32 ≤ n by omega), hn, ↓reduceIte]

/-- A descriptor of an internal user ends BUS_ERROR. -/
theorem State.descriptorEnd_error (s : State) {n : Nat} (hn : n < 24) (e : BusError) :
    s.descriptorEnd n (some e) =
      ((s.wrs [(O.DMA_REMAINING n, e.remaining % 2 ^ 64), (O.DMA_FAULT_ADDR n, e.address % 2 ^ 64)]).dmaStatus n 5).wr
        (O.DMA_STATE n) 3 := by
  simp only [State.descriptorEnd, if_neg (show ¬32 ≤ n by omega), hn, ↓reduceIte]

section

variable {s : State} {m : Nat} {d : Descriptor} (hm : m < 8) (h1 : s.dmaState (24 + m) = 1) (hd : s.moveAt m = some d)

include hm h1 hd

/-- A descriptor of a move, met by no burst that a frozen channel refused, does what its operation is. -/
theorem State.descriptorEnd_move (hb : (s.move m).barred = 0) :
    s.descriptorEnd (24 + m) none = if d.op = 0 then s.copyEnd m d else if d.op = 1 then s.deflateEnd m d else s.inflateEnd m d := by
  have hr : s.refusedBurst m d = none := if_pos hb
  have hn : ¬(s.dmaState (24 + m) != 1) = true := by simp [h1]
  simp only [State.descriptorEnd, if_neg (show ¬32 ≤ 24 + m by omega), if_neg (show ¬24 + m < 24 by omega), if_neg hn,
    Nat.add_sub_cancel_left, hd, hr]

theorem State.descriptorEnd_moveError {e : BusError} {a : Nat}
    (ha : (d.bursts (s.window m d)).findSome? (fun b => b.addressOf e.address) = some a) :
    ∃ left, s.descriptorEnd (24 + m) (some e) =
      ((s.cutShort m d).wrs [(O.DMA_REMAINING (24 + m), left), (O.DMA_FAULT_ADDR (24 + m), a)]).dmaHalt m 5 := by
  have hn : ¬(s.dmaState (24 + m) != 1) = true := by simp [h1]
  simp only [State.descriptorEnd, if_neg (show ¬32 ≤ 24 + m by omega), if_neg (show ¬24 + m < 24 by omega), if_neg hn,
    Nat.add_sub_cancel_left, hd, ha]
  exact ⟨_, rfl⟩

end

end Sys2Proof.Machine

open Sys2Proof Sys2Proof.Machine

/-- Settles O49: start, resume and abort of one move, and the end of a descriptor with and without a bus error. -/
theorem hostMoves : Obligations.HostMoves := by
  refine ⟨fun t m hm => ⟨?_, ?_, fun d => ?_, ?_⟩, fun s t n hn => ⟨?_, fun e => ?_⟩,
    fun s t m d hm h1 hd => ⟨fun hb => ?_, fun e a ha => ?_⟩, fun s m st => s.dmaHalt_shows m st, fun s m i => s.dmaFetch_end m i,
    fun s a b h => if_neg (by simp [h])⟩
  · exact writes_moveMask (idx := 0x3340) (fun _ _ => rfl) (by decide) (mask_lt hm) fun u ⟨h1, h2, hf, he⟩ =>
      congrArg some (State.moveStart_starts hm h1 h2 hf he)
  · exact writes_moveMask (idx := 0x3340) (fun _ _ => rfl) (by decide) (mask_lt hm) fun u ⟨h2, hb⟩ =>
      congrArg some (State.moveStart_resumes hm h2 hb)
  · exact writes_moveMask (idx := 0x3341) (fun _ _ => rfl) (by decide) (mask_lt hm) fun u ⟨h1, hd⟩ => congrArg some
      ((State.moveAbort_one hm).trans (congrArg (Reply.of Status.ok) (State.abortMove_running h1 hd)))
  · exact writes_moveMask (idx := 0x3341) (fun _ _ => rfl) (by decide) (mask_lt hm) fun u ⟨h1, h2⟩ => congrArg some
      ((State.moveAbort_one hm).trans (congrArg (Reply.of Status.ok) (State.abortMove_idle h1 h2)))
  · refine ⟨_, State.does_eq _ _ _ (fun _ => _) ((s.at t).descriptorEnd_done hn), ?_⟩
    simp [State.wrs, State.dmaState, State.rd_wr, State.dmaStatus_last]
  · refine ⟨_, State.does_eq _ _ _ (fun _ => _) ((s.at t).descriptorEnd_error hn e), ?_⟩
    refine ⟨State.rd_wr_same _ _ _, ?_, ?_⟩
    · rw [State.rd_wr_ne _ _ _ _ (by simp), State.dmaStatus_last]
    · rw [State.rd_wr_ne _ _ _ _ (by simp), State.dmaStatus_rd _ _ _ (by simp) (Nat.le_add_right_of_le (by decide))]
      exact State.rd_wr_same _ _ _
  · have he := State.descriptorEnd_move (s := s.at t) hm h1 hd hb
    refine ⟨fun h0 => State.does_eq _ _ _ _ (he.trans (if_pos h0)), fun h1 => State.does_eq _ _ _ _ (he.trans ?_),
      fun h2 => State.does_eq _ _ _ _ (he.trans ?_)⟩
    · rw [if_neg (by omega), if_pos h1]
    · rw [if_neg (by omega), if_neg (by omega)]
  · obtain ⟨left, he⟩ := State.descriptorEnd_moveError (s := s.at t) hm h1 hd ha
    exact ⟨_, left, State.does_eq _ _ _ (fun _ => _) he, rfl⟩

end

section
/-! PROOF. Addresses, bursts and engines (R643, R678, R709). -/

namespace Sys2Proof.Machine

/-! ### Bursts (R678) -/

/-- A burst of so many bytes at an address, as R678 has it: some, at most 128, and within one aligned block of 128. -/
def InBlock (a len : Nat) : Prop := 0 < len ∧ len ≤ 128 ∧ a / 128 = (a + len - 1) / 128

theorem inBlock_of_toBoundary {a len : Nat} (h0 : 0 < len) (h : len ≤ toBoundary a) : InBlock a len := by
  unfold toBoundary at h
  refine ⟨h0, ?_, ?_⟩ <;> omega

theorem segments_inBlock {fuel a n : Nat} : ∀ e ∈ segments fuel a n, InBlock e.1 e.2 := by
  induction fuel generalizing a n with
  | zero => exact fun e he => absurd he List.not_mem_nil
  | succ fuel ih =>
    intro e he
    rw [segments] at he
    split at he
    · exact absurd he List.not_mem_nil
    · next hn =>
      rcases List.mem_cons.mp he with rfl | he
      · have hb : 0 < toBoundary a := by unfold toBoundary; omega
        exact inBlock_of_toBoundary (by simp only; omega) (Nat.min_le_right _ _)
      · exact ih e he

/-- A burst lies in one block on each side that it has. -/
def Burst.InBlocks (b : Burst) : Prop :=
  0 < b.len ∧ b.len ≤ 128 ∧ (∀ a, b.src = some a → a / 128 = (a + b.len - 1) / 128) ∧
    ∀ a, b.dst = some a → a / 128 = (a + b.len - 1) / 128

theorem Descriptor.burstAt_len {d : Descriptor} (hs : 0 < d.srcLine) (hd : 0 < d.dstLine) (k : Nat) :
    0 < (d.burstAt k).len ∧ (d.burstAt k).len ≤ d.srcLine - k % d.srcLine := by
  have h1 : 0 < d.srcLine - k % d.srcLine := Nat.sub_pos_of_lt (Nat.mod_lt _ hs)
  have h2 : 0 < d.dstLine - k % d.dstLine := Nat.sub_pos_of_lt (Nat.mod_lt _ hd)
  have hb (a : Nat) : 0 < toBoundary a := Nat.sub_pos_of_lt (Nat.mod_lt _ (by decide))
  exact ⟨Nat.lt_min.mpr ⟨Nat.lt_min.mpr ⟨h1, h2⟩, Nat.lt_min.mpr ⟨hb _, hb _⟩⟩, Nat.le_trans (Nat.min_le_left _ _) (Nat.min_le_left _ _)⟩

theorem Descriptor.burstAt_inBlocks {d : Descriptor} (hs : 0 < d.srcLine) (hd : 0 < d.dstLine) (k : Nat) :
    (d.burstAt k).InBlocks := by
  have h0 := (Descriptor.burstAt_len hs hd k).1
  have ha := inBlock_of_toBoundary (a := sideAt d.src d.srcLine d.srcStride k) h0 (Nat.le_trans (Nat.min_le_right _ _) (Nat.min_le_left _ _))
  have hb := inBlock_of_toBoundary (a := sideAt d.dst d.dstLine d.dstStride k) h0 (Nat.le_trans (Nat.min_le_right _ _) (Nat.min_le_right _ _))
  refine ⟨h0, ha.2.1, ?_, ?_⟩
  · rintro a ⟨⟩
    exact ha.2.2
  · rintro a ⟨⟩
    exact hb.2.2

theorem Descriptor.burstsFrom_inBlocks {d : Descriptor} (hs : 0 < d.srcLine) (hd : 0 < d.dstLine) {fuel k : Nat} :
    ∀ b ∈ d.burstsFrom fuel k, b.InBlocks := by
  induction fuel generalizing k with
  | zero => exact fun b hb => absurd hb List.not_mem_nil
  | succ fuel ih =>
    intro b hb
    rw [Descriptor.burstsFrom] at hb
    split at hb
    · rcases List.mem_cons.mp hb with rfl | hb
      · exact Descriptor.burstAt_inBlocks hs hd k
      · exact ih b hb
    · exact absurd hb List.not_mem_nil

/-- What moves something has bytes on every line of both sides. -/
theorem Descriptor.lines_pos {d : Descriptor} (h : d.empty = false) : 0 < d.srcLine ∧ 0 < d.dstLine := by
  simp only [Descriptor.empty, Bool.or_eq_false_iff, decide_eq_false_iff_not] at h
  omega

theorem Descriptor.bursts_inBlocks {d : Descriptor} {w : Nat × Nat} (h : d.empty = false) : ∀ b ∈ d.bursts w, b.InBlocks := by
  obtain ⟨hs, hd⟩ := Descriptor.lines_pos h
  intro b hb
  rw [Descriptor.bursts] at hb
  split at hb
  · have hmem : b ∈ d.burstsFrom (d.srcLine * d.srcCount) 0 := by
      dsimp only at hb
      split at hb
      · exact List.mem_reverse.mp hb
      · exact hb
    exact Descriptor.burstsFrom_inBlocks hs hd b hmem
  · rcases List.mem_append.mp hb with hb | hb
    · obtain ⟨e, he, rfl⟩ := List.mem_map.mp hb
      obtain ⟨h0, h128, hblk⟩ := segments_inBlock e he
      exact ⟨h0, h128, by rintro a ⟨⟩; exact hblk, nofun⟩
    · obtain ⟨e, he, rfl⟩ := List.mem_map.mp hb
      obtain ⟨h0, h128, hblk⟩ := segments_inBlock e he
      exact ⟨h0, h128, nofun, by rintro a ⟨⟩; exact hblk⟩

theorem burstBytes_eq_sum (bs : List Burst) : burstBytes bs = (bs.map (·.len)).sum := by
  rw [burstBytes, List.sum_eq_foldl]

/-- The bursts of a COPY from byte k on carry every byte from there on. -/
theorem Descriptor.burstBytes_burstsFrom {d : Descriptor} (hs : 0 < d.srcLine) (hd : 0 < d.dstLine) {fuel k : Nat}
    (hk : k ≤ d.srcLine * d.srcCount) (hf : d.srcLine * d.srcCount - k ≤ fuel) :
    ((d.burstsFrom fuel k).map (·.len)).sum = d.srcLine * d.srcCount - k := by
  induction fuel generalizing k with
  | zero => rw [Descriptor.burstsFrom, List.map_nil, List.sum_nil]; omega
  | succ fuel ih =>
    rw [Descriptor.burstsFrom]
    split
    · next hlt =>
      obtain ⟨h0, hle⟩ := Descriptor.burstAt_len hs hd k
      have hend : k + (d.srcLine - k % d.srcLine) ≤ d.srcLine * d.srcCount := by
        have hdiv : k / d.srcLine < d.srcCount := Nat.div_lt_of_lt_mul hlt
        have hline : d.srcLine * (k / d.srcLine + 1) ≤ d.srcLine * d.srcCount := Nat.mul_le_mul_left _ hdiv
        have hmod := Nat.div_add_mod k d.srcLine
        have hlt' := Nat.mod_lt k hs
        rw [Nat.mul_add] at hline
        omega
      rw [List.map_cons, List.sum_cons, ih (by omega) (by omega)]
      omega
    · rw [List.map_nil, List.sum_nil]
      omega

theorem Descriptor.burstBytes_bursts {d : Descriptor} (w : Nat × Nat) (h0 : d.op = 0) (h : d.empty = false) :
    burstBytes (d.bursts w) = d.srcLine * d.srcCount := by
  obtain ⟨hs, hd⟩ := Descriptor.lines_pos h
  have hsum := Descriptor.burstBytes_burstsFrom hs hd (Nat.zero_le _) (fuel := d.srcLine * d.srcCount) (Nat.sub_le _ _)
  rw [Descriptor.bursts, if_pos h0, burstBytes_eq_sum]
  split
  · rw [List.map_reverse, List.sum_reverse, hsum, Nat.sub_zero]
  · rw [hsum, Nat.sub_zero]

/-! ### The engines (R709) -/

theorem nextUser_low {held waiting : List EngineUser} (h : held.any EngineUser.low = true) {u : EngineUser}
    (hu : nextUser held waiting = some u) : u.low = false := by
  have hp := List.find?_some hu
  simpa [h] using hp

/-- An engine that one of the low users takes is the only one that they hold. -/
theorem low_append_next {held waiting : List EngineUser} (h : (held.filter EngineUser.low).length ≤ 1) {u : EngineUser}
    (hu : nextUser held waiting = some u) : ((held ++ [u]).filter EngineUser.low).length ≤ 1 := by
  rw [List.filter_append, List.length_append]
  cases hany : held.any EngineUser.low with
  | true =>
    rw [List.filter_cons_of_neg (by simp [nextUser_low hany hu]), List.filter_nil]
    exact h
  | false =>
    have hnone : held.filter EngineUser.low = [] := List.filter_eq_nil_iff.mpr (List.any_eq_false.mp hany)
    rw [hnone, List.length_nil, Nat.zero_add]
    exact List.length_filter_le _ _

theorem serveEngines_bounds {n : Nat} : ∀ {held waiting : List EngineUser}, (held.filter EngineUser.low).length ≤ 1 →
    ((serveEngines held waiting n).filter EngineUser.low).length ≤ 1 ∧ (serveEngines held waiting n).length ≤ held.length + n := by
  induction n with
  | zero => exact fun h => ⟨h, Nat.le_refl _⟩
  | succ n ih =>
    intro held waiting h
    rw [serveEngines]
    split
    · next u hu =>
      obtain ⟨hl, hn⟩ := ih (waiting := waiting.erase u) (low_append_next h hu)
      rw [List.length_append, List.length_singleton] at hn
      exact ⟨hl, by omega⟩
    · exact ⟨h, Nat.le_add_right _ _⟩

end Sys2Proof.Machine

open Sys2Proof Sys2Proof.Machine

/-- Settles O50: the spread of addresses, the bounds of bursts and their bytes, and the limit on host moves and the Understorey. -/
theorem addressesBurstsAndEngines : Obligations.AddressesBurstsAndEngines := by
  refine ⟨fun a => ?_, fun groups a hg => ?_, fun groups banks a hg hb => ?_, fun d w b h hb => Descriptor.bursts_inBlocks h b hb,
    fun d w h0 h => Descriptor.burstBytes_bursts w h0 h, fun waiting n => ?_, fun held waiting h u hu => nextUser_low h hu⟩
  · simp only [channelOf, channelByte]
    omega
  · rw [bankGroupOf, bankGroupOf, Nat.add_div_right _ (by decide), Nat.mod_add_mod]
  · rw [bankOf, bankOf, Nat.add_mul_div_right _ _ (by decide), Nat.add_div_right _ hg, Nat.mod_add_mod]
  · obtain ⟨hl, hn⟩ := serveEngines_bounds (n := n) (held := []) (waiting := waiting) (Nat.zero_le _)
    exact ⟨hl, by simpa using hn⟩

end

section
/-! PROOF. PTP messages (R719 to R724): the branches of each message of the selected master, and what a Sync yields. -/

namespace Sys2Proof.Machine

/-! ### Sync and Follow_Up (R720, R721) -/

section

variable {s : State} {m : PtpMsg}

section

variable (hm : s.fromMaster m = true)

include hm

theorem State.syncRx_old {q : Nat} (hq : s.time.lastSeq m.port = some q) (hl : seqLater 16 m.seq q = false) :
    s.syncRx m = s.inc O.PTP_DISCARDED := by
  simp [State.syncRx, hm, hq, hl]

theorem State.syncRx_new (hl : ∀ q, s.time.lastSeq m.port = some q → seqLater 16 m.seq q = true) :
    s.syncRx m =
      if m.twoStep then
        (s.syncAccepted m).updTime fun x => { x with held := x.held ++ [⟨m.seq, s.rxStamp, m.corr, s.now⟩] }
      else (s.syncAccepted m).syncOffset ((m.stamp * 65536 : Nat) + m.corr) s.rxStamp := by
  cases hq : s.time.lastSeq m.port with
  | none => simp [State.syncRx, hm, hq, msgTime]
  | some q => simp [State.syncRx, hm, hq, hl q hq, msgTime]

theorem State.followUpRx_held {h : HeldSync} (hh : s.time.held.find? (·.seq == m.seq) = some h) (hd : s.now ≤ h.since + sec) :
    s.followUpRx m =
      (s.updTime fun x => { x with held := x.held.filter (·.seq != m.seq) }).syncOffset
        ((m.stamp * 65536 : Nat) + m.corr + h.corr) h.t2 := by
  simp [State.followUpRx, hm, hh, Nat.not_lt.mpr hd, msgTime]

theorem State.followUpRx_unknown (hh : s.time.held.find? (·.seq == m.seq) = none) :
    s.followUpRx m = s.inc O.PTP_DISCARDED := by
  simp only [State.followUpRx, hm, hh, Bool.not_true, Bool.false_eq_true, ↓reduceIte]

/-! ### Delay exchanges (R719, R724) -/

theorem State.delayRespRx_answers {e : DelayExchange} {t1 t2 : Int} (h0 : s.rd O.DELAY_MECHANISM = 0)
    (he : s.time.exchange = some e) (hs : s.time.sync = some (t1, t2)) (hq : e.seq = m.seq) :
    s.delayRespRx m = s.setPathDelay (((t2 - t1) + ((m.stamp * 65536 : Nat) - m.corr - e.sent)).tdiv 2) := by
  simp [State.delayRespRx, hm, h0, he, hs, hq, msgTime]

end

theorem State.followUpTimeout_due {h : HeldSync} (hh : h ∈ s.time.held) (hd : h.since + sec ≤ s.now) :
    s.followUpTimeout h.seq =
      (s.updTime fun x => { x with held := x.held.filter (·.seq != h.seq) }).inc O.PTP_DISCARDED := by
  refine if_pos (List.any_eq_true.mpr ⟨h, hh, ?_⟩)
  simp [State.due, hd]

section

variable (hr : s.ptpRuns = true)

include hr

theorem State.delayReqSend_peer (h1 : s.rd O.DELAY_MECHANISM = 1) :
    s.delayReqSend =
      (s.updTime fun x => { x with exchange := some ⟨x.nextSeq, s.txStamp, none⟩, nextSeq := (x.nextSeq + 1) % 65536 }).emit
        (.ptp 2 s.time.nextSeq s.txStamp) := by
  simp only [State.delayReqSend, hr, h1, decide_true, Bool.not_true, Bool.false_and, Bool.or_false, Bool.false_eq_true, ↓reduceIte]
  rfl

theorem State.delayReqSend_master (h0 : s.rd O.DELAY_MECHANISM = 0) (hm : s.time.master.isSome = true) :
    s.delayReqSend =
      (s.updTime fun x => { x with exchange := some ⟨x.nextSeq, s.txStamp, none⟩, nextSeq := (x.nextSeq + 1) % 65536 }).emit
        (.ptp 1 s.time.nextSeq s.txStamp) := by
  have hn : s.time.master.isNone = false := by rw [Option.isNone_eq_false_iff, hm]
  simp [State.delayReqSend, hr, h0, hn, State.updTime]

section

variable (h1 : s.rd O.DELAY_MECHANISM = 1) (hd : m.domain = s.rd O.PTP_DOMAIN)

include h1 hd

theorem State.pdelayReqRx_answers :
    s.pdelayReqRx m = (s.emit (.ptp 3 m.seq s.rxStamp)).emit (.ptp 4 m.seq s.txStamp) := by
  simp [State.pdelayReqRx, hr, h1, hd]

section

variable {e : DelayExchange} (he : s.time.exchange = some e) (hq : e.seq = m.seq)

include he hq

theorem State.pdelayRespRx_oneStep (hf : m.followUp = false) (ht : m.twoStep = false) :
    s.pdelayRespRx m = s.setPathDelay ((s.rxStamp - e.sent - m.corr).tdiv 2) := by
  simp [State.pdelayRespRx, hr, h1, hd, he, hq, hf, ht]

theorem State.pdelayRespRx_twoStep (hf : m.followUp = false) (ht : m.twoStep = true) :
    s.pdelayRespRx m =
      s.updTime fun x => { x with exchange := some { e with resp := some (s.rxStamp, (m.stamp * 65536 : Nat), m.corr) } } := by
  simp [State.pdelayRespRx, hr, h1, hd, he, hq, hf, ht, msgTime]

theorem State.pdelayRespRx_followUp {t4 t2 c : Int} (hf : m.followUp = true) (hp : e.resp = some (t4, t2, c)) :
    s.pdelayRespRx m =
      s.setPathDelay (((t4 - e.sent) - ((m.stamp * 65536 : Nat) - t2) - c - m.corr).tdiv 2) := by
  simp [State.pdelayRespRx, hr, h1, hd, he, hq, hf, hp, msgTime]

end

end

end

end

/-! ### The offset of a Sync (R723 to R727) -/

/-- An event leaves network time as it is. -/
@[simp] theorem State.time_event (s : State) (b code data : Nat) : (s.event b code data).time = s.time := by
  rw [(State.event_from s b code data).1]

@[simp] theorem State.time_warn (s : State) (b code index sub : Nat) (data : List Byte) :
    (s.warn b code index sub data).time = s.time := by
  rw [(State.warn_from s b code index sub data).1]

/-- Network time with an offset refused (R727). -/
def TimeState.withRefused (t : TimeState) (off : Int) : TimeState :=
  { t with refused := some off, stepNeeded := true, inLimit := 0, inLock := 0, rates := (t.rate :: t.rates).take 64 }

theorem State.refuseOffset_time (s : State) (off : Int) : (s.refuseOffset off).time = s.time.withRefused off := by
  rw [State.refuseOffset]
  split
  · exact State.time_event _ _ _ _
  · exact (State.time_warn _ _ _ _ _ _).trans (State.time_event _ _ _ _)

theorem State.servoStep_offset (s : State) (off : Int) : (s.servoStep off).time.offset = some off := by
  rw [State.servoStep]
  dsimp only
  split
  · rw [State.time_event]; rfl
  · rfl

end Sys2Proof.Machine

open Sys2Proof Sys2Proof.Machine

/-- Settles O51: the branches of each message, and of the offset of a Sync by PTP_STEP_LIMIT. -/
theorem ptpMessages : Obligations.PtpMessages := by
  refine ⟨fun s t m hm => ⟨fun q hq hl => State.does_eq _ _ _ _ (State.syncRx_old (s := s.at t) hm hq hl),
      fun hl => ⟨fun h2 => ?_, fun h2 => ?_⟩,
      fun h hh hd => State.does_eq _ _ _ _ (State.followUpRx_held (s := s.at t) hm hh hd),
      fun hh => State.does_eq _ _ _ _ (State.followUpRx_unknown (s := s.at t) hm hh),
      fun e t1 t2 h0 he hs hq => State.does_eq _ _ _ _ (State.delayRespRx_answers (s := s.at t) hm h0 he hs hq)⟩,
    fun s t m hr h1 hd => ⟨State.does_eq _ _ _ _ (State.pdelayReqRx_answers (s := s.at t) hr h1 hd), fun e he hq =>
      ⟨fun hf ht => State.does_eq _ _ _ _ (State.pdelayRespRx_oneStep (s := s.at t) hr h1 hd he hq hf ht),
        fun hf ht => State.does_eq _ _ _ _ (State.pdelayRespRx_twoStep (s := s.at t) hr h1 hd he hq hf ht),
        fun t4 t2 c hf hp => State.does_eq _ _ _ _ (State.pdelayRespRx_followUp (s := s.at t) hr h1 hd he hq hf hp)⟩⟩,
    fun s t hr h1 => State.does_eq _ _ _ _ (State.delayReqSend_peer (s := s.at t) hr h1),
    fun s t hr h0 hm => State.does_eq _ _ _ _ (State.delayReqSend_master (s := s.at t) hr h0 hm),
    fun s t h hh hd => State.does_eq _ _ _ _ (State.followUpTimeout_due (s := s.at t) hh hd), fun u t1 t2 => ?_⟩
  · exact State.does_eq _ _ _ _ ((State.syncRx_new (s := s.at t) hm hl).trans (if_pos h2))
  · exact State.does_eq _ _ _ _ ((State.syncRx_new (s := s.at t) hm hl).trans (if_neg (by simp [h2])))
  · intro off
    refine ⟨fun h => ?_, fun h => ?_⟩
    · have hs : u.syncOffset t1 t2 = (u.updTime fun x => { x with sync := some (t1, t2) }).refuseOffset off := if_pos h
      rw [hs, State.refuseOffset_time]
      exact ⟨rfl, rfl, rfl⟩
    · have hs : u.syncOffset t1 t2 = (u.updTime fun x => { x with sync := some (t1, t2) }).servoStep off :=
        if_neg (Nat.not_lt.mpr h)
      rw [hs, State.servoStep_offset]

end

section
/-! PROOF. The servo (R725 to R737): the best master, HOLDOVER, steps of TB_PTP, records 3501h to 3503h, and the rate of TB_FIRE. -/

namespace Sys2Proof.Machine

/-! ### The best master (R732) -/

theorem bestMaster_mem {ms : List Master} {b : Master} (h : bestMaster ms = some b) : b ∈ ms := by
  refine (foldl_keepOrTake (fun best m => ?_) ms none b h).resolve_left (by simp)
  cases best with
  | none => exact .inr rfl
  | some c => exact (Classical.em (rankLess m.rank c.rank = true)).symm.imp (if_neg ·) (if_pos ·)

/-- Master b is selected: its port, and what the objects show of it. -/
def State.mastered (s : State) (ms : List Master) (b : Master) : State :=
  ((s.updTime fun t => { t with masters := ms }).updTime fun t => { t with master := some b.port }).wrs
    [(O.GM_IDENTITY, b.gm % 2 ^ 64), (O.MASTER_PORT, b.port % 2 ^ 80)]

/-- What the exchanges with another port than b left is gone. -/
def State.portSelected (s : State) (ms : List Master) (b : Master) : State :=
  if s.time.master != some b.port then
    (s.mastered ms b).updTime fun t => { t with held := [], exchange := none, sync := none }
  else s.mastered ms b

/-- The servo restarts for another grandmaster, with its event and warning. -/
def State.masterChanged (s : State) (b : Master) : State :=
  ((s.event 0xf 2 0).warn 0xf 2 0x3500 9 (natLE 8 b.gm)).servoRestart 1

/-- b is another master or grandmaster than the last selected. -/
def State.ShowsOther (s : State) (b : Master) : Prop :=
  s.rd O.MASTER_PORT ≠ 0 ∧ (s.rd O.MASTER_PORT ≠ b.port % 2 ^ 80 ∨ s.rd O.GM_IDENTITY ≠ b.gm % 2 ^ 64)

section

variable {u : State} {ms : List Master} {b : Master} (hb : bestMaster ms = some b)

include hb

theorem State.selectMaster_other (h : u.ShowsOther b) : u.selectMaster ms = (u.portSelected ms b).masterChanged b := by
  obtain ⟨h0, h1⟩ := h
  simp only [State.selectMaster, hb]
  exact if_pos (by simpa [h0] using h1)

theorem State.selectMaster_same (h : ¬u.ShowsOther b) : u.selectMaster ms = u.portSelected ms b := by
  have hn : (u.rd O.MASTER_PORT != 0 &&
      (u.rd O.MASTER_PORT != b.port % 2 ^ 80 || u.rd O.GM_IDENTITY != b.gm % 2 ^ 64)) ≠ true := by
    simpa [State.ShowsOther] using h
  simp only [State.selectMaster, hb]
  exact if_neg hn

end

theorem State.mastered_rd (s : State) (ms : List Master) (b : Master) (k : Nat) :
    (s.mastered ms b).rd k =
      if O.MASTER_PORT = k then b.port % 2 ^ 80 else if O.GM_IDENTITY = k then b.gm % 2 ^ 64 else s.rd k := by
  have h : s.mastered ms b = (((s.updTime fun t => { t with masters := ms }).updTime fun t =>
      { t with master := some b.port }).wr O.GM_IDENTITY (b.gm % 2 ^ 64)).wr O.MASTER_PORT (b.port % 2 ^ 80) := State.wrs_eq _ _
  rw [h, State.rd_wr, State.rd_wr]
  rfl

theorem State.portSelected_rd (s : State) (ms : List Master) (b : Master) (k : Nat) :
    (s.portSelected ms b).rd k = (s.mastered ms b).rd k := by
  rw [State.portSelected]
  split <;> rfl

theorem State.portSelected_master (s : State) (ms : List Master) (b : Master) : (s.portSelected ms b).time.master = some b.port := by
  rw [State.portSelected]
  split <;> rfl

theorem State.warn_rd (s : State) (b code index sub : Nat) (data : List Byte) {k : Nat} (h : k ≠ O.NOTICES_LOST) :
    (s.warn b code index sub data).rd k = s.rd k :=
  (State.warn_from s b code index sub data).2 k h

theorem State.masterChanged_rd (s : State) (b : Master) {k : Nat} (h : k ≠ O.NOTICES_LOST) : (s.masterChanged b).rd k = s.rd k :=
  (State.warn_rd _ _ _ _ _ _ h).trans (State.event_rd _ _ _ _ _ h)

theorem State.masterChanged_time (s : State) (b : Master) :
    (s.masterChanged b).time = { s.time with servo := 1, sum := 0, inLock := 0 } := by
  simp only [State.masterChanged, State.servoRestart, State.updTime, State.time_warn, State.time_event]

/-- Whether the master changed or not, it is the one selected, and the objects show it. -/
theorem State.selectMaster_selects {u : State} {ms : List Master} {b : Master} (hb : bestMaster ms = some b) :
    (u.selectMaster ms).time.master = some b.port ∧ (u.selectMaster ms).rd O.GM_IDENTITY = b.gm % 2 ^ 64 ∧
      (u.selectMaster ms).rd O.MASTER_PORT = b.port % 2 ^ 80 := by
  have hg : (u.portSelected ms b).rd O.GM_IDENTITY = b.gm % 2 ^ 64 := by
    rw [State.portSelected_rd, State.mastered_rd, if_neg (by decide), if_pos rfl]
  have hp : (u.portSelected ms b).rd O.MASTER_PORT = b.port % 2 ^ 80 := by
    rw [State.portSelected_rd, State.mastered_rd, if_pos rfl]
  by_cases h : u.ShowsOther b
  · rw [State.selectMaster_other hb h, State.masterChanged_time, State.masterChanged_rd _ _ (by decide),
      State.masterChanged_rd _ _ (by decide)]
    exact ⟨State.portSelected_master _ _ _, hg, hp⟩
  · rw [State.selectMaster_same hb h]
    exact ⟨State.portSelected_master _ _ _, hg, hp⟩

/-! ### ANNOUNCE_RX and ANNOUNCE_TIMEOUT, and HOLDOVER (R725, R732, R733) -/

section

variable {s : State}

theorem State.announceRx_selects {m : PtpMsg} (hr : s.ptpRuns = true) (hd : m.domain = s.rd O.PTP_DOMAIN) :
    s.announceRx m =
      s.selectMaster (s.freshMasters.filter (·.port != m.port) ++ [⟨m.port, m.gm, m.rank, m.interval, s.now⟩]) := by
  simp [State.announceRx, hr, hd]

section

variable (hf : s.freshMasters.length = s.time.masters.length)

include hf

theorem State.announceTimeout_idle (h : s.time.servo = 0 ∨ s.time.servo = 3) : s.announceTimeout = s := by
  rcases h with h | h <;> simp [State.announceTimeout, hf, h]

theorem State.announceTimeout_quiet {m : Master} (hm : s.time.masters.find? (fun m => s.time.master == some m.port) = some m)
    (h : s.time.servo = 1 ∨ s.time.servo = 2)
    (hd : s.time.lastSync + s.rd O.PTP_ANNOUNCE_TIMEOUT * m.interval * ms ≤ s.now) : s.announceTimeout = s.holdover := by
  have hdue : s.due s.time.lastSync (s.rd O.PTP_ANNOUNCE_TIMEOUT * m.interval * ms) = true := decide_eq_true hd
  rcases h with h | h <;> simp [State.announceTimeout, hf, hm, h, hdue]

end

end

theorem State.holdover_time (s : State) :
    s.holdover.time = if s.time.servo = 3 then s.time else { s.time.setRate s.now s.time.meanRate with servo := 3, inLock := 0 } := by
  rw [State.holdover]
  split
  · rfl
  · rw [State.time_warn, State.time_event]
    rfl

theorem State.holdover_servo (s : State) : s.holdover.time.servo = 3 := by
  rw [State.holdover_time]
  split
  · assumption
  · rfl

theorem State.holdover_exchange (s : State) : s.holdover.time.exchange = s.time.exchange := by
  rw [State.holdover_time]
  split <;> rfl

theorem State.holdover_rd (s : State) {k : Nat} (h : k ≠ O.NOTICES_LOST) : s.holdover.rd k = s.rd k := by
  rw [State.holdover]
  split
  · rfl
  · exact (State.warn_rd _ _ _ _ _ _ h).trans (State.event_rd _ _ _ _ _ h)

/-! ### Steps of TB_PTP, and records 3501h to 3503h (R729 to R731, R737) -/

theorem State.stepTo_time (u : State) (v : Nat) :
    (u.stepTo v).time.stepNeeded = false ∧ (u.stepTo v).time.held = [] ∧ (u.stepTo v).time.exchange = none := by
  rw [State.stepTo]
  dsimp only
  split <;> simp only [State.servoRestart, State.updTime, State.time_event, TimeState.setRate] <;> exact ⟨rfl, rfl, rfl⟩

theorem State.stepTo_count (u : State) (v : Nat) :
    (u.stepTo v).rd O.TIME_STATUS_STEP_COUNT = min (Dict.top O.TIME_STATUS_STEP_COUNT) (u.rd O.TIME_STATUS_STEP_COUNT + 1) := by
  have h : ∀ s : State, ((s.inc O.TIME_STATUS_STEP_COUNT).event 0xf 4 0).rd O.TIME_STATUS_STEP_COUNT =
      min (Dict.top O.TIME_STATUS_STEP_COUNT) (s.rd O.TIME_STATUS_STEP_COUNT + 1) := fun s => by
    rw [State.event_rd _ _ _ _ _ (by decide), State.rd_inc, if_pos rfl]
  rw [State.stepTo]
  dsimp only
  split <;> exact h _

theorem State.ptpStep_value {s : State} (h : s.rd O.PTP_STEP_MODE = 2) :
    s.ptpStep (s.rd O.PTP_STEP_MODE) (s.rd O.PTP_STEP_VALUE) =
      .of Status.ok (s.stepTo (s.rd O.PTP_STEP_VALUE * 2 ^ 40)) :=
  if_pos h

theorem State.ptpStep_refused {s : State} {off : Int} (h : s.rd O.PTP_STEP_MODE ≠ 2) (hn : s.time.stepNeeded = true)
    (ho : s.time.refused = some off) :
    s.ptpStep (s.rd O.PTP_STEP_MODE) (s.rd O.PTP_STEP_VALUE) =
      .of Status.ok (s.stepTo (((s.time.ptpAt s.now : Nat) : Int) - off.tdiv 65536 * 2 ^ 40).toNat) := by
  have hs : ((if s.time.stepNeeded then s.time.refused else none) <|> s.time.offset) = some off := by rw [if_pos hn, ho]; rfl
  rw [State.ptpStep, if_neg h, hs]

theorem row_ptpApply : ∀ idx ∈ [0x3501, 0x3502, 0x3503], Dict.row? idx 255 = some (applyRow idx 1) := by decide +kernel

theorem applies_ptp {c : Hdr → Instr} {t idx : Nat} {pre : State → State → Prop} {op : State → State → State}
    (hi : idx ∈ [0x3501, 0x3502, 0x3503]) (hc : ∀ h s, exec (c h) s = s.does t fun u => u.hostWrite h (256 * idx + 255) [1#8])
    (ho : ∀ u, (u.wrs (u.staged idx)).recordFail idx = none → (u.wrs (u.staged idx)).recordRefusal idx u = false →
      pre u (u.wrs (u.staged idx)) → u.recordOp idx (u.staged idx) = .of Status.ok (op u (u.wrs (u.staged idx)))) :
    Applies c t idx pre op := by
  have hrow := row_ptpApply idx hi
  have hlim : 0x3501 ≤ idx ∧ idx ≤ 0x3503 := by
    simp only [List.mem_cons, List.not_mem_nil, or_false] at hi
    omega
  exact applies_of c t idx (applyRow idx 1) pre op hc (by omega)
    (findObject_of_row (by omega) (Dict.hasIndex_of_row hrow) hrow) rfl rfl rfl (Option.isSome_of_eq_some hrow) (by omega) ho

/-- The values of 3503h are in effect: TB_PTP steps. -/
theorem applies_ptpStep {t : Nat} {pre : State → State → Prop} {op : State → State → State}
    (ho : ∀ u v, pre u v → v.ptpStep (v.rd O.PTP_STEP_MODE) (v.rd O.PTP_STEP_VALUE) = .of Status.ok (op u v)) :
    Applies (fun h => .ptpStep t h 1) t 0x3503 pre op := by
  refine applies_ptp (by decide) (fun _ _ => rfl) fun u hf hr hp => ?_
  rw [u.recordOp_taken 0x3503 (by decide) (by decide) hf hr]
  exact ho u _ hp

/-- The values of 3501h or 3502h are in effect. -/
theorem applies_ptpConfig {t idx : Nat} {op : State → State → State} (hi : idx = 0x3501 ∨ idx = 0x3502)
    (ho : ∀ u v : State, v.recordEffect idx u = op u v) :
    Applies (fun h => .ptpConfigApply t h idx 1) t idx (fun _ _ => True) op := by
  refine applies_ptp (by rcases hi with rfl | rfl <;> decide) (fun _ _ => rfl) fun u hf hr _ => ?_
  rw [u.recordOp_taken idx (by omega) (by omega) hf hr, ← ho]
  rcases hi with rfl | rfl <;> rfl

/-- The loss of every master leaves the exchange and PTP_ENABLE. -/
theorem State.selectMaster_nil (v : State) :
    (v.selectMaster []).time.exchange = v.time.exchange ∧ (v.selectMaster []).rdB O.PTP_ENABLE = v.rdB O.PTP_ENABLE := by
  simp only [State.selectMaster, bestMaster, List.foldl_nil]
  split
  · rw [State.holdover_exchange, State.rdB, State.holdover_rd _ (by decide)]
    exact ⟨rfl, rfl⟩
  · exact ⟨rfl, rfl⟩

/-- 3501h with PTP_ENABLE off: whether the domain changed or not, the servo is in HOLDOVER. -/
theorem State.ptpConfig_off {u : State} {d : Nat} (h : u.rdB O.PTP_ENABLE = false) :
    (u.ptpConfig d).time.servo = 3 ∧ (u.ptpConfig d).time.exchange = none := by
  have key : ∀ v : State, v.rdB O.PTP_ENABLE = false → v.time.exchange = none →
      (if v.rdB O.PTP_ENABLE then v else v.holdover).time.servo = 3 ∧
        (if v.rdB O.PTP_ENABLE then v else v.holdover).time.exchange = none := fun v hv he => by
    rw [if_neg (by simp [hv]), State.holdover_exchange]
    exact ⟨State.holdover_servo v, he⟩
  obtain ⟨hx, he⟩ := State.selectMaster_nil (u.updTime fun t => { t with exchange := none })
  rw [State.ptpConfig]
  split
  · exact key _ (he.trans h) hx
  · exact key _ h rfl

/-! ### The rate of TB_FIRE (R734, R735) -/

theorem State.fireRateSlew_by {s : State} {d : Int} (hd : d ≠ 0)
    (h : clampI (-(s.rd O.FIRE_RATE_SLEW * 1000 : Nat)) (s.rd O.FIRE_RATE_SLEW * 1000 : Nat) (s.time.rate - s.time.fireRate) = d) :
    s.fireRateSlew = s.updTime fun x => x.setFireRate s.now (x.fireRate + d) := by
  rw [State.fireRateSlew, h, if_neg hd]

theorem State.fireRateSlew_zero {s : State} (h : s.time.rate - s.time.fireRate = 0) : s.fireRateSlew = s := by
  refine if_pos ?_
  rw [h, clampI]
  omega

theorem State.fireRateSlew_reaches {s : State} (h0 : s.time.rate - s.time.fireRate ≠ 0)
    (hl : -((s.rd O.FIRE_RATE_SLEW * 1000 : Nat) : Int) ≤ s.time.rate - s.time.fireRate)
    (hh : s.time.rate - s.time.fireRate ≤ (s.rd O.FIRE_RATE_SLEW * 1000 : Nat)) :
    s.fireRateSlew = s.updTime fun x => x.setFireRate s.now x.rate := by
  rw [State.fireRateSlew_by h0 (by rw [clampI]; omega)]
  have hsum : s.time.fireRate + (s.time.rate - s.time.fireRate) = s.time.rate := by omega
  simp only [State.updTime, hsum]

theorem State.fireRateSlew_up {s : State} (h0 : (0 : Int) < (s.rd O.FIRE_RATE_SLEW * 1000 : Nat))
    (h : ((s.rd O.FIRE_RATE_SLEW * 1000 : Nat) : Int) < s.time.rate - s.time.fireRate) :
    s.fireRateSlew = s.updTime fun x => x.setFireRate s.now (x.fireRate + (s.rd O.FIRE_RATE_SLEW * 1000 : Nat)) :=
  State.fireRateSlew_by (Int.ne_of_gt h0) (by rw [clampI]; omega)

theorem State.fireRateSlew_down {s : State} (h0 : (0 : Int) < (s.rd O.FIRE_RATE_SLEW * 1000 : Nat))
    (h : s.time.rate - s.time.fireRate < -((s.rd O.FIRE_RATE_SLEW * 1000 : Nat) : Int)) :
    s.fireRateSlew = s.updTime fun x => x.setFireRate s.now (x.fireRate - (s.rd O.FIRE_RATE_SLEW * 1000 : Nat)) :=
  State.fireRateSlew_by (d := -(s.rd O.FIRE_RATE_SLEW * 1000 : Nat)) (by omega) (by rw [clampI]; omega)

end Sys2Proof.Machine

open Sys2Proof Sys2Proof.Machine

/-- Settles O52: the master by the cases of whether it changed; HOLDOVER, a step and the records by their lemmas; a_fire by the
side of FIRE_RATE_SLEW on which the gap lies. -/
theorem ptpServo : Obligations.PtpServo := by
  refine ⟨fun s t m hr hd => State.does_eq _ _ _ _ (State.announceRx_selects (s := s.at t) hr hd), fun u ms b hb => ?_,
    fun _ _ => bestMaster_mem, fun s t hf h => State.does_eq _ _ _ _ (State.announceTimeout_idle (s := s.at t) hf h),
    fun s t m hm hf h hd => State.does_eq _ _ _ _ (State.announceTimeout_quiet (s := s.at t) hf hm h hd), State.holdover_servo,
    fun t => ⟨applies_ptpStep fun _ v h => State.ptpStep_value h,
      fun off => applies_ptpStep fun _ v ⟨h, hn, ho⟩ => State.ptpStep_refused h hn ho,
      applies_ptpConfig (.inl rfl) fun _ _ => rfl, applies_ptpConfig (.inr rfl) fun _ _ => rfl⟩,
    fun u v => ?_, fun u d h => State.ptpConfig_off h, fun s t => ⟨?_, ?_, ?_, ?_⟩⟩
  · obtain ⟨hm, hg, hp⟩ := State.selectMaster_selects (u := u) hb
    refine ⟨hm, hg, hp, fun h0 h1 => ?_⟩
    rw [State.selectMaster_other hb ⟨h0, h1⟩, State.masterChanged_time]
    exact ⟨rfl, rfl⟩
  · obtain ⟨hn, hh, he⟩ := State.stepTo_time u v
    exact ⟨hn, hh, he, State.stepTo_count u v⟩
  · exact fun h => State.does_eq _ _ _ _ (State.fireRateSlew_zero (s := s.at t) h)
  · exact fun h0 hl hh => State.does_eq _ _ _ _ (State.fireRateSlew_reaches (s := s.at t) h0 hl hh)
  · exact fun h0 h => State.does_eq _ _ _ _ (State.fireRateSlew_up (s := s.at t) h0 h)
  · exact fun h0 h => State.does_eq _ _ _ _ (State.fireRateSlew_down (s := s.at t) h0 h)

end

section
/-! PROOF. The background tasks (R757 to R761, R886): die temperatures and their trip, the scrub, telemetry, and late tasks. -/

namespace Sys2Proof.Machine

theorem State.whenAwake_of {s : State} (h : s.awake = true) (op : State → State) : s.whenAwake op = op s := if_pos h

/-! ### Die temperatures (R886) -/

/-- The eight readings that the codes spell. -/
def State.dieTemps (s : State) (codes : List Nat) : List Int :=
  (List.range 8).map fun k => clampI (-32768) 32767 (s.sensorReading k (codes.getD k 0))

/-- How many readings in a row each sensor has been above 130 °C, with these. -/
def State.hotRuns (s : State) (codes : List Nat) : List Nat :=
  (List.range 8).map fun k => if 2080 < (s.dieTemps codes).getD k 0 then s.safe.hotReads.getD k 0 + 1 else 0

/-- The hottest reading so far and its sensor, with these. -/
def State.hottestWith (s : State) (codes : List Nat) : Option (Int × Nat) :=
  (indexed (s.dieTemps codes)).foldl (fun best e =>
    match best with
    | some b => if b.1 < e.2 then some (e.2, e.1) else best
    | none => some (e.2, e.1)) s.under.hottest

/-- The readings are shown and counted. -/
def State.tempsRead (s : State) (codes : List Nat) : State :=
  { s.wr O.TEMP_READINGS (octOf 2 ((s.dieTemps codes).map (ofInt 16))) with
    under := { s.under with hottest := s.hottestWith codes }
    safe := { s.safe with hotReads := s.hotRuns codes, hot := s.safe.hot && !(s.dieTemps codes).all (· < 1920) } }

/-- The trip: a sensor was above 130 °C ten times in a row. -/
def State.thermalTripped (s : State) : State :=
  ((({ s with safe := { s.safe with hot := true } } : State).inc O.THERMAL_TRIPS).event 1 0x10 0).requestSafe 1 6 0x10

theorem State.thermalRead_eq (s : State) (codes : List Nat) :
    s.thermalRead codes =
      if !(s.tempsRead codes).safe.hot && (s.hotRuns codes).any (10 ≤ ·) then (s.tempsRead codes).thermalTripped
      else s.tempsRead codes := rfl

/-- An object reads as written, whatever the background work and safe state come to hold. -/
theorem State.rd_wr_under (s : State) (k v : Nat) (x : Understorey) (y : Safe) :
    ({ s.wr k v with under := x, safe := y } : State).rd k = v := State.rd_wr_same s k v

theorem State.tempsRead_rd (s : State) (codes : List Nat) :
    (s.tempsRead codes).rd O.TEMP_READINGS = octOf 2 ((s.dieTemps codes).map (ofInt 16)) :=
  State.rd_wr_under _ _ _ _ _

theorem State.thermalTripped_rd (s : State) : s.thermalTripped.rd O.TEMP_READINGS = s.rd O.TEMP_READINGS := by
  refine (State.event_rd _ _ _ _ _ (by decide)).trans ?_
  rw [State.rd_inc, if_neg (by decide)]
  rfl

theorem State.thermalTripped_hot (s : State) : s.thermalTripped.safe.hot = true := by
  have h : s.thermalTripped.safe =
      ((({ s with safe := { s.safe with hot := true } } : State).inc O.THERMAL_TRIPS).event 1 0x10 0).safe := rfl
  rw [h, (State.event_from _ _ _ _).1]
  rfl

theorem State.thermalTripped_acts (s : State) : Act.safe ⟨1, 6, 0x10⟩ false ∈ s.thermalTripped.acts :=
  List.mem_append_right _ (List.mem_singleton_self _)

/-- Tripped or not, the readings are shown. -/
theorem State.thermalRead_rd (s : State) (codes : List Nat) :
    (s.thermalRead codes).rd O.TEMP_READINGS = octOf 2 ((s.dieTemps codes).map (ofInt 16)) := by
  rw [State.thermalRead_eq]
  split
  · exact (State.thermalTripped_rd _).trans (State.tempsRead_rd s codes)
  · exact State.tempsRead_rd s codes

section

variable {s : State} {codes : List Nat}

theorem State.dieTemps_getD_mem {k : Nat} (hk : k < 8) : (s.dieTemps codes).getD k 0 ∈ s.dieTemps codes := by
  have hl : k < (s.dieTemps codes).length := by rw [State.dieTemps, List.length_map, List.length_range]; exact hk
  rw [getD_of_lt _ hl]
  exact List.getElem_mem hl

theorem State.thermalRead_cool (h : ∀ x ∈ s.dieTemps codes, x ≤ 2080) : s.thermalRead codes = s.tempsRead codes := by
  have hr : (s.hotRuns codes).any (10 ≤ ·) = false := by
    simp only [State.hotRuns, List.any_map, List.any_eq_false, List.mem_range, Function.comp_apply, decide_eq_true_eq]
    intro k hk
    rw [if_neg (Int.not_lt.mpr (h _ (State.dieTemps_getD_mem hk)))]
    decide
  rw [State.thermalRead_eq, hr, Bool.and_false]
  exact if_neg Bool.false_ne_true

theorem State.thermalRead_trips {k : Nat} (hk : k < 8) (h : 2080 < (s.dieTemps codes).getD k 0)
    (h9 : 9 ≤ s.safe.hotReads.getD k 0) (hs : s.safe.hot = false) :
    s.thermalRead codes = (s.tempsRead codes).thermalTripped := by
  have hr : (s.hotRuns codes).any (10 ≤ ·) = true := by
    simp only [State.hotRuns, List.any_map, List.any_eq_true, List.mem_range, Function.comp_apply, decide_eq_true_eq]
    refine ⟨k, hk, ?_⟩
    rw [if_pos h]
    omega
  have hh : (s.tempsRead codes).safe.hot = false := by
    change (s.safe.hot && _) = false
    rw [hs, Bool.false_and]
  rw [State.thermalRead_eq, hr, hh]
  exact if_pos rfl

theorem State.tempsRead_cold (h : ∀ x ∈ s.dieTemps codes, x < 1920) : (s.tempsRead codes).safe.hot = false := by
  have ha : (s.dieTemps codes).all (· < 1920) = true := by simpa using h
  change (s.safe.hot && !(s.dieTemps codes).all (· < 1920)) = false
  rw [ha, Bool.not_true, Bool.and_false]

end

/-! ### Telemetry and the flash log (R760, R761) -/

/-- A telemetry record r is kept and shown. -/
def State.recorded (s : State) (r : List Byte) : State :=
  ({ s with under := { s.under with
      last := s.telemetryCounts, records := (r :: s.under.records).take 3600, unlogged := min 3600 (s.under.unlogged + 1) } } :
    State).wr O.TELEMETRY (leNat r)

theorem State.telemetrySample_off {s : State} (h : s.rdB O.TELEMETRY_ENABLE = false) (sense : List Nat) :
    s.telemetrySample sense = s := if_pos (by rw [h]; rfl)

theorem State.telemetrySample_on {s : State} (h : s.rdB O.TELEMETRY_ENABLE = true) (sense : List Nat) :
    s.telemetrySample sense = (s.draw.2.recorded (s.draw.2.telemetryRecord sense (Config.free s.draws).toNat)).taskDone 5 :=
  if_neg (by rw [h]; exact Bool.false_ne_true)

theorem State.taskDone_rd (s : State) (i : Nat) {k : Nat} (hr : O.TASK_RUNS i ≠ k) (hd : O.TASK_LAST_DONE i ≠ k) :
    (s.taskDone i).rd k = s.rd k := by
  rw [State.taskDone, State.rd_wr_ne _ _ _ _ hd, State.rd_inc, if_neg hr]

theorem State.recorded_rd (s : State) (r : List Byte) : ((s.recorded r).taskDone 5).rd O.TELEMETRY = leNat r := by
  rw [State.taskDone_rd _ _ (by decide) (by decide)]
  exact State.rd_wr_same _ _ _

theorem State.logChunk_off {s : State} (h : s.rdB O.TELEMETRY_ENABLE = false) : s.logChunk = s := by
  simp only [State.logChunk, h, Bool.false_and, Bool.false_eq_true, ↓reduceIte]

theorem State.logChunk_on {s : State} (h : s.rdB O.TELEMETRY_ENABLE = true) (hb : s.boot.railFallen = false) :
    s.logChunk = s.writeChunk.taskDone 6 := by
  simp only [State.logChunk, h, hb, Bool.not_false, Bool.and_self, ↓reduceIte]

end Sys2Proof.Machine

open Sys2Proof Sys2Proof.Machine

/-- Settles O55: what each task does in a part that is awake; the trip by how hot the sensors are. -/
theorem backgroundWork : Obligations.BackgroundWork := by
  refine ⟨fun s t cs ha => ?_, fun s t ha => ⟨?_, ?_, ?_⟩, fun s t sense ha => ⟨fun h => ⟨?_, ?_⟩, fun h => ?_, fun h hb => ?_⟩,
    fun s t k ha hk => ?_⟩
  · intro shown
    refine ⟨(s.at t).thermalRead cs, State.does_eq _ _ _ (fun _ => _) (State.whenAwake_of (s := s.at t) ha _),
      State.thermalRead_rd _ cs, fun h hs => ?_, fun k hk h h9 hs => ?_, fun h => ?_⟩
    · rw [State.thermalRead_cool (s := s.at t) h]
      exact ⟨(congrArg (· && _) hs).trans (Bool.false_and _), rfl⟩
    · rw [State.thermalRead_trips (s := s.at t) hk h h9 hs]
      exact ⟨State.thermalTripped_hot _, State.thermalTripped_acts _⟩
    · rw [State.thermalRead_cool (s := s.at t) fun x hx => Int.le_trans (Int.le_of_lt (h x hx)) (by decide)]
      exact State.tempsRead_cold (s := s.at t) h
  · exact State.does_eq _ _ _ _ (State.whenAwake_of (s := s.at t) ha _)
  · exact State.does_eq _ _ _ _ (State.whenAwake_of (s := s.at t) ha _)
  · exact State.does_eq _ _ _ _ (State.whenAwake_of (s := s.at t) ha _)
  · exact State.does_eq _ _ _ _ ((State.whenAwake_of (s := s.at t) ha _).trans (State.telemetrySample_off (s := s.at t) h sense))
  · exact State.does_eq _ _ _ _ ((State.whenAwake_of (s := s.at t) ha _).trans (State.logChunk_off (s := s.at t) h))
  · exact ⟨_, _, State.does_eq _ _ _ (fun _ => _)
      ((State.whenAwake_of (s := s.at t) ha _).trans (State.telemetrySample_on (s := s.at t) h sense)),
      rfl, rfl, State.recorded_rd _ _⟩
  · exact State.does_eq _ _ _ _ ((State.whenAwake_of (s := s.at t) ha _).trans (State.logChunk_on (s := s.at t) h hb))
  · exact State.does_eq _ _ _ _ ((State.whenAwake_of (s := s.at t) ha _).trans (if_neg (Nat.not_le.mpr hk)))

end

section
/-! PROOF. The display outputs (R857 to R869): the timing record, frame starts, lines, underruns, and the lengthened porch. -/

namespace Sys2Proof.Machine

/-! ### Outputs -/

/-- Two changes of an output that agree on what it holds are one change. -/
theorem State.updDisp_congr {s : State} {x : Nat} {f g : Disp → Disp} (h : f (s.disp x) = g (s.disp x)) :
    s.updDisp x f = s.updDisp x g := by
  have hm : s.disps.modify x f = s.disps.modify x g := by
    refine List.ext_getElem (by simp) fun i hi _ => ?_
    rw [List.getElem_modify, List.getElem_modify]
    split
    · next he =>
      subst he
      have hx : x < s.disps.length := by simpa using hi
      rw [State.disp, getD_of_lt _ hx] at h
      exact h
    · rfl
  exact congrArg (fun ds => ({ s with disps := ds } : State)) hm

theorem State.disp_updDisp_same {s : State} {x : Nat} (h : x < s.disps.length) (f : Disp → Disp) :
    (s.updDisp x f).disp x = f (s.disp x) := by
  have hl : x < (s.disps.modify x f).length := by simpa using h
  change (s.disps.modify x f).getD x .init = f (s.disps.getD x .init)
  rw [getD_of_lt _ hl, getD_of_lt _ h, List.getElem_modify_eq]

/-! ### The timing record (R859, R860, R866) -/

theorem DispTiming.resizes_self (t : DispTiming) : t.resizes t = false := by simp [DispTiming.resizes]

theorem row_dispApply : ∀ x < 2, Dict.row? (0x3900 + x) 255 = some (applyRow 0x3900 2) := by decide +kernel

theorem applies_dispTiming {t x : Nat} (hx : x < 2) :
    Applies (fun h => .dispTimingApply t h x 1) t (0x3900 + x) (fun _ _ => True) (fun _ v => v.dispApply x) := by
  have hrow := row_dispApply x hx
  have hkey : 0x3900ff + 256 * (x % 2) = 256 * (0x3900 + x) + 255 := by omega
  refine applies_of _ t (0x3900 + x) (applyRow 0x3900 2) _ _ (fun h s => ?_) (by omega)
    (findObject_of_row (by omega) (Dict.hasIndex_of_row hrow) hrow) rfl rfl rfl (Option.isSome_of_eq_some hrow) (by omega)
    fun u hf hr _ => ?_
  · change s.does t (fun s => s.hostWrite h (0x3900ff + 256 * (x % 2)) [toByte 1]) = _
    rw [hkey]
    rfl
  · have hd : (decide (0x3900 + x = 0x3900) || decide (0x3900 + x = 0x3901)) = true := by simp; omega
    rw [u.recordOp_taken _ (by omega) (by omega) hf hr]
    simp only [State.recordEffect, hd, Bool.and_eq_true, decide_eq_true_eq]
    simp (disch := omega) only [if_neg, if_pos, Nat.add_sub_cancel_left]

section

variable {s : State} {x : Nat} (hr : (s.disp x).running = false)

include hr

/-- An output that is off takes a timing of its present size. -/
theorem State.dispApply_off (hz : (s.timing x).resizes (s.disp x).timing = false) :
    s.dispApply x =
      (s.updDisp x fun d => { d with
        timing := s.timing x, running := s.rdB (O.DISP_ENABLE x) && s.displaysRun, next := none, still := 0, reduced := false
        frameStart := none }).drivePairs x false := by
  simp only [State.dispApply, hr, State.dispTake, hz, Bool.false_eq_true, ↓reduceIte]
  rfl

theorem State.dispApply_resized (hz : (s.timing x).resizes (s.disp x).timing = true) :
    s.dispApply x =
      ((s.emptyGraphics x).updDisp x fun d => { d with
        timing := s.timing x, running := s.rdB (O.DISP_ENABLE x) && s.displaysRun, next := none, still := 0, reduced := false
        frameStart := none, graphics := [], waiting := none }).drivePairs x false := by
  simp only [State.dispApply, hr, State.dispTake, hz, Bool.false_eq_true, ↓reduceIte]
  rfl

end

theorem State.drivePairs_disp (s : State) (x : Nat) (was : Bool) (y : Nat) : (s.drivePairs x was).disp y = s.disp y := by
  rw [State.drivePairs]
  split <;> rfl

theorem State.drivePairs_dom (s : State) (x : Nat) (was : Bool) (i : Nat) : (s.drivePairs x was).dom i = s.dom i := by
  rw [State.drivePairs]
  split <;> rfl

theorem State.emptyGraphics_disps (s : State) (x : Nat) : (s.emptyGraphics x).disps = s.disps := by
  rw [State.emptyGraphics]
  split <;> rfl

theorem State.emptyGraphics_size (s : State) (x : Nat) : ((s.emptyGraphics x).dom (0x3910 + x)).size = 0 := by
  rw [State.emptyGraphics]
  split
  · assumption
  · rw [State.dom_domReplace_same]
    rfl

/-! ### Frame starts (R859, R864, R868) -/

/-- Once the lines have passed since t0, or before the first frame. -/
theorem State.linesPassed_iff (s : State) (x lines : Nat) :
    s.linesPassed x lines = true ↔ ∀ t0, (s.disp x).frameStart = some t0 →
      t0 * (s.disp x).timing.clock + lines * (s.disp x).timing.htotal * ms ≤ s.now * (s.disp x).timing.clock := by
  rw [State.linesPassed]
  cases (s.disp x).frameStart <;> simp

section

variable {s : State} {x : Nat}

theorem State.dispFrameStart_off (h : (s.disp x).running = false) : s.dispFrameStart x = s := if_pos (by simp [h])

theorem State.dispFrameStart_early (h : s.linesPassed x (s.frameLines x) = false) : s.dispFrameStart x = s := if_pos (by simp [h])

section

variable (hx : x < 2) (hr : (s.disp x).running = true) (hd : s.displaysRun = true) (hp : s.linesPassed x (s.frameLines x) = true)

include hx hr hd hp

/-- The frame has ended, and the timing that waits turns the output off. -/
theorem State.dispFrameStart_ends {n : DispTiming} (hn : (s.disp x).next = some n) (he : n.enable = false)
    (hz : n.resizes (s.disp x).timing = false) :
    s.dispFrameStart x =
      (s.updDisp x fun d => { d with
        running := false, timing := n, next := none, still := 0, reduced := false, frameStart := none }).emit
        (.displayPairs x false) := by
  simp [State.dispFrameStart, hr, hd, hp, hn, he, hz, Nat.not_le.mpr hx]

/-- A frame like the one before starts. -/
theorem State.dispFrameStart_same (hn : (s.disp x).next = none) (he : (s.disp x).timing.enable = true)
    (hc : s.dispChange x = false) :
    s.dispFrameStart x =
      ((((s.updDisp x fun e => { e with
          preview := s.previewOf x, still := (s.disp x).still + 1
          reduced := s.rd (O.STATIC_FRAMES x) != 0 && s.rd (O.STATIC_FRAMES x) ≤ (s.disp x).still + 1
          frameStart := some s.now }).inc (O.DISP_STATUS_FRAMES x)).wr
        (O.PREVIEW_FRAME x) (((s.previewOf x).map (·.info.no)).getD 0 % 2 ^ 32)).sendSync x (s.disp x).timing) := by
  have hw : (s.disp x).waiting = none := by
    simp only [State.dispChange, Bool.or_eq_false_iff] at hc
    obtain ⟨⟨_, hw⟩, _⟩ := hc
    exact Option.isNone_iff_eq_none.mp (by simpa using hw)
  have hb : (decide (2 ≤ x) || !(s.disp x).running || !s.displaysRun || !s.linesPassed x (s.frameLines x)) = false := by
    simp [hr, hd, hp, Nat.not_le.mpr hx]
  simp only [State.dispFrameStart, hb, hn, he, hc, hw, Option.getD_none, DispTiming.resizes_self, Bool.not_true,
    Bool.false_eq_true, ↓reduceIte]
  have hu := State.updDisp_congr (s := s) (x := x)
    (f := fun d => { d with
      timing := (s.disp x).timing, next := none, preview := s.previewOf x, graphics := (s.disp x).graphics, waiting := none
      still := (s.disp x).still + 1
      reduced := s.rd (O.STATIC_FRAMES x) != 0 && s.rd (O.STATIC_FRAMES x) ≤ (s.disp x).still + 1, frameStart := some s.now })
    (g := fun e => { e with
      preview := s.previewOf x, still := (s.disp x).still + 1
      reduced := s.rd (O.STATIC_FRAMES x) != 0 && s.rd (O.STATIC_FRAMES x) ≤ (s.disp x).still + 1, frameStart := some s.now })
    (by rw [← hn, ← hw])
  rw [hu]

end

end

/-! ### Lines and underruns (R867) -/

/-! What was sent stays sent: each step of an event only adds to it. -/

section

variable {s u : State}

theorem State.sendNotices_sends (x : Session) (ms : List SentNotice) (h : s.out <+: u.out) :
    s.out <+: (ms.foldl (fun s m => s.sendNotice x m) u).out := by
  induction ms generalizing u with
  | nil => exact h
  | cons m ms ih => exact ih (u := u.sendNotice x m) (h.trans (List.prefix_append _ _))

theorem State.pumpNotices_sends (h : s.out <+: u.out) : s.out <+: u.pumpNotices.out := by
  rw [State.pumpNotices]
  split
  · exact State.sendNotices_sends _ _ h
  · exact h

theorem State.notice_sends (kind block code index sub : Nat) (data : List Byte) (h : s.out <+: u.out) :
    s.out <+: (u.notice kind block code index sub data).out := by
  rw [State.notice]
  split
  · split
    · exact h
    · split
      · exact h
      · exact State.pumpNotices_sends h
  · exact h

theorem State.updRec_sends (b : Nat) (r : FaultRec) (h : s.out <+: u.out) : s.out <+: (u.updRec b r).out := by
  rw [State.updRec]
  split
  · exact h
  · exact State.notice_sends _ _ _ _ _ _ h

theorem State.event_sends (b code data : Nat) (h : s.out <+: u.out) : s.out <+: (u.event b code data).out := by
  rw [State.event]
  split
  · exact h
  · dsimp only
    split
    · exact h
    · split
      · exact State.updRec_sends _ _ (State.notice_sends _ _ _ _ _ _ (State.updRec_sends _ _ h))
      · exact State.updRec_sends _ _ h

end

theorem State.frontPorch_sends (s : State) (x line : Nat) : s.out <+: (s.frontPorch x line).out := by
  rw [State.frontPorch]
  split
  · exact List.prefix_append _ _
  · exact List.prefix_rfl

theorem State.frontPorch_rd (s : State) (x line k : Nat) : (s.frontPorch x line).rd k = s.rd k := by
  rw [State.frontPorch]
  split <;> rfl

/-- The background colour of output x. -/
def State.background (s : State) (x : Nat) : List Nat :=
  [bits (s.rd (O.BG_COLOUR x)) 23 16, bits (s.rd (O.BG_COLOUR x)) 15 8, bits (s.rd (O.BG_COLOUR x)) 7 0]

/-- The words of a line of output x whose data are late from column c on. -/
def State.lineWords (s : State) (x line c : Nat) : List Nat :=
  ((List.range (s.disp x).timing.hactive).map fun i =>
    lvdsWord (s.disp x).timing.flags (if i < c then s.dispPixel x i line else s.background x)) ++ (s.disp x).timing.lineEnd false

/-- The words are sent, and the front porch behind the last active line. -/
def State.lineSent (s : State) (x line : Nat) (ws : List Nat) : State := (s.emit (.display x line ws)).frontPorch x line

theorem State.lineSent_rd (s : State) (x line : Nat) (ws : List Nat) (k : Nat) : (s.lineSent x line ws).rd k = s.rd k :=
  State.frontPorch_rd _ _ _ _

theorem State.lineSent_sends (s : State) (x line : Nat) (ws : List Nat) :
    Out.display x line ws ∈ (s.lineSent x line ws).out :=
  (State.frontPorch_sends _ _ _).subset (List.mem_append_right _ (List.mem_singleton_self _))

section

variable {s : State} {x line : Nat} (hx : x < 2) (hr : (s.disp x).running = true) (hd : s.displaysRun = true)
  (hl : line < (s.disp x).timing.vactive)

include hx hr hd hl

theorem State.dispLine_full :
    s.dispLine x line none = s.lineSent x line (((List.range (s.disp x).timing.hactive).map fun c =>
      lvdsWord (s.disp x).timing.flags (s.dispPixel x c line)) ++ (s.disp x).timing.lineEnd false) := by
  have hb : (decide (2 ≤ x) || !(s.disp x).running || !s.displaysRun || decide ((s.disp x).timing.vactive ≤ line)) = false := by
    simp [hr, hd, Nat.not_le.mpr hx, hl]
  have hw : ((List.range (s.disp x).timing.hactive).map fun c => lvdsWord (s.disp x).timing.flags
      (if c < (s.disp x).timing.hactive then s.dispPixel x c line else s.background x)) =
        (List.range (s.disp x).timing.hactive).map fun c => lvdsWord (s.disp x).timing.flags (s.dispPixel x c line) :=
    List.map_congr_left fun c hc => by rw [if_pos (List.mem_range.mp hc)]
  simp only [State.dispLine, hb, Bool.false_eq_true, Nat.lt_irrefl, ↓reduceIte]
  exact congrArg (fun ws => s.lineSent x line (ws ++ (s.disp x).timing.lineEnd false)) hw

theorem State.dispLine_late {c : Nat} (hc : c < (s.disp x).timing.hactive) :
    s.dispLine x line (some c) =
      ((s.lineSent x line (s.lineWords x line c)).inc (O.UNDERRUNS x)).event 0x3d 1 x := by
  have hb : (decide (2 ≤ x) || !(s.disp x).running || !s.displaysRun || decide ((s.disp x).timing.vactive ≤ line)) = false := by
    simp [hr, hd, Nat.not_le.mpr hx, hl]
  simp only [State.dispLine, hb, Nat.min_eq_left (Nat.le_of_lt hc), hc, Bool.false_eq_true, ↓reduceIte]
  rfl

end

theorem State.lineWords_length (s : State) (x line c : Nat) :
    (s.lineWords x line c).length = (s.disp x).timing.hactive + ((s.disp x).timing.lineEnd false).length := by
  simp [State.lineWords]

theorem State.lineWords_late {s : State} {x c : Nat} (line : Nat) (hc : c < (s.disp x).timing.hactive) :
    (s.lineWords x line c).getD c 0 = lvdsWord (s.disp x).timing.flags (s.background x) := by
  have hl : c < (s.lineWords x line c).length := by
    rw [State.lineWords_length]
    omega
  rw [getD_of_lt _ hl]
  simp [State.lineWords, List.getElem_append_left, hc]

theorem State.underrun_rd {s : State} {x : Nat} (hx : x < 2) :
    ((s.inc (O.UNDERRUNS x)).event 0x3d 1 x).rd (O.UNDERRUNS x) = min (Dict.top (O.UNDERRUNS x)) (s.rd (O.UNDERRUNS x) + 1) := by
  rw [State.event_rd _ _ _ _ _ (by simp only [O.UNDERRUNS, O.NOTICES_LOST]; omega), State.rd_inc, if_pos rfl]

/-! ### The front porch (R868, R869) -/

theorem State.frontPorch_last {s : State} {x line : Nat} (hl : line + 1 = (s.disp x).timing.vactive)
    (hr : (s.disp x).reduced = true) :
    s.frontPorch x line = s.emit (.displayBlank x
      ((s.disp x).timing.vfp + (s.rd (O.STATIC_DIV x) - 1) * (s.disp x).timing.vtotal) ((s.disp x).timing.blankLine false)) := by
  simp only [State.frontPorch, hl, State.frameLines, hr, ↓reduceIte, Nat.add_sub_cancel_left]

section

variable {s : State} {x : Nat}

theorem State.porchEnd_ends (hr : (s.disp x).reduced = true) (hc : s.dispChange x = true)
    (hp : s.linesPassed x (s.disp x).timing.vtotal = true) :
    s.porchEnd x = s.updDisp x fun d => { d with reduced := false, still := 0 } := if_pos (by simp [hr, hc, hp])

theorem State.porchEnd_stays
    (h : (s.disp x).reduced = false ∨ s.dispChange x = false ∨ s.linesPassed x (s.disp x).timing.vtotal = false) :
    s.porchEnd x = s := if_neg (by rcases h with h | h | h <;> simp [h])

end

end Sys2Proof.Machine

open Sys2Proof Sys2Proof.Machine

/-- Settles O60: each command by the state of the output; the underrun by the words of its line. -/
theorem displays : Obligations.Displays := by
  refine ⟨fun t x hx => applies_dispTiming hx, fun s x hx => ⟨fun hr => if_pos hr, State.dispApply_off, fun hr hz => ?_⟩,
    fun s x was => ⟨fun h => if_pos h, fun h => if_neg h⟩, fun s t x hx hdel => ?_, fun s t x line hx hr hd hl => ⟨?_, fun c hc => ?_⟩,
    fun s x line => ⟨fun h => if_neg h, State.frontPorch_last⟩, fun s t x => ?_⟩
  · rw [State.dispApply_resized hr hz, State.drivePairs_disp, State.drivePairs_dom]
    refine ⟨?_, State.emptyGraphics_size s x⟩
    rw [State.disp_updDisp_same (by rwa [State.emptyGraphics_disps])]
  · have hshown : (s.at t).frameShown x = (s.at t).dispFrameStart x := by rw [State.frameShown, hdel]
    refine ⟨fun h => State.does_eq _ _ _ _ (hshown.trans (State.dispFrameStart_off (s := s.at t) h)), ?_⟩
    rintro d rfl hr hd
    have hiff := State.linesPassed_iff (s.at t) x ((s.at t).frameLines x)
    refine ⟨fun h => ?_, fun n h hn he hz => ?_, fun h hn he hc => ?_⟩
    · exact State.does_eq _ _ _ _ (hshown.trans (State.dispFrameStart_early (s := s.at t) (by simpa using mt hiff.mp h)))
    · exact State.does_eq _ _ _ _ (hshown.trans (State.dispFrameStart_ends (s := s.at t) hx hr hd (hiff.mpr h) hn he hz))
    · exact State.does_eq _ _ _ _ (hshown.trans (State.dispFrameStart_same (s := s.at t) hx hr hd (hiff.mpr h) hn he hc))
  · exact State.does_eq _ _ _ _ (State.dispLine_full (s := s.at t) hx hr hd hl)
  · exact ⟨_, (s.at t).lineWords x line c, State.does_eq _ _ _ (fun _ => _) (State.dispLine_late (s := s.at t) hx hr hd hl hc),
      (State.event_sends _ _ _ List.prefix_rfl).subset (State.lineSent_sends _ _ _ _),
      (State.underrun_rd hx).trans (by rw [State.lineSent_rd]; rfl), State.lineWords_length _ _ _ _,
      State.lineWords_late (s := s.at t) line hc⟩
  · have hiff := State.linesPassed_iff (s.at t) x (s.disp x).timing.vtotal
    refine ⟨fun hr hc hp => State.does_eq _ _ _ _ (State.porchEnd_ends (s := s.at t) hr hc (hiff.mpr hp)),
      fun h => State.does_eq _ _ _ _ (State.porchEnd_stays (s := s.at t) (h.imp_right (Or.imp_right fun hp => ?_)))⟩
    simpa using mt hiff.mp hp

end

section
/-! PROOF. Calibration (R834 to R854): a run from its start over its passes to the decision, the holdoff, and the slewing. -/

namespace Sys2Proof.Machine

/-! ### CAL_START and STROBE_TRIM (R835, R850, R852) -/

/-- The row of CAL_START. -/
def calStartRow : ObjRow := ⟨0x3802, 1, 0x00, 1, .u8, .cmd, false, 0, .bt 1 1, .now⟩

/-- The row of STROBE_TRIM. -/
def strobeTrimRow : ObjRow := ⟨0x3840, 1, 0x00, 1, (.oct 32), .rw, true, 0, .eachU16 0 2500, .now⟩

theorem row_calStart : Dict.row? (O.CAL_START / 256) (O.CAL_START % 256) = some calStartRow := by decide +kernel

theorem row_strobeTrim : Dict.row? (O.STROBE_TRIM / 256) (O.STROBE_TRIM % 256) = some strobeTrimRow := by decide +kernel

theorem State.calStart_runs {s : State} (h1 : s.calState ≠ 1) (h2 : s.calState ≠ 2) : s.calStart 1 = .of Status.ok s.calRun := by
  simp [State.calStart, h1, h2]

theorem State.calStart_busy {s : State} (h : s.calState = 1 ∨ s.calState = 2) : s.calStart 1 = .of Status.busy s := by
  rcases h with h | h <;> simp [State.calStart, h]

theorem writes_calStart {t : Nat} :
    Writes (fun h => .calStart t h 1) t O.CAL_START [1#8] (fun u => u.calState ≠ 1 ∧ u.calState ≠ 2) State.calRun :=
  writes_of _ t _ _ calStartRow _ _ (fun _ _ => rfl) (by decide)
    (findObject_of_row (by decide) (Dict.hasIndex_of_row row_calStart) row_calStart) rfl rfl rfl (by decide) fun u ⟨h1, h2⟩ =>
      u.valueWrite_cmd calStartRow O.CAL_START 1 _ (by decide) (by decide) (by decide) (by decide) (by decide +kernel)
        (congrArg some (State.calStart_runs h1 h2))

theorem State.valueWrite_strobeTrim (u : State) {v : Nat} (hv : ∀ i, i < 16 → octAt 2 v i ≤ 2500) :
    u.valueWrite strobeTrimRow (O.STROBE_TRIM / 256) (O.STROBE_TRIM % 256) v =
      .of Status.ok ((u.setNow O.STROBE_TRIM v).hostTouch [] none) := by
  have hok : valueOk strobeTrimRow v = true := by
    simpa [valueOk, strobeTrimRow, Rng.ok, Ty.size] using hv
  have ho : u.objectOp O.STROBE_TRIM v = .of Status.ok ((u.setNow O.STROBE_TRIM v).hostTouch [] none) := rfl
  have hm : isMirrored O.STROBE_TRIM = false := by decide +kernel
  have ha : u.authorityRefused O.STROBE_TRIM = false := by simp [State.authorityRefused, hm, (by decide : O.STROBE_TRIM ≠ O.JOB_CONTROL)]
  have hkey : 256 * (O.STROBE_TRIM / 256) + O.STROBE_TRIM % 256 = O.STROBE_TRIM := by decide
  simp only [State.valueWrite, hkey, hok, ho, ha, Reply.of, State.forwardBytes_plain _ _ _ hm]
  simp [strobeTrimRow]

theorem writes_strobeTrim {t : Nat} {data : List Byte} (hl : data.length = 32)
    (hv : ∀ i, i < 16 → octAt 2 (leNat data) i ≤ 2500) :
    Writes (fun h => .strobeTrimWrite t h data) t O.STROBE_TRIM data (fun _ => True)
      (fun u => (u.setNow O.STROBE_TRIM (leNat data)).hostTouch [] none) :=
  writes_of _ t _ _ strobeTrimRow _ _ (fun _ _ => rfl) (by decide)
    (findObject_of_row (by decide) (Dict.hasIndex_of_row row_strobeTrim) row_strobeTrim) rfl rfl hl (by omega) fun u _ =>
      u.valueWrite_strobeTrim hv

/-! ### The start of a run (R850, R854) -/

theorem State.calRun_calState (u : State) : u.calRun.calState = 1 := by
  rw [State.calState, State.calRun]
  exact (State.rd_wr_ne _ O.LAST_RUN _ _ (by decide)).trans (State.rd_wr_same _ _ _)

theorem State.calRun_lastRun (u : State) : u.calRun.rd O.LAST_RUN = u.mono := State.rd_wr_same _ _ _

/-- What a run starts with. -/
theorem State.calRun_cal (u : State) :
    u.calRun.cal.first = [] ∧ u.calRun.cal.refCoeff = u.coeff 8 ∧ u.calRun.cal.refValue = u.rd O.CAL_REF_VALUE ∧
      u.calRun.cal.since = u.now := by
  rw [State.calRun, State.wrs_eq]
  exact ⟨rfl, rfl, rfl, rfl⟩

theorem State.pendingRun_pending (u : State) : u.pendingRun.cal.pending = false := by
  rw [State.pendingRun, State.calRun, State.wrs_eq]
  rfl

/-! ### Passes and results (R834, R838, R839, R843 to R846) -/

/-- How far CAL_REF lay from its value at the start of the pass, times 50: a run with more than 2 % ends. -/
def State.refOff (s : State) (r : CalPass) : Nat := (microvolts s.cal.refCoeff r.refCode - (s.cal.refValue : Nat)).natAbs * 50

section

variable {s : State} {r : CalPass}

theorem State.calPassDone_idle (h : s.calState = 0 ∨ s.calState = 3) : s.calPassDone r = s := by
  rcases h with h | h <;> simp [State.calPassDone, h]

theorem State.calPassDone_off (h : s.calState = 1 ∨ s.calState = 2) (ho : ((s.cal.refValue : Nat) : Int).natAbs < s.refOff r) :
    s.calPassDone r = (s.event 0x3e 3 0).calHoldoff := by
  have hb : (s.calState != 1 && s.calState != 2) = false := by rcases h with h | h <;> simp [h]
  simp only [State.calPassDone, hb, Bool.false_eq_true, ↓reduceIte]
  exact if_pos ho

section

variable (ho : s.refOff r ≤ ((s.cal.refValue : Nat) : Int).natAbs)

include ho

theorem State.calPassDone_first (h : s.calState = 1) :
    s.calPassDone r =
      ({ s with cal := { s.cal with first := s.passResults r, bins := r.bins } } : State).startPass.wr O.CAL_STATUS_STATE 2 := by
  simp only [State.calPassDone, h, bne_self_eq_false, Bool.false_and, Bool.false_eq_true, ↓reduceIte]
  exact if_neg (Nat.not_lt.mpr ho)

theorem State.calPassDone_second (h : s.calState = 2) :
    s.calPassDone r = ({ s with cal := { s.cal with bins := r.bins } } : State).calDecide (s.passResults r) := by
  simp only [State.calPassDone, h, bne_self_eq_false, Bool.and_false, Bool.false_eq_true, ↓reduceIte]
  exact if_neg (Nat.not_lt.mpr ho)

end

end

/-- The result of strobe output i: none before 64 of its edges were counted. -/
theorem State.passResults_strobe (s : State) (r : CalPass) {i : Nat} (hi : i < 16) :
    (s.passResults r).getD (56 + i) none =
      if 64 ≤ s.cal.edges.getD i 0 then (r.strobes.getD i none).map fun x => (s.strobeCode i r.bins x, 0) else none := by
  have hr : 56 + i < 72 := by omega
  have h1 : ¬56 + i < 32 := by omega
  have h2 : ¬56 + i < 48 := by omega
  have h3 : ¬56 + i < 56 := by omega
  simp only [State.passResults, List.getD_eq_getElem?_getD (l := List.map _ _), List.getElem?_map, List.getElem?_range hr,
    Option.map_some, Option.getD_some, h1, h2, h3, Nat.add_sub_cancel_left, ↓reduceIte]

/-- An output whose edge is where it belongs keeps its CODE. -/
theorem State.strobeCode_right {s : State} {i bins sum : Nat} (h : binDelay sum = (10000 + s.fire.trims.getD i 0) * 64 * bins) :
    s.strobeCode i bins sum = (s.coeff (56 + i)).1 := by
  simp [State.strobeCode, h]

section

variable {s : State} {i : Nat} {a b : Int × Int}

theorem State.itemOutcome_plausible (ha : plausible i a = true) (hb : plausible i b = true) :
    s.itemOutcome i (some a) (some b) = if s.agree i a b then 1 else 2 := by
  simp [State.itemOutcome, ha, hb]

theorem State.itemOutcome_implausible (ha : plausible i a = false) : s.itemOutcome i (some a) (some b) = 3 := by
  simp [State.itemOutcome, ha]

end

/-! ### The temperature trigger and the holdoff (R850 to R852, R854) -/

/-- The readings are shown, and the task has run. -/
def State.tempsShown (s : State) (codes : List Nat) : State :=
  (s.wr O.TEMP_READINGS (octOf 2 ((s.dieTemps codes).map (ofInt 16)))).taskDone 3

theorem State.tempsShown_calState (s : State) (codes : List Nat) : (s.tempsShown codes).calState = s.calState :=
  (State.taskDone_rd _ _ (by decide) (by decide)).trans (State.rd_wr_ne _ _ _ _ (by decide))

section

variable {s : State} {codes : List Nat}

theorem State.calTemp_off (h : s.rdB O.CAL_AUTO = false ∨ s.cal.referenced = false) : s.calTemp codes = s.tempsShown codes :=
  if_neg (by rcases h with h | h <;> simp [h])

theorem mem_indexed {α : Type} {xs : List α} {k : Nat} (h : k < xs.length) : (k, xs[k]) ∈ indexed xs := by
  have hz : k < ((List.range xs.length).zip xs).length := by simpa using h
  have hg : ((List.range xs.length).zip xs)[k] = (k, xs[k]) := by simp
  exact hg ▸ List.getElem_mem hz

theorem State.calTemp_runs {k : Nat} (hk : k < 8) (ha : s.rdB O.CAL_AUTO = true) (hr : s.cal.referenced = true)
    (h0 : s.calState = 0)
    (hm : s.rd O.CAL_DELTA_T < ((s.dieTemps codes).getD k 0 - toInt 16 (octAt 2 (s.rd O.REF_TEMPS) k)).natAbs) :
    s.calTemp codes = (s.tempsShown codes).calRun := by
  have hl : k < (s.dieTemps codes).length := by rw [State.dieTemps, List.length_map, List.length_range]; exact hk
  have hmoved : ((indexed (s.dieTemps codes)).any fun e =>
      s.rd O.CAL_DELTA_T < (e.2 - toInt 16 (octAt 2 (s.rd O.REF_TEMPS) e.1)).natAbs) = true := by
    rw [getD_of_lt _ hl] at hm
    exact List.any_eq_true.mpr ⟨_, mem_indexed hl, decide_eq_true hm⟩
  have hb : (s.rdB O.CAL_AUTO && s.cal.referenced && (indexed (s.dieTemps codes)).any fun e =>
      s.rd O.CAL_DELTA_T < (e.2 - toInt 16 (octAt 2 (s.rd O.REF_TEMPS) e.1)).natAbs) = true := by rw [ha, hr, hmoved]; rfl
  exact (if_pos hb).trans (if_pos ((State.tempsShown_calState s codes).trans h0))

end

section

variable {s : State} (h3 : s.calState = 3) (hd : s.cal.since + 60 * sec ≤ s.now)

include h3 hd

theorem State.holdoffEnd_idle (hp : s.cal.pending = false) : s.holdoffEnd = s.wr O.CAL_STATUS_STATE 0 := by
  simp [State.holdoffEnd, h3, State.due_of hd, hp]

theorem State.holdoffEnd_pending (hp : s.cal.pending = true) : s.holdoffEnd = s.pendingRun := by
  simp [State.holdoffEnd, h3, State.due_of hd, hp]

end

/-! ### Slewing (R847) -/

section

variable {s : State}

theorem State.calSlew_none (h : s.cal.slews = []) : s.calSlew = s := by
  have hc : ({ s.cal with slews := [] } : Cal) = s.cal := by rw [← h]
  simp only [State.calSlew, h, List.map_nil, List.filter_nil, List.foldl_nil, hc]

variable {x : Slew} (h : s.cal.slews = [x])

include h

theorem State.calSlew_moves (hx : x.ms + 1 < x.span) :
    s.calSlew = ({ s with cal := { s.cal with slews := [{ x with ms := x.ms + 1 }] } } : State).setCoeff x.item
      (Slew.value { x with ms := x.ms + 1 }) := by
  simp [State.calSlew, h, hx]

theorem State.calSlew_arrives (hx : x.span ≤ x.ms + 1) :
    s.calSlew = ({ s with cal := { s.cal with slews := [] } } : State).setCoeff x.item (x.to0, x.to1) := by
  simp [State.calSlew, h, Nat.not_lt.mpr hx, Slew.value, hx]

end

/-- A part of a way of length d lies on it. -/
theorem tdiv_part {d : Int} {m n : Nat} (hd : 0 ≤ d) (h : m < n) : 0 ≤ (d * m).tdiv n ∧ (d * m).tdiv n ≤ d := by
  have hm : 0 ≤ d * (m : Int) := Int.mul_nonneg hd (Int.natCast_nonneg m)
  have hle : d * (m : Int) ≤ d * n := Int.mul_le_mul_of_nonneg_left (by omega) hd
  rw [Int.tdiv_eq_ediv_of_nonneg hm]
  exact ⟨Int.ediv_nonneg hm (Int.natCast_nonneg n), Int.ediv_le_of_le_mul (by omega) hle⟩

theorem Slew.value_on {x : Slew} (h : x.ms < x.span) :
    x.value.1 = x.from0 + ((x.to0 - x.from0) * (x.ms : Nat)).tdiv (x.span : Nat) := by
  simp [Slew.value, Nat.not_le.mpr h]

theorem Slew.value_up {x : Slew} (h : x.ms < x.span) (hu : x.from0 ≤ x.to0) : x.from0 ≤ x.value.1 ∧ x.value.1 ≤ x.to0 := by
  obtain ⟨h0, h1⟩ := tdiv_part (d := x.to0 - x.from0) (by omega) h
  rw [Slew.value_on h]
  omega

theorem Slew.value_down {x : Slew} (h : x.ms < x.span) (hu : x.to0 ≤ x.from0) : x.to0 ≤ x.value.1 ∧ x.value.1 ≤ x.from0 := by
  obtain ⟨h0, h1⟩ := tdiv_part (d := x.from0 - x.to0) (by omega) h
  have hn : (x.to0 - x.from0) * (x.ms : Int) = -((x.from0 - x.to0) * x.ms) := by
    rw [← Int.neg_mul, Int.neg_sub]
  rw [Slew.value_on h, hn, Int.neg_tdiv]
  omega

end Sys2Proof.Machine

open Sys2Proof Sys2Proof.Machine

/-- Settles O59: the commands of a run by its state, the results of an item, and a slew by its length. -/
theorem calibration : Obligations.Calibration := by
  refine ⟨fun t => ⟨writes_calStart, fun data hl hv => writes_strobeTrim hl hv⟩, fun u h => State.calStart_busy h, fun u => ?_,
    fun s t r => ?_, fun s r i sum hi _ hs => ?_, fun s i a b ha hb => ?_, fun s i a b ha => State.itemOutcome_implausible ha,
    fun s t cs hw => ?_, fun s t h3 hd => ⟨fun hp => State.does_eq _ _ _ _ (State.holdoffEnd_idle (s := s.at t) h3 hd hp),
      fun hp => State.does_eq _ _ _ _ (State.holdoffEnd_pending (s := s.at t) h3 hd hp)⟩,
    fun s t h => State.does_eq _ _ _ _ (State.calSlew_none (s := s.at t) h),
    fun s t x h => ⟨fun hx => State.does_eq _ _ _ _ (State.calSlew_moves (s := s.at t) h hx),
      fun hx => State.does_eq _ _ _ _ (State.calSlew_arrives (s := s.at t) h hx)⟩,
    fun x h => ⟨Slew.value_up h, Slew.value_down h⟩⟩
  · obtain ⟨hf, hc, hv, hs⟩ := u.calRun_cal
    exact ⟨u.calRun_calState, u.calRun_lastRun, hf, hc, hv, hs, u.pendingRun_pending⟩
  · exact ⟨fun h ho => State.does_eq _ _ _ _ (State.calPassDone_first (s := s.at t) ho h),
      fun h ho => State.does_eq _ _ _ _ (State.calPassDone_second (s := s.at t) ho h),
      fun h ho => State.does_eq _ _ _ _ (State.calPassDone_off (s := s.at t) h ho),
      fun h => State.does_eq _ _ _ _ (State.calPassDone_idle (s := s.at t) h)⟩
  · rw [State.passResults_strobe s r hi, hs]
    exact ⟨fun he => if_neg (Nat.not_le.mpr he), fun he => ⟨if_pos he, State.strobeCode_right⟩⟩
  · rw [State.itemOutcome_plausible ha hb]
    exact ⟨fun h => if_pos h, fun h => if_neg (by simp [h])⟩
  · have hw' := State.whenAwake_of (s := s.at t) hw fun s => s.calTemp cs
    exact ⟨fun h => State.does_eq _ _ _ _ (hw'.trans (State.calTemp_off (s := s.at t) h)), fun k hk ha hr h0 hm =>
      State.does_eq _ _ _ _ (hw'.trans (State.calTemp_runs (s := s.at t) hk ha hr h0 hm))⟩

end

section
/-! PROOF. The axes (R803 to R821, R832): a µs of a ramp, homing, faults of the coils, the reversal, the gates of a half-bridge, and
the codes of the threshold DACs. -/

namespace Sys2Proof.Machine

/-! ### A µs of a ramp (R805, R806, R815) -/

section

variable {s : State} {a : Nat}

theorem State.rampTick_still (h : (s.axis a).moving = false ∨ (s.axis a).dwellSince.isSome = true) :
    s.rampTick a = s.chopAxis a := by
  have hm : s.rampMove a = s := if_pos (by rcases h with h | h <;> simp [h])
  rw [State.rampTick, hm]

theorem State.chopAxis_unregulated (h : (s.axis a).coil = .off ∨ (s.axis a).coil = .short) : s.chopAxis a = s :=
  if_pos (by rcases h with h | h <;> rw [Axis.regulated, h] <;> rfl)

/-- Axis a at speed v, and the units that it covers so taken. -/
def State.rampUnits (s : State) (a v : Nat) : State :=
  ((s.updAxis a fun y => { y with speed := v, part := ((s.axis a).part + v) % 10 ^ 12 }).unitSteps a
    (((s.axis a).part + v) / 10 ^ 12)).sync a

/-- What follows at the goal of a leg, and short of it. -/
def State.rampGoal (s : State) (a : Nat) : State :=
  if (s.axis a).pos = (s.axis a).goal then s.reached a else s.checkHome a

/-- The speed of axis a after this µs. -/
def State.rampSpeed (s : State) (a : Nat) : Nat :=
  (s.axis a).ramp.next (s.axis a).speed (((s.axis a).goal - (s.axis a).pos).natAbs * 10 ^ 12 - (s.axis a).part)

theorem State.rampTick_moves (hm : (s.axis a).moving = true) (hd : (s.axis a).dwellSince = none)
    (hp : (s.axis a).phase ≠ some .waiting) (hs : ¬(a = 1 ∧ s.slaved = true)) :
    s.rampTick a =
      (if a = 0 then ((s.rampUnits a (s.rampSpeed a)).rampGoal a).checkLevel
        else (s.rampUnits a (s.rampSpeed a)).rampGoal a).chopAxis a := by
  have hb : (!(s.axis a).moving || (s.axis a).dwellSince.isSome || (s.axis a).phase == some .waiting ||
      (decide (a = 1) && s.slaved)) = false := by
    simpa [hm, hd, hp] using hs
  rw [State.rampTick, State.rampMove, hb]
  exact congrArg (fun u : State => u.chopAxis a) (if_neg Bool.false_ne_true)

/-! ### Homing, overcurrent, saturated drives, HOLD_DELAY and the dwell (R810, R817 to R820) -/

theorem State.homeFound_search (h5 : (s.axis a).state = 5) (hp : (s.axis a).phase = some .search) :
    s.homeFound a = (s.runOut a 5 0).updAxis a fun x => { x with phase := some .found } := if_pos (by simp [h5, hp])

theorem State.homeEdge_slow (h5 : (s.axis a).state = 5) (hp : (s.axis a).phase = some .slow) :
    s.homeEdge a =
      ((s.updAxis a fun x => { x with pos := s.rdI 32 (O.HOME_POS a), part := 0 }).runOut a 5 0).updAxis a fun x =>
        { x with phase := some .edge } := if_pos (by simp [h5, hp])

section

variable (h : (s.axis a).state ≠ 5)

include h

theorem State.homeFound_otherwise : s.homeFound a = s := if_neg (by simp [h])

theorem State.homeEdge_otherwise : s.homeEdge a = s := if_neg (by simp [h])

end

theorem State.overcurrent_alone (h0 : (s.axis a).state ≠ 0) (h6 : (s.axis a).state ≠ 6) (hs : s.slaved = false) :
    s.overcurrent a =
      ((s.updAxis a fun x => { x with
        state := 6, coil := .off, speed := 0, part := 0, phase := none, dwellSince := none, endedAt := none, lastResult := 4
        flags := setBit (setBit x.flags 2 true) 0 false }).gateCoils a).event 0xe 1 a := by
  simp [State.overcurrent, h0, h6, hs]

theorem State.saturated_none (h0 : s.driveStuck a 0 = false) (h1 : s.driveStuck a 1 = false) : s.saturated a = s := by
  simp [State.saturated, h0, h1]

theorem State.saturated_first (h0 : s.driveStuck a 0 = true) (h1 : s.driveStuck a 1 = false) :
    s.saturated a = ((s.updAxis a fun x => { x with flags := setBit x.flags 4 true }).beginPart a 0 false s.now).event 0xe 5 a := by
  have hf : [0, 1].filter (s.driveStuck a) = [0] := by simp [h0, h1]
  rw [State.saturated, hf]
  rfl

theorem State.holdDelay_due {t0 : Nat} (he : (s.axis a).endedAt = some t0) (h1 : (s.axis a).state = 1)
    (hd : t0 + s.rd (O.HOLD_DELAY a) * ms ≤ s.now) :
    s.holdDelay a = (s.updAxis a fun x => x.takeCoil (s.rd (O.STANDSTILL_MODE a))).gateCoils a := by
  simp only [State.holdDelay, he, h1, State.due_of hd, decide_true, Bool.and_self, ↓reduceIte]

theorem State.reverseDwell_due {t0 : Nat} (he : (s.axis a).dwellSince = some t0) (h3 : (s.axis a).state = 3)
    (hd : t0 + (s.axis a).ramp.dwell * ms ≤ s.now) (hs : ¬(a = 1 ∧ s.slaved = true)) :
    s.reverseDwell a =
      if (s.axis a).pos = (s.axis a).target then s.endMove a 1 else s.startMove a (s.axis a).target := by
  have hb : (decide (a = 1) && s.slaved) = false := by simpa using hs
  simp only [State.reverseDwell, he, h3, State.due_of hd, hb, decide_true, Bool.not_false, Bool.and_self, ↓reduceIte]

end

/-! ### The gates of a half-bridge (R803) -/

/-- The latest of the moments f g of the elements that c names, and of t0, is no earlier than each of them. -/
theorem le_foldl_max {β : Type} (c : β → Bool) (f : β → Nat) (gs : List β) (t0 : Nat) :
    t0 ≤ gs.foldl (fun t g => if c g then max t (f g) else t) t0 ∧
      ∀ g ∈ gs, c g = true → f g ≤ gs.foldl (fun t g => if c g then max t (f g) else t) t0 := by
  induction gs generalizing t0 with
  | nil => exact ⟨Nat.le_refl _, fun g hg => absurd hg List.not_mem_nil⟩
  | cons x xs ih =>
    obtain ⟨h0, hs⟩ := ih (if c x then max t0 (f x) else t0)
    have ht : t0 ≤ if c x then max t0 (f x) else t0 := by
      split
      · exact Nat.le_max_left _ _
      · exact Nat.le_refl _
    refine ⟨Nat.le_trans ht h0, fun g hg hc => ?_⟩
    rcases List.mem_cons.mp hg with rfl | hm
    · refine Nat.le_trans ?_ h0
      rw [if_pos hc]
      exact Nat.le_max_right _ _
    · exact hs g hm hc

theorem partnerGate_lt : ∀ k < 4, partnerGate k < 4 := by decide

theorem apart_iff {on : List Bool} :
    apart on = true ↔ (on.getD 0 false = true → on.getD 1 false = false) ∧ (on.getD 2 false = true → on.getD 3 false = false) := by
  simp only [apart, Bool.and_eq_true, Bool.not_eq_true', Bool.and_eq_false_imp]

/-- Where no half-bridge has both gates on, a gate that is on has its partner off. -/
theorem apart_partner {on : List Bool} (h : apart on = true) :
    ∀ k < 4, on.getD k false = true → on.getD (partnerGate k) false = false := by
  obtain ⟨h01, h23⟩ := apart_iff.mp h
  intro k hk hg
  match k, hk, hg with
  | 0, _, hg => exact h01 hg
  | 1, _, hg => exact Bool.eq_false_iff.mpr fun h0 => Bool.eq_false_iff.mp (h01 h0) hg
  | 2, _, hg => exact h23 hg
  | 3, _, hg => exact Bool.eq_false_iff.mpr fun h2 => Bool.eq_false_iff.mp (h23 h2) hg

/-- Fewer gates on are apart if more were. -/
theorem apart_mono {on off : List Bool} (h : ∀ k, off.getD k false = true → on.getD k false = true) (ha : apart on = true) :
    apart off = true := by
  obtain ⟨h01, h23⟩ := apart_iff.mp ha
  exact apart_iff.mpr ⟨fun h0 => Bool.eq_false_iff.mpr fun h1 => Bool.eq_false_iff.mp (h01 (h 0 h0)) (h 1 h1),
    fun h2 => Bool.eq_false_iff.mpr fun h3 => Bool.eq_false_iff.mp (h23 (h 2 h2)) (h 3 h3)⟩

section

variable {p : CoilPhase} {want : List Bool} {dead now : Nat}

theorem zipWith_and_getD {xs ys : List Bool} (h : xs.length = ys.length) (k : Nat) :
    (xs.zipWith (· && ·) ys).getD k false = (xs.getD k false && ys.getD k false) := by
  simp only [List.getD_eq_getElem?_getD, List.getElem?_zipWith]
  by_cases hk : k < xs.length
  · rw [List.getElem?_eq_getElem hk, List.getElem?_eq_getElem (h ▸ hk)]
    rfl
  · rw [List.getElem?_eq_none (Nat.not_lt.mp hk)]
    rfl

theorem CoilPhase.offTimes_getD {k : Nat} (hk : k < 4) :
    (p.offTimes want now).getD k 0 = if p.on.getD k false && !want.getD k false then now else p.offAt.getD k 0 := by
  simp only [CoilPhase.offTimes, List.getD_eq_getElem?_getD (l := List.map _ _), List.getElem?_map, List.getElem?_range hk,
    Option.map_some, Option.getD_some]

/-- A gate that comes on waits for its partner's dead time. -/
theorem CoilPhase.readyAt_partner (ha : apart want = true) {k : Nat} (hk : k < 4) (hw : want.getD k false = true)
    (ho : p.on.getD k false = false) :
    (if p.on.getD (partnerGate k) false then now else p.offAt.getD (partnerGate k) 0) + dead ≤ p.readyAt want dead now := by
  have hoff := CoilPhase.offTimes_getD (p := p) (want := want) (now := now) (partnerGate_lt k hk)
  rw [apart_partner ha k hk hw, Bool.not_false, Bool.and_true] at hoff
  rw [← hoff]
  exact (le_foldl_max (fun g => want.getD g false && !p.on.getD g false)
    (fun g => (p.offTimes want now).getD (partnerGate g) 0 + dead) (List.range 4) now).2 k (List.mem_range.mpr hk)
    (by rw [hw, ho]; rfl)

/-- The gates that stay on. -/
def CoilPhase.kept (p : CoilPhase) (want : List Bool) : List Bool := p.on.zipWith (· && ·) want

/-- The gates that are not wanted have gone off. -/
def CoilPhase.reduced (p : CoilPhase) (want : List Bool) (now : Nat) : CoilPhase :=
  { p with on := p.kept want, offAt := p.offTimes want now, next := none }

/-- What is shown of that. -/
def CoilPhase.firstShown (p : CoilPhase) (want : List Bool) (now : Nat) : List (List Bool × Nat) :=
  if p.kept want = p.on then [] else [(p.kept want, now)]

theorem CoilPhase.drive_eq :
    p.drive want dead now =
      if p.kept want = want then (p.reduced want now, p.firstShown want now)
      else if p.readyAt want dead now ≤ now then
        ({ p.reduced want now with on := want }, p.firstShown want now ++ [(want, now)])
      else ({ p.reduced want now with next := some (want, p.readyAt want dead now) }, p.firstShown want now) := rfl

theorem CoilPhase.firstShown_mem {e : List Bool × Nat} (h : e ∈ p.firstShown want now) : e = (p.kept want, now) := by
  rw [CoilPhase.firstShown] at h
  split at h
  · exact absurd h List.not_mem_nil
  · exact List.mem_singleton.mp h

theorem CoilPhase.kept_on (hl : p.on.length = want.length) {k : Nat} (h : (p.kept want).getD k false = true) :
    p.on.getD k false = true := by
  rw [CoilPhase.kept, zipWith_and_getD hl, Bool.and_eq_true] at h
  exact h.1

/-- Every state of the gates that a drive shows or leaves is the one kept or the one wanted; the wanted one only where the dead
times have passed. -/
theorem CoilPhase.drive_shows {e : List Bool × Nat} (h : e ∈ (p.drive want dead now).2) :
    e = (p.kept want, now) ∨ (e = (want, now) ∧ p.readyAt want dead now ≤ now) := by
  rw [CoilPhase.drive_eq] at h
  split at h
  · exact .inl (CoilPhase.firstShown_mem h)
  · split at h
    · next hr =>
      rcases List.mem_append.mp h with h | h
      · exact .inl (CoilPhase.firstShown_mem h)
      · exact .inr ⟨List.mem_singleton.mp h, hr⟩
    · exact .inl (CoilPhase.firstShown_mem h)

theorem CoilPhase.drive_on : (p.drive want dead now).1.on = p.kept want ∨ (p.drive want dead now).1.on = want := by
  rw [CoilPhase.drive_eq]
  split
  · exact .inl rfl
  · split
    · exact .inr rfl
    · exact .inl rfl

theorem CoilPhase.drive_next {g : List Bool} {t : Nat} (h : (p.drive want dead now).1.next = some (g, t)) :
    g = want ∧ t = p.readyAt want dead now := by
  rw [CoilPhase.drive_eq] at h
  split at h
  · exact absurd h (by simp [CoilPhase.reduced])
  · split at h
    · exact absurd h (by simp [CoilPhase.reduced])
    · obtain ⟨rfl, rfl⟩ := Prod.mk.inj (Option.some.inj h)
      exact ⟨rfl, rfl⟩

end

/-! ### Threshold DACs (R832) -/

theorem dacCode_le (i : Int) (sense : Nat) (c : Int × Int) : dacCode i sense c ≤ 1023 := by
  simp only [dacCode, clampI]
  omega

/-- A quotient rounded to the nearest is off by half a divisor at most. -/
theorem round_off {num den : Int} (hd : 0 < den) : 2 * (num - den * ((2 * num + den) / (2 * den))).natAbs ≤ den.natAbs := by
  have h1 := Int.mul_ediv_add_emod (2 * num + den) (2 * den)
  have h2 := Int.emod_nonneg (2 * num + den) (b := 2 * den) (by omega)
  have h3 := Int.emod_lt_of_pos (2 * num + den) (b := 2 * den) (by omega)
  have h4 : 2 * den * ((2 * num + den) / (2 * den)) = 2 * (den * ((2 * num + den) / (2 * den))) := Int.mul_assoc _ _ _
  omega

theorem dacCode_nearest {i : Int} {sense : Nat} {c : Int × Int} (hc : 0 < c.1) (h0 : 0 < dacCode i sense c)
    (h1 : dacCode i sense c < 1023) :
    2 * ((i * sense - 1000 * c.2) * 65536 - 1000 * c.1 * dacCode i sense c).natAbs ≤ (1000 * c.1).natAbs := by
  have hq : ((dacCode i sense c : Nat) : Int) =
      (2 * ((i * sense - 1000 * c.2) * 65536) + 1000 * c.1) / (2 * (1000 * c.1)) := by
    simp only [dacCode, clampI] at h0 h1 ⊢
    omega
  rw [hq]
  exact round_off (by omega)

end Sys2Proof.Machine

open Sys2Proof Sys2Proof.Machine

/-- Settles O58: each event by the state of the axis; the gates by what a drive shows, leaves on and waits for. -/
theorem axisEvents : Obligations.AxisEvents := by
  refine ⟨fun s t a h => ⟨State.does_eq _ _ _ _ (State.rampTick_still (s := s.at t) h), fun hc => ?_⟩,
    fun s t a hm hd hp hs => State.does_eq _ _ _ _ (State.rampTick_moves (s := s.at t) hm hd hp hs),
    fun s t a h5 => ⟨fun hp => State.does_eq _ _ _ _ (State.homeFound_search (s := s.at t) h5 hp),
      fun hp => State.does_eq _ _ _ _ (State.homeEdge_slow (s := s.at t) h5 hp)⟩,
    fun s t a h => ⟨State.does_eq _ _ _ _ (State.homeFound_otherwise (s := s.at t) h),
      State.does_eq _ _ _ _ (State.homeEdge_otherwise (s := s.at t) h)⟩,
    fun s t a h0 h6 hs => State.does_eq _ _ _ _ (State.overcurrent_alone (s := s.at t) h0 h6 hs),
    fun s t a ⟨h0, h1⟩ => State.does_eq _ _ _ _ (State.saturated_none h0 h1),
    fun s t a h0 h1 => State.does_eq _ _ _ _ (State.saturated_first h0 h1),
    fun s t a t0 he h1 hd => State.does_eq _ _ _ _ (State.holdDelay_due (s := s.at t) he h1 hd),
    fun s t a t0 he h3 hd hs => ?_, fun p want dead now hp hw hd ha haw => ?_, by decide,
    fun i sense c hc => ⟨dacCode_le i sense c, dacCode_nearest hc⟩⟩
  · exact State.does_eq _ _ _ _
      ((State.rampTick_still (s := s.at t) h).trans (State.chopAxis_unregulated (s := s.at t) hc))
  · have hr := State.reverseDwell_due (s := s.at t) he h3 hd hs
    exact ⟨fun h => State.does_eq _ _ _ _ (hr.trans (if_pos h)), fun h => State.does_eq _ _ _ _ (hr.trans (if_neg h))⟩
  · have hl : p.on.length = want.length := hp.trans hw.symm
    have hk : apart (p.kept want) = true := apart_mono (fun _ => CoilPhase.kept_on hl) ha
    refine ⟨?_, fun e he => ?_, fun g t h => ?_, fun e he k hk4 hek hok => ?_⟩
    · rcases CoilPhase.drive_on (p := p) (want := want) (dead := dead) (now := now) with h | h <;> rw [h] <;> assumption
    · rcases CoilPhase.drive_shows he with rfl | ⟨rfl, -⟩ <;> assumption
    · obtain ⟨rfl, rfl⟩ := CoilPhase.drive_next h
      exact ⟨rfl, fun k hk4 hwk hok => CoilPhase.readyAt_partner haw hk4 hwk hok⟩
    · rcases CoilPhase.drive_shows he with rfl | ⟨rfl, hr⟩
      · exact absurd (CoilPhase.kept_on hl hek) (Bool.eq_false_iff.mp hok)
      · have hle := Nat.le_trans (CoilPhase.readyAt_partner (p := p) (dead := dead) (now := now) haw hk4 hek hok) hr
        cases hpo : p.on.getD (partnerGate k) false with
        | false => exact ⟨rfl, by simpa only [hpo, Bool.false_eq_true, ↓reduceIte] using hle⟩
        | true =>
          rw [hpo, if_pos rfl] at hle
          omega

end

section
/-! PROOF. The takeover (R788, R789, R796): what stands once the part has the heads. Everything on the way but the steps that say so
leaves the pairing as it was. -/

namespace Sys2Proof.Machine

/-- The Graft state, OWNER, the yield output, NUMBER, and the position from which the new holder fires. -/
def State.pairing (s : State) : Nat × Bool × Bool × Nat × Nat :=
  (s.graft.state, s.graft.owner, s.graft.holding, s.graft.number, s.fire.resume)

theorem State.foldl_pairing {α : Type} {f : State → α → State} (h : ∀ (s : State) (a : α), (f s a).pairing = s.pairing)
    (l : List α) (s : State) : (l.foldl f s).pairing = s.pairing := by
  induction l generalizing s with
  | nil => rfl
  | cons a l ih => exact (ih (f s a)).trans (h s a)

theorem State.event_pairing (s : State) (b code data : Nat) : (s.event b code data).pairing = s.pairing := by
  rw [(State.event_from s b code data).1]
  rfl

/-! ### OWNER and the yield output (R767, R788, R791) -/

theorem State.cmpSettle_pairing (s : State) (k : Nat) : (s.cmpSettle k).pairing = s.pairing := by
  rw [State.cmpSettle]
  generalize (if s.cmpDriven k then some (s.cmpLevel k) else none) = want
  cases want with
  | none =>
    dsimp only
    split <;> rfl
  | some l =>
    dsimp only
    split <;> rfl

theorem State.encoSettle_pairing (s : State) : s.encoSettle.pairing = s.pairing := by
  rw [State.encoSettle]
  split <;> rfl

theorem State.driveFollowed_pairing (s : State) : s.driveFollowed.pairing = s.pairing :=
  (State.encoSettle_pairing _).trans (State.foldl_pairing State.cmpSettle_pairing _ _)

theorem State.updHead_pairing (s : State) (seg : Nat) (f : Head → Head) : (s.updHead seg f).pairing = s.pairing := rfl

theorem State.setOwner_pairing (s : State) (on : Bool) :
    (s.setOwner on).pairing = (s.graft.state, on, s.graft.holding, s.graft.number, s.fire.resume) := by
  rw [State.setOwner]
  split
  · next h => rw [State.pairing, h]
  · refine (State.driveFollowed_pairing _).trans ?_
    rw [State.foldl_pairing fun _ _ => State.updHead_pairing _ _ _]
    rfl

theorem State.setHolding_pairing (s : State) (on : Bool) :
    (s.setHolding on).pairing = (s.graft.state, s.graft.owner, on, s.graft.number, s.fire.resume) := by
  rw [State.setHolding]
  split
  · next h => rw [State.pairing, h]
  · rfl

/-- ACTIVE, with the yield output at its holding level and OWNER asserted. -/
def State.holdsHeads (s : State) : State := ((s.graftState 1).setHolding true).setOwner true

theorem State.holdsHeads_pairing (s : State) : s.holdsHeads.pairing = (1, true, true, s.graft.number, s.fire.resume) := by
  have h := State.setHolding_pairing (s.graftState 1) true
  simp only [State.pairing, Prod.mk.injEq] at h
  obtain ⟨hs, -, hh, hn, hr⟩ := h
  rw [State.holdsHeads, State.setOwner_pairing, hs, hh, hn, hr]
  rfl

/-! ### Missed lines (R789) -/

theorem State.updPage_pairing (s : State) (job page : Nat) (f : Page → Page) : (s.updPage job page f).pairing = s.pairing := by
  rw [State.updPage]
  split <;> rfl

theorem State.spoilOwners_pairing (s : State) (owners : List Owner) (c : SpoilCause) (key : Nat) :
    (s.spoilOwners owners c key).pairing = s.pairing :=
  State.foldl_pairing (fun _ _ => State.updPage_pairing _ _ _ _) _ _

theorem State.updRow_pairing (s : State) (seg row : Nat) (f : RowState → RowState) : (s.updRow seg row f).pairing = s.pairing := rfl

theorem State.missLines_pairing (s : State) (w : Nat) : (s.missLines w).pairing = s.pairing := by
  rw [State.missLines]
  refine State.foldl_pairing (fun s e => ?_) _ _
  exact (State.updRow_pairing _ _ _ _).trans (State.foldl_pairing (fun _ _ => State.spoilOwners_pairing _ _ _ _) _ _)

/-! ### The record on the mirror bond (R796) -/

theorem State.mirrorOut_pairing (s : State) (p : MirrorPacket) : (s.mirrorOut p).pairing = s.pairing := by
  rw [State.mirrorOut]
  dsimp only
  split <;> split <;> rfl

theorem State.mirrorSpend_pairing (s : State) (p : MirrorPacket) : (s.mirrorSpend p).pairing = s.pairing := by
  rw [State.mirrorSpend]
  split <;> rfl

theorem State.mirrorPump_pairing (fuel : Nat) : ∀ s : State, (s.mirrorPump fuel).pairing = s.pairing := by
  induction fuel with
  | zero => exact fun _ => rfl
  | succ fuel ih =>
    intro s
    rw [State.mirrorPump]
    split
    · split
      · exact (ih _).trans (State.mirrorSpend_pairing _ _)
      · rfl
    · split
      · exact (ih _).trans ((State.mirrorOut_pairing _ _).trans (State.mirrorSpend_pairing _ _))
      · rfl
    · rfl

theorem State.graftSend_pairing (s : State) (ty : Nat) (payload : List Byte) : (s.graftSend ty payload).pairing = s.pairing :=
  State.mirrorPump_pairing _ _

theorem State.storeRecord_pairing (s : State) (bs : List Byte) : (s.storeRecord bs).pairing = s.pairing :=
  State.graftSend_pairing _ _ _

theorem State.takeover_pairing (s : State) (h : Nat) (planned : Bool) :
    (s.takeover h planned).pairing = (1, true, true, s.graft.number + 1, h + 32) := by
  have hm := (State.missLines_pairing s.holdsHeads (h + 31)).trans s.holdsHeads_pairing
  simp only [State.pairing, Prod.mk.injEq] at hm
  obtain ⟨hs, ho, hh, hn, -⟩ := hm
  rw [State.takeover, State.storeRecord_pairing]
  have key : ∀ u : State, u.pairing = (1, true, true, s.graft.number + 1, h + 32) →
      (if planned then u.inc O.PLANNED_SWAPS else u).pairing = (1, true, true, s.graft.number + 1, h + 32) := fun u hu => by
    split <;> exact hu
  refine key _ ((State.event_pairing _ _ _ _).trans ?_)
  change ((s.holdsHeads.missLines (h + 31)).graft.state, (s.holdsHeads.missLines (h + 31)).graft.owner,
    (s.holdsHeads.missLines (h + 31)).graft.holding, (s.holdsHeads.missLines (h + 31)).graft.number + 1, h + 32) = _
  rw [hs, ho, hh, hn]

/-! ### The pins of a pair (R769, R770, R774, R793) -/

section

variable {s : State}

theorem State.heartbeatToggle_awake (h : s.awake = true) :
    s.heartbeatToggle = ({ s with graft := { s.graft with heartbeat := !s.graft.heartbeat, beat := s.now } } : State).emit
      (.pin "GRAFT_HB" (!s.graft.heartbeat)) := if_pos h

/-- The yield input stands at y. -/
def State.yieldPin (s : State) (y : Bool) : State := { s with graft := { s.graft with yieldIn := y } }

section

variable (hr : s.graftRuns = true)

include hr

theorem State.yieldInChange_takes (hw : s.graft.yieldIn = false) (h3 : s.graft.state = 3) :
    s.yieldInChange true = (s.yieldPin true).takeover (s.yieldPin true).hwmLine false := by
  simp only [State.yieldInChange, hr, hw, Bool.not_true, Bool.false_eq_true, ↓reduceIte]
  split
  · next h => exact absurd (h3.symm.trans h) (by decide)
  · rfl
  · next _ h => exact absurd h3 h

theorem State.yieldInChange_notReady (hw : s.graft.yieldIn = false) (h2 : s.graft.state = 2) :
    s.yieldInChange true = (s.yieldPin true).notReady := by
  simp only [State.yieldInChange, hr, hw, Bool.not_true, Bool.false_eq_true, ↓reduceIte]
  split
  · rfl
  · next h => exact absurd (h2.symm.trans h) (by decide)
  · next h _ => exact absurd h2 h

theorem State.yieldInChange_noted (h : s.graft.yieldIn = true ∨ (s.graft.state ≠ 2 ∧ s.graft.state ≠ 3)) :
    s.yieldInChange true = s.yieldPin true := by
  rcases h with h | ⟨h2, h3⟩
  · simp only [State.yieldInChange, hr, h, Bool.not_true, Bool.false_eq_true, ↓reduceIte]
    rfl
  · simp only [State.yieldInChange, hr, Bool.not_true, Bool.false_eq_true, ↓reduceIte]
    split <;> rfl

theorem State.yieldInChange_released (h : s.graft.state ≠ 1) : s.yieldInChange false = s.yieldPin false := by
  simp [State.yieldInChange, hr, h, State.yieldPin]

theorem State.yieldInChange_conflict (h1 : s.graft.state = 1) (ho : s.graft.owner = true) (hp : s.graft.planned = false) :
    s.yieldInChange false = (s.yieldPin false).conflict := by
  simp [State.yieldInChange, hr, h1, ho, hp, State.swapping, State.yieldPin]

end

section

variable {role : Nat} (h4 : role < 4)

include h4

theorem State.roleChange_early (hr : s.graftRuns = false) :
    s.roleChange role = { s with graft := { s.graft with pins := role } } := by
  simp only [State.roleChange, Nat.not_le.mpr h4, hr, Bool.not_false, ↓reduceIte]

theorem State.roleChange_takes (hr : s.graftRuns = true)
    (h : ((role = 0) = (s.graft.pins = 0)) ∨ (s.power.state = 1 ∧ s.power.target = 0xff)) : s.roleChange role = s.takeRole role := by
  rcases h with h | ⟨h1, ht⟩
  · simp [State.roleChange, Nat.not_le.mpr h4, hr, h]
  · simp [State.roleChange, Nat.not_le.mpr h4, hr, h1, ht]

theorem State.roleChange_waits (hr : s.graftRuns = true) (h : (role = 0) ≠ (s.graft.pins = 0)) (hp : s.power.state ≠ 1) :
    s.roleChange role = ({ s with graft := { s.graft with waiting := some role } } : State).event 0x3f 5 0 := by
  have hb : (decide (role = 0) != decide (s.graft.pins = 0)) = true := by simpa using h
  simp [State.roleChange, Nat.not_le.mpr h4, hr, hb, hp]

end

/-! ### Forming a pair (R778, R779) -/

/-- The partner that HELLO names is known, and its quote answered. -/
def State.helloHeard (s : State) (m : HelloMsg) : State :=
  (({ s with graft := { s.graft with partner := some ⟨m.nonce, m.serial, m.capacity, m.role⟩ } } : State).wr O.PARTNER_SERIAL
    m.serial).graftSend 0x21 (s.quote m.nonce)

section

variable (hm : s.mirrorHears = true)

include hm

theorem State.takeHello_forming (m : HelloMsg) (hf : s.graft.forming ≠ none) : s.takeHello m = (s.mirrorGot 56).helloHeard m := by
  have hn : s.graft.forming.isNone = false := Option.isNone_eq_false_iff.mpr (Option.isSome_iff_ne_none.mpr hf)
  simp only [State.takeHello, hm, hn, Bool.not_true, Bool.false_eq_true, ↓reduceIte]
  rfl

theorem State.takeHello_begins (m : HelloMsg) (hf : s.graft.forming = none) :
    s.takeHello m = ((s.mirrorGot 56).startForming).helloHeard m := by
  simp only [State.takeHello, hm, hf, Option.isNone_none, Bool.not_true, Bool.false_eq_true, ↓reduceIte]
  rfl

section

variable {q : QuoteMsg} {t0 : Nat} {p : Partner} (hf : s.graft.forming = some t0) (hp : s.graft.partner = some p)

include hf hp

theorem State.takeQuote_refused (h : s.quoteFails p q ≠ 0) :
    s.takeQuote q = { s.mirrorGot 664 with graft := { s.graft with failed := s.quoteFails p q, accepted := false } } := by
  have hq : (s.mirrorGot 664).quoteFails p q = s.quoteFails p q := rfl
  have hb : (s.quoteFails p q == 0) = false := by simpa using h
  have hg : (s.mirrorGot 664).graft = s.graft := rfl
  simp only [State.takeQuote, hm, hg, hf, hp, hq, hb, h, decide_false, Bool.not_true, Bool.false_and, Bool.false_eq_true, ↓reduceIte]

theorem State.takeQuote_forms (h : s.quoteFails p q = 0) (ha : q.partnerAccepts = true) (hd : s.now ≤ t0 + 50 * ms) :
    s.takeQuote q =
      ({ s.mirrorGot 664 with graft := { s.graft with failed := 0, accepted := true } } : State).pairFormed := by
  have hq : (s.mirrorGot 664).quoteFails p q = 0 := h
  have hg : (s.mirrorGot 664).graft = s.graft := rfl
  simp only [State.takeQuote, hm, hg, hf, hp, hq, ha, hd, decide_true, beq_self_eq_true, Bool.not_true, Bool.and_self,
    Bool.false_eq_true, ↓reduceIte]

end

end

theorem State.formRefused_due {t0 : Nat} (hf : s.graft.forming = some t0) (hd : t0 + 50 * ms ≤ s.now) :
    s.formRefused =
      ({ s.dropWaiting with graft := { s.graft with paired := false, forming := none, retryAt := some (s.now + 10 * sec) } } :
        State).event 0x3f 1 s.graft.failed := by
  simp only [State.formRefused, hf, State.due_of hd, ↓reduceIte]

/-! ### What the partner sends (R781 to R786, R796) -/

section

variable (hm : s.mirrorHears = true)

include hm

theorem State.takeState_applies {idx sub : Nat} {data : List Byte} {r : ObjRow} (hc : s.control = false) (hs : sub < 256)
    (hr : Dict.row? idx sub = some r) (hi : isMirrored (256 * idx + sub) = true) (hl : r.ty ≠ .dom → data.length = r.ty.size) :
    s.takeState idx sub r.ty.code data =
      ((s.mirrorGot (8 + data.length)).applyForwarded (256 * idx + sub) r data).mirrorAnswer 0x14 0 0 (ackBody none none 1 false) := by
  have hc' : (s.mirrorGot (8 + data.length)).control = false := hc
  have hb : (r.ty != Ty.dom && data.length != r.ty.size) = false := by
    by_cases h : r.ty = .dom
    · simp [h]
    · simp [hl h]
  simp [State.takeState, hm, hr, hc', hi, hb, Nat.not_le.mpr hs]

theorem State.syncMark_syncing (pos : Nat) (h2 : s.graft.state = 2) :
    s.syncMark pos = { s.mirrorGot 8 with graft := { s.graft with
      syncPos := some (pos / 65536), mismatch := false, seeded := false, differing := 0 } } := by
  simp [State.syncMark, hm, h2, State.mirrorGot]

theorem State.graftReport_taken {r : List Byte} (hl : r.length = 48) :
    s.graftReport r =
      let v := (s.mirrorGot 48).domPatch 0x3620 (48 * (u32At r 0 % 64)) r
      { v with graft := { v.graft with number := max v.graft.number (u32At r 0) } } := by
  simp only [State.graftReport, hm, hl, bne_self_eq_false, Bool.not_true, Bool.or_self, Bool.false_eq_true, ↓reduceIte]

/-- A POSITION record was taken. -/
def State.positionGot (s : State) : State := { s.mirrorGot 32 with graft := { s.graft with heard := s.now } }

theorem State.positionRecord_paired (hp : s.graft.paired = true) (count : Int) (pos hw : Nat) {p : Nat}
    (hs : s.graft.syncPos = some p) :
    s.positionRecord count pos hw =
      (if s.graft.state = 2 && !s.graft.seeded then s.positionGot.reseed count pos hw p
        else s.positionGot.compareRecord count pos hw).checkReady := by
  rw [State.positionRecord, if_neg (by simp [hm, hp])]
  dsimp only
  split
  · next p' h =>
    obtain rfl : p' = p := Option.some.inj (h.symm.trans hs)
    rfl
  · next h => exact absurd (h.symm.trans hs) (by simp)

theorem State.positionRecord_unsynced (hp : s.graft.paired = true) (count : Int) (pos hw : Nat) (hs : s.graft.syncPos = none) :
    s.positionRecord count pos hw = s.positionGot.compareRecord count pos hw := by
  rw [State.positionRecord, if_neg (by simp [hm, hp])]
  dsimp only
  split
  · next h => exact absurd (h.symm.trans hs) (by simp)
  · rfl

end

/-- A record that differs moves no SYNC_MARK. -/
theorem State.compareRecord_syncPos (u : State) (count : Int) (pos hw : Nat) :
    (u.compareRecord count pos hw).graft.syncPos = u.graft.syncPos := by
  have he : ∀ v : State, ((v.event 0x3f 3 0).inc O.XCHECK_ERRORS).graft.syncPos = v.graft.syncPos := fun v => by
    rw [State.inc_graft, (State.event_from _ _ _ _).1]
  rw [State.compareRecord]
  split
  · rfl
  · split
    · rfl
    · split
      · rfl
      · dsimp only
        split
        · exact he _
        · exact he _

/-- Without a SYNC_MARK the part is not READY by its position. -/
theorem State.checkReady_unsynced {u : State} (h : u.graft.syncPos = none) : u.checkReady = u := by
  have hr : u.syncReached = false := by simp only [State.syncReached, h]
  exact if_neg (by simp [hr])

theorem State.positionRecord_compares (hm : s.mirrorHears = true) (hp : s.graft.paired = true) (count : Int) (pos hw : Nat)
    (h : s.graft.syncPos = none ∨ s.graft.state ≠ 2 ∨ s.graft.seeded = true) :
    s.positionRecord count pos hw = (s.positionGot.compareRecord count pos hw).checkReady := by
  cases hs : s.graft.syncPos with
  | none =>
    rw [State.positionRecord_unsynced hm hp count pos hw hs, State.checkReady_unsynced]
    exact (State.compareRecord_syncPos _ _ _ _).trans hs
  | some p =>
    rw [State.positionRecord_paired hm hp count pos hw hs, if_neg]
    rcases h with h | h | h
    · exact absurd (hs.symm.trans h) (by simp)
    · simp [h]
    · simp [h]

theorem State.positionSend_paired (hl : s.mirror.link = 2) (hp : s.graft.paired = true) :
    s.positionSend =
      ({ s with graft := { s.graft with seq := (s.graft.seq + 1) % 2 ^ 32, sentAt := s.now } } : State).graftSend 0x23
        (natLE 8 (ofInt 64 s.sourceCount) ++ natLE 8 (to4816 s.web.pos) ++ natLE 8 (to4816 s.web.hwm) ++ natLE 4 s.graft.seq ++
          natLE 4 0) := if_neg (by simp [hl, hp])

theorem State.mirrorHold_due (h3 : s.graft.state = 3) (hd : s.graft.heard + s.rd O.MIRROR_HOLD * ms ≤ s.now) :
    s.mirrorHold = ({ s with graft := { s.graft with state := 2 } } : State).event 0x3f 4 0 :=
  if_pos (by simp [h3, State.due_of hd])

end

end Sys2Proof.Machine

open Sys2Proof Sys2Proof.Machine

/-- Settles O56: each pin, packet and timer of the pair by the state of the part; the takeover by what stands at its end. -/
theorem graftEvents : Obligations.GraftEvents := by
  refine ⟨fun s t ha => State.does_eq _ _ _ _ (State.heartbeatToggle_awake (s := s.at t) ha),
    fun s t hr => ⟨fun hw h3 => State.does_eq _ _ _ _ (State.yieldInChange_takes (s := s.at t) hr hw h3),
      fun hw h2 => State.does_eq _ _ _ _ (State.yieldInChange_notReady (s := s.at t) hr hw h2),
      fun h => State.does_eq _ _ _ _ (State.yieldInChange_noted (s := s.at t) hr h),
      fun h => State.does_eq _ _ _ _ (State.yieldInChange_released (s := s.at t) hr h),
      fun h1 ho hp => State.does_eq _ _ _ _ (State.yieldInChange_conflict (s := s.at t) hr h1 ho hp)⟩,
    fun s h p => ?_,
    fun s t role h4 => ⟨fun hr => State.does_eq _ _ _ _ (State.roleChange_early (s := s.at t) h4 hr),
      fun hr h => State.does_eq _ _ _ _ (State.roleChange_takes (s := s.at t) h4 hr h),
      fun hr h hp => State.does_eq _ _ _ _ (State.roleChange_waits (s := s.at t) h4 hr h hp)⟩,
    fun s t hm => ⟨fun m => ⟨fun hf => State.does_eq _ _ _ _ (State.takeHello_forming (s := s.at t) hm m hf),
        fun hf => State.does_eq _ _ _ _ (State.takeHello_begins (s := s.at t) hm m hf)⟩,
      fun q t0 p hf hp => ⟨fun h => State.does_eq _ _ _ _ (State.takeQuote_refused (s := s.at t) hm hf hp h),
        fun h ha hd => State.does_eq _ _ _ _ (State.takeQuote_forms (s := s.at t) hm hf hp h ha hd)⟩,
      fun idx sub data r hc hs hr hi hl => State.does_eq _ _ _ _ (State.takeState_applies (s := s.at t) hm hc hs hr hi hl),
      fun pos h2 => State.does_eq _ _ _ _ (State.syncMark_syncing (s := s.at t) hm pos h2),
      fun r hl => State.does_eq _ _ _ _ (State.graftReport_taken (s := s.at t) hm hl),
      fun count pos hw n hp => ⟨fun h => ?_, fun p hs h2 hn => ?_⟩⟩,
    fun s t t0 hf hd => State.does_eq _ _ _ _ (State.formRefused_due (s := s.at t) hf hd),
    fun s t hl hp => State.does_eq _ _ _ _ (State.positionSend_paired (s := s.at t) hl hp),
    fun s t h3 hd => State.does_eq _ _ _ _ (State.mirrorHold_due (s := s.at t) h3 hd)⟩
  · have hk := s.takeover_pairing h p
    simp only [State.pairing, Prod.mk.injEq] at hk
    obtain ⟨hs, ho, hh, hn, hr⟩ := hk
    exact ⟨hs, ho, hh, hr, hn⟩
  · exact State.does_eq _ _ _ _ (State.positionRecord_compares (s := s.at t) hm hp count pos hw h)
  · exact State.does_eq _ _ _ _
      ((State.positionRecord_paired (s := s.at t) hm hp count pos hw hs).trans (by rw [if_pos (by simp [h2, hn])]; rfl))

end

section
/-! PROOF. What latching, composing and assembling leave of the power state (R177): an entry to RUN is not undone by what it starts. -/

namespace Sys2Proof.Machine

@[simp] abbrev State.SamePower (s u : State) : Prop := u.power = s.power

@[simp] theorem State.foldl_samePower {α : Type} {f : State → α → State}
    (h : ∀ (s : State) (a : α), s.SamePower (f s a)) (l : List α) (s : State) : s.SamePower (l.foldl f s) := by
  induction l generalizing s with
  | nil => rfl
  | cons a l ih => exact (ih (f s a)).trans (h s a)

theorem power_ite (p : Prop) [Decidable p] (s u : State) : (if p then s else u).power = if p then s.power else u.power := by
  split <;> rfl

/-! ### Delay lines and fire lines -/

@[simp] theorem State.swapWidths_samePower (s : State) (seg row w : Nat) : s.SamePower (s.swapWidths seg row w) := by
  unfold State.swapWidths
  split
  · split <;> simp
  · simp

@[simp] theorem State.moveRow_samePower (s : State) (seg row h : Nat) : s.SamePower (s.moveRow seg row h) := by
  simp [State.moveRow]

@[simp] theorem State.comesLate_samePower (s : State) (l : Nat) : s.SamePower (s.comesLate l).2 := by
  unfold State.comesLate
  split <;> simp [State.draw]

@[simp] theorem State.assembleRow_samePower (s : State) (seg row w : Nat) : s.SamePower (s.assembleRow seg row w) := by
  simp [State.assembleRow, State.sendPwTable, State.sendLine, power_ite]

@[simp] theorem State.assembleTo_samePower (w fuel : Nat) : ∀ s : State, s.SamePower (s.assembleTo w fuel) := by
  induction fuel with
  | zero => exact fun _ => rfl
  | succ fuel ih =>
    intro s
    unfold State.assembleTo
    split <;> simp [ih]

/-! ### The job sets -/

@[simp] theorem State.enterSet_samePower (s : State) (st : SetState) : s.SamePower (s.enterSet st) := by
  unfold State.enterSet
  split <;> simp [State.jobNotice]

@[simp] theorem State.latch_samePower (s : State) : s.SamePower s.latch := by
  unfold State.latch
  split <;> simp

@[simp] theorem State.latchAt_samePower (s : State) (w : Nat) : s.SamePower (s.latchAt w) := by
  unfold State.latchAt
  split
  · split <;> simp [State.latchDescriptors, State.sendDescriptor, State.camLatch]
  · simp

/-! ### Host writes and loop updates of maps and alignment -/

@[simp] theorem State.forwardBytes_samePower (s : State) (key : Nat) (data : List Byte) :
    s.SamePower (s.forwardBytes key data) := by
  unfold State.forwardBytes
  split
  · split <;> simp
  · simp

@[simp] theorem State.forwardAll_samePower (s : State) (keys : List Nat) : s.SamePower (s.forwardAll keys) := by
  simp [State.forwardAll, State.forward]

@[simp] theorem State.touched_samePower (s : State) (what : Nat) : s.SamePower (s.touched what) := by
  unfold State.touched
  split
  · split <;> simp
  · simp

@[simp] theorem State.writeEntry_samePower (s : State) (seg row n e : Nat) : s.SamePower (s.writeEntry seg row n e) := by
  simp [State.writeEntry, State.setEntry, State.domPatch, State.closeSuspect, State.nozzleChanged]

@[simp] theorem State.writeXShift_samePower (s : State) (v : Nat) : s.SamePower (s.writeXShift v) := by
  simp [State.writeXShift, State.logItems, State.nozzleChanged]

@[simp] theorem State.supersede_samePower (s : State) (seg row : Nat) : s.SamePower (s.supersede seg row) := by
  unfold State.supersede
  split
  · simp
  · dsimp only
    split <;> simp

@[simp] theorem State.writeRowPos_samePower (s : State) (v : Nat) : s.SamePower (s.writeRowPos v) := by
  simp [State.writeRowPos, State.logItems, power_ite]

@[simp] theorem State.showSuspects_samePower (s : State) : s.SamePower s.showSuspects := by
  unfold State.showSuspects
  dsimp only
  split <;> simp [State.domReplace]

@[simp] theorem State.clampGain_samePower (s : State) (g : Int) : s.SamePower (s.clampGain g).2 := by
  unfold State.clampGain
  dsimp only
  split <;> simp

@[simp] theorem State.openRecovery_samePower (s : State) (seg row n : Nat) : s.SamePower (s.openRecovery seg row n) := by
  unfold State.openRecovery
  split <;> simp [State.openSuspect]

@[simp] theorem State.applyState_samePower (s : State) (seg row n st : Nat) : s.SamePower (s.applyState seg row n st) := by
  unfold State.applyState
  dsimp only
  split
  · simp
  · split <;> simp [State.applied]

@[simp] theorem State.applyGain_samePower (s : State) (seg row n : Nat) (up : Bool) :
    s.SamePower (s.applyGain seg row n up) := by
  unfold State.applyGain
  dsimp only
  split
  · simp
  · split <;> simp [State.applied]

theorem State.densityTurn_samePower (changed : List (Nat × Nat × Nat)) (seg row : Nat) (step : Int) (s : State) (n : Nat) :
    s.SamePower (State.densityTurn changed seg row step s n) := by
  unfold State.densityTurn
  dsimp only
  split
  · rfl
  · exact (State.writeEntry_samePower _ _ _ _ _).trans (s.clampGain_samePower _)

theorem State.densityBooks_samePower (s : State) (i key : Nat) (d : Dom) (f : LoopRow → LoopRow) :
    s.SamePower (((s.setDom i d).applied).updLoopRow key f) := rfl

@[simp] theorem State.applyDensity_samePower (s : State) (changed : List (Nat × Nat × Nat)) (seg row : Nat) (rho : Int) :
    s.SamePower (s.applyDensity changed seg row rho) := by
  obtain ⟨d, f, h⟩ := s.applyDensity_eq changed seg row rho
  rw [h]
  exact (State.densityBooks_samePower _ _ _ d f).trans
    (State.foldl_samePower (State.densityTurn_samePower changed seg row _) _ s)

@[simp] theorem State.applyRegister_samePower (s : State) (seg row : Nat) (along dots : Int) :
    s.SamePower (s.applyRegister seg row along dots) := by
  simp [State.applyRegister, State.updLoopRow, State.applied, State.refusedUpdate, power_ite]

@[simp] theorem State.applyUpdate_samePower (s : State) (changed : List (Nat × Nat × Nat)) (u : LoopUpdate) :
    s.SamePower (s.applyUpdate changed u) := by
  cases u <;> simp [State.applyUpdate]

@[simp] theorem State.loopUpdates_samePower (s : State) : s.SamePower s.loopUpdates := by
  unfold State.loopUpdates
  dsimp only
  split
  · simp
  · split <;> simp [State.autoStore]

/-! ### Composition -/

@[simp] theorem State.refStore_samePower (s : State) (w job page : Nat) (contone : List (Nat × Nat)) :
    s.SamePower (s.refStore w job page contone) := by
  unfold State.refStore
  dsimp only
  split <;> simp

@[simp] theorem State.beginPage_samePower (s : State) (set : JobSet) (pg : Page) : s.SamePower (s.beginPage set pg) := by
  unfold State.beginPage
  dsimp only
  split <;> simp [State.ingestLate, power_ite]

@[simp] theorem State.composePageLine_samePower (s : State) (set : JobSet) (pg : Page) (w l : Nat) :
    s.SamePower (s.composePageLine set pg w l) := by
  simp [State.composePageLine, State.add]

@[simp] theorem State.composeLine_samePower (s : State) (w : Nat) : s.SamePower (s.composeLine w) := by
  unfold State.composeLine
  dsimp only
  split
  · split <;> simp
  · simp

@[simp] theorem State.composeTo_samePower (w fuel : Nat) : ∀ s : State, s.SamePower (s.composeTo w fuel) := by
  induction fuel with
  | zero => exact fun _ => rfl
  | succ fuel ih =>
    intro s
    unfold State.composeTo
    split <;> simp [ih]

end Sys2Proof.Machine
end
section
/-! PROOF. Power requests (R171 to R188, R913): what each request answers, the entry to RUN, and what takes it back. -/

namespace Sys2Proof.Machine

/-! ### The requests (R171 to R179, R187) -/

/-- The row of REQUEST. -/
def powerRequestRow : ObjRow := ⟨0x1400, 1, 0x02, 1, .u8, .cmd, false, 0, .bt 0 4, .now⟩

theorem row_powerRequest : Dict.row? (O.POWER_REQUEST / 256) (O.POWER_REQUEST % 256) = some powerRequestRow := by decide +kernel

theorem valueOk_powerRequest : ∀ v < 5, valueOk powerRequestRow v = true := by decide

/-- A request v runs in every state in which its block answers OK. -/
theorem writes_powerRequest {c : Hdr → Instr} {t v : Nat} {pre : State → Prop} {op : State → State} (hv : v < 5)
    (hc : ∀ h s, exec (c h) s = s.does t fun u => u.hostWrite h O.POWER_REQUEST [toByte v])
    (ho : ∀ u, pre u → u.powerRequest v = .of Status.ok (op u)) : Writes c t O.POWER_REQUEST [toByte v] pre op := by
  have hle : leNat [toByte v] = v := (leNat_natLE 1 v).trans (Nat.mod_eq_of_lt (by omega))
  refine writes_of c t _ _ powerRequestRow _ _ hc (by decide)
    (findObject_of_row (by decide) (Dict.hasIndex_of_row row_powerRequest) row_powerRequest) rfl rfl rfl (by simp) fun u hu => ?_
  rw [hle]
  exact u.valueWrite_cmd powerRequestRow O.POWER_REQUEST v _ (by decide) (by decide) (valueOk_powerRequest v hv) (by decide)
    (by decide +kernel) (congrArg some (ho u hu))

/-- The transition counts from now. -/
def State.transitionStarts (u : State) : State := { u with power := { u.power with since := u.now } }

section

variable {u : State}

section

variable (hm : u.moving = false)

include hm

theorem State.requestRun_locked (hp : u.power.state ≠ 0) (hj : u.jobs.active.isSome = true) (hs : u.safe.active = false)
    (hl : u.access.level = 2) : u.requestRun = .of Status.locked u := by
  have hn : u.jobs.active.isNone = false := by rw [Option.isNone_eq_false_iff, hj]
  simp only [State.requestRun, hm, hp, hn, hs, hl, Bool.or_self, Bool.false_eq_true, ↓reduceIte]

theorem State.requestRun_refused (hp : u.power.state ≠ 0) (h : u.jobs.active = none ∨ u.safe.active = true) :
    u.requestRun = .of Status.state u := by
  rcases h with h | h <;> simp [State.requestRun, hm, hp, h]

theorem State.requestRun_begins (hp : u.power.state ≠ 0) (hj : u.jobs.active.isSome = true) (hs : u.safe.active = false)
    (hl : u.access.level ≠ 2) :
    u.requestRun =
      .of Status.ok (if u.power.state = 2 then u.transitionStarts.leaveStandby else u.transitionStarts).beginRun := by
  have hn : u.jobs.active.isNone = false := by rw [Option.isNone_eq_false_iff, hj]
  simp only [State.requestRun, hm, hp, hn, hs, hl, Bool.or_self, Bool.false_eq_true, ↓reduceIte]
  rfl

theorem State.requestPause_run (hp : u.power.state = 0) : u.requestPause = .of Status.ok (u.pausePrint 1) := by
  simp only [State.requestPause, hm, hp, Bool.false_eq_true, ↓reduceIte]

theorem State.requestPause_standby (hp : u.power.state = 2) : u.requestPause = .of Status.ok u.transitionStarts.leaveStandby := by
  rw [State.requestPause, if_neg (by simp [hm])]
  dsimp only
  split
  · next h => exact absurd (hp.symm.trans h) (by decide)
  · rfl
  · next h => exact absurd hp h

section

variable (hg : u.graft.state < 2)

include hg

theorem State.requestStandby_pause (hp : u.power.state = 1) : u.requestStandby = .of Status.ok u.transitionStarts.enterStandby := by
  rw [State.requestStandby, if_neg (by simp [hm]), if_neg (Nat.not_le.mpr hg)]
  dsimp only
  split
  · next h => exact absurd (hp.symm.trans h) (by decide)
  · rfl
  · next h => exact absurd hp h

theorem State.requestStandby_run (hp : u.power.state = 0) : u.requestStandby = .of Status.ok (u.pausePrint 2) := by
  simp only [State.requestStandby, hm, hp, Nat.not_le.mpr hg, Bool.false_eq_true, ↓reduceIte]

end

theorem State.requestDown_begins {v : Nat} (hw : u.canWake v = true) (ho : u.openPages = false) (hg : u.graft.state = 0)
    (hb : u.bank.programming = none) (hp : u.power.state ≠ 0) :
    u.requestDown v = .of Status.ok (u.transitionStarts.beginEntry v) := by
  simp only [State.requestDown, hw, hm, ho, hg, hb, hp, Option.isSome_none, bne_self_eq_false, Bool.not_true, Bool.or_self,
    Bool.false_eq_true, ↓reduceIte]
  rfl

end

theorem State.requests_busy (hm : u.moving = true) :
    u.requestRun = .of Status.busy u ∧ u.requestPause = .of Status.busy u ∧ u.requestStandby = .of Status.busy u ∧
      ∀ v, u.canWake v = true → u.requestDown v = .of Status.busy u :=
  ⟨if_pos hm, if_pos hm, if_pos hm, fun v hw => by simp [State.requestDown, hw, hm]⟩

/-! ### The entry to RUN (R177, R913) -/

theorem State.beginRun_enableAt (u : State) :
    u.now ≤ u.beginRun.power.enableAt ∧ u.beginRun.power.enableAt ≤ u.now + 10 * 1000000 := by
  have h : u.beginRun.power.enableAt = u.now + (Config.free u.draw.1).toNat % 10000001 := rfl
  omega

theorem State.enterRun_power (u : State) :
    u.enterRun.power = { u.shiftPages.power with state := 0, target := 0xff, pausing := false } := by
  simp [State.enterRun, State.unflush, State.moveRows]

section

variable (h1 : u.power.state = 1) (h0 : u.power.target = 0)

include h1 h0

theorem State.enteringRun_of : u.enteringRun = true := by simp [State.enteringRun, h1, h0]

theorem State.takeBackRun_entering : u.takeBackRun = { u with power := { u.power with target := 0xff } } :=
  if_pos (State.enteringRun_of h1 h0)

theorem State.checkRun_lost (hj : u.jobs.active = none) : u.checkRun = { u with power := { u.power with target := 0xff } } := by
  have hb : (u.jobs.active.isNone || decide (u.access.level = 2)) = true := by simp [hj]
  rw [State.checkRun, if_neg (by simp [State.enteringRun_of h1 h0]), if_pos hb, State.takeBackRun_entering h1 h0]

theorem State.checkRun_armed (hj : u.jobs.active.isSome = true) (hl : u.access.level ≠ 2) :
    u.checkRun =
      if u.power.enableAt ≤ u.now then u.enterRun.wr O.LAST_TRANSITION ((u.power.enableAt - u.power.since) / 1000000) else u := by
  have hn : u.jobs.active.isNone = false := by rw [Option.isNone_eq_false_iff, hj]
  rw [State.checkRun, if_neg (by simp [State.enteringRun_of h1 h0]), if_neg (by simp [hn, hl])]

theorem State.pausePrint_entering (v : Nat) : u.pausePrint v = { u with power := { u.power with target := 0xff } } := by
  rw [State.pausePrint, if_pos (by simp [h1]), State.takeBackRun_entering h1 h0]

/-- Safe state takes an entry to RUN back. -/
theorem State.enterSafe_entering (hs : u.safe.active = false) (c : Cause) (y : Bool) :
    (u.enterSafe c y).power = { u.power with state := 1, target := 0xff, pausing := false, wakeHeld := none } := by
  obtain ⟨-, hp, -⟩ := State.enterSafe_entered c y hs
  rw [hp]
  exact if_pos (by rw [State.enteringRun_of h1 h0, Bool.or_true])

end

end

/-! ### The end of an orderly pause (R174) -/

/-- What has passed has passed at every later moment. -/
theorem State.linePassed_at {s : State} (t : Nat) {seg row w : Nat} (h : s.linePassed seg row w = true) :
    (s.at t).linePassed seg row w = true := by
  have hn : s.now ≤ (s.at t).now := Nat.le_max_left _ _
  simp only [State.linePassed, Bool.and_eq_true, List.all_eq_true] at h ⊢
  obtain ⟨⟨⟨hr, hl⟩, hp⟩, hu⟩ := h
  refine ⟨⟨⟨hr, hl⟩, hp⟩, fun u hm => ?_⟩
  have hs := hu u hm
  simp only [Bool.or_eq_true, decide_eq_true_eq] at hs ⊢
  exact hs.imp_right fun hd => Nat.le_trans hd hn

theorem State.rowsPassed_at {s : State} (t : Nat) {p : Page} (h : s.rowsPassed p = true) : (s.at t).rowsPassed p = true :=
  List.all_eq_true.mpr fun e he => State.linePassed_at t (List.all_eq_true.mp h e he)

theorem State.pauseDone_at {s : State} (t : Nat) (h : s.pauseDone = true) : (s.at t).pauseDone = true := by
  refine List.all_eq_true.mpr fun j hj => List.all_eq_true.mpr fun p hp => ?_
  have hd := List.all_eq_true.mp (List.all_eq_true.mp h j hj) p hp
  rw [Bool.or_eq_true] at hd ⊢
  exact hd.imp_right (State.rowsPassed_at t)

/-- The end of an orderly pause toward PAUSE. -/
theorem State.orderlyPauseEnd_pause {s : State} (hp : s.power.pausing = true) (hd : s.pauseDone = true) (ht : s.power.target = 1) :
    s.orderlyPauseEnd =
      ({ s with power := { s.power with state := 1, pausing := false, target := 0xff } } : State).powerNow 1 := by
  simp only [State.orderlyPauseEnd, hp, hd, ht, Bool.and_self, ↓reduceIte]
  rfl

end Sys2Proof.Machine

open Sys2Proof Sys2Proof.Machine

/-- Settles O25: each request by the state in which it runs, the entry to RUN by its moment, and what takes it back. -/
theorem powerRequests : Obligations.PowerRequests := by
  refine ⟨fun t => ⟨?_, ?_, ?_, ?_, ?_, ?_, ?_, ?_⟩, fun u hm => State.requests_busy hm, fun u => ?_, fun u h1 h0 => ?_,
    fun u hm hp h => State.requestRun_refused hm hp h, fun u hm hp hj hs hl => State.requestRun_locked hm hp hj hs hl,
    fun s t hp hd ht => State.does_eq _ _ _ _ (State.orderlyPauseEnd_pause (s := s.at t) hp (State.pauseDone_at t hd) ht)⟩
  · refine writes_powerRequest (v := 0) (by decide) (fun _ _ => rfl) fun u ⟨hm, hp, hj, hs, hl⟩ => ?_
    rw [State.powerRequest, State.requestRun_begins hm (by omega) hj hs hl, if_neg (by omega)]
    rfl
  · refine writes_powerRequest (v := 0) (by decide) (fun _ _ => rfl) fun u ⟨hm, hp, hj, hs, hl⟩ => ?_
    rw [State.powerRequest, State.requestRun_begins hm (by omega) hj hs hl, if_pos hp]
    rfl
  · exact writes_powerRequest (v := 1) (by decide) (fun _ _ => rfl) fun u ⟨hm, hp⟩ => State.requestPause_run hm hp
  · exact writes_powerRequest (v := 1) (by decide) (fun _ _ => rfl) fun u ⟨hm, hp⟩ => State.requestPause_standby hm hp
  · exact writes_powerRequest (v := 2) (by decide) (fun _ _ => rfl) fun u ⟨hm, hg, hp⟩ => State.requestStandby_pause hm hg hp
  · exact writes_powerRequest (v := 2) (by decide) (fun _ _ => rfl) fun u ⟨hg, hm, hp⟩ => State.requestStandby_run hm hg hp
  · exact writes_powerRequest (v := 3) (by decide) (fun _ _ => rfl) fun u ⟨hw, ho, hg, hm, hb, hp⟩ =>
      State.requestDown_begins hm hw ho hg hb hp
  · exact writes_powerRequest (v := 4) (by decide) (fun _ _ => rfl) fun u ⟨hw, ho, hg, hm, hb, hp⟩ =>
      State.requestDown_begins hm hw ho hg hb hp
  · obtain ⟨hlo, hhi⟩ := u.beginRun_enableAt
    exact ⟨rfl, hlo, hhi, rfl⟩
  · refine ⟨fun hj hl => ⟨fun hn => ?_, fun hn => ?_⟩, State.checkRun_lost h1 h0, State.pausePrint_entering h1 h0,
      fun hs c y => ?_⟩
    · rw [State.checkRun_armed h1 h0 hj hl, if_pos hn, State.wr_power, State.enterRun_power]
      exact ⟨rfl, rfl⟩
    · rw [State.checkRun_armed h1 h0 hj hl, if_neg (Nat.not_le.mpr hn)]
    · rw [State.enterSafe_entering h1 h0 hs]
      exact ⟨rfl, rfl⟩

end
